-- ==== Sys2Proof/Word.lean ====
section
/-! DEFINITION. The word types of the YK24: bytes of the command protocol and of the banks, the 24-bit words and 56-bit
accumulators of the kernel cores, and the device's masks. -/
namespace Sys2Proof

/-- A byte of a packet, a bank or MRAM (02 R51, 15 R574). -/
abbrev Byte := BitVec 8
/-- A register, data slot or program word of a kernel core (13 R496, R502). -/
abbrev Word24 := BitVec 24
/-- An accumulator AC0 to AC3 of a kernel core (13 R502). -/
abbrev Acc56 := BitVec 56
/-- One bit per clocked island, numbered as PWR_ISLANDS numbers them (01 R12). -/
abbrev IslandMask := BitVec 44
/-- One bit per aperture A0 to A23 (01 R12). -/
abbrev AprMask := BitVec 24

end Sys2Proof
end

