-- ==== Sys2Proof/Syntax.lean ====
section
/-! DEFINITION. The commands of the YK24: one constructor per row of the command table, with the operands that the
rules give each row. Operands that carry what the sky, the antennas, the oscillators or the navigation messages deliver are
observations: every value is allowed. -/
namespace Sys2Proof

/-- The five host ports, in the order of the PORTS bits of OUT_ROUTE (12 R487). -/
inductive HostPort where
  | spi | u0 | u1 | pcie | muslin
deriving DecidableEq, Repr

/-- What the hardware and the outside world contribute to the processing of one command, beside its bytes. Every value is
allowed; none of them is a choice of the model. -/
structure CmdObs where
  /-- The parameter CRC fails at the target block (02 R41, step 10). -/
  paramCrcFail : Bool
  /-- The MRAM write of step 13 does not complete (02 R99). -/
  mramFail : Bool
  /-- Microseconds of test remaining when the command reaches a block under a self-test slice (17 R621). -/
  testLeft : Nat
  /-- The die temperature sensor, 0.1 degree C (17 R646). -/
  dieTemp : BitVec 16
  /-- The wake events that the armed latch sees before the decision of a PWR_STOP: WAKE_N, address match, alarm (16 R602). -/
  wakeSeen : BitVec 3
  /-- Microseconds from the last epoch to the commit of the reply (11 R449, R453). -/
  subUs : Nat
  /-- Microseconds from the last epoch to the receipt of the packet's last byte at the host island (04 R163). -/
  rxUs : Nat
deriving DecidableEq, Repr

/-- A command packet after its opcode (02 R51): the row of the table gives the opcode. -/
structure Packet where
  port : HostPort
  flags : Byte
  seq : BitVec 16
  params : List Byte
  /-- COUNTER, present in the packet when AUTH is 1. -/
  counter : BitVec 64
  /-- TAG, present in the packet when AUTH is 1; bits 7:0 are its first byte. -/
  tag : BitVec 128
  /-- The CRC field as received. -/
  crc : BitVec 32
  obs : CmdObs
deriving DecidableEq, Repr

/-- The two UARTs (12 R469). -/
inductive Uart where
  | u0 | u1
deriving DecidableEq, Repr

/-- What resets the PCIe function (12 R482). -/
inductive PcieResetKind where
  | flr | hotReset | linkDown | d3hot
deriving DecidableEq, Repr

/-- A trained PCIe link: generation 1 to 3 and width 1 or 2 (12 R475, R484). -/
structure PcieLink where
  gen : Fin 3     -- 0 = Gen 1
  wide : Bool     -- true = x2
deriving DecidableEq, Repr

/-- A main rail leaving its range, or the pin (16 R606). -/
inductive Level where
  | low | high
deriving DecidableEq, Repr

/-- What a transfer unit brings (03 R111, 01 R20): the samples of the aperture's ADC since the aperture's last unit, 8-bit two's complement,
no sample of a later millisecond among them; and the bits that flip on P1 and on P2, in a unit of 384 sample bits with its parity bit above them. -/
structure TransferUnit where
  adc : List Byte
  flip1 : Nat
  flip2 : Nat
deriving DecidableEq, Repr

/-- Soft errors of a record (01 R32, R34): the bits of it that change, and how many wrong bits each granule of the stored record has when it is
read. No error: 0 and the empty list. -/
structure Upset where
  flip : Nat
  errs : List Nat
deriving DecidableEq, Repr

/-- A soft error of a tracking accumulator: correlator 0 to 6 in the order of 05 R206, 7 for N, 8 for the eighth position of a lag search;
part 0 to 3 for I_A, Q_A, I_B, Q_B. -/
structure CorrUpset where
  ch : Fin 192
  a : Fin 24
  j : Fin 9
  part : Fin 4
  add : Int
deriving DecidableEq, Repr

/-- A soft error of a Damask accumulator: the noncoherent sum of a cell of the segment of an aperture and bin. -/
structure CellUpset where
  a : Fin 24
  bin : Int
  cell : Nat
  add : Int
deriving DecidableEq, Repr

/-- The conditions of a kernel branch (13 R522). -/
inductive KCond where
  | eq | ne | lt | ge | ltu | geu
deriving DecidableEq, Repr

/-- The count of a LOOP: an immediate, or a D register (13 R521). -/
inductive LoopCount where
  | imm (n : BitVec 16)
  | reg (d : Fin 8)
deriving DecidableEq, Repr

/-- What happens to the measurement engines' own work at a cutoff: the groups whose provisional cannot be committed in time (07 R313); and, one bit
per group and bit 4 for the position engine, soft errors: retained state read poisoned (01 R38) or corrected (01 R34), and an engine value
whose residue fails in stage 5 (01 R32). -/
structure EngineObs where
  late : BitVec 4
  poisoned : BitVec 5
  corrected : BitVec 5
  residue : BitVec 5
deriving DecidableEq, Repr

/-- What befalls Nunar's engine at a whole second (01 R32 to R38): retained state read poisoned or corrected, and an engine value whose residue
fails. -/
structure SecondObs where
  poisoned : Bool
  corrected : Bool
  residue : Bool
deriving DecidableEq, Repr

/-- ADC samples of LRX_A and LRX_B since the link's last row that brought any, on the same sample clock cycles, and where the last of them lies: grid
units after the last epoch (10 R395, R397). -/
structure LinkAdc where
  g : Nat
  a : List (BitVec 8)
  b : List (BitVec 8)
deriving DecidableEq, Repr

/-- The codes that a full calibration finds (10 R401), and the lock detector's last evaluations: RF cycles, and the grid units of 28.41 ps that they
took with the ends of the window interpolated (10 R404). -/
structure SynthCodes where
  band : Fin 64
  cap : Byte
  pa : Fin 32
  evals : List (Nat × Nat)
deriving DecidableEq, Repr

/-- What the device has decoded from navigation messages up to this epoch (16 R613; 04 R158): orbits (satellite, almanac, the GPS millisecond
they refer to, the milliseconds after it for which they are valid, their elements), the UTC parameters (leap seconds, announced change: 0 none, 1
insertion, 2 deletion; the GPS millisecond at which the second after it begins), and the systems' broadcast offsets from GPS time without whole
seconds, in 0.01 ns, in the order of MSG_OFFSETS (08 R328, R329); and the openly broadcast authentication data that came, as received: signal,
satellite and bytes (00 R1). -/
structure NavObs where
  orbits : List (Nat × Bool × Nat × Nat × List Int)
  utc : Option (Byte × Fin 3 × Nat)
  offsets : List (Fin 7 × Int)
  auth : List (Nat × Nat × List Byte)
deriving DecidableEq, Repr

/-- What an epoch brings: the milliseconds that the bypass clock measured before a first epoch (08 R335), CRC failures of the stored calibration
and distribution tables (06 R272, R273), what the navigation messages bring, and soft errors of tracking accumulators. -/
structure EpochObs where
  elapsed : Nat
  tableBad : Bool
  distBad : Bool
  nav : Option NavObs
  upsets : List CorrUpset
deriving DecidableEq, Repr

/-- The commands: one constructor per row of the table. -/
inductive Instr where
  /-- SYS_IDENTIFY (R103). -/
  | sysIdentify (p : Packet)
  /-- SYS_STATUS (R646). -/
  | sysStatus (p : Packet)
  /-- SYS_RESTART (R615). -/
  | sysRestart (p : Packet)
  /-- SYS_ERRLOG_READ (R644). -/
  | sysErrlogRead (p : Packet)
  /-- SYS_ERRLOG_CLEAR (R645). -/
  | sysErrlogClear (p : Packet)
  /-- SYS_PARK (R614). -/
  | sysPark (p : Packet)
  /-- PRF_SELECT (R44). -/
  | prfSelect (p : Packet)
  /-- PRF_CUSTOM (R48). -/
  | prfCustom (p : Packet)
  /-- PRF_QUERY (R49). -/
  | prfQuery (p : Packet)
  /-- PWR_STOP (R602). -/
  | pwrStop (p : Packet)
  /-- PWR_WAKE_CFG (R595). -/
  | pwrWakeCfg (p : Packet)
  /-- PWR_ISLANDS (R30). -/
  | pwrIslands (p : Packet)
  /-- APR_ENABLE (R127). -/
  | aprEnable (p : Packet)
  /-- APR_CONFIG (R130). -/
  | aprConfig (p : Packet)
  /-- APR_NOTCH (R121). -/
  | aprNotch (p : Packet)
  /-- APR_BLANK (R115). -/
  | aprBlank (p : Packet)
  /-- APR_STATUS (R136). -/
  | aprStatus (p : Packet)
  /-- APR_STREAM (R139). -/
  | aprStream (p : Packet)
  /-- ACQ_PLAN (R165). -/
  | acqPlan (p : Packet)
  /-- ACQ_AID (R163). -/
  | acqAid (p : Packet)
  /-- ACQ_START (R182). -/
  | acqStart (p : Packet)
  /-- ACQ_ABORT (R184). -/
  | acqAbort (p : Packet)
  /-- ACQ_RESULTS (R186). -/
  | acqResults (p : Packet)
  /-- TRK_ASSIGN (R234). -/
  | trkAssign (p : Packet)
  /-- TRK_RELEASE (R240). -/
  | trkRelease (p : Packet)
  /-- TRK_LOOPS (R241). -/
  | trkLoops (p : Packet)
  /-- TRK_CORR (R242). -/
  | trkCorr (p : Packet)
  /-- TRK_BURST (R245). -/
  | trkBurst (p : Packet)
  /-- TRK_STATUS (R249). -/
  | trkStatus (p : Packet)
  /-- TRK_ANCHOR (R226). -/
  | trkAnchor (p : Packet)
  /-- CAL_VOILE (R275). -/
  | calVoile (p : Packet)
  /-- CAL_STATUS (R276). -/
  | calStatus (p : Packet)
  /-- CAL_COMMIT (R277). -/
  | calCommit (p : Packet)
  /-- CAL_LOAD (R278). -/
  | calLoad (p : Packet)
  /-- MEAS_RATE (R282). -/
  | measRate (p : Packet)
  /-- TUL_GROUP (R299). -/
  | tulGroup (p : Packet)
  /-- TUL_MODE (R303). -/
  | tulMode (p : Packet)
  /-- TUL_RESET_AMB (R310). -/
  | tulResetAmb (p : Packet)
  /-- MEAS_CORRECTIONS (R297). -/
  | measCorrections (p : Packet)
  /-- NAV_CONFIG (R295). -/
  | navConfig (p : Packet)
  /-- TIM_PULSE (R348). -/
  | timPulse (p : Packet)
  /-- TIM_SCALE (R326). -/
  | timScale (p : Packet)
  /-- TIM_HOLDOVER (R337). -/
  | timHoldover (p : Packet)
  /-- TIM_DELAYS (R346). -/
  | timDelays (p : Packet)
  /-- TIM_EVENT (R359). -/
  | timEvent (p : Packet)
  /-- TIM_STEP_POLICY (R345). -/
  | timStepPolicy (p : Packet)
  /-- TIM_TIMECODE (R354). -/
  | timTimecode (p : Packet)
  /-- CLK_REF (R388). -/
  | clkRef (p : Packet)
  /-- CLK_OUT (R389). -/
  | clkOut (p : Packet)
  /-- CLK_RAMP (R390). -/
  | clkRamp (p : Packet)
  /-- CLK_SYNC (R391). -/
  | clkSync (p : Packet)
  /-- CLK_STATUS (R392). -/
  | clkStatus (p : Packet)
  /-- LNK_CHANNELS (R418). -/
  | lnkChannels (p : Packet)
  /-- LNK_CAL (R419). -/
  | lnkCal (p : Packet)
  /-- LNK_TXPOWER (R420). -/
  | lnkTxpower (p : Packet)
  /-- LNK_DIVERSITY (R421). -/
  | lnkDiversity (p : Packet)
  /-- LNK_STATUS (R422). -/
  | lnkStatus (p : Packet)
  /-- LNK_ROLE (R452). -/
  | lnkRole (p : Packet)
  /-- LNK_SCHEDULE (R453). -/
  | lnkSchedule (p : Packet)
  /-- LNK_SEND (R454). -/
  | lnkSend (p : Packet)
  /-- LNK_NODES (R455). -/
  | lnkNodes (p : Packet)
  /-- LNK_RXCFG (R456). -/
  | lnkRxcfg (p : Packet)
  /-- KRN_LOAD (R551). -/
  | krnLoad (p : Packet)
  /-- KRN_START (R553). -/
  | krnStart (p : Packet)
  /-- KRN_STOP (R554). -/
  | krnStop (p : Packet)
  /-- KRN_STATUS (R567). -/
  | krnStatus (p : Packet)
  /-- KRN_SPARES (R563). -/
  | krnSpares (p : Packet)
  /-- KRN_MAILBOX (R559). -/
  | krnMailbox (p : Packet)
  /-- MEM_OWNER (R587). -/
  | memOwner (p : Packet)
  /-- MEM_SCRUB (R588). -/
  | memScrub (p : Packet)
  /-- MEM_STATUS (R589). -/
  | memStatus (p : Packet)
  /-- BST_SCHEDULE (R625). -/
  | bstSchedule (p : Packet)
  /-- BST_RUN_NOW (R626). -/
  | bstRunNow (p : Packet)
  /-- BST_RESULTS (R627). -/
  | bstResults (p : Packet)
  /-- SEC_KEY_INSTALL (R634). -/
  | secKeyInstall (p : Packet)
  /-- SEC_KEY_RETIRE (R635). -/
  | secKeyRetire (p : Packet)
  /-- SEC_COUNTER_QUERY (R100). -/
  | secCounterQuery (p : Packet)
  /-- SEC_LIFECYCLE (R631). -/
  | secLifecycle (p : Packet)
  /-- SEC_ZEROIZE (R636). -/
  | secZeroize (p : Packet)
  /-- OUT_ROUTE (R487). -/
  | outRoute (p : Packet)
  /-- OUT_FILTER (R489). -/
  | outFilter (p : Packet)
  /-- UNKNOWN_OPCODE (R101). -/
  | unknownOpcode (opcode : BitVec 16) (p : Packet)
  /-- AUTH_LOCK_EXPIRY (R97). -/
  | authLockExpiry (slot : Fin 4)
  /-- PACKET_BYTE_TIMEOUT (R60). -/
  | packetByteTimeout (port : HostPort) (obs : CmdObs)
  /-- UART_BYTE_RECEIVED (R469). -/
  | uartByteReceived (u : Uart) (b : Byte) (stopOk : Bool) (lowPs : Nat) (idle : Bool) (obs : CmdObs)
  /-- UART_BREAK (R470). -/
  | uartBreak (u : Uart) (obs : CmdObs)
  /-- SPI_WRITE (R465). -/
  | spiWrite (bs : List Byte) (idle : Bool) (obs : CmdObs)
  /-- SPI_QUAD_WRITE (R465). -/
  | spiQuadWrite (bs : List Byte) (idle : Bool) (obs : CmdObs)
  /-- SPI_READ (R467). -/
  | spiRead (n : Nat) (obs : CmdObs)
  /-- SPI_QUAD_READ (R467). -/
  | spiQuadRead (n : Nat) (obs : CmdObs)
  /-- SPI_STATUS (R466). -/
  | spiStatus (n : Nat)
  /-- SPI_UNKNOWN_INSTRUCTION (R465). -/
  | spiUnknownInstruction (code : Byte)
  /-- MUSLIN_WRITE (R474). -/
  | muslinWrite (addr : BitVec 7) (bs : List Byte) (idle : Bool) (obs : CmdObs)
  /-- MUSLIN_READ (R474). -/
  | muslinRead (addr : BitVec 7) (n : Nat) (obs : CmdObs)
  /-- MUSLIN_ADDR_APPLY (R595). -/
  | muslinAddrApply
  /-- CMD_EN (R477). -/
  | cmdEn (on : Bool) (obs : CmdObs)
  /-- RING_EN (R477). -/
  | ringEn (rings : BitVec 4) (obs : CmdObs)
  /-- RESET_RINGS (R477). -/
  | resetRings
  /-- CMD_TAIL_WRITE (R478). -/
  | cmdTailWrite (tail : Fin 16) (obs : CmdObs)
  /-- IRQ_STATUS_CLEAR (R477). -/
  | irqStatusClear (bits : BitVec 32)
  /-- FRAMING_READ (R477). -/
  | framingRead
  /-- RING_DROPS_READ (R477). -/
  | ringDropsRead (n : Fin 4)
  /-- OWNER_WRITE (R574). -/
  | ownerWrite (b : Fin 16) (v : BitVec 32)
  /-- REGISTER_WRITE (R477). -/
  | registerWrite (off : BitVec 16) (v : BitVec 32) (obs : CmdObs)
  /-- BAR2_READ (R481). -/
  | bar2Read (off : BitVec 24) (n : Nat) (errs : List Nat)
  /-- BAR2_WRITE (R481). -/
  | bar2Write (off : BitVec 24) (bs : List Byte) (fullEnables : Bool) (errs : List Nat)
  /-- RING_DATA_MODERATION (R480). -/
  | ringDataModeration (n : Fin 4)
  /-- DMA_ERROR (R479). -/
  | dmaError (n : Fin 4)
  /-- PCIE_FUNCTION_RESET (R482). -/
  | pcieFunctionReset (kind : PcieResetKind)
  /-- PCIE_LINK_TRAINED (R484). -/
  | pcieLinkTrained (link : PcieLink)
  /-- ISLAND_READY (R29). -/
  | islandReady (i : Fin 43) (calFail : Bool)
  /-- BANK_READY (R581). -/
  | bankReady (b : Fin 16)
  /-- EPOCH (R18). -/
  | epoch (o : EpochObs)
  /-- DUMP_RECORD_COMMIT (R18). -/
  | dumpRecordCommit (ch : Fin 192) (a : Fin 24) (u : Upset)
  /-- RAW_CUTOFF (R289). -/
  | rawCutoff (residue : BitVec 24)
  /-- PROVISIONAL_CUTOFF (R312). -/
  | provisionalCutoff (o : EngineObs)
  /-- FINAL_CUTOFF (R315). -/
  | finalCutoff (o : EngineObs)
  /-- SLICE_TRANSFER_UNIT (R112). -/
  | sliceTransferUnit (a : Fin 24) (i : Fin 4) (u : TransferUnit)
  /-- NOTCH_RELEASE (R117). -/
  | notchRelease (a : Fin 24) (i n : Fin 4)
  /-- AGC_UPDATE (R122). -/
  | agcUpdate (a : Fin 24) (i : Fin 4)
  /-- AGC_TC_SWITCH (R128). -/
  | agcTcSwitch (a : Fin 24)
  /-- APERTURE_RUNNING (R128). -/
  | apertureRunning (a : Fin 24)
  /-- NOISE_REF_LEARNT (R125). -/
  | noiseRefLearnt (a : Fin 24) (i : Fin 4)
  /-- JI_ALERT_CLEAR (R126). -/
  | jiAlertClear (a : Fin 24) (i : Fin 4)
  /-- NO_SIGNAL_RAISE (R134). -/
  | noSignalRaise (a : Fin 24)
  /-- NO_SIGNAL_CLEAR (R134). -/
  | noSignalClear (a : Fin 24)
  /-- OVERLOAD_RAISE (R134). -/
  | overloadRaise (a : Fin 24)
  /-- OVERLOAD_CLEAR (R134). -/
  | overloadClear (a : Fin 24)
  /-- ADC_FAULT (R134). -/
  | adcFault (a : Fin 24)
  /-- IQ_BLOCK (R140). -/
  | iqBlock (a : Fin 24) (i : Fin 4)
  /-- DUTY_WINDOW (R148). -/
  | dutyWindow
  /-- DWELL_END (R152). -/
  | dwellEnd (task : Fin 64) (sv : Byte) (u : List CellUpset) (r : Upset) (testLeft : Nat)
  /-- VERIFICATION_DWELL_END (R171). -/
  | verificationDwellEnd (signal sv : Byte) (u : List CellUpset) (r : Upset) (testLeft : Nat)
  /-- AID_LAPSE (R162). -/
  | aidLapse (signal sv : Byte)
  /-- LAG_UPDATE (R192). -/
  | lagUpdate
  /-- PLI_WINDOW (R215). -/
  | pliWindow
  /-- VOLUNTARY_HANDOVER (R221). -/
  | voluntaryHandover (ch : Fin 192)
  /-- LAG_SEARCH_DWELL (R198). -/
  | lagSearchDwell (ch : Fin 192) (a : Fin 24)
  /-- PULL_IN_TIMEOUT (R216). -/
  | pullInTimeout (ch : Fin 192)
  /-- COAST_ENTRY (R216). -/
  | coastEntry (ch : Fin 192)
  /-- COAST_TIMEOUT (R216). -/
  | coastTimeout (ch : Fin 192)
  /-- APERTURE_COAST_TIMEOUT (R228). -/
  | apertureCoastTimeout (ch : Fin 192) (a : Fin 24)
  /-- BURST_WAKE (R247). -/
  | burstWake
  /-- BURST_START (R247). -/
  | burstStart
  /-- BURST_END (R247). -/
  | burstEnd
  /-- VOILE_WINDOW_END (R261). -/
  | voileWindowEnd (dieTemp : BitVec 16)
  /-- CAL_TABLE_STORED (R271). -/
  | calTableStored (ok : Bool)
  /-- WHOLE_SECOND (R330). -/
  | wholeSecond (o : SecondObs)
  /-- HOLDOVER_EXPIRY (R333). -/
  | holdoverExpiry
  /-- SLEW_END (R341). -/
  | slewEnd
  /-- TIME_STEP (R342). -/
  | timeStep
  /-- PULSE_NOTICE (R351). -/
  | pulseNotice (out : Fin 2)
  /-- EDGE_ANNOUNCE (R350). -/
  | edgeAnnounce (out : Fin 2)
  /-- PULSE_EDGE (R349). -/
  | pulseEdge (out : Fin 2)
  /-- PULSE_TRAILING_EDGE (R349). -/
  | pulseTrailingEdge (out : Fin 2)
  /-- EVENT_EDGE (R356). -/
  | eventEdge (n : Fin 8) (rising : Bool) (g : Nat)
  /-- SYNC_IN_EDGE (R385). -/
  | syncInEdge (rising : Bool) (g : Nat)
  /-- REF_MONITOR_WINDOW (R365). -/
  | refMonitorWindow (khz : Nat)
  /-- LOCK_WINDOW (R369). -/
  | lockWindow (count : Nat)
  /-- HOLDOFF_EXPIRY (R373). -/
  | holdoffExpiry
  /-- LOCK_RETRY (R368). -/
  | lockRetry
  /-- HOST_SWEEP_COMPLETE (R384). -/
  | hostSweepComplete (out : Fin 4)
  /-- ALIGNMENT_EXPIRY (R386). -/
  | alignmentExpiry
  /-- LINK_TEMP_CHECK (R402). -/
  | linkTempCheck (temp : Int)
  /-- SYNTH_CAL_START (R405). -/
  | synthCalStart (slot : Fin 64)
  /-- SYNTH_HOP_START (R405). -/
  | synthHopStart (slot : Fin 64)
  /-- BACKGROUND_CAL_START (R406). -/
  | backgroundCalStart (us : Fin 1000)
  /-- SYNTH_CAL_END (R403). -/
  | synthCalEnd (us : Fin 1000)
  /-- LPA_EN_ASSERT (R413). -/
  | lpaEnAssert (slot : Fin 64) (x : LinkAdc)
  /-- SLOT_RAMP_START (R409). -/
  | slotRampStart (slot : Fin 64) (errs : List Nat)
  /-- TX_FRAME_END (R413). -/
  | txFrameEnd
  /-- LPA_EN_RELEASE (R413). -/
  | lpaEnRelease
  /-- LLNA_EN_RESTORE (R413). -/
  | llnaEnRestore (x : LinkAdc)
  /-- TX_ABORT (R411). -/
  | txAbort (eval : Nat × Nat)
  /-- PREAMBLE_DETECTION (R432). -/
  | preambleDetection (x : LinkAdc)
  /-- LINK_AGC_UPDATE (R433). -/
  | linkAgcUpdate (x : LinkAdc)
  /-- WATCH_DETECTION (R438). -/
  | watchDetection (x : LinkAdc)
  /-- HEADER_DECODED (R437). -/
  | headerDecoded (x : LinkAdc)
  /-- FRAME_RECEIVED (R437). -/
  | frameReceived (x : LinkAdc) (errs : List Nat)
  /-- SUPERFRAME_START (R442). -/
  | superframeStart (x : LinkAdc)
  /-- HEARTBEAT (R560). -/
  | heartbeat (k : Fin 16)
  /-- IRQ_PEND_CLEAR (R548). -/
  | irqPendClear (k : Fin 16) (v : BitVec 24)
  /-- EMIT_LEN_WRITE (R558). -/
  | emitLenWrite (k : Fin 16) (v : BitVec 24)
  /-- EMIT_DONE (R558). -/
  | emitDone (k : Fin 16) (errs : List Nat)
  /-- INBOX_ACK (R548). -/
  | inboxAck (k : Fin 16)
  /-- OUTBOX_N_WRITE (R549). -/
  | outboxNWrite (k : Fin 16) (v : BitVec 24)
  /-- BEXP_WRITE (R538). -/
  | bexpWrite (k : Fin 16) (v : BitVec 24)
  /-- SUBSCRIPTION_DELIVERY (R556). -/
  | subscriptionDelivery (k : Fin 16) (errs : List Nat)
  /-- IMAGE_STORED (R551). -/
  | imageStored (k : Fin 16)
  /-- KERNEL_ENTRY (R553). -/
  | kernelEntry (k : Fin 16)
  /-- KERNEL_WATCHDOG_EXPIRY (R561). -/
  | kernelWatchdogExpiry (k : Fin 16)
  /-- FAILOVER_START (R562). -/
  | failoverStart (k : Fin 16)
  /-- INTERRUPT_ENTRY (R544). -/
  | interruptEntry (k : Fin 16)
  /-- BANK_LOAD_RETURN (R517). -/
  | bankLoadReturn (k : Fin 16) (stall errs : Nat)
  /-- POSTED_STORE_COMMIT (R517). -/
  | postedStoreCommit (k : Fin 16) (stall errs : Nat)
  /-- ILLEGAL_INSTRUCTION (R531). -/
  | illegalInstruction (k : Fin 16)
  /-- NOP (R508). -/
  | kNop (k : Fin 16)
  /-- HALT (R554). -/
  | kHalt (k : Fin 16)
  /-- RET (R508). -/
  | kRet (k : Fin 16)
  /-- RETI (R544). -/
  | kReti (k : Fin 16)
  /-- FENCE (R508). -/
  | kFence (k : Fin 16) (waited : Nat)
  /-- WAIT (R547). -/
  | kWait (k : Fin 16)
  /-- WAIT_WAKE (R547). -/
  | waitWake (k : Fin 16) (cycles : Nat)
  /-- EI (R508). -/
  | kEi (k : Fin 16)
  /-- DI (R508). -/
  | kDi (k : Fin 16)
  /-- JR (R508). -/
  | kJr (k : Fin 16) (p : Fin 8)
  /-- CALLR (R508). -/
  | kCallr (k : Fin 16) (p : Fin 8)
  /-- REPR (R520). -/
  | kRepr (k : Fin 16) (d : Fin 8)
  /-- J (R508). -/
  | kJ (k : Fin 16) (t : BitVec 14)
  /-- CALL (R508). -/
  | kCall (k : Fin 16) (t : BitVec 14)
  /-- REP (R520). -/
  | kRep (k : Fin 16) (n : BitVec 12)
  /-- LOOP (R521). -/
  | kLoop (k : Fin 16) (n : LoopCount) (e : BitVec 14)
  /-- BR (R522). -/
  | kBr (k : Fin 16) (c : KCond) (a b : Fin 16) (off : BitVec 8)
  /-- BRI (R522). -/
  | kBri (k : Fin 16) (c : KCond) (a : Fin 16) (i : BitVec 12) (t : BitVec 14)
  /-- BRA (R522). -/
  | kBra (k : Fin 16) (c : KCond) (a : Fin 4) (off : BitVec 8)
  /-- ADD (R508). -/
  | kAdd (k : Fin 16) (d a b : Fin 8)
  /-- SUB (R508). -/
  | kSub (k : Fin 16) (d a b : Fin 8)
  /-- ADDS (R507). -/
  | kAdds (k : Fin 16) (d a b : Fin 8)
  /-- SUBS (R507). -/
  | kSubs (k : Fin 16) (d a b : Fin 8)
  /-- AND (R508). -/
  | kAnd (k : Fin 16) (d a b : Fin 8)
  /-- OR (R508). -/
  | kOr (k : Fin 16) (d a b : Fin 8)
  /-- XOR (R508). -/
  | kXor (k : Fin 16) (d a b : Fin 8)
  /-- MUL (R508). -/
  | kMul (k : Fin 16) (d a b : Fin 8)
  /-- MULH (R526). -/
  | kMulh (k : Fin 16) (d a b : Fin 8)
  /-- MIN (R508). -/
  | kMin (k : Fin 16) (d a b : Fin 8)
  /-- MAX (R508). -/
  | kMax (k : Fin 16) (d a b : Fin 8)
  /-- MINU (R508). -/
  | kMinu (k : Fin 16) (d a b : Fin 8)
  /-- MAXU (R508). -/
  | kMaxu (k : Fin 16) (d a b : Fin 8)
  /-- NEG (R526). -/
  | kNeg (k : Fin 16) (d a : Fin 8)
  /-- NEGS (R526). -/
  | kNegs (k : Fin 16) (d a : Fin 8)
  /-- ABS (R526). -/
  | kAbs (k : Fin 16) (d a : Fin 8)
  /-- ABSS (R526). -/
  | kAbss (k : Fin 16) (d a : Fin 8)
  /-- NOT (R508). -/
  | kNot (k : Fin 16) (d a : Fin 8)
  /-- CLS (R526). -/
  | kCls (k : Fin 16) (d a : Fin 8)
  /-- CLZ (R526). -/
  | kClz (k : Fin 16) (d a : Fin 8)
  /-- ADDBCD (R530). -/
  | kAddbcd (k : Fin 16) (d a b : Fin 8)
  /-- SUBBCD (R530). -/
  | kSubbcd (k : Fin 16) (d a b : Fin 8)
  /-- DADJ (R530). -/
  | kDadj (k : Fin 16) (d a : Fin 8)
  /-- DBIN (R530). -/
  | kDbin (k : Fin 16) (d a : Fin 8)
  /-- LSL (R525). -/
  | kLsl (k : Fin 16) (d a b : Fin 8)
  /-- LSR (R525). -/
  | kLsr (k : Fin 16) (d a b : Fin 8)
  /-- ASR (R525). -/
  | kAsr (k : Fin 16) (d a b : Fin 8)
  /-- ASLS (R525). -/
  | kAsls (k : Fin 16) (d a b : Fin 8)
  /-- LSL_IMM (R525). -/
  | kLslImm (k : Fin 16) (d a : Fin 8) (amt : BitVec 7)
  /-- LSR_IMM (R525). -/
  | kLsrImm (k : Fin 16) (d a : Fin 8) (amt : BitVec 7)
  /-- ASR_IMM (R525). -/
  | kAsrImm (k : Fin 16) (d a : Fin 8) (amt : BitVec 7)
  /-- ASLS_IMM (R525). -/
  | kAslsImm (k : Fin 16) (d a : Fin 8) (amt : BitVec 7)
  /-- DIV (R527). -/
  | kDiv (k : Fin 16) (d : Fin 4) (a b : Fin 8)
  /-- DIVU (R527). -/
  | kDivu (k : Fin 16) (d : Fin 4) (a b : Fin 8)
  /-- ADDI (R508). -/
  | kAddi (k : Fin 16) (d a : Fin 8) (i : BitVec 13)
  /-- ADDPI (R508). -/
  | kAddpi (k : Fin 16) (d a : Fin 8) (i : BitVec 13)
  /-- MOVI (R508). -/
  | kMovi (k : Fin 16) (d : Fin 8) (i : BitVec 16)
  /-- MOVR (R504). -/
  | kMovr (k : Fin 16) (rd rs : Fin 64)
  /-- MOVIL (R508). -/
  | kMovil (k : Fin 16) (rd : Fin 64) (i : BitVec 24)
  /-- LD (R513). -/
  | kLd (k : Fin 16) (d p : Fin 8) (m : Fin 5) (i : BitVec 10)
  /-- LDR (R513). -/
  | kLdr (k : Fin 16) (r : Fin 64) (p : Fin 8) (m : Fin 5) (i : BitVec 7)
  /-- ST (R513). -/
  | kSt (k : Fin 16) (d p : Fin 8) (m : Fin 5) (i : BitVec 10)
  /-- STR (R513). -/
  | kStr (k : Fin 16) (r : Fin 64) (p : Fin 8) (m : Fin 5) (i : BitVec 7)
  /-- LDX (R516). -/
  | kLdx (k : Fin 16) (d p : Fin 8) (q : Fin 10) (i : BitVec 9)
  /-- STX (R516). -/
  | kStx (k : Fin 16) (d p : Fin 8) (q : Fin 6) (i : BitVec 9)
  /-- LDC (R508). -/
  | kLdc (k : Fin 16) (d p : Fin 8) (m : Fin 2) (i : BitVec 10)
  /-- EXTU (R528). -/
  | kExtu (k : Fin 16) (d a : Fin 8) (pos w : Fin 24)
  /-- EXTS (R528). -/
  | kExts (k : Fin 16) (d a : Fin 8) (pos w : Fin 24)
  /-- INS (R528). -/
  | kIns (k : Fin 16) (d a : Fin 8) (pos w : Fin 24)
  /-- MPY (R535). -/
  | kMpy (k : Fin 16) (c : Fin 4) (a b : Fin 8)
  /-- MAC (R535). -/
  | kMac (k : Fin 16) (c : Fin 4) (a b : Fin 8)
  /-- MSU (R535). -/
  | kMsu (k : Fin 16) (c : Fin 4) (a b : Fin 8)
  /-- MPYI (R535). -/
  | kMpyi (k : Fin 16) (c : Fin 4) (a b : Fin 8)
  /-- MACI (R535). -/
  | kMaci (k : Fin 16) (c : Fin 4) (a b : Fin 8)
  /-- MSUI (R535). -/
  | kMsui (k : Fin 16) (c : Fin 4) (a b : Fin 8)
  /-- CLRA (R508). -/
  | kClra (k : Fin 16) (c : Fin 4)
  /-- MOVA (R508). -/
  | kMova (k : Fin 16) (c a : Fin 4)
  /-- ADDA (R529). -/
  | kAdda (k : Fin 16) (c a : Fin 4)
  /-- SUBA (R529). -/
  | kSuba (k : Fin 16) (c a : Fin 4)
  /-- NEGA (R526). -/
  | kNega (k : Fin 16) (c : Fin 4)
  /-- NEGAS (R526). -/
  | kNegas (k : Fin 16) (c : Fin 4)
  /-- ABSA (R508). -/
  | kAbsa (k : Fin 16) (c : Fin 4)
  /-- ABSAS (R526). -/
  | kAbsas (k : Fin 16) (c : Fin 4)
  /-- ASHA (R525). -/
  | kAsha (k : Fin 16) (c : Fin 4) (amt : BitVec 7)
  /-- ASHAS (R525). -/
  | kAshas (k : Fin 16) (c : Fin 4) (amt : BitVec 7)
  /-- ASHAR (R525). -/
  | kAshar (k : Fin 16) (c : Fin 4) (a : Fin 8)
  /-- ASHASR (R525). -/
  | kAshasr (k : Fin 16) (c : Fin 4) (a : Fin 8)
  /-- RNDA (R508). -/
  | kRnda (k : Fin 16) (c : Fin 4)
  /-- SATA (R508). -/
  | kSata (k : Fin 16) (c : Fin 4)
  /-- FTAP (R519). -/
  | kFtap (k : Fin 16) (c : Fin 4) (pc ps : Fin 8)
  /-- SCRUB_GRANULE (R586). -/
  | scrubGranule (b : Fin 16) (errs : Nat)
  /-- MEM_SCRUB_COMPLETE (R588). -/
  | memScrubComplete (fixed bad : List Nat)
  /-- DRAIN_COMPLETE (R577). -/
  | drainComplete (b : Fin 16)
  /-- VBAT_POWER_ON (R593). -/
  | vbatPowerOn
  /-- VBAT_LOSS (R592). -/
  | vbatLoss
  /-- WAKE_N_LOW (R597). -/
  | wakeNLow
  /-- ADDRESS_MATCH (R597). -/
  | addressMatch (addr : BitVec 7) (read : Bool)
  /-- TIMER_ALARM (R597). -/
  | timerAlarm
  /-- X32_LOSS (R599). -/
  | x32Loss
  /-- PARK_WRITE_DONE (R602). -/
  | parkWriteDone
  /-- PWR_EN_FALL (R602). -/
  | pwrEnFall
  /-- PWR_EN_RISE (R605). -/
  | pwrEnRise (stopMs : Nat)
  /-- RESET_N_LOW (R606). -/
  | resetNLow
  /-- RAIL_OUT_OF_RANGE (R652). -/
  | railOutOfRange
  /-- RESET_RELEASE (R608). -/
  | resetRelease (heldMs : Nat)
  /-- FW_WATCHDOG (R606). -/
  | fwWatchdog (proc : Fin 4)
  /-- SECURITY_RESET (R606). -/
  | securityReset
  /-- FW_READY (R608). -/
  | fwReady
  /-- SELFTEST_SLOT (R619). -/
  | selftestSlot (us : Fin 1000)
  /-- SELFTEST_SLICE_END (R617). -/
  | selftestSliceEnd (pass : Bool) (vector : Nat)
  /-- FUSE_BURN_DONE (R632). -/
  | fuseBurnDone
  /-- KEY_ERASURE_DONE (R636). -/
  | keyErasureDone
  /-- ERRLOG_COALESCED_REPORT (R643). -/
  | errlogCoalescedReport (code cls inst : Byte)
  /-- SYNTH_LOCK_REPORT (R403). -/
  | synthLockReport (c : SynthCodes)
  /-- STF_NINTH_PERIOD (R432). -/
  | stfNinthPeriod (x : LinkAdc) (n : Nat)
  /-- SLOT_END (R443). -/
  | slotEnd (slot : Fin 64) (x : LinkAdc)
  /-- UART_BYTE_TRANSMITTED (R469). -/
  | uartByteTransmitted (u : Uart) (obs : CmdObs)
  /-- RING_ENTRY_WRITTEN (R479). -/
  | ringEntryWritten (n : Fin 4) (obs : CmdObs)
  /-- CLKOUT_ON_TIME_EDGE (R376). -/
  | clkoutOnTimeEdge (out : Fin 4) (g : Nat)
  /-- CORRECTION_SHAPE_COMPLETE (R383). -/
  | correctionShapeComplete
  /-- SYS_RESTART_RESET (R615). -/
  | sysRestartReset
deriving DecidableEq, Repr

end Sys2Proof
end

