-- ==== Sys2Proof/Decode.lean ====
section
/-! DEFINITION. What a word of the command table spells. No row of the table gives its command any bits: commands reach the
YK24 as packets of bytes, register accesses and events, which Machine/HostPorts.lean and Machine/PcieRegs.lean take apart. -/
namespace Sys2Proof

/-- The command that a word spells by the table's bits: none, since no row gives bits. -/
def decodeTableWord (_nbits _w : Nat) : Option Instr := none

end Sys2Proof
end

