-- ==== Sys2Proof/Machine/Tab.lean ====
section
/-! DEFINITION. Sparse tables: a list of (index, value) pairs in one canonical form (indices strictly rising, no entry
equal to the default an unlisted index reads as), used for every array of the device: banks, memories, channels, ports. -/
namespace Sys2Proof.Machine

/-- A sparse array; an index that is not listed reads as the default its user names. -/
abbrev Tab (α : Type) := List (Nat × α)

/-- The value at index `i`; `d` is what an unlisted index reads as. -/
def tget {α : Type} (d : α) : Tab α → Nat → α
  | [], _ => d
  | (k, v) :: t, i => if i = k then v else tget d t i

/-- Remove index `i`, so that it reads as the default. -/
def terase {α : Type} : Tab α → Nat → Tab α
  | [], _ => []
  | (k, v) :: t, i => if i = k then terase t i else (k, v) :: terase t i

/-- Put `v` at index `i`, keeping the indices rising. -/
def tput {α : Type} : Tab α → Nat → α → Tab α
  | [], i, v => [(i, v)]
  | (k, w) :: t, i, v =>
    if i < k then (i, v) :: (k, w) :: t
    else if i = k then (i, v) :: t
    else (k, w) :: tput t i v

/-- Write `v` at index `i`; writing the default removes the entry, so that equal arrays are equal data. -/
def tset {α : Type} [DecidableEq α] (d : α) (t : Tab α) (i : Nat) (v : α) : Tab α :=
  if v = d then terase t i else tput t i v

/-- Change the value at index `i` by `f`. -/
def tmod {α : Type} [DecidableEq α] (d : α) (t : Tab α) (i : Nat) (f : α → α) : Tab α :=
  tset d t i (f (tget d t i))

/-- Write consecutive values from index `i` upwards. -/
def tsetMany {α : Type} [DecidableEq α] (d : α) (t : Tab α) (i : Nat) : List α → Tab α
  | [] => t
  | v :: vs => tsetMany d (tset d t i v) (i + 1) vs

/-- The `n` values from index `i` upwards. -/
def tgetMany {α : Type} (d : α) (t : Tab α) (i : Nat) : Nat → List α
  | 0 => []
  | n + 1 => tget d t i :: tgetMany d t (i + 1) n

/-- The canonical form: indices strictly rising, and no entry equal to the default. -/
def tabWf {α : Type} [DecidableEq α] (d : α) : Tab α → Bool
  | [] => true
  | (_, v) :: [] => v != d
  | (i, v) :: (j, w) :: t => decide (i < j) && v != d && tabWf d ((j, w) :: t)

/-- The numbers 0 to n - 1, rising. -/
def upto : Nat → List Nat
  | 0 => []
  | n + 1 => upto n ++ [n]

/-- The indices below `n` whose bit is set in the mask `m`, rising. -/
def maskBits (n m : Nat) : List Nat := (upto n).filter (fun i => m.testBit i)

/-- The mask of the indices in `l`. -/
def bitsMask (l : List Nat) : Nat := l.foldl (fun m i => m ||| (1 <<< i)) 0

/-- How many of the low `n` bits of `m` are set. -/
def popcount (n m : Nat) : Nat := (maskBits n m).length

/-- Every element of `l` folded into the state by `f`, in order. -/
def foldS {α σ : Type} (f : α → σ → σ) (l : List α) (s : σ) : σ := l.foldl (fun s a => f a s) s

end Sys2Proof.Machine
end

