-- ==== Sys2Proof/Machine/Bytes.lean ====
section
/-! DEFINITION. Byte order and field access: every multi-byte field of a packet, message, record or register is least
significant byte first (02 R51 and its worked example). -/
namespace Sys2Proof.Machine

/-- `n` bytes of `v`, least significant first. -/
def le : Nat → Nat → List Byte
  | 0, _ => []
  | n + 1, v => BitVec.ofNat 8 v :: le n (v / 256)

/-- The number that a list of bytes spells, least significant first. -/
def ofLe : List Byte → Nat
  | [] => 0
  | b :: bs => b.toNat + 256 * ofLe bs

/-- `n` bytes of a signed value in two's complement, least significant first. -/
def leI (n : Nat) (z : Int) : List Byte := le n (z % (256 ^ n : Nat)).toNat

/-- `n` zero bytes: the reserved fields that are sent as 0. -/
def zeros (n : Nat) : List Byte := List.replicate n 0

/-- The `n` bytes of `b` from offset `o`. -/
def field (b : List Byte) (o n : Nat) : List Byte := (b.drop o).take n
/-- An unsigned field of `n` bytes at offset `o`; bytes beyond the end read as 0. -/
def uN (n : Nat) (b : List Byte) (o : Nat) : Nat := ofLe (field b o n)
/-- A 1-byte unsigned field. -/
def u8 (b : List Byte) (o : Nat) : Nat := uN 1 b o
/-- A 2-byte unsigned field. -/
def u16 (b : List Byte) (o : Nat) : Nat := uN 2 b o
/-- A 4-byte unsigned field. -/
def u32 (b : List Byte) (o : Nat) : Nat := uN 4 b o
/-- An 8-byte unsigned field. -/
def u64 (b : List Byte) (o : Nat) : Nat := uN 8 b o

/-- The signed value of an `n`-byte two's complement number `v`. -/
def signedOf (n v : Nat) : Int := if v < 256 ^ n / 2 then (v : Int) else (v : Int) - (256 ^ n : Nat)
/-- A signed field of `n` bytes at offset `o`. -/
def iN (n : Nat) (b : List Byte) (o : Nat) : Int := signedOf n (uN n b o)
/-- A 1-byte signed field. -/
def i8 (b : List Byte) (o : Nat) : Int := iN 1 b o
/-- A 2-byte signed field. -/
def i16 (b : List Byte) (o : Nat) : Int := iN 2 b o
/-- A 4-byte signed field. -/
def i32 (b : List Byte) (o : Nat) : Int := iN 4 b o
/-- An 8-byte signed field. -/
def i64 (b : List Byte) (o : Nat) : Int := iN 8 b o

/-- Bits `hi` to `lo` of `v` as a number. -/
def bitsOf (v hi lo : Nat) : Nat := (v >>> lo) % 2 ^ (hi - lo + 1)
/-- Bit `i` of `v`. -/
def bitOf (v i : Nat) : Bool := v.testBit i
/-- 1 for true, 0 for false. -/
def b2n (b : Bool) : Nat := if b then 1 else 0
/-- A number held at its largest value `m`: a saturating counter or field. -/
def sat (m v : Nat) : Nat := min v m
/-- A signed value clamped to the range lo to hi. -/
def clampI (lo hi v : Int) : Int := max lo (min hi v)
/-- Ceiling of a / b (0 when b is 0). -/
def cdiv (a b : Nat) : Nat := (a + b - 1) / b
/-- All the bytes of `b` from offset `o` to offset `o + n - 1` are 0: a reserved field. -/
def zeroAt (b : List Byte) (o n : Nat) : Bool := (field b o n).all (fun x => x == 0)

/-- Cut a list into pieces of `k` elements, at most `n` of them. -/
def chunks {α : Type} (k : Nat) : Nat → List α → List (List α)
  | 0, _ => []
  | n + 1, l => if l.isEmpty then [] else l.take k :: chunks k n (l.drop k)

end Sys2Proof.Machine
end

