-- ==== Sys2Proof/Machine/Crc.lean ====
section
/-! DEFINITION. The CRCs of the device: CRC-32C of the protocol, records and MRAM regions (02 R58), and the bitwise engine
that the link's and RTCM's shorter CRCs share. -/
namespace Sys2Proof.Machine

/-- One bit of the reflected CRC-32C register, polynomial 0x82F63B78 (02 R58). -/
def crcBit (r : Nat) : Nat := if r % 2 = 1 then (r / 2) ^^^ 0x82F63B78 else r / 2

/-- Eight bits of the register. -/
def crcByte (r : Nat) (b : Byte) : Nat :=
  let r := r ^^^ b.toNat
  crcBit (crcBit (crcBit (crcBit (crcBit (crcBit (crcBit (crcBit r)))))))

/-- CRC-32C over `bs`: initial value and final exclusive-OR 0xFFFFFFFF (02 R58). -/
def crc32c (bs : List Byte) : Nat := (bs.foldl crcByte 0xFFFFFFFF) ^^^ 0xFFFFFFFF

/-- The four CRC bytes that end a packet, least significant first (02 R58). -/
def crcBytes (bs : List Byte) : List Byte := le 4 (crc32c bs)

/-- A packet closed by its CRC over every preceding byte. -/
def withCrc (bs : List Byte) : List Byte := bs ++ crcBytes bs

/-- One bit, most significant first, of an unreflected CRC of width `w` and polynomial `poly`. -/
def crcMsbBit (w poly : Nat) (r : Nat) (bit : Bool) : Nat :=
  let top := (r.testBit (w - 1)) != bit
  let r := (r * 2) % 2 ^ w
  if top then r ^^^ poly else r

/-- The bits of a byte, most significant first. -/
def msbBits (b : Byte) : List Bool := [7, 6, 5, 4, 3, 2, 1, 0].map (fun i => b.toNat.testBit i)

/-- An unreflected CRC of width `w` over bytes, most significant bit first. -/
def crcMsb (w poly init : Nat) (bs : List Byte) : Nat :=
  (bs.flatMap msbBits).foldl (crcMsbBit w poly) init

end Sys2Proof.Machine
end

