-- ==== Sys2Proof/Machine/Numeric.lean ====
section
/-! DEFINITION. Exact arithmetic that several engines share: rounded quotients, integer roots, levels in decibels decided by whole
powers, and medians. A level is the quotient of two whole numbers; nothing is rounded before a rule rounds it. -/
namespace Sys2Proof.Machine

/-- `a / b` to the nearest whole number, halves away from zero; 0 when b is 0. -/
def roundDiv (a : Int) (b : Nat) : Int :=
  if b = 0 then 0 else if 0 ≤ a then (2 * a + b) / (2 * b) else -((2 * (-a) + b) / (2 * b))

/-- 10 to a power that may be negative, as numerator and denominator. -/
def tenTo (k : Int) : Nat × Nat := if 0 ≤ k then (10 ^ k.toNat, 1) else (1, 10 ^ (-k).toNat)

/-- `c` x log10 (n / d) is at least k / 2, for d > 0: (n / d)^(2 c) reaches 10^k. -/
def logAtLeast (c : Nat) (k : Int) (n d : Nat) : Bool :=
  let p := tenTo k
  decide (p.1 * d ^ (2 * c) ≤ n ^ (2 * c) * p.2)

/-- The largest of `n` steps up from `lo` that a falling test still passes, by halving: `lo` when it passes none. -/
def climb (test : Int → Bool) : Nat → Int → Nat → Int
  | 0, lo, _ => lo
  | _, lo, 0 => lo
  | fuel + 1, lo, n =>
    let h := (n + 1) / 2
    if test (lo + h) then climb test fuel (lo + h) (n - h) else climb test fuel lo (h - 1)

/-- `c` x log10 (n / d) rounded to the nearest whole number and clamped to lo .. hi; n = 0 gives lo. No half occurs: the power of a
quotient is never an odd power of the root of ten. -/
def roundLog (c : Nat) (n d : Nat) (lo hi : Int) : Int :=
  climb (fun k => logAtLeast c (2 * k - 1) n d) 64 lo (hi - lo).toNat

/-- The whole part of the square root of `n`, from `fuel` bits down. -/
def isqrtFrom (n : Nat) : Nat → Nat → Nat
  | 0, r => r
  | b + 1, r => if (r + 2 ^ b) * (r + 2 ^ b) ≤ n then isqrtFrom n b (r + 2 ^ b) else isqrtFrom n b r

/-- The whole part of a square root. -/
def isqrt (n : Nat) : Nat := isqrtFrom n (Nat.log2 n / 2 + 1) 0

/-- Insert by an order that `le` decides. -/
def insertBy {α : Type} (le : α → α → Bool) (z : α) : List α → List α
  | [] => [z]
  | h :: t => if le z h then z :: h :: t else h :: insertBy le z t

/-- A list in rising order. -/
def sortBy {α : Type} (le : α → α → Bool) (l : List α) : List α := l.foldl (fun acc z => insertBy le z acc) []

/-- The two middle values of a sorted list, equal where the count is odd; `d` for an empty list. -/
def middleTwo {α : Type} (d : α) (l : List α) : α × α :=
  let n := l.length
  (l.getD ((n - 1) / 2) d, l.getD (n / 2) d)

/-! ### Arctangents -/

/-- arctan 2^-i in 2^-32 cycle. -/
def atanSteps : List Nat :=
  [536870912, 316933406, 167458907, 85004756, 42667331, 21354465, 10679838, 5340245,
   2670163, 1335087, 667544, 333772, 166886, 83443, 41722, 20861,
   10430, 5215, 2608, 1304, 652, 326, 163, 81,
   41, 20, 10, 5, 3, 1, 1, 0]

/-- Rotate (x, y), x ≥ 0, onto the axis by the listed angles from 2^-i on; answers the angle turned. -/
def rotate : List Nat → Nat → Int → Int → Int → Int
  | [], _, _, _, z => z
  | a :: t, i, x, y, z =>
    if y = 0 then z
    else if 0 < y then rotate t (i + 1) (x + y / 2 ^ i) (y - x / 2 ^ i) (z + a)
    else rotate t (i + 1) (x - y / 2 ^ i) (y + x / 2 ^ i) (z - a)

/-- The two-quadrant arctangent of Q / I, in 2^-32 cycle from -1/4 to 1/4; 0 at the origin. -/
def arctan2q (i q : Int) : Int :=
  let k : Int := (2 ^ 32 : Nat)
  if i = 0 ∧ q = 0 then 0 else if i < 0 then rotate atanSteps 0 (-i * k) (-q * k) 0 else rotate atanSteps 0 (i * k) (q * k) 0

/-- The four-quadrant arctangent, in 2^-32 cycle from -1/2 to 1/2. -/
def arctan4q (i q : Int) : Int :=
  let z := arctan2q i q
  if 0 ≤ i then z else if 0 ≤ q then z + (2 ^ 31 : Nat) else z - (2 ^ 31 : Nat)

/-- Turn (x, y) through the angle that is left (2^-32 cycle, within a quarter) by the listed steps. -/
def turnFrom : List Nat → Nat → Int → Int → Int → Int × Int
  | [], _, _, x, y => (x, y)
  | a :: t, i, z, x, y =>
    if 0 ≤ z then turnFrom t (i + 1) (z - a) (x - y / 2 ^ i) (y + x / 2 ^ i)
    else turnFrom t (i + 1) (z + a) (x + y / 2 ^ i) (y - x / 2 ^ i)

/-- (x, y) turned by an angle in 2^-32 cycle, from the first axis towards the second; the steps lengthen it by 1.646760258121. -/
def turn (z : Int) (v : Int × Int) : Int × Int :=
  let k : Int := (2 ^ 32 : Nat)
  let c := (z + 2 ^ 31) % 2 ^ 32 - 2 ^ 31
  let w := if c < -(2 ^ 30) then (c + 2 ^ 31, -k) else if 2 ^ 30 < c then (c - 2 ^ 31, -k) else (c, k)
  let r := turnFrom atanSteps 0 w.1 (v.1 * w.2) (v.2 * w.2)
  let d := 1646760258121 * 2 ^ 32
  (roundDiv (r.1 * 1000000000000) d, roundDiv (r.2 * 1000000000000) d)

/-- The whole part of the square root of a power, in 1/256. -/
def magnitude (v : Int × Int) : Nat := isqrt (65536 * (v.1 * v.1 + v.2 * v.2).toNat)

/-- |v|^2. -/
def power (v : Int × Int) : Nat := (v.1 * v.1 + v.2 * v.2).toNat

/-- The real part of v times the conjugate of w. -/
def dotC (v w : Int × Int) : Int := v.1 * w.1 + v.2 * w.2

/-- A signed quantity clamped to the range of a two's complement field of `n` bits. -/
def clampBits (n : Nat) (v : Int) : Int := max (-(2 ^ (n - 1) : Nat)) (min ((2 ^ (n - 1) : Nat) - 1) v)

/-- Eight times the mean square of a sine whose peaks reach the ADC codes -128 and +127: 0 dBFS (18, AP and LRX pins). -/
def adcFull : Nat := 65025

end Sys2Proof.Machine
end

