-- ==== Sys2Proof/Machine/State.lean ====
section
/-! DEFINITION. The state of the YK24: every register, queue, buffer, table, counter, mode and pin that the spec gives the
block, as plain data, the reasons a step can stop, and the state after reset. -/
namespace Sys2Proof.Machine

/-! ### Aiding that the device holds and parks (04, 16 R613) -/

/-- Orbits held for one satellite: an ephemeris or an almanac, with the time (GPS ms) it refers to. -/
structure OrbitRec where
  sv : Nat
  almanac : Bool
  refMs : Nat
  /-- Milliseconds after the reference time for which an ephemeris is valid (04 R158), and the orbit's elements. -/
  fitMs : Nat
  elems : List Int
deriving DecidableEq, Repr

/-- A quantity with its 1 sigma. -/
structure Estimate where
  value : List Int
  sd : Nat
deriving DecidableEq, Repr

/-- The UTC parameters (08 R328): GPS time minus UTC in seconds, the announced change (0 none, 1 insertion, 2 deletion), and the GPS millisecond at
which the second after it begins. -/
structure UtcParams where
  leap : Nat
  change : Nat
  endMs : Nat
deriving DecidableEq, Repr

/-- What a parked copy holds, and what the device itself holds for parking (16 R613). -/
structure AidStore where
  orbits : List OrbitRec
  utc : Option UtcParams
  pos : Option Estimate
  /-- Position and velocity (mm/s) of the current solution, while there is one, and the position restored at the start (04 R157); they are not
  parked. -/
  own : Option Estimate
  vel : Option Estimate
  rest : Option Estimate
  osc : Option Estimate
deriving DecidableEq, Repr

/-! ### Islands, profile and envelope (01) -/

/-- The island masks that PWR_ISLANDS reports (01 R30): on or powering up, and power-up completed. -/
structure Islands where
  powered : Nat
  ready : Nat
deriving DecidableEq, Repr

/-- The envelope in the layout of PRF_CUSTOM (01 R48); masks are numbers of one bit per aperture, core or bank. -/
structure Envelope where
  base : Nat
  link : Bool
  channels : Nat
  aprMask : Nat
  measRate : Nat
  tulRate : Nat
  tulGroups : Nat
  duty : Nat
  krnMask : Nat
  bankMask : Nat
  iqSlices : Nat
  outBudget : Nat
deriving DecidableEq, Repr

/-- The selected profile (01 R43, R47 to R49). -/
structure Profile where
  sel : Nat
  custom : Bool
  env : Envelope
deriving DecidableEq, Repr

/-! ### Ecsol and the host ports (02, 12) -/

/-- One packet in an output queue (02 R74, 12 R463). -/
structure QItem where
  /-- 0 = a reply, 1 and 2 = the class of a message. -/
  cls : Nat
  bytes : List Byte
  /-- How many of its bytes have left the port. -/
  sent : Nat
deriving DecidableEq, Repr

/-- One entry of a port's reply cache (02 R75). -/
structure CacheEntry where
  seq : Nat
  opcode : Nat
  crc : Nat
  reply : List Byte
  ok : Bool
deriving DecidableEq, Repr

/-- The state of one host port. -/
structure PortState where
  /-- What has been received and not yet scanned, in order: bytes, and idle gaps of at least 1 ms (none). A candidate packet under
  assembly stands at its head; a complete packet waits there while the port takes no new command (02 R59 to R62; 12 R463). -/
  asm : List (Option Byte)
  /-- The next byte follows a completed packet or an idle gap of at least 1 ms (02 R62). -/
  fresh : Bool
  framing : Nat
  msgSeq : Nat
  /-- The last 8 replies, oldest first (02 R75, R78). -/
  cache : List CacheEntry
  outq : List QItem
  drops : Nat
  /-- The first class 1 discard since the error log was last emptied makes an entry (12 R463). -/
  dropArmed : Bool
deriving DecidableEq, Repr

/-- Why a command was accepted and is not yet replied to. -/
inductive HoldReason where
  | selfTest (block : Nat)   -- behind a slice with 100 us or less of test left (17 R621)
  | linkCal                  -- LNK_SEND behind a full calibration (10 R412)
  | behind                   -- behind an earlier command that is held: one queue, in the order of receipt (02 R68)
deriving DecidableEq, Repr

/-- A command past step 9 that waits. -/
structure HeldCmd where
  opcode : Nat
  pkt : Packet
  why : HoldReason
  /-- Its reply is discarded, because the PCIe function was reset after it was taken (12 R482, R493). -/
  mute : Bool
deriving DecidableEq, Repr

/-- The sequence windows in which every command is answered BAD_STATE (02 R667). -/
inductive SeqWindow where
  | none | stop | restart | security
deriving DecidableEq, Repr

/-- The route of one message ID (12 R487). -/
structure Route where
  ports : Nat
  ring : Nat
  decim : Nat
  instMask : Nat
deriving DecidableEq, Repr

/-- The command engine and message delivery. -/
structure Ecsol where
  ports : Tab PortState
  held : List HeldCmd
  window : SeqWindow
  routes : Tab Route
  filters : Tab Nat
  /-- OUT_FILTER settings that apply from the next epoch (12 R489). -/
  filtersNext : Tab (Option Nat)
  /-- Rate index of each UART in the table of supported rates; none = undetected (12 R470). -/
  uartRate : Tab (Option Nat)
  /-- The rate a UART had before its last break, in baud (12 R471). -/
  uartFormer : Tab (Option Nat)
  /-- What the port of the last read row drove to the host. -/
  bus : List Byte
  /-- Data bytes that the last Muslin write acknowledged (12 R474). -/
  acked : Nat
deriving DecidableEq, Repr

/-- One output ring of the PCIe endpoint (12 R476 to R480). -/
structure Ring where
  baseLo : Nat
  baseHi : Nat
  size : Nat
  modUs : Nat
  modBytes : Nat
  wr : Nat
  rd : Nat
  drops : Nat
  fault : Bool
  full : Bool
  /-- Staged packets, not yet written by DMA. -/
  outq : List QItem
  /-- Bytes written since RING_DATA was last set, and whether an entry is unsignalled. -/
  unsignalled : Nat
  waiting : Bool
deriving DecidableEq, Repr

/-- The PCIe endpoint (12 R475 to R484). -/
structure Pcie where
  link : Option PcieLink
  /-- The function is in D0 and out of reset. -/
  cmdEn : Bool
  ringEn : Nat
  head : Nat
  tail : Nat
  irqStatus : Nat
  irqMask : Nat
  framing : Nat
  rings : Tab Ring
  /-- Bytes of the eight command slots, 6 KiB each. -/
  slots : Tab Byte
  msixTable : Tab Byte
  msixPending : Nat
  /-- Messages sent per MSI-X vector since reset. -/
  msixSent : Tab Nat
  /-- The DMA writes of the entry written last, in their order: host address and bytes (12 R479). -/
  dma : List (Nat × List Byte)
  /-- What the last BAR read returned as poisoned (EP), and whether the last request was an Unsupported Request. -/
  ep : Bool
  ur : Bool
deriving DecidableEq, Repr

/-! ### Security, error log, power (02, 16, 17) -/

/-- A key slot (02 before R84): state 0 empty, 1 active, 2 retired; key and high-water mark in MRAM. -/
structure KeySlot where
  state : Nat
  key : List Byte
  highWater : Nat
  failures : Nat
  /-- The time count (ms) at which the lock ends, while locked (02 R97). -/
  lockUntil : Option Nat
deriving DecidableEq, Repr

/-- The five life-cycle states (17 R629). -/
inductive LifeCycle where
  | blank | manufacture | provisioned | deployed | returned
deriving DecidableEq, Repr

/-- What an accepted security sequence still has to do (17 R632, R636). -/
structure SecOp where
  /-- true = SEC_ZEROIZE. -/
  zeroize : Bool
  erase : Bool
  scope : Nat
  /-- The state to burn, when step 3 applies. -/
  burn : Option LifeCycle
  erased : Bool
  /-- The time (ms) at which step 4 was committed, once it was. -/
  doneMs : Option Nat
deriving DecidableEq, Repr

/-- An error-log entry (17 R639). -/
structure LogEntry where
  code : Nat
  sev : Nat
  cls : Nat
  inst : Nat
  count : Nat
  reset : Nat
  first : Nat
  last : Nat
  /-- A coalesced occurrence has not been reported yet, and the time (ms) of the entry's last MSG_ERROR since the start (17 R643). -/
  unreported : Bool
  sentMs : Option Nat
deriving DecidableEq, Repr

/-- The error log (17 R639 to R645). -/
structure ErrLog where
  entries : List LogEntry
  overflow : Option LogEntry
  dropped : Nat
  displaced : Nat
  kept : Bool
deriving DecidableEq, Repr

/-- Security and life cycle. -/
structure Security where
  slots : Tab KeySlot
  life : LifeCycle
  op : Option SecOp
  /-- The working key registers hold keys (17 R633). -/
  workKeys : Bool
deriving DecidableEq, Repr

/-- Off, Run or Stop (16 R592). -/
inductive PowerMode where
  | off | run | stop
deriving DecidableEq, Repr

/-- A stop or restart sequence in progress (16 R602, R615). -/
structure StopSeq where
  restart : Bool
  /-- The port that carries the reply and the SEQ that names it, when one was sent. -/
  reply : Option (HostPort × Nat)
  /-- The time (ms) of decision D. -/
  atMs : Nat
deriving DecidableEq, Repr

/-- The wake configuration (16 R595, R596). -/
structure WakeCfg where
  addr : Nat
  sources : Nat
  timekeep : Bool
  rtcPpm : Nat
  alarmS : Nat
deriving DecidableEq, Repr

/-- One parked copy in MRAM (16 R613). -/
structure Parked where
  valid : Bool
  seqNo : Nat
  /-- GPS time at parking, in ms, where it was known. -/
  gpsMs : Option Int
  content : AidStore
deriving DecidableEq, Repr

/-- Power states, wake, resets (16). -/
structure Power where
  mode : PowerMode
  pwrEn : Bool
  inReset : Bool
  fwReady : Bool
  /-- The firmware processors are held in retention between bursts (01 R13). -/
  retention : Bool
  seq : Option StopSeq
  wake : WakeCfg
  /-- The address the Muslin port answers to, while a new one waits for its queue to empty (16 R595). -/
  muslinAddr : Nat
  armed : Bool
  latched : Nat
  /-- Time count: valid, value in ms since the GPS origin, 1 sigma at the last load in us, ms since that load (16 R599). -/
  tcValid : Bool
  tcGpsMs : Nat
  tcSdUs : Nat
  tcSinceMs : Nat
  stopS : Nat
  cause : Nat
  detail : Nat
  resets : Nat
  parked0 : Parked
  parked1 : Parked
  restored : Bool
  parkedInvalid : Bool
  /-- A parked-aiding write of a stop or restart is in progress (16 R602 step 5). -/
  parkPending : Bool
  /-- Message commits are discarded: from D to the epoch after an abandonment (16 R602, R604). -/
  muted : Bool
  /-- FW_READY came at this millisecond of the device's time: UPTIME_MS counts from it (17 R647). -/
  readyMs : Nat
deriving DecidableEq, Repr

/-! ### Rates in force (07 R282, R295) -/

/-- RATE_HZ, TUL_DIV and PVT_DIV in force: the rates that routes and budgets use (12 R485). -/
structure Rates where
  rateHz : Nat
  tulDiv : Nat
  pvtDiv : Nat
deriving DecidableEq, Repr

/-! ### Apertures (03) -/

/-- A raw IQ stream of one slice (03 R139 to R142). -/
structure IqStream where
  format : Nat
  /-- Blocks left; none = until stopped. -/
  left : Option Nat
  block : Nat
  lost : Bool
  stopping : Bool
  /-- The stream has begun: the first epoch after the reply has passed. -/
  started : Bool
  epochMs : Nat
  offset : Nat
  /-- The samples of the block in progress, as they crossed the slice bus, up to 4000 (03 R140). -/
  buf : List (BitVec 6 × BitVec 6)
  /-- AGC_GAIN at the block's first sample, and its FLAGS bits 3:0. -/
  gain0 : Nat
  blanked : Bool
  parity : Bool
  gainMoved : Bool
  notchMoved : Bool
deriving DecidableEq, Repr

/-- One notch filter (03 R116 to R121). -/
structure Notch where
  mode : Nat
  freq : Int
  width : Nat
  depth : Nat
  rateK : Nat
  thresh : Nat
  engaged : Bool
  /-- The frequency estimate, 2^-16 Hz from the slice centre: the step of an update is 2^-RATE_K (03 R117). -/
  est : Int
  /-- The line that an adaptive notch takes in the last unit: its frequency in Hz and its level in 0.1 dB (03 R117, R118). -/
  line : Option (Int × Int)
  /-- Slice samples for which the line has stayed more than 3 dB below THRESH. -/
  lowFor : Nat
  /-- Slice samples of the 16 us ramp that are on: 0 = the notch passes its input unchanged. -/
  ramp : Nat
  /-- The filter's resonator, I and Q in 2^-16 of the 16-bit word. -/
  mem : Int × Int
deriving DecidableEq, Repr

/-- The AGC and indicator settings of one slice (03 R130). -/
structure SliceCfg where
  agcMode : Nat
  agcTarget : Nat
  agcTc : Nat
  jiAlert : Nat
  fixedGain : Int
  /-- NOISE_REF in 0.25 dBFS units; none = to be learnt. -/
  noiseRef : Option Int
deriving DecidableEq, Repr

/-- A sample of the downconversion: 16-bit I and Q, and whether it is computed from blanked input (03 R111, R114). -/
structure DdcSample where
  i : BitVec 16
  q : BitVec 16
  tainted : Bool
deriving DecidableEq, Repr

/-- One slice of one aperture. -/
structure SliceState where
  cfg : SliceCfg
  pendCfg : Option SliceCfg
  notches : Tab Notch
  pendNotches : Tab (Option Notch)
  /-- A notch has engaged or released since the Voile window began (06 R262). -/
  notchMoved : Bool
  /-- AGC_GAIN code n: the gain is (n - 24) / 4 dB (03 R123). -/
  gain : Nat
  /-- The AGC runs with the 0.1 ms time constant of settling, and not with AGC_TC (03 R128). -/
  agcFast : Bool
  ji : Nat
  jiNb : Nat
  /-- The learnt reference, and the P_pre values collected while learning: sums of I^2 + Q^2 with their counts (03 R125). -/
  learnt : Option Int
  samples : List (Nat × Nat)
  alert : Bool
  /-- Consecutive epochs with JI below JI_ALERT - 8 while the alert stands (03 R126). -/
  jiLow : Nat
  /-- The registers of the downconversion filter, and the ADC samples for which its output still derives from blanked input. -/
  ddc : List Int
  taint : Nat
  /-- The registers of the line detector (03 R117). -/
  lineMem : List Int
  /-- Downconverted samples on their way to a transfer unit. -/
  fifo : List DdcSample
  /-- Sums of I^2 + Q^2 before and after the notches over the millisecond, and their count (03 R114, R124). -/
  preSum : Nat
  postSum : Nat
  powN : Nat
  /-- The same after the notches since the last AGC update, and the AGC's running mean square in 2^-16 (03 R122). -/
  agcSum : Nat
  agcN : Nat
  agcAvg : Option Nat
  /-- The last transfer unit that crossed P1 or P2: 6-bit I and Q (03 R111), and whether it holds blanked samples. -/
  unit : List (BitVec 6 × BitVec 6)
  unitBlanked : Bool
  /-- The samples of this millisecond that have crossed (05 R204). -/
  unitPos : Nat
  stream : Option IqStream
deriving DecidableEq, Repr

/-- The pulse blanker (03 R113, R115). -/
structure Blanker where
  mode : Nat
  thresh : Nat
  slices : Nat
  pre : Nat
  post : Nat
  run : Nat
deriving DecidableEq, Repr

/-- The blanker at work on the ADC stream (03 R113): the samples of its delay line, oldest first, each with its blanking; the run of
samples at or above the threshold; an event in progress with the samples of GUARD_POST left; the running sum of squares of unblanked
samples over `n` samples, at most 100 us. -/
structure BlankRun where
  line : List (Int × Bool)
  run : Nat
  on : Bool
  post : Nat
  acc : Nat
  n : Nat
deriving DecidableEq, Repr

/-- The clock of the downconversion that all apertures share: the phase of each slice's accumulator at the last epoch, in 1/220000
cycle (03 R108). The shared resamplers put one output sample of every slice on the epoch. -/
structure Front where
  mix : Tab Nat
deriving DecidableEq, Repr

/-- Where an enabled aperture stands (03 R128). -/
inductive AprPhase where
  | disabled | settling | running
deriving DecidableEq, Repr

/-- One aperture. -/
structure Aperture where
  enabled : Bool
  slicesOn : Nat
  /-- An enable or disable that takes effect at the next epoch: the slices to run, 0 = disable (03 R128, R129). -/
  pendEnable : Option Nat
  phase : AprPhase
  /-- The time (ms) at which settling or running began. -/
  sinceMs : Nat
  nosigDb : Nat
  clipLimit : Nat
  pendNosig : Option (Nat × Nat)
  blanker : Blanker
  pendBlanker : Option Blanker
  slices : Tab SliceState
  blankDuty : Nat
  adcRms : Nat
  clips : Nat
  /-- FAULTS bits: NO_SIGNAL, OVERLOAD, ADC_FAULT, NO_CLOCK, PARITY (03 R136). -/
  faults : Nat
  /-- The state is fault; it ends at the epoch after the last fault clears (03 R135). -/
  inFault : Bool
  blankEvents : Nat
  parityBlanks : Nat
  blankRun : BlankRun
  /-- ADC samples since the last epoch: the place of the next on the downconversion's clock (03 R108). -/
  adcPos : Nat
  /-- The background code histogram: samples by ADC code (0 to 255 as unsigned bytes) in the 100 ms in progress, the milliseconds of it, and
  what the last full one showed (03 R134). -/
  codes : Tab Nat
  codesMs : Nat
  codesBad : Bool
  /-- Of the millisecond: the sum of squares, the samples, the blanked samples, and those at -128 or +127. -/
  adcSq : Nat
  adcN : Nat
  blankN : Nat
  clipN : Nat
  /-- Consecutive epochs of the fault conditions (03 R134): P_pre low on every enabled slice, ADC_RMS low, neither. -/
  nosigMs : Nat
  rmsLowMs : Nat
  nosigClearMs : Nat
  overMs : Nat
  overClearMs : Nat
  /-- The millisecond of the last event of each kind and slice: key 16 x kind + slice (03 R137). -/
  sentMs : Tab Nat
  /-- Changes waiting for that interval to end: the event's kind, slice, detail and value. -/
  heldEvents : List (Nat × Nat × Nat × Int)
deriving DecidableEq, Repr

/-! ### Self-test (17 R617 to R628) -/

/-- A run-now coverage (17 R626). -/
structure RunNow where
  mode : Nat
  budget : Nat
  started : Bool
deriving DecidableEq, Repr

/-- One block's self-test record. -/
structure BstBlock where
  /-- 0 = UNTESTED, 1 = PASS, 2 = FAIL (17 R623). -/
  result : Nat
  /-- Slices completed in the current coverage, and the work they covered in us. -/
  done : Nat
  workDone : Nat
  /-- A slice of the current coverage failed. -/
  anyFail : Bool
  /-- The block owes slices of a coverage. -/
  owes : Bool
  /-- The first slice of the coverage has started; the time (ms) at which it did, and since when the block waits. -/
  begun : Bool
  beganMs : Nat
  waitMs : Nat
  /-- The time (ms) of the last full coverage. -/
  coveredMs : Option Nat
  aborts : Nat
  /-- Bit c: the slice on channel c of a channel block failed last. -/
  failedCh : Nat
  runNow : Option RunNow
  /-- The time (ms) of the last MSG_SELFTEST about an abort. -/
  abortSentMs : Option Nat
deriving DecidableEq, Repr

/-- The slice in progress. -/
structure SliceRun where
  block : Nat
  slice : Nat
  mode : Nat
  budget : Nat
deriving DecidableEq, Repr

/-- The self-test scheduler. -/
structure SelfTest where
  enable : Bool
  budget : Nat
  cycle : Nat
  /-- The time (us) of the last slot of the schedule (17 R619). -/
  slotUs : Option Nat
  blocks : Tab BstBlock
  active : Option SliceRun
  /-- The Voile correlators' slice is reserved for the next whole second (17 R620). -/
  voileReserved : Bool
  /-- The schedule has called for the slice of Damask, which waits until no lane is in a dwell (04 R181). -/
  damaskCalled : Bool
  slices : Nat
  aborted : Nat
deriving DecidableEq, Repr

/-! ### Damask (04) -/

/-- A task of the search plan (04 R165). -/
structure AcqTask where
  signal : Nat
  sv : Nat
  prio : Nat
  flags : Nat
  aprMask : Nat
  coh : Nat
  noncoh : Nat
  doppHalf : Nat
  pfa : Nat
  ho : Nat
deriving DecidableEq, Repr

/-- The search plan. -/
structure AcqPlan where
  handoff : Nat
  chLimit : Nat
  passes : Nat
  elevMask : Nat
  xcMargin : Nat
  tasks : List AcqTask
deriving DecidableEq, Repr

/-- The accumulators of one cell: the coherent sum of the block that runs, the noncoherent sum of the dwell, and the mod-7 residue beside each
(04 R146, R180). -/
structure CellSum where
  coh : Int × Int
  pow : Nat
  cohRes : Int × Int
  powRes : Nat
deriving DecidableEq, Repr

/-- A segment that waits for lanes or is in progress (04 R144, R146). -/
structure Segment where
  task : Nat
  signal : Nat
  sv : Nat
  apr : Nat
  bin : Int
  coh : Nat
  lanes : Nat
  cells : Nat
  /-- Its lanes are allocated. -/
  live : Bool
  blocksLeft : Nat
  /-- Steps left in the coherent block that runs; 0 = between blocks. -/
  stepsLeft : Nat
  /-- Fine time holds, so that the code generator wipes secondary codes and knows the bit edges (04 R145, R160). -/
  fine : Bool
  /-- The hypothesis of cell 0 at the start of the dwell (in `ms`): the place of the code, in 1/1,024,000 ns, and the Doppler in 0.01 Hz; its
  code phase advances at the rate that the Doppler implies. -/
  startMs : Nat
  tx : Int
  doppler : Int
  /-- What steering has added to the carrier phase since then, 2^-32 cycle (08 R324). -/
  feed : Int
  sums : List CellSum
  /-- When its dwell ended (in `ms`). -/
  endMs : Nat
deriving DecidableEq, Repr

/-- A satellite of the current pass (04 R168). -/
structure SatRun where
  task : Nat
  sv : Nat
  /-- Its search has begun; the bins and apertures that have been started. -/
  opened : Bool
  started : List (Int × Nat)
  /-- Its candidate has been formed in this pass, so that no further segment starts and no other candidate forms (04 R168). -/
  shut : Bool
deriving DecidableEq, Repr

/-- A candidate under verification (04 R170 to R176). -/
structure Candidate where
  task : Nat
  signal : Nat
  sv : Nat
  apr : Nat
  coh : Nat
  noncoh : Nat
  pfa : Nat
  handoff : Nat
  chLimit : Nat
  /-- Z in 1/256; the place in the code period (1/1,024,000 ns) at the time `atMs` (in `ms`), and the Doppler (0.01 Hz). -/
  z : Nat
  atMs : Nat
  tx : Int
  doppler : Int
  /-- The centre of its Doppler bin, and twice the median of the sums of the segment that made it (04 R152, R170). -/
  binDoppler : Int
  med : Nat
  /-- Fine time held for its dwell (04 R160). -/
  fine : Bool
  /-- The plan that made it, by its number, and that task's APR_MASK. -/
  plan : Nat
  mask : Nat
  passed : Nat
  /-- The segments of the verification dwell in progress; none = the next is to start. -/
  dwell : Option (List Segment)
  channel : Option Nat
  /-- Its assignment waits for the end of a self-test slice (05 R233). -/
  waits : Bool
deriving DecidableEq, Repr

/-- A host satellite record (04 R163 type 5). -/
structure SatAid where
  signal : Nat
  sv : Nat
  gpsNs : Nat
  codePhase : Nat
  doppler : Int
  codeUnc : Nat
  doppUnc : Nat
deriving DecidableEq, Repr

/-- Host aiding held (04 R157, R163). -/
structure HostAid where
  /-- GPS_NS at an epoch, T_UNC_NS, and the epoch (in `ms`); a REF 1 record, as it came, waits for its SYNC_IN edge. -/
  time : Option (Int × Nat × Nat)
  timeWaits : Option (Nat × Nat × Nat)
  pos : Option (Int × Int × Int × Nat)
  vel : Option (Int × Int × Int × Nat)
  osc : Option (Int × Nat)
  sats : List SatAid
deriving DecidableEq, Repr

/-- Damask. -/
structure Acq where
  plan : Option AcqPlan
  /-- A plan runs; it is to be aborted at the next step; it has ended (04 R184). -/
  running : Bool
  aborting : Bool
  ended : Bool
  report : Nat
  pass : Nat
  sats : List SatRun
  segs : List Segment
  /-- Segments whose dwell has ended and whose statistic is being formed. -/
  endedSegs : List Segment
  cands : List Candidate
  /-- Satellites out of the plan: task and SV (04 R168). -/
  dropped : List (Nat × Nat)
  tasksEnded : List Nat
  cells : Tab Nat
  laneSteps : Tab Nat
  passCells : Nat
  candCount : Nat
  activeMs : Nat
  /-- Active steps used in the duty window, its first label, its length in ms and its allowance, fixed when it begins (04 R148, R151). -/
  used : Nat
  windowAt : Option Nat
  windowLen : Nat
  allow : Nat
  /-- How many plans have started, and when the last one did (in `ms`). -/
  plans : Nat
  startedMs : Nat
  /-- Channels that plans assigned, each with the number of its plan (04 R165, R173). -/
  chans : List (Nat × Nat)
  results : List (List Byte)
  aid : HostAid
  /-- Epoch labels of the provisional records of a channel that each port received: key 32 x channel + port, or 16 + core (04 R177, R178). -/
  provSent : Tab (List Nat)
deriving DecidableEq, Repr

/-! ### Tracking (05) -/

/-- The codes of R209. -/
inductive ChanState where
  | free | pullIn | fll | pll | coast | burstHold
deriving DecidableEq, Repr

/-- The settings of TRK_LOOPS and TRK_CORR (05 R241, R242). -/
structure ChanCfg where
  assist : Bool
  pllOrder : Nat
  dllOrder : Nat
  pllBw : Nat
  fllBw : Nat
  dllBw : Nat
  resBw : Nat
  coh : Nat
  lossCn0 : Nat
  coast : Nat
  dllMode : Nat
  elHalf : Nat
  vevlHalf : Nat
  narrowHalf : Nat
  bocGuard : Bool
deriving DecidableEq, Repr

/-- A lag search in progress (05 R196 to R198). Lags in 1/1,024,000 ns. -/
structure LagSearch where
  /-- The window's centre, and its half-width in cells. -/
  centre : Int
  half : Nat
  group : Nat
  /-- The detected lag, while its confirmation runs. -/
  found : Option Int
  /-- Dumps of the dwell so far, the sums of the positions' powers and of |N|^2, and the prompts at the detected lag, newest first. -/
  count : Nat
  power : List Nat
  noise : Nat
  prompts : List (Int × Int)
deriving DecidableEq, Repr

/-- A complex correlator in its parts A and B (05 R205). -/
structure Corr where
  ia : Int
  qa : Int
  ib : Int
  qb : Int
deriving DecidableEq, Repr

/-- The open dump of a channel-aperture (05 R204, R205): VE, E, P, L, VL, NE, NL, N and the eighth position of a lag search; their mod-7
residues; a boundary has passed; the samples of part A; a blanked sample. -/
structure OpenDump where
  acc : List Corr
  res : List Corr
  inB : Bool
  nA : Nat
  blanked : Bool
deriving DecidableEq, Repr

/-- What is summed for the 100 ms update of a channel-aperture (05 R192, R202, R203, R214): |P|^2, |N|^2, the code discriminator (1/1,024,000
ns), |VE|, |P| and |VL| (1/256), and the dumps; and the correlators of the present 50 ms fit with its dumps, and the last fit: the code
bias, the reflected ray's delay (0.01 chip) and amplitude (1/128). -/
structure CorrMeans where
  p2 : Nat
  n2 : Nat
  disc : Int
  ve : Nat
  p : Nat
  vl : Nat
  n : Nat
  fit : List (Int × Int)
  fitN : Nat
  bias : Int
  delay : Nat
  amp : Int
deriving DecidableEq, Repr

/-- One channel-aperture. -/
structure ChanApr where
  /-- 0 = not running, 1 = lag search, 2 = code lock, 3 = phase lock, 4 = coast (05 R249). -/
  state : Nat
  /-- LAG in 1/1,024,000 ns, so that a millisecond at the lag rate (1/1024 ns/s) is exact. -/
  lag : Int
  lagRate : Int
  /-- RES: phase (2^-32 cycle) at the epoch and frequency (0.01 Hz); what they were before the last update, in use for 2 us after the epoch
  (05 R193); and LAG and RES latched at the epoch (05 R190). -/
  resPhase : Int
  resFreq : Int
  resOld : Int × Int
  latch : Int × Int × Int
  /-- DLL_MODE, EL_HALF, VEVL_HALF and NARROW_HALF under which the dump of the epoch was taken (05 R201, R242). -/
  dll : Nat × Nat × Nat × Nat
  opn : OpenDump
  means : CorrMeans
  /-- The prompt of the last dump, and the sum of its products with the anchor's over the 20 ms window (05 R213). -/
  prompt : Int × Int
  cross : Int
  /-- |P|^2 and |N|^2 of the last 20 dumps, newest first. -/
  hist : List (Nat × Nat)
  /-- The last ten 100 ms sums of |P|^2 with their dumps, and the last ten C/N0 values, newest first. -/
  pSums : List (Nat × Nat)
  cn0s : List Nat
  cn0 : Nat
  /-- The time (ms) at which the present 20 ms window began, the sums of I_P^2 and Q_P^2 over it, PLI x 100 of the last one, and the runs of good and
  bad windows. -/
  pliFrom : Nat
  sumI2 : Nat
  sumQ2 : Nat
  pli : Int
  good : Nat
  bad : Nat
  /-- The time (ms) of the last slip, of phase lock, of the start of coast, and of a residue-failed dump. -/
  slipMs : Nat
  lockMs : Nat
  coastMs : Nat
  residueMs : Option Nat
  lagLimit : Bool
  resLimit : Bool
  search : Option LagSearch
  /-- The aperture has come back while the channel is in COAST, and is to enter lag search after it (05 R229, R230). -/
  owes : Bool
  mpDelay : Nat
  mpValue : Int
  /-- Slips recorded since assignment, and at the present epoch (05 R217). -/
  slips : Nat
  slipNow : Bool
  /-- A slip since the last raw cutoff; the integer of the carrier phase while it is valid (07 R287, R293). -/
  slipSince : Bool
  cpInt : Option Int
  /-- The last dump's record as stored, whether it is committed in a bank, the wrong bits of its granules as read (01 R34), and whether an engine
  has read it. -/
  dump : List Byte
  committed : Bool
  dumpErrs : List Nat
  checked : Bool
deriving DecidableEq, Repr

/-- One channel. -/
structure Channel where
  state : ChanState
  signal : Nat
  sv : Nat
  aprMask : Nat
  anchor : Nat
  provisional : Bool
  /-- CONFIRM is due at the next measurement epoch; release with its cause is due (04 R175, R176). -/
  confirmDue : Bool
  revokeDue : Option Nat
  firstMs : Option Nat
  /-- Synchronised under R212: the place of the code generator in the secondary code and in the symbol, as the numbers to add to the count of
  primary periods of the transmit time (05 R188). -/
  sync : Bool
  secAt : Nat
  symAt : Nat
  /-- The navigation message's preamble and its week are decoded (05 R213, 07 R288). -/
  halfResolved : Bool
  weekKnown : Bool
  pin : Option Nat
  pinDue : Bool
  pinOverridden : Bool
  companion : Bool
  cohNow : Nat
  cfg : ChanCfg
  pendCfg : Option ChanCfg
  /-- An assignment or release that takes effect at the next epoch: release cause (05 R238, R240). -/
  pendAssign : Option Nat
  pendRelease : Option Nat
  /-- The shared NCOs at the last epoch: the code delay, label less transmit time (1/1,024,000 ns); the carrier phase, which sums the Doppler
  (2^-32 cycle), and the folded offset's part of the NCO phase (03 R110); the carrier frequency (10^-5 Hz) and its rate (10^-5 Hz per ms);
  the DLL's part of the code NCO rate (1/1,024,000 ns per ms, 05 R210). -/
  code : Int
  phase : Int
  ifPhase : Nat
  freq : Int
  rate : Int
  dll : Int
  /-- Code delay, carrier phase and frequency latched at the epoch (05 R190). -/
  latch : Int × Int × Int
  /-- The coherent block: dumps in it, its sums over whole symbols and whether it has any, and the sums of the symbol in progress, for VE to NL
  (05 R212); the prompt of the block before. -/
  blockPos : Nat
  block : List (Int × Int)
  blockDone : Bool
  sym : List (Int × Int)
  before : Int × Int
  /-- The registers of the carrier and code loops, and what they set at the next epoch: frequency, rate, DLL part (05 R211). -/
  carrierMem : List Int
  codeMem : List Int
  loopDue : Option (Int × Int × Int)
  /-- The anchor's prompts of the last dumps in parts A and B, and the signs of the last symbols (true = negative), newest first. -/
  prompts : List Corr
  bits : List Bool
  /-- The sign of the symbol that part A of this epoch's dumps completes (05 R193, R212). -/
  sign : Option Bool
  since : Nat
  lossCount : Nat
  coastMs : Nat
  /-- COAST was entered from PULL_IN or FLL: no epoch in PLL state has come yet (05 R201). -/
  early : Bool
  /-- The anchor has lost phase lock or its frequency has jumped: the other phase-locked apertures, whose slips of this epoch decide whether the slip
  is common (05 R218); and the last 20 ms window judged: 1 + the millisecond. -/
  comDue : Option (List Nat)
  pliMs : Nat
  commonMs : Option Nat
  commonNow : Bool
  corrChange : Bool
  exceed : Nat
  exceedDeputy : Nat
  lastVolMs : Option Nat
  jumpDue : Int
  anchorChanged : Bool
  /-- A forced hand-over is due at the next epoch; a hand-over to an aperture is, with its DETAIL (05 R221, R222). -/
  forced : Bool
  /-- The anchor's prompt power has fallen: a hand-over to the deputy is due at the next epoch (05 R222). -/
  promptDue : Bool
  handDue : Option (Nat × Nat)
  /-- The last 100 ms update: 1 + the millisecond (of `ms`). -/
  updMs : Nat
  misses : Nat
  /-- PLL was reached in this burst (05 R248). -/
  reached : Bool
  aprs : Tab ChanApr
  sentMs : Tab Nat
  heldEvents : List (Nat × Nat × Nat × Int)
deriving DecidableEq, Repr

/-- Burst tracking (05 R245 to R248). -/
structure Burst where
  on : Bool
  burstMs : Nat
  phaseMs : Nat
  missLimit : Nat
  pend : Option (Bool × Nat × Nat × Nat)
  /-- A burst runs; the islands are powered for it. -/
  active : Bool
  awake : Bool
  /-- The islands gated between bursts, which count as on (05 R246). -/
  gated : Nat
  /-- When the last burst ended: in `ms`, the label of that epoch and its place on the grid (05 R247 step 5). -/
  heldMs : Nat
  heldLabel : Nat
  heldPos : Int
deriving DecidableEq, Repr

/-! ### Voile (06) -/

/-- The value of a table for one aperture and slice: DELAY in 1/1024 ns, PHASE in 2^-24 cycle, SIGMA_D in ps, SIGMA_P in 10^-4
cycle (06 R278). -/
structure CalValue where
  delay : Int
  phase : Int
  sd : Nat
  sp : Nat
deriving DecidableEq, Repr

/-- A calibration or distribution table: values by 4 x aperture + slice, and the die temperature per aperture. -/
structure CalTable where
  values : Tab (Option CalValue)
  temps : Tab Int
  id : Nat
deriving DecidableEq, Repr

/-- The settings of CAL_VOILE (06 R275). -/
structure CalCfg where
  mode : Nat
  ref : Nat
  level : Nat
  avg : Nat
  delayThr : Nat
  phaseThr : Nat
  slices : Nat
  report : Bool
deriving DecidableEq, Repr

/-- A change of the table between its decision and its calibration epoch (06 R267, R268). -/
structure CalChange where
  /-- 1 = automatic, 2 = CAL_COMMIT, 3 = CAL_LOAD. -/
  cause : Nat
  next : CalTable
  /-- Measurement epochs passed: 0 = before E0, 8 = E7 has passed. -/
  epochs : Nat
  /-- Apertures that ran at the decision. -/
  ran : Nat
  /-- Apertures whose entries have left the change (06 R274). -/
  gone : Nat
  /-- The commit record has been sent (06 R270). -/
  announced : Bool
deriving DecidableEq, Repr

/-- A window of Voile, as it is gathered (06 R261, R262). -/
structure CalWindow where
  /-- Bit a: aperture a stopped running during the window. -/
  lost : Nat
  /-- Every estimate is invalid: bypass, suspension or a self-test slice. -/
  spoilt : Bool
  /-- It is older than an event that starts the candidates anew, so that its estimates join none (06 R266). -/
  old : Bool
  /-- Keys 4a + s whose slice was off, and on which a notch engaged or released. -/
  off : List Nat
  notched : List Nat
  /-- Sum of BLANK_DUTY per aperture, and the epochs it was taken at. -/
  duty : Tab Nat
  epochs : Nat
  /-- The registers of the correlators per key, and, from the window's end on, what the notches imposed then: delay (2^-20 ns) and phase (2^-32
  cycle) (06 R261; 03 R120). -/
  sums : Tab (List Int)
  imposed : Tab (Int × Int)
  /-- Its label, reference, slices and REPORT, from the window's end on. -/
  label : Nat
  ref : Option Nat
  slices : Nat
  report : Bool
  /-- The distribution table that holds in the window, from its end on (06 R274). -/
  dist : CalTable
deriving DecidableEq, Repr

/-- An aperture's injection level and alarm (06 R276, R280). -/
structure CalInj where
  /-- INJ of the last window, where one was measured. -/
  inj : Option Nat
  /-- Consecutive windows outside and inside the limits. -/
  outside : Nat
  inside : Nat
  /-- 0 = none, 1 = too weak, 2 = too strong. -/
  alarm : Nat
deriving DecidableEq, Repr

/-- Voile live calibration. -/
structure Cal where
  cfg : CalCfg
  pendCfg : Option CalCfg
  table : CalTable
  dist : CalTable
  /-- A distribution table that applies from the next window. -/
  distNext : Option CalTable
  /-- The copies in MRAM (06 R272). -/
  stored : Option CalTable
  storedDist : Option CalTable
  /-- A table write is in progress (06 R271). -/
  writing : Bool
  /-- The stored table has not been restored since the reset (06 R273). -/
  restoreDue : Bool
  /-- The current reference; none = no aperture runs. -/
  ref : Option Nat
  /-- VCAL_OUT carries the signal (06 R255); the 31-stage generators of the four components at the last epoch (06 R252). -/
  radiating : Bool
  gens : List (BitVec 31)
  /-- The same a millisecond earlier; empty where the signal did not run: what the filters of the components still hold (06 R251). -/
  gensOld : List (BitVec 31)
  win : CalWindow
  /-- The window that a whole second has ended, until the work of that second is done. -/
  ending : Option CalWindow
  /-- The window that has ended and whose results are not committed yet. -/
  closed : Option CalWindow
  /-- Valid window estimates per key, newest first. -/
  ests : Tab (List CalValue)
  /-- The last valid estimate per key; the keys whose last window was invalid, and whose phase is out of range. -/
  last : Tab (Option CalValue)
  invalid : List Nat
  outOfRange : List Nat
  inj : Tab CalInj
  change : Option CalChange
  /-- The change is to be abandoned at the next epoch. -/
  abandonDue : Bool
  /-- The label and the time (ms) of the last calibration epoch. -/
  epochLabel : Option Nat
  epochAt : Option Nat
deriving DecidableEq, Repr

/-! ### Shared banks (15) -/

/-- One shared bank; its bytes lie in `State.bankMem` (15 R573, R589). -/
structure Bank where
  powered : Bool
  ready : Bool
  owner : Nat
  rotate : Bool
  drain : Bool
  corrected : Nat
  uncorr : Nat
  notOwnerWr : Nat
  notOwnerRd : Nat
  offAccess : Nat
  unaligned : Nat
  stale : Nat
  refused : Nat
  scrubPasses : Nat
  /-- Byte offset of the last uncorrectable granule; none = 0xFFFF_FFFF. -/
  lastUncorr : Option Nat
  poisonFound : Bool
  /-- The granule that the scrubber visits next (15 R586). -/
  scrubPos : Nat
deriving DecidableEq, Repr

/-- A MEM_SCRUB in progress (15 R588). -/
structure ScrubJob where
  bank : Nat
  clear : Bool
  off : Nat
  len : Nat
  corrected : Nat
deriving DecidableEq, Repr

/-! ### Kernel cores (13, 14) -/

/-- A 24-bit word with its poison tag (13 R533). -/
structure KVal where
  v : BitVec 24
  t : Bool
deriving DecidableEq, Repr

/-- An accumulator with its poison tag. -/
structure KAcc where
  v : BitVec 56
  t : Bool
deriving DecidableEq, Repr

/-- A bank store that is posted and not committed (13 R517). -/
structure PostedStore where
  /-- Slot number in the bank region: word address minus 0x40_0000. -/
  slot : Nat
  val : BitVec 24
  tag : Bool
  /-- The KIND of an STX; none = the whole slot. -/
  part : Option Nat
  gen : Nat
deriving DecidableEq, Repr

/-- A bank load whose data has not returned: destination register, slot, and the KIND of an LDX. -/
structure StalledLoad where
  dest : Nat
  slot : Nat
  part : Option Nat
deriving DecidableEq, Repr

/-- Where a core stands (14 R567); `starting` counts as running (14 R553). -/
inductive CorePhase where
  | idle | starting | running | waiting | halted | faulted | quarantined
deriving DecidableEq, Repr

/-- The image store of a core, in the control cluster (14 R550, R551). -/
structure Image where
  prog : Tab (BitVec 24)
  data : Tab (BitVec 24)
  desc : Tab (BitVec 24)
  /-- One more than the highest offset held, per TARGET; 0 = nothing loaded. -/
  high : Tab Nat
  /-- The TARGETs whose MSG_KERNEL of kind 1 is due. -/
  due : List Nat
deriving DecidableEq, Repr

/-- A subscription ring of a placement (14 R552, R556). -/
structure SubRing where
  kind : Nat
  filter : Nat
  apr : Nat
  ring : Nat
  len : Nat
  wr : Nat
  rd : Nat
  seqNo : Nat
deriving DecidableEq, Repr

/-- One kernel core. -/
structure Core where
  phase : CorePhase
  watchdog : Bool
  eligible : Bool
  cause : Nat
  /-- Current generation, 0 = none; the last one carried since reset (14 R553). -/
  gen : Nat
  lastGen : Nat
  misses : Nat
  beat : Bool
  image : Image
  prog : Tab (BitVec 24)
  dmem : Tab KVal
  /-- BASE and LIMIT of CS (0) and of DS0 to DS3 (1 to 4). -/
  segs : Tab (Nat × Nat)
  regs : Tab KVal
  accs : Tab KAcc
  pc : Nat
  cyc : Nat
  ie : Bool
  /-- Repetitions left of the instruction at PC. -/
  rep : Option Nat
  /-- The load whose data lands at the end of the next instruction (13 R524). -/
  slot : Option (Nat × KVal)
  stalled : Option StalledLoad
  posted : List PostedStore
  /-- A KRN_STOP waits for the end of a REP run or of a stalled load: its DETAIL (14 R554). -/
  stopDue : Bool
  irqPend : Nat
  irqEn : Nat
  ivec : Nat
  ipc : Nat
  emitAddr : Nat
  emitLen : Nat
  emitStat : Nat
  /-- The generation that the busy emit carries. -/
  emitGen : Nat
  rings : Tab SubRing
  inbox : List (BitVec 24)
  outbox : Tab KVal
  outboxN : Nat
  faultRec : List Byte
  stale : Nat
  refused : Nat
  subDrops : Tab Nat
  emits : Nat
  /-- A failover to this core is in progress: the old core and its generation (14 R562). -/
  failFrom : Option (Nat × Nat)
deriving DecidableEq, Repr

/-- An entry on its way to a subscription ring (14 R555 to R557). -/
structure Delivery where
  core : Nat
  ring : Nat
  gen : Nat
  kind : Nat
  /-- A dump record, or the fields of a message packet. -/
  dump : Bool
  id : Nat
  cls : Nat
  inst : Nat
  chain : Nat
  body : List Byte
deriving DecidableEq, Repr

/-- The kernel cores and what serves them. -/
structure Kernels where
  cores : Tab Core
  spares : Nat
  deliveries : List Delivery
  /-- The model's own: numbers the readings of free values, so that no two of them are the same. -/
  draws : Nat
deriving DecidableEq, Repr

/-! ### Measurements, position and Tulle (07) -/

/-- A member of an aperture group (07 R299). -/
structure TulMember where
  apr : Nat
  deformable : Bool
  defLimit : Nat
  arm : Int × Int × Int
deriving DecidableEq, Repr

/-- The definition of a group. -/
structure TulDef where
  ref : Nat
  attitude : Bool
  rigidTol : Nat
  members : List TulMember
deriving DecidableEq, Repr

/-- The settings of TUL_MODE (07 R303). -/
structure TulMode where
  amb : Nat
  prov : Bool
  bw : Nat
  ratio : Nat
  elev : Nat
  systems : Nat
deriving DecidableEq, Repr

/-- An ambiguity of a member: its channel and signal-satellite, its float value (2^-16 cycle), its integer while it is fixed, the slips counted
on the member and on the reference when it was last seen, and consecutive finals with a large residual (07 R304 to R308). -/
structure TulAmb where
  ch : Nat
  signal : Nat
  sv : Nat
  float : Int
  n : Option Int
  slips : Nat
  refSlips : Nat
  bad : Nat
deriving DecidableEq, Repr

/-- The form in which a member's ambiguities of one signal stand (07 R304): in double differences, the channel of the reference satellite (255 = none
is chosen yet: the integers hold up to a common one) and its own single-difference ambiguity, integer (where it is known) and float
(2^-16 cycle). -/
structure TulForm where
  dd : Bool
  sat : Nat
  base : Option Int
  float : Int
deriving DecidableEq, Repr

/-- A provisional solution that was sent: its bound B and the vectors of its members, in micrometres, and the integers it used, by member and channel
(07 R314, R316). -/
structure TulProv where
  bound : Nat
  vecs : List (Nat × (Int × Int × Int))
  ints : List (Nat × Nat × Bool)
deriving DecidableEq, Repr

/-- An aperture group. -/
structure TulGroup where
  defn : Option TulDef
  mode : TulMode
  /-- A definition (or deletion), settings and resets that wait for the next Tulle epoch; a reset names a member, 255 = all. -/
  pendDef : Option (Option TulDef)
  pendMode : Option TulMode
  pendReset : List Nat
  /-- The reference in use. -/
  ref : Nat
  refChanged : Bool
  ambs : Tab (List TulAmb)
  /-- The form of the ambiguities, per member and signal: 256 x member + signal (07 R304). -/
  forms : Tab TulForm
  /-- The members and channels that both solutions of the epoch choose from, once the provisional cutoff has taken them (07 R317). -/
  chosen : Option (List (Nat × Nat))
  /-- The registers of the vector filter. -/
  mem : List Int
  /-- The candidate integers of the previous final, per member. -/
  cands : Tab (List (Nat × Int))
  /-- Resets at this epoch: RESET_CAUSE and the members concerned. -/
  resetCause : Option Nat
  resetMask : Nat
  /-- The retained state is poisoned: reset at the next epoch (01 R38). -/
  poisonDue : Bool
  /-- This group's own state was read poisoned since the last Tulle epoch: its messages carry POISON. -/
  poisoned : Bool
  /-- The last final: whether it carried NO_SOLUTION, and since when the group is fixed. -/
  noSolution : Bool
  fixedSince : Option Nat
  /-- When the last fixed final was made (in `ms`), and its members' vectors from the reference, micrometres (05 R197). -/
  fixedMs : Option Nat
  vecs : Tab (Int × Int × Int)
  /-- Member, channel and slip count of the final inputs of the previous Tulle epoch (07 R312). -/
  inputs : List (Nat × Nat × Nat)
  prov : Option TulProv
deriving DecidableEq, Repr

/-- The settings of NAV_CONFIG but for PVT_DIV, which stands in Rates (07 R295). -/
structure NavCfg where
  pvtDiv : Nat
  mode : Nat
  dyn : Nat
  elev : Nat
  cn0 : Nat
  systems : Nat
  point : Nat
  corrSrc : Nat
  corrNode : Nat
  ageLimit : Nat
deriving DecidableEq, Repr

/-- Correction frames taken (07 R297, R298). -/
structure Corrections where
  used : Nat
  ignored : Nat
  dropped : Nat
  station : Option Nat
  base : Option (Int × Int × Int)
  restarts : Nat
  lastMs : Option Nat
  /-- The last frame of each used type, and when it came (in `ms`) (07 R298). -/
  frames : Tab (Nat × List Byte)
deriving DecidableEq, Repr

/-- The measurement engines. -/
structure Meas where
  /-- RATE_HZ and TUL_DIV that wait for a whole-second epoch (07 R282). -/
  pendRates : Option (Nat × Nat)
  nav : NavCfg
  pendNav : Option NavCfg
  /-- Restarts of the PVT filter by a change of MODE, SYSTEMS or POINT; its registers; they are poisoned (07 R295; 01 R38). -/
  navRestarts : Nat
  navMem : List Int
  navPoison : Bool
  /-- The cutoffs of the present measurement epoch that have come: raw, provisional, final. -/
  cut : Nat
  corr : Corrections
  /-- Openly broadcast navigation-message authentication data that the last epoch delivered to the host: signal, satellite and bytes, undecoded and
  unverified; no message of the spec carries it (00 R1; log 66). -/
  authOut : List (Nat × Nat × List Byte)
  /-- The time continuity has been broken since the last Tulle epoch: the ambiguities of every group reset at the next (07 R308, R320). -/
  breakDue : Bool
  groups : Tab TulGroup
deriving DecidableEq, Repr

/-! ### The Nunar time engine (08) -/

/-- A step that is decided: its pulse boundary S and the offset D in ps (08 R342, R343). -/
structure TimeStep where
  boundary : Nat
  /-- When it falls (in `ms`). -/
  due : Nat
  d : Int
deriving DecidableEq, Repr

/-- An announced edge (08 R349, R350): its EDGE_MS, the millisecond (of `ms`) at which it falls, its place and the place of its trailing
edge on the grid, QERR in 0.01 ps, whether a notice was sent, STEP in ps, the edge's polarity, and a timecode reference marker. -/
structure PulseEdge where
  label : Nat
  due : Nat
  pos : Int
  off : Int
  qerr : Int
  notice : Bool
  step : Option Int
  falling : Bool
  frame : Bool
deriving DecidableEq, Repr

/-- TP0 or TP1 (08 R348 to R352). -/
structure TpOut where
  mode : Nat
  polarity : Nat
  notice : Bool
  period : Nat
  width : Nat
  offset : Int
  announced : List PulseEdge
  /-- The pin is high. -/
  level : Bool
  /-- A pulse is active: the place of its trailing edge, and the level after it. -/
  trail : Option (Int × Bool)
  /-- When the on-time edge of the last pulse fell (in `ms`). -/
  pulseMs : Nat
  /-- The elements of the timecode frame that the pin carries: 0, 1, or 2 for a marker (08 R354). -/
  frame : List Nat
deriving DecidableEq, Repr

/-- An event input (08 R356 to R360). -/
structure EvtIn where
  edge : Nat
  delivery : Nat
  fifo : List (List Byte)
  seq : Nat
  ovf : Nat
  ovfMsg : Nat
  logged : Bool
  /-- Flags that the next stored tag carries: an overflow before it, edges lost on the bypass clock. -/
  lostFull : Bool
  lostBypass : Bool
  /-- The grid place of the previous tagged edge. -/
  last : Option Int
deriving DecidableEq, Repr

/-- TIM_TIMECODE (08 R354). -/
structure Timecode where
  on : Bool
  format : Nat
  flags : Nat
  offset : Int
deriving DecidableEq, Repr

/-- The time solution of an epoch (08 R330): its label, A at that epoch, satellites used, chain status, and the clock estimates: aperture, the
remaining error of the time count in ps (positive = late), 1 sigma in ps and weights by slice; satellites and bias (0.01 ns) with 1 sigma (0.1 ns) by
system. -/
structure TimeFix where
  label : Nat
  a : Int
  used : Nat
  chain : Nat
  clocks : List (Nat × Int × Nat × List (Nat × Nat))
  systems : List (Nat × Nat × Int × Nat)
deriving DecidableEq, Repr

/-- The Nunar time engine. -/
structure Nunar where
  /-- The state code (08 R333). -/
  st : Nat
  scale : Nat
  source : Nat
  average : Nat
  /-- A SCALE that waits for a whole second (08 R326). -/
  pendScale : Option Nat
  /-- TC runs: an epoch has come since the MDLL last locked. -/
  running : Bool
  /-- Time has not been set since the reset or relock: the next valid source sets it by a step (08 R335, R336). -/
  first : Bool
  /-- The ideal place of the last epoch on the sample clock, in 2^-32 grid units since the MDLL locked, and the last millisecond's length
  in whole grid units (08 R323). -/
  pos : Int
  len : Nat
  /-- The length of the millisecond that runs, fixed at its first epoch, in whole grid units, and what of it the NCOs are fed forward: its
  difference from the nominal length, none in the interval of a step (08 R323, R324, R342). -/
  cur : Nat
  ff : Int
  /-- The ideal length of the millisecond that runs, in 2^-32 grid units, and the move of A in it (08 R323, R325, R341). -/
  plan : Int
  move : Int
  /-- The registers of the filter by which A follows X and of the oscillator estimate; they are poisoned (08 R325; 01 R38). -/
  filt : List Int
  mem : List Int
  poison : Bool
  /-- The latest time solution. -/
  fix : Option TimeFix
  /-- The estimate X and the applied correction A, in ps (08 R325). -/
  x : Int
  a : Int
  xSd : Nat
  /-- The estimate of the reference's frequency error, 10^-18 (08 R334). -/
  freq : Int
  freqSd : Nat
  /-- The millisecond (of `ms`) of the last valid second. -/
  validMs : Option Nat
  /-- Consecutive whole seconds without a valid source. -/
  invalid : Nat
  coastMs : Nat
  /-- The source in use: true = SYNC_IN (08 R332). -/
  src : Option Bool
  /-- A return is due: a change of source or of X (08 R332, R347). -/
  forced : Bool
  /-- The consistent seconds of a return so far, newest first (08 R338). -/
  cand : List Int
  /-- What is left of D in a slew, ps (08 R341). -/
  slew : Int
  /-- What of the rate of TC against the sample clock comes in jumps, in the millisecond in progress: a slew and the frequency removed, 10^-18 (09
  R380). -/
  rateY : Int
  step : Option TimeStep
  /-- When the first epoch of the last step fell (in `ms`) (08 R349). -/
  stepMs : Option Nat
  /-- The last label that carries time continuity broken after a step back (08 R343). -/
  brokenUntil : Option Nat
  /-- The last epoch carries time continuity broken. -/
  broken : Bool
  /-- A whole second has come that WHOLE_SECOND has not judged. -/
  secDue : Bool
  /-- The step of this epoch has been taken by TIME_STEP; its EPOCH follows (08 R342). -/
  stepped : Bool
  /-- The SYNC_IN edge of this second: its instant against the second that A predicts, ps (08 R331). -/
  sync : Option Int
  /-- Weights of the apertures and slices (4a + s) in the estimate (08 R347). -/
  weights : Tab Nat
  limitMin : Nat
  /-- The limit has been lowered below the time that COASTING has lasted: EXPIRED comes at the next whole second (08 R337). -/
  lowered : Bool
  action : Nat
  drift : Nat
  policy : Nat
  slewThr : Nat
  rate : Nat
  /-- Delays in ps at 32 x TYPE + INDEX (08 R346). -/
  delays : Tab Int
  tp : Tab TpOut
  timecode : Timecode
  events : Tab EvtIn
  /-- The systems' broadcast offsets from GPS time without whole seconds, 0.01 ns (08 R328). -/
  bcast : Tab (Option Int)
deriving DecidableEq, Repr

/-! ### Clock synthesis (09) -/

/-- One application of the correction shape: the change in 10^-18, the shape's segments (RATE, DURATION) and the milliseconds run (09
R382, R383). -/
structure Shape where
  dy : Int
  segs : List (Nat × Nat)
  t : Nat
deriving DecidableEq, Repr

/-- A clock output (09 R374 to R391). -/
structure ClkOut where
  format : Nat
  flags : Nat
  /-- D in 2^-32. -/
  div : Nat
  /-- FORMAT and D that wait for the next on-time edge (09 R376). -/
  pend : Option (Nat × Nat)
  aligned : Bool
  /-- The ideal instant of the next on-time edge, in 2^-32 grid units, once the output has started; what its spacing carries over, in units
  that shrink with the offset; and, on the grid, the last on-time edge and the high phase that goes with it (09 R375). -/
  next : Option Int
  carry : Nat
  placed : Int
  rise : Int
  fall : Int
  /-- y_H in 10^-15, without the shapes that carry it. -/
  yH : Int
  /-- The host sweep in progress: its segments (RATE, DURATION) left; and one that waits, for the next epoch or (true) a whole second
  (09 R384, R390). -/
  sweep : Option (List (Int × Nat))
  nextSweep : Option (List (Int × Nat) × Bool)
  /-- Shapes of this output alone: true = a return of y_H to 0, false = FOLLOW set or cleared (09 R384, R387). -/
  own : List (Bool × Shape)
  /-- It has been aligned to the second of a step that is still to come, and has made the step's move with it (09 R387). -/
  onStep : Bool
  /-- On the bypass clock: the ideal place of the next on-time edge, in 2^-32 of its cycles since the output runs on it, and the cycle of the last
  (09 R378). -/
  byNext : Nat
  byEdge : Nat
deriving DecidableEq, Repr

/-- An armed alignment (09 R386): the outputs still to align, SRC, and, for SRC 1, the label of its whole second; `seen`: the instant of the
SYNC_IN edge, in 2^-32 grid units; when it was armed (in `ms`). -/
structure Align where
  outputs : Nat
  src : Nat
  second : Nat
  seen : Option Int
  armedMs : Nat
deriving DecidableEq, Repr

/-- The lock sequence (09 R366): the step (1 to 3), the windows of the step so far, the search's band, step width and best band with the
distance of its count, the sign of its count's error, whether the neighbouring band has been tried, consecutive good windows. -/
structure LockSeq where
  step : Nat
  /-- The count of the search's previous window. -/
  last : Nat
  windows : Nat
  band : Nat
  best : Option (Nat × Nat × Bool)
  retry : Bool
  good : Nat
deriving DecidableEq, Repr

/-- The clock system. -/
structure Clk where
  freq : Nat
  bypass : Nat
  input : Nat
  /-- The reference is present, the frequency detected (1 to 3), the consecutive good windows, and whether a reference has been present
  under these settings (09 R365, R373). -/
  refPresent : Bool
  refFreq : Nat
  goodWindows : Nat
  wasPresent : Bool
  /-- STATE of CLK_STATUS (09 R392). -/
  st : Nat
  seq : LockSeq
  band : Option Nat
  lockCount : Nat
  losses : Nat
  searches : Nat
  outputs : Tab ClkOut
  shape : List (Nat × Nat)
  shapes : List Shape
  /-- What following outputs are behind TC, in 2^-25 x 10^-9 ps (09 R383). -/
  lag : Int
  align : Option Align
  fn : Nat
  edge : Nat
  syncEdges : Nat
  /-- The time that the reference monitor's windows have measured while no epochs run, us (09 R365, R371). -/
  bypassUs : Nat
deriving DecidableEq, Repr

/-! ### Correction link: radio (10) and modem (11) -/

/-- An entry of the channel table (10 R418). -/
structure LinkCh where
  width : Nat
  flags : Nat
  cap : Int
  freqHz : Nat
deriving DecidableEq, Repr

/-- A synthesiser entry (10 R401, R402): STATE 0 = invalid, 1 = valid, 2 = stale; TEMP in 0.5 degree C; queued by LNK_CAL; the
millisecond of the last failed calibration. -/
structure SynthEntry where
  st : Nat
  band : Nat
  cap : Nat
  pa : Nat
  temp : Int
  queued : Bool
  /-- The time of its last failed calibration, us (10 R406). -/
  failUs : Option Nat
deriving DecidableEq, Repr

/-- The synthesiser (10 R403 to R412): `op` as SYNTH of LNK_STATUS codes it from idle (1) on, the index it is on, lock, a full
calibration's success (10 R403), immediate calibrations that wait for a transmission (10 R417), the word that sets the VCO, whole multiples of 275
MHz and 24 bits of fraction (10 R398), and the codes loaded (10 R401, R403). -/
structure Synth where
  op : Nat
  ch : Option Nat
  locked : Bool
  calOk : Bool
  waiting : List Nat
  word : Nat
  band : Nat
  cap : Nat
  pa : Nat
deriving DecidableEq, Repr

/-- What LNK_ROLE sets (11 R452). -/
structure LinkRole where
  role : Nat
  node : Nat
  gen : Nat
  network : Nat
deriving DecidableEq, Repr

/-- A slot of the schedule (11 R453). -/
structure LinkSlot where
  slot : Nat
  ch : Nat
  node : Nat
  rate : Nat
  offset : Nat
  maxSym : Nat
  beacon : Bool
deriving DecidableEq, Repr

/-- A schedule. -/
structure LinkSched where
  id : Nat
  slots : List LinkSlot
deriving DecidableEq, Repr

/-- An entry of the node table (11 R455). -/
structure LinkNode where
  gen : Nat
  flags : Nat
  delay : Int
deriving DecidableEq, Repr

/-- A queued frame (11 R449, R454): the superframe of its occurrence. -/
structure TxFrame where
  slot : Nat
  type : Nat
  gen : Nat
  sf : Nat
  payload : List Byte
deriving DecidableEq, Repr

/-- A frame on the air: the frame, its slot's entry, whether a report is owed, and its symbols as coded bits in sending order (11 R428 to
R431), its samples at the channel rate with 1 as 2^20 over the FFT size, ramps included (10 R409; 11 R424 to R426), and its power at LTX, 0.25 dBm
(10 R420). -/
structure AirFrame where
  frame : TxFrame
  slot : LinkSlot
  report : Bool
  symbols : List (List Bool)
  wave : List (Int × Int)
  power : Int
deriving DecidableEq, Repr

/-- LNK_RXCFG (11 R456). -/
structure RxCfg where
  detThr : Nat
  flags : Nat
  types : Nat
  windowUs : Nat
deriving DecidableEq, Repr

/-- A header as decoded (11 R427). -/
structure LinkHdr where
  rate : Nat
  length : Nat
  node : Nat
  gen : Nat
  type : Nat
  slot : Nat
deriving DecidableEq, Repr

/-- A sample of a port's channel stream, with the attenuation it was taken at (10 R397, 11 R438). -/
structure LinkSample where
  i : BitVec 16
  q : BitVec 16
  att : Nat
deriving DecidableEq, Repr

/-- A receive port (10 R395, R397; 11 R433): its attenuator in dB; the ADC RMS of the last interval (-n/4 dBFS) with the sum of squares and the count
of the one in progress; clipped samples of the last millisecond and of this one; the decimator's registers; and its channel stream, of which at
least the last 8 symbol periods are kept (11 R438). -/
structure LinkPort where
  atten : Nat
  rms : Nat
  sq : Nat
  n : Nat
  clips : Nat
  clipNow : Nat
  mem : List Int
  stream : List LinkSample
deriving DecidableEq, Repr

/-- A reception in progress (11 R432 to R441): 0 = short training, 1 = up to the header's decision, 2 = payload; the AGC steps made since
the detection; the sample of the detection and the first after the ninth period, counted as `rxN` counts; the held watch detections (sample, power
in 0.25 dBm). -/
structure Reception where
  phase : Nat
  start : Nat
  ninth : Nat
  port : Nat
  steps : Nat
  restarted : Bool
  watch : List (Nat × Int)
  hdr : LinkHdr
  unsched : Bool
  rssi : Int
  snr : Nat
  cfo : Int
  /-- The air start on the selected scale, ps (11 R457). -/
  air : Int
  timing : Int
  /-- The superframe of its slot (11 R451, R457). -/
  sf : Nat
deriving DecidableEq, Repr

/-- The counts of a superframe (11 R458), in the order of the KIND 3 payload. -/
structure LinkCounts where
  rxOk : Nat
  hdrFails : Nat
  payFails : Nat
  preempted : Nat
  restarts : Nat
  stale : Nat
  unsched : Nat
  cutByTx : Nat
  watchIgnored : Nat
  discards : Nat
deriving DecidableEq, Repr

/-- The link. -/
structure Link where
  channels : Tab (Option LinkCh)
  entries : Tab SynthEntry
  synth : Synth
  /-- Link island temperature, 0.1 degree C. -/
  temp : Int
  power : Int
  rampUs : Nat
  lead : Nat
  /-- LNK_TXPOWER settings that wait for the next T_R (10 R420). -/
  pendPower : Option (Int × Nat × Nat)
  divMode : Nat
  polarity : Nat
  lnaCtrl : Nat
  /-- LPA_EN and LLNA_EN are active; steps 1 to 9 of a transmission run (10 R413, R416). -/
  lpa : Bool
  llna : Bool
  txWindow : Bool
  /-- The PA driver is on: from the start of an up-ramp to the end of its down-ramp (10 R400). -/
  driver : Bool
  /-- The channel of a hop that waits for the end of a down-ramp (10 R400, R405). -/
  hopDue : Option Nat
  /-- y_F taken at the last hop or full calibration, 10^-18 (10 R399). -/
  corr : Int
  corrOn : Bool
  txFrames : Nat
  lateSlots : Nat
  txAborts : Nat
  fullCals : Nat
  calFails : Nat
  lastPort : Nat
  portA : LinkPort
  portB : LinkPort
  /-- The channel that the ports are tuned to, with its mixer frequency in 2^-16 Hz of the sample clock's time after the fold (10 R395, R397, R399);
  the resampler's phase; samples delivered so far; and the grid place of the last one. -/
  tuned : Option Nat
  rxFreq : Int
  rxAcc : Nat
  rxN : Nat
  rxEnd : Int
  role : Nat
  nodeId : Nat
  gen : Nat
  network : Nat
  /-- The superframe for which the settings of LNK_ROLE wait, and the settings in force (11 R452). -/
  pendRole : Option Nat
  inForce : LinkRole
  sched : Option LinkSched
  /-- A schedule that waits for its superframe (11 R453). -/
  pendSched : Option (LinkSched × Nat)
  nodes : Tab (Option LinkNode)
  queue : List TxFrame
  rx : RxCfg
  pendRx : Option RxCfg
  /-- The superframe number, its start on the selected scale (ps) and the millisecond in which it came, and a rover's alignment while UNSET (11 R442,
  R446). -/
  sf : Nat
  sfStart : Int
  sfMs : Option Nat
  aligned : Bool
  /-- The slot whose channel the receive ports are tuned to (11 R443). -/
  rxSlot : Option Nat
  recv : Option Reception
  tx : Option AirFrame
  /-- Slots whose T_R has come in this superframe. -/
  rampDone : List Nat
  counts : LinkCounts
  /-- Per node: TIMING of its most recent frame and its superframe (11 R445). -/
  heard : Tab (Option (Int × Nat))
  /-- A full calibration that a held LNK_SEND waited for has failed (10 R412). -/
  holdFailed : Bool
deriving DecidableEq, Repr

/-! ### The whole machine -/

/-- Why the machine stops with a fault. The YK24 has no stop of its own: every error the spec names is a reply status, a
counter, a log entry, a message or a core's fault record, so no rule raises one. -/
inductive Fault where
deriving DecidableEq, Repr

/-- Why a command has no meaning. -/
inductive Refusal where
  /-- The row has no meaning yet; raised by the dispatch arm alone (safe: the run ends). -/
  | notModelled (mnemonic : String)
deriving DecidableEq, Repr

/-- The state of the YK24. -/
structure State where
  islands : Islands
  profile : Profile
  ecsol : Ecsol
  pcie : Pcie
  rates : Rates
  apertures : Tab Aperture
  front : Front
  acq : Acq
  chans : Tab Channel
  burst : Burst
  cal : Cal
  meas : Meas
  banks : Tab Bank
  /-- The bytes of the banks: bank b at b x 2^20; an unlisted byte reads as 0 (15 R581). -/
  bankMem : List Host.Cell
  /-- The poisoned granules, by their number: byte address / 32 (15 R585). -/
  poison : Tab Bool
  scrub : Option ScrubJob
  kernels : Kernels
  security : Security
  errlog : ErrLog
  power : Power
  nunar : Nunar
  clk : Clk
  link : Link
  bst : SelfTest
  /-- Decoded orbits, UTC parameters, last position and oscillator estimate: what a park stores (16 R613). -/
  nav : AidStore
  /-- Milliseconds that have passed: one per EPOCH row. -/
  ms : Nat
  /-- The label of the last epoch: milliseconds since the origin of the selected time scale (08 R323). -/
  epochMs : Nat
  /-- The label of the latest measurement epoch (07 R281). -/
  measMs : Nat
  /-- The commands that are waiting, first in, first out. -/
  pending : List Instr
deriving DecidableEq, Repr

/-- Nothing held. -/
def AidStore.empty : AidStore := { orbits := [], utc := none, pos := none, own := none, vel := none, rest := none, osc := none }

/-- After every reset only the control and host island, island 43, is on (01 R31). -/
def Islands.initial : Islands := { powered := 1 <<< 43, ready := 1 <<< 43 }

/-- The Survey column of R42 in the PRF_CUSTOM layout: the envelope after every reset (01 R42, R43, R47). -/
def Envelope.survey : Envelope :=
  { base := 2, link := true, channels := 192, aprMask := 0xFFFFFF, measRate := 20, tulRate := 20, tulGroups := 1, duty := 25,
    krnMask := 0x3, bankMask := 0xF, iqSlices := 0, outBudget := 400 }

/-- The profile after every reset and wake (01 R43). -/
def Profile.initial : Profile := { sel := 2, custom := false, env := Envelope.survey }

/-- A port after reset: nothing received, queued or cached (02 R56, R80). -/
def PortState.initial : PortState :=
  { asm := [], fresh := true, framing := 0, msgSeq := 0, cache := [], outq := [], drops := 0, dropArmed := true }

/-- No route (12 R488). -/
def Route.off : Route := { ports := 0, ring := 0, decim := 1, instMask := 0 }
/-- MSG_STATUS, MSG_ERROR, MSG_SELFTEST and MSG_WAKE go to SPI, U0 and PCIe ring 0 (12 R488). -/
def Route.status : Route := { ports := 0b01011, ring := 0, decim := 1, instMask := 0xFFFFFFFF }
/-- MSG_IQ goes to PCIe ring 3 (12 R488); its SOURCE_INSTANCE mask selects every one. -/
def Route.iq : Route := { ports := 0b01000, ring := 3, decim := 1, instMask := 0xFFFFFFFF }

/-- The command engine after every reset (02 R80, R98; 12 R470, R488, R489). -/
def Ecsol.initial : Ecsol :=
  { ports := [], held := [], window := .none,
    routes := [(0x86, Route.status), (0x87, Route.status), (0x8D, Route.iq), (0x8E, Route.status), (0x8F, Route.status)],
    filters := [], filtersNext := [], uartRate := [], uartFormer := [], bus := [], acked := 0 }

/-- An output ring after reset: every register 0 (12 R477). -/
def Ring.initial : Ring :=
  { baseLo := 0, baseHi := 0, size := 0, modUs := 0, modBytes := 0, wr := 0, rd := 0, drops := 0, fault := false,
    full := false, outq := [], unsignalled := 0, waiting := false }

/-- The endpoint after reset: registers 0, link down until it trains (12 R477, R484). -/
def Pcie.initial : Pcie :=
  { link := none, cmdEn := false, ringEn := 0, head := 0, tail := 0, irqStatus := 0, irqMask := 0, framing := 0,
    rings := [], slots := [], msixTable := [], msixPending := 0, msixSent := [], dma := [], ep := false, ur := false }

/-- An empty key slot (02 before R84). -/
def KeySlot.empty : KeySlot := { state := 0, key := [], highWater := 0, failures := 0, lockUntil := none }

/-- Security as delivered: BLANK, no keys (log 3). -/
def Security.initial : Security := { slots := [], life := .blank, op := none, workKeys := false }

/-- The error log, empty (17 R639). -/
def ErrLog.initial : ErrLog := { entries := [], overflow := none, dropped := 0, displaced := 0, kept := false }

/-- The wake configuration after VBAT power-on (16 R596). -/
def WakeCfg.initial : WakeCfg := { addr := 0x3B, sources := 0b011, timekeep := false, rtcPpm := 50, alarmS := 0 }

/-- A parked copy never written (log 3). -/
def Parked.none : Parked := { valid := false, seqNo := 0, gpsMs := Option.none, content := AidStore.empty }

/-- Power after VBAT power-on at reset release (16 R593, R606, R608): FW_READY has not come. -/
def Power.initial : Power :=
  { mode := .run, pwrEn := true, inReset := false, fwReady := false, retention := false, seq := none,
    wake := WakeCfg.initial, muslinAddr := 0x3B, armed := false, latched := 0,
    tcValid := false, tcGpsMs := 0, tcSdUs := 0, tcSinceMs := 0, stopS := 0, cause := 1, detail := 0, resets := 0,
    parked0 := Parked.none, parked1 := Parked.none, restored := false, parkedInvalid := true, parkPending := false, muted := false,
      readyMs := 0 }

/-- Rates after every reset (07 R282, R295). -/
def Rates.initial : Rates := { rateHz := 10, tulDiv := 0, pvtDiv := 1 }

/-- A notch that is off (03 R131). -/
def Notch.off : Notch :=
  { mode := 0, freq := 0, width := 0, depth := 0, rateK := 0, thresh := 0, engaged := false, est := 0,
    line := none, lowFor := 0, ramp := 0, mem := (0, 0) }

/-- The per-slice defaults (03 R131). -/
def SliceCfg.initial : SliceCfg :=
  { agcMode := 0, agcTarget := 10, agcTc := 4, jiAlert := 0, fixedGain := 0, noiseRef := none }

/-- A slice at power-up; the gain after an AGC reset is 0 dB, code 24 (log 4). -/
def SliceState.initial : SliceState :=
  { cfg := SliceCfg.initial, pendCfg := none, notches := [], pendNotches := [], notchMoved := false, gain := 24, agcFast := false, ji := 0,
    jiNb := 0,
    learnt := none, samples := [], alert := false, jiLow := 0, ddc := [], taint := 0, lineMem := [], fifo := [], preSum := 0, postSum := 0, powN := 0,
    agcSum := 0, agcN := 0, agcAvg := none, unit := [], unitBlanked := false, unitPos := 0, stream := none }

/-- The blanking defaults (03 R131). -/
def Blanker.initial : Blanker := { mode := 2, thresh := 30, slices := 0b1111, pre := 10, post := 20, run := 2 }

/-- The blanker before any sample. -/
def BlankRun.initial : BlankRun := { line := [], run := 0, on := false, post := 0, acc := 0, n := 0 }

/-- The downconversion's shared clock after reset. -/
def Front.initial : Front := { mix := [] }

/-- An aperture at power-up of its island (03 R131). -/
def Aperture.initial : Aperture :=
  { enabled := false, slicesOn := 0, pendEnable := none, phase := .disabled, sinceMs := 0, nosigDb := 10, clipLimit := 1100,
    pendNosig := none, blanker := Blanker.initial, pendBlanker := none, slices := [], blankDuty := 0, adcRms := 0, clips := 0,
    faults := 0, inFault := false, blankEvents := 0, parityBlanks := 0, blankRun := BlankRun.initial,
    adcPos := 0, codes := [], codesMs := 0, codesBad := false, adcSq := 0, adcN := 0, blankN := 0, clipN := 0, nosigMs := 0, rmsLowMs := 0,
    nosigClearMs := 0, overMs := 0,
      overClearMs := 0,
    sentMs := [], heldEvents := [] }

/-- A block after reset: untested, owing its first coverage (17 R619, R623). -/
def BstBlock.initial : BstBlock :=
  { result := 0, done := 0, workDone := 0, anyFail := false, owes := true, begun := false, beganMs := 0, waitMs := 0, coveredMs := none,
    aborts := 0, failedCh := 0, runNow := none, abortSentMs := none }

/-- The scheduler after every reset and wake (17 R625). -/
def SelfTest.initial : SelfTest :=
  { enable := true, budget := 200, cycle := 600, slotUs := none, blocks := [], active := none, voileReserved := false,
    damaskCalled := false, slices := 0,
    aborted := 0 }

/-- No host aiding (04 R157). -/
def HostAid.none : HostAid := { time := .none, timeWaits := .none, pos := .none, vel := .none, osc := .none, sats := [] }

/-- Damask after reset: no plan, no results (16 R611). -/
def Acq.initial : Acq :=
  { plan := none, running := false, aborting := false, ended := false, report := 0, pass := 0, sats := [], segs := [], endedSegs := [],
    cands := [], dropped := [], tasksEnded := [], cells := [], laneSteps := [], passCells := 0, candCount := 0, activeMs := 0,
    used := 0, windowAt := none, windowLen := 0, allow := 0, plans := 0, startedMs := 0, chans := [], results := [], aid := HostAid.none,
    provSent := [] }

/-- The settings that every assignment gives (05 R244); COH_MS is set from the signal. -/
def ChanCfg.initial : ChanCfg :=
  { assist := true, pllOrder := 2, dllOrder := 1, pllBw := 150, fllBw := 100, dllBw := 50, resBw := 50, coh := 20,
    lossCn0 := 18, coast := 20, dllMode := 0, elHalf := 50, vevlHalf := 100, narrowHalf := 10, bocGuard := true }

/-- A correlator at zero. -/
def Corr.zero : Corr := { ia := 0, qa := 0, ib := 0, qb := 0 }

/-- An open dump without samples. -/
def OpenDump.empty : OpenDump :=
  { acc := List.replicate 9 Corr.zero, res := List.replicate 9 Corr.zero, inB := false, nA := 0, blanked := false }

/-- Nothing summed. -/
def CorrMeans.none : CorrMeans :=
  { p2 := 0, n2 := 0, disc := 0, ve := 0, p := 0, vl := 0, n := 0, fit := [], fitN := 0, bias := 0, delay := 0, amp := 0 }

/-- A channel-aperture that has not been tracked; `slipMs` is written when it joins a channel (05 R217, log 62). -/
def ChanApr.initial : ChanApr :=
  { state := 0, lag := 0, lagRate := 0, resPhase := 0, resFreq := 0, resOld := (0, 0), latch := (0, 0, 0), dll := (0, 100, 100, 10),
    opn := OpenDump.empty,
    means := CorrMeans.none, prompt := (0, 0), cross := 0, hist := [], pSums := [], cn0s := [], cn0 := 0, pliFrom := 0, sumI2 := 0,
      sumQ2 := 0, pli := 0,
    good := 0, bad := 0, slipMs := 0, lockMs := 0, coastMs := 0, residueMs := none, lagLimit := false, resLimit := false, search := none, owes := false,
    mpDelay := 0, mpValue := 0, slips := 0, slipNow := false, slipSince := false, cpInt := none, dump := [], committed := false,
    dumpErrs := [], checked := false }

/-- A free channel (05 R209). -/
def Channel.free : Channel :=
  { state := .free, signal := 0, sv := 0, aprMask := 0, anchor := 255, provisional := false, confirmDue := false,
    revokeDue := none, firstMs := none, sync := false, secAt := 0, symAt := 0, halfResolved := false, weekKnown := false, pin := none,
    pinDue := false, pinOverridden := false, companion := false, cohNow := 0, cfg := ChanCfg.initial, pendCfg := none, pendAssign := none,
    pendRelease := none, code := 0, phase := 0, ifPhase := 0, freq := 0, rate := 0, dll := 0, latch := (0, 0, 0), blockPos := 0,
      block := [],
    blockDone := false, sym := [], before := (0, 0), carrierMem := [], codeMem := [], loopDue := none, prompts := [], bits := [],
    sign := none, since := 0,
    lossCount := 0, coastMs := 0, early := false, comDue := none, pliMs := 0, commonMs := none, commonNow := false, corrChange := false, exceed := 0,
    exceedDeputy := 255,
    lastVolMs := none, jumpDue := 0, anchorChanged := false, forced := false, promptDue := false, handDue := none, updMs := 0, misses := 0, reached := false,
      aprs := [],
    sentMs := [], heldEvents := [] }

/-- Burst tracking off (05 R245). -/
def Burst.initial : Burst :=
  { on := false, burstMs := 0, phaseMs := 0, missLimit := 0, pend := none, active := false, awake := false,
    gated := 0, heldMs := 0, heldLabel := 0, heldPos := 0 }

/-- An empty table: CAL_ID 0 (06 R271). -/
def CalTable.empty : CalTable := { values := [], temps := [], id := 0 }

/-- The defaults of Voile (06 R279). -/
def CalCfg.initial : CalCfg :=
  { mode := 0, ref := 255, level := 0, avg := 10, delayThr := 20, phaseThr := 10, slices := 15, report := false }

/-- A window that has gathered nothing. -/
def CalWindow.fresh : CalWindow :=
  { lost := 0, spoilt := false, old := false, off := [], notched := [], duty := [], epochs := 0, sums := [], imposed := [], label := 0,
    ref := none,
    slices := 0, report := false, dist := CalTable.empty }

/-- An aperture whose injection level has not been measured. -/
def CalInj.initial : CalInj := { inj := none, outside := 0, inside := 0, alarm := 0 }

/-- Voile after reset (06 R273, R279); the copies in MRAM are those of delivery: none (log 3). -/
def Cal.initial : Cal :=
  { cfg := CalCfg.initial, pendCfg := none, table := CalTable.empty, dist := CalTable.empty, distNext := none, stored := none,
    storedDist := none, writing := false, restoreDue := true, ref := none, radiating := false, gens := [], gensOld := [], win := CalWindow.fresh,
    ending := none,
    closed := none, ests := [], last := [], invalid := [], outOfRange := [], inj := [], change := none, abandonDue := false,
    epochLabel := none, epochAt := none }

/-- A bank after reset: off and owned by the host (15 R572, R581). -/
def Bank.initial : Bank :=
  { powered := false, ready := false, owner := 1, rotate := false, drain := false, corrected := 0, uncorr := 0, notOwnerWr := 0,
    notOwnerRd := 0, offAccess := 0, unaligned := 0, stale := 0, refused := 0, scrubPasses := 0, lastUncorr := none,
    poisonFound := false, scrubPos := 0 }

/-- SB0 to SB3 are powered and initialised; SB0 is the device's (01 R31, 15 R571 to R573). -/
def Bank.survey : Tab Bank :=
  [(0, { Bank.initial with powered := true, ready := true, owner := 0 }), (1, { Bank.initial with powered := true, ready := true }),
   (2, { Bank.initial with powered := true, ready := true }), (3, { Bank.initial with powered := true, ready := true })]

/-- A register or data word: 0 and untagged (13 R505). -/
def KVal.zero : KVal := { v := 0, t := false }
/-- An accumulator: 0 and untagged. -/
def KAcc.zero : KAcc := { v := 0, t := false }

/-- An empty image store (14 R550). -/
def Image.empty : Image := { prog := [], data := [], desc := [], high := [], due := [] }

/-- A subscription that is not used. -/
def SubRing.none : SubRing := { kind := 0, filter := 0, apr := 0, ring := 0, len := 0, wr := 0, rd := 0, seqNo := 0 }

/-- A core after reset: idle, with no image and no generation (14, after R569). -/
def Core.initial : Core :=
  { phase := .idle, watchdog := false, eligible := false, cause := 0, gen := 0, lastGen := 0, misses := 0, beat := false,
    image := Image.empty, prog := [], dmem := [], segs := [], regs := [], accs := [], pc := 0, cyc := 0, ie := false, rep := none,
    slot := none, stalled := none, posted := [], stopDue := false, irqPend := 0, irqEn := 0, ivec := 0, ipc := 0, emitAddr := 0,
    emitLen := 0, emitStat := 0, emitGen := 0, rings := [], inbox := [], outbox := [], outboxN := 0,
    faultRec := List.replicate 32 0, stale := 0, refused := 0, subDrops := [], emits := 0, failFrom := none }

/-- No core runs and the spare pool is empty. -/
def Kernels.initial : Kernels := { cores := [], spares := 0, deliveries := [], draws := 0 }

/-- TUL_MODE of a definition (07 R303). -/
def TulMode.initial : TulMode := { amb := 2, prov := true, bw := 10, ratio := 30, elev := 10, systems := 0x1F }

/-- A group that is not defined (07 R301). -/
def TulGroup.none : TulGroup :=
  { defn := .none, mode := TulMode.initial, pendDef := .none, pendMode := .none, pendReset := [], ref := 0, refChanged := false, ambs := [],
    forms := [], chosen := .none, mem := [],
    cands := [], resetCause := .none, resetMask := 0, poisonDue := false, poisoned := false, noSolution := true, fixedSince := .none, fixedMs := .none,
      vecs := [], inputs := [],
    prov := .none }

/-- NAV_CONFIG after reset (07 R295). -/
def NavCfg.initial : NavCfg :=
  { pvtDiv := 1, mode := 1, dyn := 1, elev := 10, cn0 := 25, systems := 0x1F, point := 255, corrSrc := 0, corrNode := 0, ageLimit := 30 }

/-- The measurement engines after reset. -/
def Meas.initial : Meas :=
  { pendRates := none, nav := NavCfg.initial, pendNav := none, navRestarts := 0, navMem := [], navPoison := false, cut := 3,
    corr := { used := 0, ignored := 0, dropped := 0, station := none, base := none, restarts := 0, lastMs := none, frames := [] },
    authOut := [], breakDue := false, groups := [] }

/-- TP1 after reset: MODE 0; its other settings are TP0's (08 R363). -/
def TpOut.initial : TpOut :=
  { mode := 0, polarity := 0, notice := false, period := 1000, width := 100000, offset := 0, announced := [], level := false,
    trail := none, pulseMs := 0, frame := [] }

/-- An event input after reset (08 R363). -/
def EvtIn.initial : EvtIn :=
  { edge := 0, delivery := 0, fifo := [], seq := 0, ovf := 0, ovfMsg := 0, logged := false, lostFull := false, lostBypass := false,
    last := none }

/-- Nunar after reset (08 R336, R363). -/
def Nunar.initial : Nunar :=
  { st := 0, scale := 0, source := 0, average := 0, pendScale := none, running := false, first := true, pos := 0, len := 35200000,
    cur := 35200000, ff := 0, plan := 151182848819200000, move := 0, filt := [], mem := [], poison := false, fix := none,
    x := 0, a := 0, xSd := 0, freq := 0, freqSd := 0, validMs := none, invalid := 0, coastMs := 0, src := none, forced := false, cand := [],
    slew := 0, rateY := 0, step := none, stepMs := none, brokenUntil := none, broken := false, secDue := false, stepped := false, sync := none,
      weights := [], limitMin := 0, lowered := false,
    action := 0, drift := 1000, policy := 1, slewThr := 200, rate := 50, delays := [],
    tp := [(0, { TpOut.initial with mode := 1 })],
    timecode := { on := false, format := 0, flags := 0, offset := 0 }, events := [], bcast := [] }

/-- A clock output after reset (09 R394). -/
def ClkOut.initial : ClkOut :=
  { format := 0, flags := 0, div := 0, pend := none, aligned := false, next := none, carry := 0, placed := 0, rise := 0, fall := 0,
    yH := 0, sweep := none, nextSweep := none, own := [], onStep := false, byNext := 0, byEdge := 0 }

/-- The lock sequence at its start (09 R366). -/
def LockSeq.start : LockSeq := { step := 1, last := 0, windows := 0, band := 8, best := none, retry := false, good := 0 }

/-- The clock system after reset (09 R394): on its bypass clock until the first lock. -/
def Clk.initial : Clk :=
  { freq := 0, bypass := 0, input := 0, refPresent := false, refFreq := 0, goodWindows := 0, wasPresent := false, st := 1,
    seq := LockSeq.start, band := none, lockCount := 0, losses := 0, searches := 0, outputs := [], shape := [(16384, 1024)], shapes := [],
    lag := 0, align := none, fn := 0, edge := 0, syncEdges := 0, bypassUs := 0 }

/-- An index without a synthesiser entry (10 R402). -/
def SynthEntry.invalid : SynthEntry := { st := 0, band := 0, cap := 0, pa := 0, temp := 0, queued := false, failUs := none }
/-- The synthesiser at power-up. -/
def Synth.initial : Synth := { op := 1, ch := none, locked := false, calOk := false, waiting := [], word := 0, band := 0, cap := 0, pa := 0 }
/-- A receive port at power-up. -/
def LinkPort.initial : LinkPort :=
  { atten := 0, rms := 0, sq := 0, n := 0, clips := 0, clipNow := 0, mem := [], stream := [] }
/-- A superframe's counts at its start. -/
def LinkCounts.zero : LinkCounts :=
  { rxOk := 0, hdrFails := 0, payFails := 0, preempted := 0, restarts := 0, stale := 0, unsched := 0, cutByTx := 0, watchIgnored := 0,
    discards := 0 }
/-- The idle role (11 R459). -/
def LinkRole.idle : LinkRole := { role := 0, node := 0, gen := 0, network := 0 }
/-- The link after reset (10 R423, 11 R459). -/
def Link.initial : Link :=
  { channels := [], entries := [], synth := Synth.initial, temp := 0, power := 0, rampUs := 8, lead := 10, pendPower := none, divMode := 2,
    polarity := 0, lnaCtrl := 0, lpa := false, llna := false, txWindow := false, driver := false, hopDue := none, corr := 0, corrOn := false,
    txFrames := 0, lateSlots := 0,
    txAborts := 0, fullCals := 0, calFails := 0, lastPort := 255, portA := LinkPort.initial, portB := LinkPort.initial, tuned := none,
      rxFreq := 0,
    rxAcc := 0, rxN := 0, rxEnd := 0, role := 0, nodeId := 0,
    gen := 0, network := 0, pendRole := none, inForce := LinkRole.idle, sched := none, pendSched := none, nodes := [], queue := [],
    rx := { detThr := 32, flags := 0, types := 3, windowUs := 50 }, pendRx := none, sf := 0, sfStart := 0, sfMs := none, aligned := false,
    rxSlot := none, recv := none, tx := none, rampDone := [], counts := LinkCounts.zero, heard := [], holdFailed := false }

/-- The machine right after reset: VBAT power-on at the release of reset, before FW_READY (16 R593, R606, R608). -/
def State.reset : State :=
  { islands := Islands.initial, profile := Profile.initial, ecsol := Ecsol.initial, pcie := Pcie.initial,
    rates := Rates.initial, apertures := [], front := Front.initial, acq := Acq.initial, chans := [], burst := Burst.initial,
      cal := Cal.initial, meas := Meas.initial, banks := Bank.survey, bankMem := [],
    poison := [], scrub := none, kernels := Kernels.initial,
    security := Security.initial, errlog := ErrLog.initial, power := Power.initial, nunar := Nunar.initial, clk := Clk.initial,
      link := Link.initial, bst := SelfTest.initial, nav := AidStore.empty, ms := 0, epochMs := 0, measMs := 0, pending := [] }

end Sys2Proof.Machine
end

