-- ==== Sys2Proof/Machine/LinkAir.lean ====
section
/-! DEFINITION. The air interface of the correction link, bit by bit and sample by sample: numerology, header, scrambler, code, puncturing,
interleaving, mapping, pilots, training and ramps (11 R424 to R431, 10 R409). -/
namespace Sys2Proof.Machine

/-- FFT size of a width (11 R424). -/
def airFft (w : Nat) : Nat := 32 <<< w
/-- Data subcarriers of a width. -/
def airData (w : Nat) : Nat := 24 <<< w
/-- SIGNAL symbols of a width. -/
def airSig (w : Nat) : Nat := 4 >>> w
/-- The highest used subcarrier of a width (11 R425). -/
def airEdge : Nat → Nat
  | 0 => 14 | 1 => 26 | _ => 52
/-- The positive pilot subcarriers of a width (11 R425). -/
def airPilots : Nat → List Nat
  | 0 => [3, 10] | 1 => [7, 21] | _ => [7, 21, 35, 49]
/-- The data subcarriers of a width in the order in which they are filled (11 R425). -/
def airDataCarriers (w : Nat) : List Int :=
  let pos := (upto (airEdge w + 1)).filter (fun k => k != 0 && !(airPilots w).contains k)
  pos.reverse.map (fun (k : Nat) => -(Int.ofNat k)) ++ pos.map Int.ofNat
/-- The used subcarriers of a width, in rising order. -/
def airUsed (w : Nat) : List Int :=
  let pos := (upto (airEdge w + 1)).filter (· != 0)
  pos.reverse.map (fun (k : Nat) => -(Int.ofNat k)) ++ pos.map Int.ofNat

/-- N_DBPS at 400 kHz of a rate code (11 R431). -/
def airDbps : Nat → Nat
  | 0 => 12 | 1 => 16 | 2 => 18 | 3 => 24 | 4 => 32 | 5 => 36 | 6 => 48 | 7 => 64 | _ => 72
/-- Coded bits per subcarrier of a rate code. -/
def airBpsc (r : Nat) : Nat := if r < 3 then 1 else if r < 6 then 2 else 4
/-- N_SYM (11 R428, R431). -/
def airSym (r w len : Nat) : Nat := if len = 0 then 0 else cdiv (8 * len + 38) (airDbps r <<< w)
/-- T_F in us for `n` payload symbols (11 R431). -/
def airUs (w n : Nat) : Nat := 360 + 90 * (airSig w + n)

/-- `n` bits of `v`, bit 0 first. -/
def bitsLsb (n v : Nat) : List Bool := (upto n).map (fun i => v.testBit i)

/-- CRC-8, x^8 + x^2 + x + 1, initial value 0xFF, no final inversion, over bits in sending order (11 R427). -/
def crc8 (bs : List Bool) : Nat :=
  bs.foldl (fun c b => let t := (c * 2) % 256; if c.testBit 7 != b then Nat.xor t 7 else t) 255

/-- The 34 header bits before HCRC (11 R427). -/
def hdrBits (h : LinkHdr) : List Bool :=
  bitsLsb 4 h.rate ++ bitsLsb 12 h.length ++ bitsLsb 6 h.node ++ bitsLsb 4 h.gen ++ bitsLsb 2 h.type ++ bitsLsb 6 h.slot

/-- The 48 header bits (11 R427). -/
def hdrAll (h : LinkHdr) : List Bool := hdrBits h ++ bitsLsb 8 (crc8 (hdrBits h)) ++ List.replicate 6 false

/-- A header from its 48 bits, bit 0 first (11 R427). -/
def hdrOf (v : Nat) : LinkHdr :=
  { rate := bitsOf v 3 0, length := bitsOf v 15 4, node := bitsOf v 21 16, gen := bitsOf v 25 22, type := bitsOf v 27 26,
    slot := bitsOf v 33 28 }

/-- The header passes: HCRC, RATE, LENGTH and TYPE (11 R437). -/
def hdrOk (v : Nat) : Bool :=
  let h := hdrOf v
  crc8 (bitsLsb 34 v) == bitsOf v 41 34 && decide (h.rate ≤ 8) && decide (h.length ≤ 2048) && h.type != 3

/-- The x^7 + x^4 + 1 sequence from a 7-bit state: each bit is x7 + x4, and enters at x1 (11 R428, R430). -/
def scrambleSeq : Nat → Nat → List Bool
  | 0, _ => []
  | n + 1, st =>
    let b := st.testBit 6 != st.testBit 3
    b :: scrambleSeq n ((st * 2) % 128 + b2n b)

/-- Scramble a stream. -/
def scramble (seed : Nat) (bs : List Bool) : List Bool := (bs.zip (scrambleSeq bs.length seed)).map (fun x => x.1 != x.2)

/-- The pilot polarity of symbol `i`: true = -1 (11 R430). -/
def pilotNeg (i : Nat) : Bool := (scrambleSeq (i + 1) 127).getLastD false

/-- The parity of the bits of a 7-bit number. -/
def parity7 (v : Nat) : Bool := popcount 7 v % 2 == 1

/-- The convolutional code, K = 7, generators 133 and 171 octal, from a state of six bits; the newest bit is the highest (11
R429). Answers pairs A, B. -/
def convolve : Nat → List Bool → List (Bool × Bool)
  | _, [] => []
  | st, b :: rest =>
    let r := 64 * b2n b + st
    (parity7 (r &&& 91), parity7 (r &&& 121)) :: convolve (r / 2) rest

/-- Puncturing to rate 2/3: A1 B1 A2 (11 R429). -/
def puncture23 : List (Bool × Bool) → List Bool
  | x :: y :: rest => x.1 :: x.2 :: y.1 :: puncture23 rest
  | [x] => [x.1, x.2]
  | [] => []
/-- Puncturing to rate 3/4: A1 B1 A2 B3. -/
def puncture34 : List (Bool × Bool) → List Bool
  | x :: y :: z :: rest => x.1 :: x.2 :: y.1 :: z.2 :: puncture34 rest
  | [x, y] => [x.1, x.2, y.1]
  | [x] => [x.1, x.2]
  | [] => []

/-- The coded bits of a stream at a rate code's code rate. -/
def airCode (r : Nat) (bs : List Bool) : List Bool :=
  let c := convolve 0 bs
  if r % 3 = 0 then c.flatMap (fun x => [x.1, x.2]) else if r % 3 = 1 then puncture23 c else puncture34 c

/-- The interleaver of one symbol: coded bit i is sent in position (N / 12) (i mod 12) + floor(i / 12); the bit sent in position p is
coded bit 12 (p mod (N / 12)) + p / (N / 12) (11 R429). -/
def interleave (sym : List Bool) : List Bool :=
  let n := sym.length / 12
  (upto sym.length).map (fun p => sym.getD (12 * (p % n) + p / n) false)

/-- Cut coded bits into interleaved symbols. -/
def airSymbols (cbps : Nat) (bs : List Bool) : List (List Bool) := (chunks cbps bs.length bs).map interleave

/-- The payload's bit stream, scrambled, with the tail zeroed (11 R428). -/
def payloadBits (r w seed : Nat) (pl : List Byte) : List Bool :=
  let data := (pl ++ le 4 (crc32c pl)).flatMap (fun b => bitsLsb 8 b.toNat)
  let total := airSym r w pl.length * (airDbps r <<< w)
  let s := scramble seed (data ++ List.replicate (total - data.length) false)
  s.take data.length ++ List.replicate 6 false ++ s.drop (data.length + 6)

/-- The scrambler seed of a slot (11 R428). -/
def airSeed (network slot : Nat) : Nat := (network + slot) % 127 + 1

/-- The symbols of a frame after its training, as coded bits in sending order (11 R427 to R429). -/
def airFrame (w network : Nat) (h : LinkHdr) (pl : List Byte) : List (List Bool) :=
  airSymbols (airData w) (airCode 0 (hdrAll h))
    ++ (if pl.isEmpty then [] else
      airSymbols (airData w * airBpsc h.rate) (airCode h.rate (payloadBits h.rate w (airSeed network h.slot) pl)))

/-! ### Samples (11 R424 to R426, R429, R430; 10 R409) -/

/-- The amplitude that stands for 1. -/
def airUnit : Int := 2 ^ 20
/-- exp (j 2 pi m / n). -/
def unitTurn (m : Int) (n : Nat) : Int × Int := turn (roundDiv (m * 2 ^ 32) n) (airUnit, 0)
/-- The sum of complex numbers. -/
def sumC (l : List (Int × Int)) : Int × Int := l.foldl (fun z v => (z.1 + v.1, z.2 + v.2)) (0, 0)
/-- The product of a number with the conjugate of another. -/
def mulConj (x y : Int × Int) : Int × Int := (x.1 * y.1 + x.2 * y.2, x.2 * y.1 - x.1 * y.2)
/-- The squared magnitude. -/
def normSq (x : Int × Int) : Nat := (x.1 * x.1 + x.2 * x.2).toNat
/-- The sum of squared magnitudes. -/
def powerOf (l : List (Int × Int)) : Nat := l.foldl (fun n x => n + normSq x) 0

/-- The level of two Gray-coded bits: 00, 01, 11, 10 upwards (11 R429). -/
def grayLevel (a b : Bool) : Int := if a then (if b then 1 else 3) else (if b then -1 else -3)

/-- The point that a group of bits is mapped to: BPSK, QPSK at 1 / sqrt 2, 16-QAM at 1 / sqrt 10 (11 R429). -/
def airPoint (bpsc : Nat) (b : List Bool) : Int × Int :=
  let x := fun i => b.getD i false
  let s := fun i => if x i then (1 : Int) else -1
  if bpsc = 1 then (airUnit * s 0, 0)
  else if bpsc = 2 then (741455 * s 0, 741455 * s 1)
  else (331589 * grayLevel (x 0) (x 1), 331589 * grayLevel (x 2) (x 3))

/-- The pilots of symbol `i` (11 R430). -/
def airPilotsOf (w i : Nat) : List (Int × (Int × Int)) :=
  let top := (airPilots w).getLastD 0
  let p : Int := if pilotNeg i then -airUnit else airUnit
  (airPilots w).flatMap (fun (k : Nat) => [(-(k : Int), (p, 0)), ((k : Int), (if k = top then -p else p, 0))])

/-- The spectrum of symbol `i`, with its coded bits in sending order (11 R425, R429, R430). -/
def airSpectrum (w bpsc i : Nat) (bits : List Bool) : List (Int × (Int × Int)) :=
  (airDataCarriers w).zip ((chunks bpsc (airData w) bits).map (airPoint bpsc)) ++ airPilotsOf w i

/-- Sample `n` of the inverse FFT of a spectrum. -/
def spectrumAt (w : Nat) (spec : List (Int × (Int × Int))) (n : Int) : Int × Int :=
  let z := sumC (spec.map (fun x => turn (roundDiv (x.1 * n * 2 ^ 32) (airFft w)) x.2))
  (roundDiv z.1 (airFft w), roundDiv z.2 (airFft w))

/-- The first `m` samples of the inverse FFT of a spectrum from sample `n` on. -/
def spectrumFrom (w : Nat) (spec : List (Int × (Int × Int))) (n : Int) (m : Nat) : List (Int × Int) :=
  (upto m).map (fun (i : Nat) => spectrumAt w spec (n + i))

/-- The short-training spectrum (11 R426). -/
def stfSpectrum (w : Nat) : List (Int × (Int × Int)) :=
  let ks := (airUsed w).filter (fun k => k % 4 == 0)
  let a : Int := isqrt (2 ^ 40 * (airUsed w).length / ks.length)
  ks.map (fun k => (k, turn (roundDiv (k / 4 * (k / 4) * 2 ^ 32) 32) (a, 0)))

/-- The long-training spectrum (11 R426). -/
def ltfSpectrum (w : Nat) : List (Int × (Int × Int)) := (airUsed w).map (fun k => (k, unitTurn (k * k) (2 * airFft w)))

/-- One 20 us period of the short training. -/
def stfPeriod (w : Nat) : List (Int × Int) := spectrumFrom w (stfSpectrum w) 0 (airFft w / 4)
/-- The long symbol. -/
def ltfSymbol (w : Nat) : List (Int × Int) := spectrumFrom w (ltfSpectrum w) 0 (airFft w)

/-- The training of a frame (11 R426). -/
def airTraining (w : Nat) : List (Int × Int) :=
  let p := stfPeriod w
  let l := ltfSymbol w
  (List.replicate 8 p).flatten ++ p.map (fun x => (-x.1, -x.2)) ++ l.drop (3 * airFft w / 4) ++ l ++ l

/-- The spectra of the SIGNAL and payload symbols of a frame. -/
def frameSpectra (w : Nat) (rate : Nat) (symbols : List (List Bool)) : List (List (Int × (Int × Int))) :=
  symbols.zipIdx.map (fun x => airSpectrum w (if x.2 < airSig w then 1 else airBpsc rate) x.2 x.1)

/-- w(t) of a ramp of RAMP_US at the sample `m` samples away from its loud end, where t is RAMP_US less `m` samples of 10 us / (4 << w) (10 R397,
R409). -/
def rampAt (w ramp m : Nat) : Int :=
  (airUnit - (unitTurn ((((4 <<< w) * ramp : Nat) : Int) - (10 * m : Nat)) (2 * ((4 <<< w) * ramp))).1) / 2
/-- A sample under a ramp. -/
def scaleC (g : Int) (x : Int × Int) : Int × Int := (roundDiv (x.1 * g) (2 ^ 20), roundDiv (x.2 * g) (2 ^ 20))

/-- A frame as it is transmitted: the up-ramp with the first symbol's cyclic continuation, training, symbols with their prefixes, and the down-ramp
with the last symbol's (10 R409; 11 R424, R426). -/
def airWave (w ramp rate : Nat) (symbols : List (List Bool)) : List (Int × Int) :=
  let n := airFft w
  let specs := frameSpectra w rate symbols
  let body := specs.flatMap (fun x => spectrumFrom w x (-(n / 8 : Nat)) (n / 8 + n))
  let len := ((4 <<< w) * ramp - 1) / 10
  let first := stfSpectrum w
  let last := specs.getLastD []
  let up := (upto len).map (fun (i : Nat) => scaleC (rampAt w ramp (len - i)) (spectrumAt w first ((i : Int) - len)))
  let down := (upto (len + 1)).map (fun (i : Nat) => scaleC (rampAt w ramp i) (spectrumAt w last (i : Int)))
  up ++ airTraining w ++ body ++ down

end Sys2Proof.Machine
end

