-- ==== Sys2Proof/Machine/LinkPhy.lean ====
section
/-! DEFINITION. The correction link's receiver on channel samples: detection, timing, equaliser, pilots, demapping and decoding (11 R432 to R436).
What the spec states no estimator for is the model's choice (log 57). -/
namespace Sys2Proof.Machine

/-! ### Detection (11 R432) -/

/-- The autocorrelation of samples at a lag. -/
def lagSum (lag : Nat) (xs : List (Int × Int)) : Int × Int := sumC (((xs.drop lag).zip xs).map (fun p => mulConj p.1 p.2))

/-- The normalised autocorrelation of 40 us at a lag of 20 us (`l` samples) reaches `thr` / 64. -/
def metricReached (thr l : Nat) (xs : List (Int × Int)) : Bool :=
  let q := powerOf (xs.take l) * powerOf (xs.drop l)
  q != 0 && decide (thr * thr * q ≤ 4096 * normSq (lagSum l xs))

/-- A cross-correlation of 20 us with the short-training period, at one of its phases, confirms it. -/
def stfConfirms (w thr : Nat) (xs : List (Int × Int)) : Bool :=
  let p := stfPeriod w
  (upto p.length).any (fun c =>
    let r := p.drop c ++ p.take c
    decide (thr * thr * (powerOf xs * powerOf p) ≤ 4096 * normSq (sumC ((xs.zip r).map (fun z => mulConj z.1 z.2)))))

/-- The last `n` samples. -/
def lastOf {α : Type} (n : Nat) (xs : List α) : List α := xs.drop (xs.length - n)

/-- A detection at the end of these samples: the metric at two evaluations 20 us apart, confirmed. -/
def detects (w thr : Nat) (xs : List (Int × Int)) : Bool :=
  let l := airFft w / 4
  let z := lastOf (3 * l) xs
  decide (z.length = 3 * l) && metricReached thr l (z.drop l) && metricReached thr l (z.take (2 * l)) && stfConfirms w thr (z.drop (2 * l))

/-- The last 20 us negate the period before them. -/
def ninthNegated (w : Nat) (xs : List (Int × Int)) : Bool :=
  let l := airFft w / 4
  let z := lastOf (3 * l) xs
  decide (z.length = 3 * l) && decide ((mulConj (lagSum l (z.drop l)) (lagSum l (z.take (2 * l)))).1 < 0)

/-! ### Carrier, timing, equaliser (11 R435) -/

/-- What the training of a frame gives: the carrier offset in 2^-32 cycle per 80 us, the place of the first long symbol, and twice the tap of each
used subcarrier. -/
structure AirSync where
  per80 : Int
  start : Nat
  taps : List (Int × (Int × Int))

/-- The offset, coarsely from the short training and finely from the long symbols, whose guard begins at `e`. -/
def carrierOffset (w e : Nat) (xs : List (Int × Int)) : Int :=
  let n := airFft w
  let part := fun (from' len : Nat) => (xs.drop from').take len
  let a := lagSum (n / 4) (part (e - n) (3 * n / 4))
  let b := lagSum n (part (e + n / 4) (2 * n))
  let coarse := 4 * arctan4q a.1 a.2
  let fine := arctan4q b.1 b.2
  fine + 2 ^ 32 * roundDiv (coarse - fine) (2 ^ 32)

/-- Samples with the offset removed. -/
def derotate (w : Nat) (per80 : Int) (xs : List (Int × Int)) : List (Int × Int) :=
  xs.zipIdx.map (fun x => turn (-(roundDiv (per80 * x.2) (airFft w))) x.1)

/-- The DFT of a symbol on the used subcarriers. -/
def spectrumOf (w : Nat) (xs : List (Int × Int)) : List (Int × (Int × Int)) :=
  (airUsed w).map (fun k => (k, sumC (xs.zipIdx.map (fun x => turn (-(roundDiv (k * x.2 * 2 ^ 32) (airFft w))) x.1))))

/-- How well the long symbols fit at `at'`. -/
def ltfFit (w at' : Nat) (xs : List (Int × Int)) : Nat :=
  let n := airFft w
  let l := ltfSymbol w
  let c := fun (i : Nat) => normSq (sumC ((((xs.drop i).take n).zip l).map (fun z => mulConj z.1 z.2)))
  c at' + c (at' + n)

/-- The earliest of the places with the best fit. -/
def bestFit (f : Nat → Nat) : List Nat → Nat → Nat
  | [], b => b
  | a :: t, b => bestFit f t (if f b < f a then a else b)

/-- Synchronisation on samples whose training guard begins at `e`: symbol timing within a prefix, and the taps from the two long symbols. -/
def airSync (w e : Nat) (xs : List (Int × Int)) : AirSync :=
  let n := airFft w
  let per80 := carrierOffset w e xs
  let ys := derotate w per80 xs
  let nominal := e + n / 4
  let fits := (upto (n / 4 + 1)).map (fun d => nominal + d - n / 8)
  let at' := bestFit (fun i => ltfFit w i ys) fits nominal
  let y1 := spectrumOf w ((ys.drop at').take n)
  let y2 := spectrumOf w ((ys.drop (at' + n)).take n)
  { per80 := per80, start := at',
    taps := (y1.zip y2).map (fun p =>
      (p.1.1, turn (-(roundDiv (p.1.1 * p.1.1 * 2 ^ 32) (2 * n))) (p.1.2.1 + p.2.2.1, p.1.2.2 + p.2.2.2))) }

/-- The signal-to-noise ratio of the long symbols, 0.25 dB, saturating. -/
def ltfSnr (w : Nat) (y : AirSync) (ys : List (Int × Int)) : Nat :=
  let n := airFft w
  let a := spectrumOf w ((ys.drop y.start).take n)
  let b := spectrumOf w ((ys.drop (y.start + n)).take n)
  let s := (a.zip b).foldl (fun m p => m + normSq (p.1.2.1 + p.2.2.1, p.1.2.2 + p.2.2.2)) 0
  let d := (a.zip b).foldl (fun m p => m + normSq (p.1.2.1 - p.2.2.1, p.1.2.2 - p.2.2.2)) 0
  if d = 0 then 255 else (roundLog 40 (s - d) (2 * d) 0 255).toNat

/-- The delay of the taps against the sample grid, 2^-32 of 80 us: the slope of their phase across the subcarriers. -/
def tapDelay (y : AirSync) : Int :=
  let z := sumC (((y.taps.drop 1).zip y.taps).map (fun p => if p.1.1 = p.2.1 + 1 then mulConj p.1.2 p.2.2 else (0, 0)))
  0 - arctan4q z.1 z.2

/-- The data points of symbol `i`, 1 as 2^16, in the order of the subcarriers: equalised, with the common phase, the phase slope and the common
amplitude that its pilots show removed. -/
def symbolPoints (w : Nat) (y : AirSync) (ys : List (Int × Int)) (i : Nat) : List (Int × Int) :=
  let n := airFft w
  let at' := y.start + 2 * n + i * (n + n / 8) + n / 8
  let spec := spectrumOf w ((ys.drop at').take n)
  let zs := (spec.zip y.taps).map (fun p => (p.1.1, mulConj p.1.2 p.2.2, normSq p.2.2))
  let known := airPilotsOf w i
  let ps := zs.filterMap (fun z => (known.find? (fun p => p.1 == z.1)).map (fun p =>
    (z.1, (if p.2.1 < 0 then (-z.2.1.1, -z.2.1.2) else z.2.1), z.2.2)))
  let c := sumC (ps.map (fun p => p.2.1))
  let common := arctan4q c.1 c.2
  let slopes := ps.foldl (fun (m : Int) p => let r := turn (-common) p.2.1; m + p.1 * arctan4q r.1 r.2) 0
  let slope := roundDiv slopes (ps.foldl (fun (m : Nat) p => m + p.1.natAbs * p.1.natAbs) 0)
  let fix := fun (k : Int) (v : Int × Int) => turn (-(common + slope * k)) v
  let amp := ps.foldl (fun (m : Int) p => m + (fix p.1 p.2.1).1) 0
  let taps : Nat := ps.foldl (fun m p => m + p.2.2) 0
  (zs.filter (fun z => !(airPilots w).contains z.1.natAbs)).map (fun z =>
    let v := fix z.1 z.2.1
    let d := z.2.2 * amp.toNat
    (roundDiv (v.1 * 65536 * taps) d, roundDiv (v.2 * 65536 * taps) d))

/-! ### Demapping and decoding (11 R427 to R429) -/

/-- The soft bits of a point: positive for 1. -/
def softBits (bpsc : Nat) (v : Int × Int) : List Int :=
  if bpsc = 1 then [v.1]
  else if bpsc = 2 then [v.1, v.2]
  else [v.1, 41449 - v.1.natAbs, v.2, 41449 - v.2.natAbs]

/-- The coded bits of a symbol in the order of the code (11 R429). -/
def deinterleave (sym : List Int) : List Int :=
  let n := sym.length / 12
  (upto sym.length).map (fun i => sym.getD (n * (i % 12) + i / 12) 0)

/-- Pairs A, B for the decoder; what puncturing left out weighs nothing (11 R429). -/
def depuncture (r : Nat) (bits : List Int) : List (Int × Int) :=
  (chunks (2 + r % 3) bits.length bits).flatMap (fun c =>
    let x := fun i => c.getD i 0
    if r % 3 = 0 then [(x 0, x 1)] else if r % 3 = 1 then [(x 0, x 1), (x 2, 0)] else [(x 0, x 1), (x 2, 0), (0, x 3)])

/-- What a pair of soft bits is worth for a branch of the code. -/
def branchGain (r : Nat) (z : Int × Int) : Int :=
  (if parity7 (r &&& 91) then z.1 else -z.1) + (if parity7 (r &&& 121) then z.2 else -z.2)

/-- One step of the search for the most likely path: for each state of six bits its worth and its bits, newest first. -/
def pathStep (z : Int × Int) (paths : List (Int × List Bool)) : List (Int × List Bool) :=
  (upto 64).map (fun s =>
    let b := decide (32 ≤ s)
    let p := 2 * (s % 32)
    let x := paths.getD p (0, [])
    let y := paths.getD (p + 1) (0, [])
    let gx := x.1 + branchGain (64 * b2n b + p) z
    let gy := y.1 + branchGain (64 * b2n b + p + 1) z
    if gx < gy then (gy, b :: y.2) else (gx, b :: x.2))

/-- The most likely input of the code from the zero state (11 R429). -/
def airDecode (zs : List (Int × Int)) : List Bool :=
  let low : Int := -(2 ^ 60)
  let start := (0, []) :: List.replicate 63 (low, [])
  let paths := zs.foldl (fun p z => pathStep z p) start
  (paths.foldl (fun (best : Int × List Bool) p => if best.1 < p.1 then p else best) (low - 1, [])).2.reverse

/-- The decoded bits of symbols `from'` to `from' + n` at a rate code. -/
def decodeSymbols (w r bpsc from' n : Nat) (y : AirSync) (ys : List (Int × Int)) : List Bool :=
  airDecode (depuncture r ((upto n).flatMap (fun i => deinterleave ((symbolPoints w y ys (from' + i)).flatMap (softBits bpsc)))))

/-- The number that bits spell, the first lowest. -/
def natOfBits : List Bool → Nat
  | [] => 0
  | b :: t => b2n b + 2 * natOfBits t

/-- The 48 header bits of a frame (11 R427). -/
def decodeHeader (w : Nat) (y : AirSync) (ys : List (Int × Int)) : Nat := natOfBits (decodeSymbols w 0 1 0 (airSig w) y ys)

/-- The payload of a frame and the CRC-32C that came with it (11 R428). -/
def decodePayload (w network : Nat) (h : LinkHdr) (y : AirSync) (ys : List (Int × Int)) : List Byte × Nat :=
  let bits := decodeSymbols w h.rate (airBpsc h.rate) (airSig w) (airSym h.rate w h.length) y ys
  let data := scramble (airSeed network h.slot) bits
  let byteAt := fun (i : Nat) => natOfBits ((data.drop (8 * i)).take 8)
  ((upto h.length).map (fun i => BitVec.ofNat 8 (byteAt i)), natOfBits ((data.drop (8 * h.length)).take 32))

end Sys2Proof.Machine
end

