-- ==== Sys2Proof/Config.lean ====
section
/-! DEFINITION. What each die and each firmware build fixes, and the values that the spec leaves open: constants with no body,
so that no proof can see their values. -/
namespace Sys2Proof

/-- FW_VERSION: build, patch, minor, major (02 R103). -/
opaque Config.fwVersion : BitVec 32
/-- The die identifier fixed in fuses (02 R103). -/
opaque Config.uniqueId : BitVec 64
/-- What a kernel core reads where 14 R548 states no value (a write-only register, an inbox word beyond INBOX_N): a free value
for each reading, by its number. -/
opaque Config.ioOpen : Nat → BitVec 24
/-- CHAIN, GEN and SEQ of the marker that a subscription ring's abandoned end carries: 14 R556 gives its KIND alone. A free value for
each marker, by its number. -/
opaque Config.markerHead : Nat → BitVec 40

/-! ### The sample path (03): the spec states its structure and rates, and none of its coefficients -/

/-- The downconversion filter and resampler of a slice: what its registers hold after one more ADC sample, mixed at a phase in
1/220000 cycle (03 R108, R109). -/
opaque Config.ddcStep : (slice phase : Nat) → (x : Int) → List Int → List Int
/-- The output sample that the registers give at a resampler phase in 1/1100 ADC sample: 16-bit I and Q (03 R111). -/
opaque Config.ddcOut : (slice frac : Nat) → List Int → BitVec 16 × BitVec 16
/-- How many of the latest ADC samples an output sample is computed from (03 R114). -/
opaque Config.ddcSpan : (slice : Nat) → Nat
/-- A narrowband line in a slice: its frequency in the complex samples, Hz from the slice centre, and its level above the local noise density in
0.1 dB (03 R117). -/
structure SpectralLine where
  freq : Int
  level : Int
deriving DecidableEq, Repr, Inhabited
/-- The lines that a slice's line detector finds in a transfer unit's samples before the notches, strongest or not, and the detector's
registers (03 R117). -/
opaque Config.lineScan : (slice : Nat) → List (BitVec 16 × BitVec 16) → List Int → List SpectralLine × List Int
/-- A histogram of ADC codes (code and count, a code never seen absent) shows a missing code: the spec states no count from which an unseen
code is missing and not rare (03 R134). -/
opaque Config.missingCode : List (Nat × Nat) → Bool
/-- A jamming indicator of an epoch in which no sample measures it (03 R114, R124 state none): a free value for each, by its number. -/
opaque Config.openIndicator : Nat → Byte

/-! ### Signals and loops (04, 05): the spec names the codes, the loops' orders and bandwidths, and none of their sequences and gains -/

/-- The chip of a signal's tracked component at a code phase in 2^-16 chip, its subcarrier included, and wiped of the overlay of secondary code
period `sec` once that is known: signed real and imaginary part (05 R199, R205). -/
opaque Config.replica : (signal sv : Nat) → (sec : Option Nat) → (phase : Nat) → BitVec 2 × BitVec 2
/-- The chip of the reserved sequence of the N correlator, of the same length and rate (05 R199): true = negative. -/
opaque Config.noiseChip : (signal : Nat) → (phase : Nat) → Bool
/-- The replica carrier's cosine and sine at a phase in 2^-32 cycle. -/
opaque Config.carrierWave : (phase : Nat) → BitVec 3 × BitVec 3
/-- Primary code periods in a data symbol of a signal, and in its secondary code (05 R205, R212). -/
opaque Config.symbolPeriods : (signal sv : Nat) → Nat
opaque Config.secondaryPeriods : (signal sv : Nat) → Nat
/-- The secondary code period and the symbol's primary period of the present one, once the anchor's prompts show them (05 R212): I and Q of
parts A and B, newest first. -/
opaque Config.symbolSync : (signal sv : Nat) → List (Int × Int × Int × Int) → Option (Nat × Nat)
/-- What the navigation message says, from the signs of its symbols: a preamble of known polarity (true = half a cycle is to be corrected), and
the transmit time known to the full week, with the milliseconds to add to it (05 R213, 07 R288). -/
opaque Config.navDecode : (signal sv : Nat) → List Bool → Option Bool × Option Int
/-- The delay (1/1,024,000 ns) for which a code discriminator's slope stands, by DLL_MODE and the spacings in 0.005 chip (05 R200, 07 R286). -/
opaque Config.dllSlope : (signal mode el ve narrow : Nat) → Int
/-- The least-squares fit of DLL_MODE 3 to the seven correlators: code bias (1/1,024,000 ns), reflected delay (0.01 chip) and amplitude (1/128)
(05 R200, R202). -/
opaque Config.mpFit : (signal el ve narrow : Nat) → List (Int × Int) → Int × Nat × Int
/-- One update of the shared DLL: its part of the code NCO rate (1/1,024,000 ns per ms) and its registers (05 R209). -/
opaque Config.codeLoop : (order bw coh : Nat) → (offset : Int) → List Int → Int × List Int
/-- One update of the shared PLL or FLL from the coherent prompts of this block and the one before, from a frequency and its rate: the new ones
and the registers (05 R209). -/
opaque Config.carrierLoop : (pll : Bool) → (order bw fllBw : Nat) → (assist : Bool) → (coh : Nat) → (now before : Int × Int) →
  (freq rate : Int) → List Int → (Int × Int) × List Int
/-- Phase (2^-32 cycle) and frequency (0.01 Hz) from the progression of twenty prompts, newest first (05 R198). -/
opaque Config.phaseStart : List (Int × Int) → Int × Int
/-- The lag (1/1,024,000 ns) that a vector from the anchor to an aperture (micrometres) gives a satellite at a label (05 R197). -/
opaque Config.lagPredict : (signal sv : Nat) → (vec : Int × Int × Int) → (label : Nat) → Int
/-- The statistic Z, in 1/256, of a search without any noise to measure it by (04 R152, 05 R198 state none): a free value for each, by its number. -/
opaque Config.openZ : Nat → Nat
/-- The feedback taps and the starting value of the 31-stage generator of a slice's Voile component (06 R252). -/
opaque Config.voileTaps : (slice : Nat) → BitVec 31
opaque Config.voileSeed : (slice : Nat) → BitVec 31
/-- What one chip of a BPSK component at a chip rate leaves, filtered to a bandwidth (Hz), at a time after its start in 2^-16 chip, and the chips over which
it lasts (06 R251): the spec names the band and no response. -/
opaque Config.voilePulse : (chipHz band : Nat) → (after : Nat) → Int
opaque Config.voileSpan : (chipHz band : Nat) → Nat
/-- The sums of a Voile correlator after one more sample, against the local replica of the component (06 R261): the spec says that the phase across the
band comes from them, and not at which places they are formed. -/
opaque Config.voileStep : (slice : Nat) → (replica : Int × Int) → BitVec 6 × BitVec 6 → List Int → List Int
/-- What the registers of an aperture's correlator and of the reference's give: group delay (1/1024 ns) from the slope of phase across the band and
phase (2^-24 cycle) at the slice centre, of the aperture against the reference, and their 1 sigma (ps, 10^-4 cycle) (06 R261, R264). -/
opaque Config.voileFit : (slice : Nat) → (own ref : List Int) → Int × Int × Nat × Nat
/-- The injection level that the registers give, 0.25 dB below the noise density (06 R256, R276). -/
opaque Config.voileInj : (slice : Nat) → List Int → Byte
/-- What an orbit, a position (degrees x 10^7, mm), a velocity (mm/s) and GPS time (ns) predict: the transmit time in the count of the signal's
code, symbols and secondary code (1/1,024,000 ns), the Doppler without the oscillator's part (0.01 Hz), and the elevation (degrees) (04 R145,
R159, R161). -/
opaque Config.predictSat : (signal sv : Nat) → (orbit pos vel : List Int) → (gpsNs : Int) → Int × Int × Int
/-- The number of the code period in which a host's prediction of the code phase at a GPS time (ns) lies, where nothing else tells it (04 R145,
R163). -/
opaque Config.recordPeriod : (signal sv gpsNs : Nat) → Int
/-- The 1 sigma of a pseudorange (0.01 m) and a carrier phase (0.001 cycle) at a C/N0 (07 R293). -/
opaque Config.measSd : (signal cn0 resBw dllBw : Nat) → Byte × Byte

/-! ### Position and Tulle engines (07): the spec states what enters, which checks its results pass and what leaves, and no arithmetic between -/

/-- A measurement that enters the position engine: signal and satellite, pseudorange (0.1 mm), Doppler (10^-5 Hz), carrier phase (2^-16 cycle) and
C/N0 (0.1 dB-Hz) (07 R290). -/
structure PvtInput where
  signal : Nat
  sv : Nat
  pr : Int
  dopp : Int
  cp : Option Int
  cn0 : Nat
deriving DecidableEq, Repr, Inhabited

/-- A solution of the position engine, in the units of MSG_PVT (07 R296), with the 1 sigma of its velocity in mm/s and the filter's
registers. -/
structure PvtSolution where
  fix : Nat
  velValid : Bool
  timeValid : Bool
  nsv : Nat
  pos : Int × Int × Int
  vel : Int × Int × Int
  clkDrift : Int
  hSd : Nat
  vSd : Nat
  tSd : Nat
  pdop : Nat
  velSd : Nat
  mem : List Int
deriving DecidableEq, Repr, Inhabited

/-- The position engine: MODE and DYN, the label, the inputs, the orbits held (satellite and elements), the correction frames in use, and its
registers (07 R295, R298). -/
opaque Config.pvtSolve : (mode dyn label : Nat) → List PvtInput → List (Nat × List Int) → List (Nat × List Byte) → List Int →
  PvtSolution
/-- A WGS 84 position (ECEF, 0.1 mm) and velocity (ECEF, mm/s) as latitude and longitude (degrees x 10^7) with height (mm), and north, east and up
(mm/s) (04 R163, 07 R296). -/
opaque Config.geodetic : (pos vel : Int × Int × Int) → List Int × List Int
/-- The ephemeris that an RTCM message carries: satellite, reference time (GPS ms), validity after it (ms) and elements (07 R298). -/
opaque Config.rtcmOrbit : List Byte → Option (Nat × Nat × Nat × List Int)

/-- A time solution: the remaining error of the time count (ps, positive = late) with its 1 sigma, the weights that the slices carry in it, and per
system a bias (0.01 ns) with its 1 sigma (0.1 ns) (08 R329, R330). -/
structure TimeSolution where
  err : Int
  sd : Nat
  weights : List (Nat × Nat)
  biases : List (Nat × Int × Nat)
deriving DecidableEq, Repr, Inhabited

/-- The time engine's solution for one aperture: the time scale, the label, the aperture's vector from POINT (micrometres), its inputs and the
orbits held (08 R330). -/
opaque Config.timeSolve : (scale label : Nat) → (vec : Int × Int × Int) → List PvtInput → List (Nat × List Int) → TimeSolution

/-- The estimate of the reference oscillator's frequency error (10^-18, positive = fast) with its 1 sigma, the 1 sigma of X (ps) and the estimator's
registers (08 R334). -/
structure OscEstimate where
  freq : Int
  freqSd : Nat
  xSd : Nat
  mem : List Int
deriving DecidableEq, Repr, Inhabited

/-- A valid second enters the oscillator estimate: X and A in ps (08 R325, R334). -/
opaque Config.oscStep : (x a : Int) → List Int → OscEstimate
/-- ERR_BOUND in ns while no second has been valid since the reset, the milliseconds since it given: the bound counts from the last valid second (08 R334),
and the spec states none where there is no such second. -/
opaque Config.boundUnset : Nat → Nat

/-- A single difference that enters the Tulle engine: member, channel, signal and satellite; carrier phase (2^-16 cycle) and code (0.1 mm, absent
where the phase is predicted) of the member less the reference's; solved in double differences; and the integer held (07 R304, R312). -/
structure TulInput where
  apr : Nat
  ch : Nat
  signal : Nat
  sv : Nat
  cp : Int
  code : Option Int
  predicted : Bool
  dd : Bool
  held : Option Int
deriving DecidableEq, Repr, Inhabited

/-- What one group gives the Tulle engine at a cutoff: the label, the reference, RIGID_TOL, SMOOTH_BW, its members (aperture, deformable, DEF_LIMIT,
lever arm), the inputs, the float ambiguities (member, channel, 2^-16 cycle) and the filter's registers. -/
structure TulProblem where
  label : Nat
  ref : Nat
  tol : Nat
  bw : Nat
  members : List (Nat × Bool × Nat × Int × Int × Int)
  inputs : List TulInput
  floats : List (Nat × Nat × Int)
  mem : List Int
deriving DecidableEq, Repr, Inhabited

/-- What the Tulle engine finds for a member: the vector from the reference (east, north, up) and the 1 sigma of its length in micrometres, its 1
sigma in 0.1 mm, and per channel the candidate integers, the float ambiguities and the normalised residuals x 100. -/
structure TulMemberSol where
  apr : Nat
  vec : Int × Int × Int
  sd : Nat × Nat × Nat
  lenSd : Nat
  cand : List (Nat × Int)
  floats : List (Nat × Int)
  resid : List (Nat × Nat)
deriving DecidableEq, Repr, Inhabited

/-- What it finds for the group: whether there is a solution, its members; heading, pitch and roll (10^-5 degree) of the body frame with 1 sigma
(0.001 degree); the ratio x 100; the largest 1 sigma of the provisional-to-final difference in micrometres; and the filter's registers. -/
structure TulSolution where
  solved : Bool
  members : List TulMemberSol
  heading : Nat
  pitch : Int
  roll : Int
  sdHpr : Nat × Nat × Nat
  ratio : Nat
  sigma : Nat
  mem : List Int
deriving DecidableEq, Repr, Inhabited

/-- The single-difference integer of a reference satellite that the double differences of a member (label, member, signal) have never shown (07 R304): the
spec says that a change of form keeps the integers, and not what this one is. -/
opaque Config.tulBase : (label m signal : Nat) → Int
/-- The Tulle engine: integer least squares and the fit of the body frame included (07 R304, R306, R311, R314). -/
opaque Config.tulSolve : TulProblem → TulSolution

/-! ### The link's receive path (10 R397): the spec states its tuning and its rates, and none of its coefficients -/

/-- The mixer and decimator of a receive port: what its registers hold after one more ADC sample, for a width and a mixer frequency (2^-16 Hz). -/
opaque Config.linkStep : (width : Nat) → (freq : Int) → (x : Int) → List Int → List Int
/-- The channel sample that the registers give, at a resampler phase in 1/2750 of a sample period. -/
opaque Config.linkOut : (width phase : Nat) → List Int → BitVec 16 × BitVec 16
/-- The delay from the pin to the channel stream, in grid units (11 R457). -/
opaque Config.linkDelay : (width : Nat) → Nat

end Sys2Proof
end

