-- ==== Sys2Proof/Machine/Ops.lean ====
section
/-! DEFINITION. The named operations that every family of commands uses: port queues, message delivery, interrupts, the
error log, islands and the envelope. -/
namespace Sys2Proof.Machine

/-- The index of a port in PORTS and in the error log (12 R487, 17 R639). -/
def portIdx : HostPort → Nat
  | .spi => 0 | .u0 => 1 | .u1 => 2 | .pcie => 3 | .muslin => 4

/-- The UART of a UART port, as a port. -/
def uartPort : Uart → HostPort
  | .u0 => .u0 | .u1 => .u1

/-- The ports in PORTS order. -/
def allPorts : List HostPort := [.spi, .u0, .u1, .pcie, .muslin]

/-- A port's state. -/
def portOf (s : State) (p : HostPort) : PortState := tget PortState.initial s.ecsol.ports (portIdx p)
/-- Change a port's state. -/
def modPort (p : HostPort) (f : PortState → PortState) (s : State) : State :=
  { s with ecsol.ports := tmod PortState.initial s.ecsol.ports (portIdx p) f }
/-- An output ring. -/
def ringOf (s : State) (n : Nat) : Ring := tget Ring.initial s.pcie.rings n
/-- Change an output ring. -/
def modRing (n : Nat) (f : Ring → Ring) (s : State) : State :=
  { s with pcie.rings := tmod Ring.initial s.pcie.rings n f }

/-- The FRAMING counter of a port increments; on PCIe it saturates at 16 bits (02 R59, 12 R477). -/
def countFraming (p : HostPort) (s : State) : State :=
  match p with
  | .pcie => { s with pcie.framing := sat 0xFFFF (s.pcie.framing + 1) }
  | q => modPort q (fun x => { x with framing := x.framing + 1 }) s

/-! ### Interrupts of the PCIe endpoint (12 R477, R480) -/

/-- The MSI-X vector of an IRQ_STATUS bit. -/
def vectorOf (bit : Nat) : Nat := if 6 ≤ bit then 1 else bit

/-- Send one vector: counted as sent, or left pending while its table entry is masked. -/
def sendVector (v : Nat) (s : State) : State :=
  if (tget (0 : Byte) s.pcie.msixTable (16 * v + 12)).toNat.testBit 0 then
    { s with pcie.msixPending := s.pcie.msixPending ||| (1 <<< v) }
  else { s with pcie.msixSent := tmod 0 s.pcie.msixSent v (· + 1) }

/-- Write IRQ_STATUS and IRQ_MASK; every bit that becomes both set and enabled sends its vector. -/
def setIrq (status mask : Nat) (s : State) : State :=
  let old := s.pcie.irqStatus &&& s.pcie.irqMask
  let s' := { s with pcie.irqStatus := status, pcie.irqMask := mask }
  foldS (fun b t => sendVector (vectorOf b) t)
    ((maskBits 10 (status &&& mask)).filter (fun b => !old.testBit b)) s'

/-- Set one IRQ_STATUS bit. -/
def raiseIrq (bit : Nat) (s : State) : State := setIrq (s.pcie.irqStatus ||| (1 <<< bit)) s.pcie.irqMask s

/-! ### Output queues (02 R74, 12 R460 to R464) -/

/-- The size of a port's queue, or of one ring's staging, in bytes (12 R460). -/
def queueCap : HostPort → Nat
  | .spi => 65536 | .u0 => 16384 | .u1 => 16384 | .pcie => 65536 | .muslin => 4096

/-- The bytes of a queue that have not left. -/
def queueUsed (q : List QItem) : Nat := q.foldl (fun n it => n + (it.bytes.length - it.sent)) 0

/-- Discard class 2 messages whose first byte has not left until `excess` bytes are freed; the list is newest first. -/
def shedNewest : Nat → List QItem → List QItem × Nat
  | _, [] => ([], 0)
  | excess, it :: r =>
    if excess = 0 then (it :: r, 0)
    else if it.cls = 2 ∧ it.sent = 0 then
      let x := shedNewest (excess - it.bytes.length) r
      (x.1, x.2 + 1)
    else
      let x := shedNewest excess r
      (it :: x.1, x.2)

/-- Discard class 2 messages, newest first, until `need` more bytes fit; answers the queue and how many were discarded. -/
def shed (cap need : Nat) (q : List QItem) : List QItem × Nat :=
  let x := shedNewest (queueUsed q + need - cap) q.reverse
  (x.1.reverse, x.2)

/-- A reply enters ahead of every message whose first byte has not left, behind earlier replies (02 R74). -/
def insertReply (it : QItem) : List QItem → List QItem
  | [] => [it]
  | h :: t => if h.sent ≠ 0 ∨ h.cls = 0 then h :: insertReply it t else it :: h :: t

/-- A message meets a queue: the new queue, whether it was accepted, and how many queued ones were discarded (12 R463,
R464). -/
def acceptMsg (cap : Nat) (it : QItem) (q : List QItem) : List QItem × Bool × Nat :=
  if queueUsed q + it.bytes.length ≤ cap then (q ++ [it], true, 0)
  else if it.cls = 1 ∧ it.bytes.length ≤ cap then
    let x := shed cap it.bytes.length q
    if queueUsed x.1 + it.bytes.length ≤ cap then (x.1 ++ [it], true, x.2) else (x.1, false, x.2)
  else (q, false, 0)

/-! ### Messages (02 R55 to R57) -/

/-- An unsolicited message before it is numbered per port. -/
structure Msg where
  id : Nat
  cls : Nat
  inst : Nat
  chain : Nat
  gen : Nat
  /-- EPOCH_MS by which decimated routes deliver it (12 R487). -/
  label : Nat
  class1 : Bool
  payload : List Byte
  /-- The payload for a target that admits provisional measurement records, where it differs (12 R489). -/
  provPayload : Option (List Byte)
  /-- A provisional MSG_TULLE, delivered only where OUT_FILTER admits it (12 R489). -/
  provTulle : Bool
deriving DecidableEq, Repr

/-- The packet of a message as one port sends it (02 R55). -/
def msgBytes (m : Msg) (seq : Nat) (payload : List Byte) : List Byte :=
  withCrc (([0xA9, BitVec.ofNat 8 m.id] ++ le 2 payload.length ++ [BitVec.ofNat 8 m.cls, BitVec.ofNat 8 m.inst] ++ le 2 seq
    ++ [BitVec.ofNat 8 m.chain, 0] ++ le 2 m.gen) ++ payload)

/-- The route of a message ID. -/
def routeOf (s : State) (id : Nat) : Route := tget Route.off s.ecsol.routes id

/-- Milliseconds between the epochs that a route with DECIM delivers (12 R487): DECIM x 1000 / R. -/
def decimPeriod (s : State) (id decim : Nat) : Nat :=
  let div := if id = 0x82 then s.rates.tulDiv else if id = 0x83 then s.rates.pvtDiv else 1
  decim * div * 1000 / s.rates.rateHz

/-- The route selects this message's SOURCE_INSTANCE (12 R487). -/
def routeSelects (r : Route) (inst : Nat) : Bool := r.instMask.testBit (min inst 31)

/-- The payload a target receives, or none where OUT_FILTER keeps the message from it (12 R489). -/
def admitted (s : State) (target : Nat) (m : Msg) : Option (List Byte) :=
  let f := tget 0 s.ecsol.filters target
  if m.provTulle && !f.testBit 1 then none
  else match m.provPayload with
    | some p => if f.testBit 0 then some p else some m.payload
    | none => some m.payload

/-- Every message takes the port's next MSG_SEQ, whether it is then accepted or discarded (02 R56, 12 R462). -/
def takeSeq (p : HostPort) (s : State) : State := modPort p (fun x => { x with msgSeq := (x.msgSeq + 1) % 65536 }) s

/-- Commit one message to one port (ring `ring` on PCIe). Answers the state and whether the first class 1 discard since the
log was emptied has just happened there (12 R462, R463, R479). -/
def commitTo (m : Msg) (p : HostPort) (ring : Nat) (payload : List Byte) (s : State) : State × Bool :=
  let ps := portOf s p
  let it : QItem := { cls := if m.class1 then 1 else 2, bytes := msgBytes m ps.msgSeq payload, sent := 0 }
  let s := takeSeq p s
  let first := m.class1 && ps.dropArmed
  let disarm := fun (t : State) => if m.class1 then modPort p (fun x => { x with dropArmed := false }) t else t
  if s.power.muted && m.id != 0x8F then (s, false)      -- discarded from D on (16 R602, R604)
  else
    let cannot := match p with          -- discarded under R462: neither counted nor logged
      | .u0 => (tget none s.ecsol.uartRate 1).isNone
      | .u1 => (tget none s.ecsol.uartRate 2).isNone
      | .pcie => s.pcie.link.isNone || !s.pcie.ringEn.testBit ring
      | _ => false
    if cannot then (s, false)
    else match p with
      | .pcie =>
        let r := ringOf s ring
        if r.fault then (disarm (modRing ring (fun y => { y with drops := sat 0xFFFFFFFF (y.drops + 1) }) s), first)
        else
          let x := acceptMsg (queueCap .pcie) it r.outq
          let lost := x.2.2 + b2n (!x.2.1)
          let s := modRing ring (fun y => { y with outq := x.1, drops := sat 0xFFFFFFFF (y.drops + lost), full := !x.2.1 }) s
          if x.2.1 then (s, false) else (disarm s, first)
      | q =>
        let x := acceptMsg (queueCap q) it ps.outq
        let lost := x.2.2 + b2n (!x.2.1)
        let s := modPort q (fun y => { y with outq := x.1, drops := y.drops + lost }) s
        if x.2.1 then (s, false) else (disarm s, first)

/-- Commit a message to the named ports, whatever the routes (12 R489: CONFIRM and REVOKE). Answers the ports whose first
class 1 discard it was. -/
def commitPorts (m : Msg) (ring : Nat) : List HostPort → State → State × List Nat
  | [], s => (s, [])
  | p :: ps, s =>
    match admitted s (portIdx p) m with
    | none => commitPorts m ring ps s
    | some pl =>
      let x := commitTo m p ring pl s
      let y := commitPorts m ring ps x.1
      (y.1, if x.2 then portIdx p :: y.2 else y.2)

/-- The ports that the routes give a message. -/
def routedPorts (s : State) (m : Msg) : List HostPort :=
  let r := routeOf s m.id
  if routeSelects r m.inst then
    let due := if m.id = 0x81 ∨ m.id = 0x82 ∨ m.id = 0x83 then m.label % decimPeriod s m.id r.decim == 0 else true
    if due then allPorts.filter (fun p => r.ports.testBit (portIdx p)) else []
  else []

/-! ### The error log (17 R639 to R643) -/

/-- The 24 bytes of an entry (17 R639). -/
def logBytes (e : LogEntry) : List Byte :=
  [BitVec.ofNat 8 e.code, BitVec.ofNat 8 e.sev, BitVec.ofNat 8 e.cls, BitVec.ofNat 8 e.inst] ++ le 3 e.count
    ++ le 1 e.reset ++ le 8 e.first ++ le 8 e.last

/-- MSG_ERROR of an entry (17 R643): class 1. -/
def errMsg (s : State) (e : LogEntry) : Msg :=
  { id := 0x87, cls := 0x01, inst := 0, chain := 0, gen := 0, label := s.epochMs, class1 := true, payload := logBytes e,
    provPayload := none, provTulle := false }

/-- The entries held, LOG_OVERFLOW last. -/
def logHeld (l : ErrLog) : List LogEntry := l.entries ++ l.overflow.toList
/-- MAX_SEV: the highest severity held, 0 when empty (17 R644). -/
def logMaxSev (l : ErrLog) : Nat := (logHeld l).foldl (fun m e => max m e.sev) 0

/-- FAULT_N is asserted until FW_READY and while an entry of severity 4 is held (12 R491); with PWR_EN low it is undriven (16 R594). -/
def faultAsserted (s : State) : Bool := s.power.pwrEn && (!s.power.fwReady || decide (4 ≤ logMaxSev s.errlog))

/-- An occurrence updates the entry that it coalesces into (17 R641). -/
def coalesce (s : State) (e : LogEntry) : LogEntry :=
  { e with count := sat 0xFFFFFF (e.count + 1), last := s.epochMs, reset := s.power.resets % 256, unreported := true }

/-- The entry matches an occurrence (17 R641). -/
def sameKind (code cls inst : Nat) (e : LogEntry) : Bool := e.code == code && e.cls == cls && e.inst == inst

/-- The entry that a new one displaces: the lowest severity, then the earliest LAST_MS, then the earliest FIRST_MS (17
R642). -/
def lowest : List LogEntry → Option LogEntry
  | [] => none
  | e :: t =>
    match lowest t with
    | none => some e
    | some f =>
      if f.sev < e.sev ∨ (f.sev = e.sev ∧ (f.last < e.last ∨ (f.last = e.last ∧ f.first < e.first))) then some f else some e

/-- The milliseconds that have passed since the last epoch while none run: firmware processors and host ports go on, and the windows of the reference monitor
measure the time (09 R365, R371; log 73). -/
def bypassMs (s : State) : Nat := if s.nunar.running then 0 else s.clk.bypassUs / 1000
/-- The time in ms that firmware and host ports have. -/
def nowMs (s : State) : Nat := s.ms + bypassMs s

/-- The instant that the millisecond count names as `t` has come. -/
def instantReached (t : Nat) (s : State) : Bool := decide (t ≤ nowMs s)

/-- Make or coalesce an entry; answers the log and the entry that MSG_ERROR reports at once (17 R641 to R643). -/
def logInsert (s : State) (code sev cls inst : Nat) : ErrLog × Option LogEntry :=
  let l := s.errlog
  let new : LogEntry :=
    { code := code, sev := sev, cls := cls, inst := inst, count := 1, reset := s.power.resets % 256, first := s.epochMs,
      last := s.epochMs, unreported := false, sentMs := some (nowMs s) }
  if l.entries.any (sameKind code cls inst) then
    ({ l with entries := l.entries.map (fun e => if sameKind code cls inst e then coalesce s e else e) }, none)
  else if l.entries.length < 127 then ({ l with entries := l.entries ++ [new] }, some new)
  else
    match lowest l.entries with
    | some e =>
      if e.sev < sev then
        ({ l with entries := l.entries.filter (fun x => !sameKind e.code e.cls e.inst x) ++ [new],
                  displaced := sat 65535 (l.displaced + 1) }, some new)
      else
        let dropped := sat 65535 (l.dropped + 1)
        match l.overflow with
        | some o => ({ l with dropped := dropped, overflow := some (coalesce s o) }, none)
        | none =>
          let o : LogEntry := { new with code := 0x40, sev := 2, cls := 1, inst := 0 }
          ({ l with dropped := dropped, overflow := some o }, some o)
    | none => (l, none)

/-- FAULT_N became asserted: IRQ_STATUS bit 1 (12 R491). -/
def faultEdge (before : Bool) (s : State) : State := if faultAsserted s && !before then raiseIrq 1 s else s

/-- Log an occurrence and send its MSG_ERROR. `fuel` bounds the entries that a full port's own PORT_DROP entry can add: one
per port (12 R463). -/
def logFuel : Nat → Nat → Nat → Nat → Nat → State → State
  | 0, _, _, _, _, s => s
  | fuel + 1, code, sev, cls, inst, s =>
    let before := faultAsserted s
    let x := logInsert s code sev cls inst
    let s := faultEdge before { s with errlog := x.1 }
    match x.2 with
    | none => s
    | some e =>
      if s.power.fwReady then
        let m := errMsg s e
        let r := routeOf s m.id
        let y := commitPorts m r.ring (routedPorts s m) s
        foldS (fun p t => logFuel fuel 0x49 2 0x10 p t) y.2 y.1
      else s

/-- Make an error-log entry (17 R640 gives the code's severity). -/
def logErr (code sev cls inst : Nat) (s : State) : State := logFuel 7 code sev cls inst s

/-- Log the failed checks that a chain status tells of: a residue, and a dump CRC (01 R32; 17 R640). -/
def logChain (chain cls inst : Nat) (s : State) : State :=
  let s := if chain.testBit 5 then logErr 0x41 3 cls inst s else s
  if chain.testBit 6 then logErr 0x42 3 cls inst s else s

/-- Commit a message to the named ports (12 R461 to R464), logging first class 1 discards. -/
def postToPorts (m : Msg) (ps : List HostPort) (s : State) : State :=
  if s.power.fwReady then
    let y := commitPorts m (routeOf s m.id).ring ps s
    foldS (fun p t => logErr 0x49 2 0x10 p t) y.2 y.1
  else s

/-- Commit a message on its routes (12 R487). No message is committed before FW_READY (16 R608). -/
def post (m : Msg) (s : State) : State := postToPorts m (routedPorts s m) s

/-- A plain class 2 message. -/
def msg2 (s : State) (id cls inst : Nat) (payload : List Byte) : Msg :=
  { id := id, cls := cls, inst := inst, chain := 0, gen := 0, label := s.epochMs, class1 := false, payload := payload,
    provPayload := none, provTulle := false }

/-- Commit a MSG_STATUS event of a class. -/
def postStatus (cls inst : Nat) (payload : List Byte) (s : State) : State := post (msg2 s 0x86 cls inst payload) s

/-- The main domain is powered and out of reset. -/
def mainRuns (s : State) : Bool := s.power.mode == .run && !s.power.inReset

/-- The clock system runs on its bypass clock (09 R370). -/
def clockBypass (s : State) : Bool := s.clk.st != 0

/-- The number of the next free value, and the state in which it is drawn (log 47). -/
def draw (s : State) : Nat × State := (s.kernels.draws, { s with kernels.draws := s.kernels.draws + 1 })

/-! ### Islands -/

/-- The island is on or powering up. -/
def islandOn (s : State) (i : Nat) : Bool := s.islands.powered.testBit i
/-- The island has completed power-up. -/
def islandReady (s : State) (i : Nat) : Bool := s.islands.powered.testBit i && s.islands.ready.testBit i

/-- The island counts as on, or as ready, for 01 R21, R22 and R25: while bursts are on the islands gated between them do (05 R246). -/
def countsOn (s : State) (i : Nat) : Bool := islandOn s i || s.burst.gated.testBit i
def countsReady (s : State) (i : Nat) : Bool := islandReady s i || s.burst.gated.testBit i

/-- Between bursts (05 R246, R247). -/
def betweenBursts (s : State) : Bool := s.burst.on && !s.burst.active

/-- Set or clear bit `i` of a mask. -/
def setBit (m i : Nat) (b : Bool) : Nat := if b then m ||| (1 <<< i) else if m.testBit i then m - 2 ^ i else m

/-- An aperture. -/
def aprOf (s : State) (a : Nat) : Aperture := tget Aperture.initial s.apertures a
/-- Change an aperture. -/
def modApr (a : Nat) (f : Aperture → Aperture) (s : State) : State :=
  { s with apertures := tmod Aperture.initial s.apertures a f }
/-- A slice of an aperture. -/
def sliceOf (s : State) (a i : Nat) : SliceState := tget SliceState.initial (aprOf s a).slices i
/-- Change a slice. -/
def modSlice (a i : Nat) (f : SliceState → SliceState) (s : State) : State :=
  modApr a (fun x => { x with slices := tmod SliceState.initial x.slices i f }) s
/-- A notch of a slice. -/
def notchOf (s : State) (a i n : Nat) : Notch := tget Notch.off (sliceOf s a i).notches n

/-- A fault that makes the aperture's state fault stands: NO_SIGNAL, ADC_FAULT or NO_CLOCK (03 R135). -/
def aprFaulted (x : Aperture) : Bool := x.faults.testBit 0 || x.faults.testBit 2 || x.faults.testBit 3

/-- The STATE code of APR_STATUS (03 R136). -/
def aprState (s : State) (a : Nat) : Nat :=
  let x := aprOf s a
  if !islandOn s a then 0
  else if !x.enabled then 1
  else if x.inFault || aprFaulted x then 4
  else match x.phase with
    | .disabled => 1 | .settling => 2 | .running => 3

/-- The aperture is running, so that its samples are used (03 R128). -/
def aprRunning (s : State) (a : Nat) : Bool := aprState s a == 3

/-- The apertures that are enabled. -/
def enabledApertures (s : State) : List Nat := (upto 24).filter (fun a => (aprOf s a).enabled)

end Sys2Proof.Machine
end

