-- ==== Sys2Proof/Machine/Sha256.lean ====
section
/-! DEFINITION. HMAC-SHA-256 as the authentication of commands uses it (02 R87, R53; 17 R634): the hash function of
FIPS 180-4 and the keyed construction of FIPS 198-1 with a 32-byte key. -/
namespace Sys2Proof.Machine

/-- A 32-bit word of the hash. -/
abbrev W32 := BitVec 32

/-- The largest root `r` below 2^`b` more than `r` whose `k`-th power does not exceed `n`, bit by bit from above. -/
def rootBits (k n : Nat) : Nat → Nat → Nat
  | 0, r => r
  | b + 1, r => rootBits k n b (if (r + 2 ^ b) ^ k ≤ n then r + 2 ^ b else r)

/-- The first 32 bits of the fraction of the `k`-th root of a number. -/
def rootFraction (k p : Nat) : W32 := BitVec.ofNat 32 (rootBits k (p * 2 ^ (32 * k)) 36 0)

/-- The first 64 prime numbers: up to 311, none has a divisor above 17. -/
def firstPrimes : List Nat := (upto 312).filter (fun n => decide (2 ≤ n) && (upto 18).all (fun d => decide (d < 2 ∨ n ≤ d ∨ n % d ≠ 0)))

/-- The initial hash value: from the square roots of the first eight primes. -/
def shaInit : List W32 := (firstPrimes.take 8).map (rootFraction 2)

/-- The constants of the 64 rounds: from the cube roots of the first 64 primes. -/
def shaRounds : List W32 := firstPrimes.map (rootFraction 3)

/-- A word from four bytes, most significant first. -/
def w32Of (bs : List Byte) : W32 := bs.foldl (fun (w : W32) b => (w <<< 8) ||| b.setWidth 32) 0
/-- The four bytes of a word, most significant first. -/
def bytesOfW32 (w : W32) : List Byte :=
  [(w >>> 24).setWidth 8, (w >>> 16).setWidth 8, (w >>> 8).setWidth 8, w.setWidth 8]

/-- Extend the message schedule: `w` holds the words so far, newest first. -/
def shaSched : Nat → List W32 → List W32
  | 0, w => w
  | n + 1, w =>
    let a := w.getD 1 0
    let b := w.getD 14 0
    let s1 := a.rotateRight 17 ^^^ a.rotateRight 19 ^^^ (a >>> 10)
    let s0 := b.rotateRight 7 ^^^ b.rotateRight 18 ^^^ (b >>> 3)
    shaSched n ((s1 + w.getD 6 0 + s0 + w.getD 15 0) :: w)

/-- One round on the eight working variables. -/
def shaRound (v : List W32) (kw : W32 × W32) : List W32 :=
  match v with
  | [a, b, c, d, e, f, g, h] =>
    let t1 := h + (e.rotateRight 6 ^^^ e.rotateRight 11 ^^^ e.rotateRight 25) + ((e &&& f) ^^^ (~~~e &&& g)) + kw.1 + kw.2
    let t2 := (a.rotateRight 2 ^^^ a.rotateRight 13 ^^^ a.rotateRight 22) + ((a &&& b) ^^^ (a &&& c) ^^^ (b &&& c))
    [t1 + t2, a, b, c, d + t1, e, f, g]
  | _ => v

/-- One 64-byte block into the hash value. -/
def shaBlock (h : List W32) (blk : List Byte) : List W32 :=
  let w := (shaSched 48 ((chunks 4 16 blk).map w32Of).reverse).reverse
  let v := (shaRounds.zip w).foldl shaRound h
  List.zipWith (· + ·) h v

/-- The message padded to whole blocks: a 1 bit, zeros, and the length in bits. -/
def shaPad (m : List Byte) : List Byte :=
  let n := m.length
  let z := (119 - n % 64) % 64
  m ++ [0x80] ++ zeros z ++ (le 8 (8 * n)).reverse

/-- SHA-256 of a byte string: 32 bytes. -/
def sha256 (m : List Byte) : List Byte :=
  let p := shaPad m
  ((chunks 64 (p.length / 64) p).foldl shaBlock shaInit).flatMap bytesOfW32

/-- HMAC-SHA-256 with a key of at most 64 bytes (02 R87). -/
def hmac (key m : List Byte) : List Byte :=
  let k := key ++ zeros (64 - key.length)
  sha256 (k.map (· ^^^ 0x5c) ++ sha256 (k.map (· ^^^ 0x36) ++ m))

/-- The 16-byte tag: HMAC-SHA-256 truncated to its first 16 bytes (02 R51, R87). -/
def tagOf (key m : List Byte) : List Byte := (hmac key m).take 16

end Sys2Proof.Machine
end

