-- ==== Sys2Proof/Machine/Ecsol.lean ====
section
/-! DEFINITION. The command engine: the checks of 02 R63 in their order, authentication, the reply cache and replies. Every
command of the master index runs through `runCmd` with its own description. -/
namespace Sys2Proof.Machine

/-- The status codes of a reply (02 R70). -/
inductive Status where
  | ok | unknownOpcode | badLength | badValue | badState | blockOff | busy | authRequired | authFail | authLocked
  | counterStale | late | noResource | notOwner | integrity | profileLimit | lifecycle | stopAbortedWake | crcFail
  | synthNotLocked | preempted | staleGeneration
deriving DecidableEq, Repr

/-- The code of a status (02 R70). -/
def statusCode : Status → Nat
  | .ok => 0x00 | .unknownOpcode => 0x01 | .badLength => 0x02 | .badValue => 0x03 | .badState => 0x04 | .blockOff => 0x05
  | .busy => 0x06 | .authRequired => 0x07 | .authFail => 0x08 | .authLocked => 0x09 | .counterStale => 0x0A | .late => 0x0B
  | .noResource => 0x0C | .notOwner => 0x0D | .integrity => 0x0E | .profileLimit => 0x0F | .lifecycle => 0x10
  | .stopAbortedWake => 0x11 | .crcFail => 0x12 | .synthNotLocked => 0x13 | .preempted => 0x14 | .staleGeneration => 0x15

/-- What steps 10 to 13 of a command answer. -/
inductive CmdOut where
  /-- Rejected: nothing changes but the diagnostic records (02 R65, R66). -/
  | reject (st : Status)
  /-- Rejected, with records that the command's own chapter makes (an error-log entry, a MSG_WAKE). -/
  | rejectNote (st : Status) (s : State)
  /-- Committed: the chain status and payload of the reply, and the state with the change made. -/
  | ok (chain : Nat) (payload : List Byte) (s : State)
  /-- Accepted and waiting for its reply. -/
  | hold (why : HoldReason)

/-- The description of one opcode of the master index (02 R101). -/
structure OpSpec where
  opcode : Nat
  critical : Bool
  minLen : Nat
  maxLen : Nat
  /-- The length that the count fields require (02 R81); none where the opcode has no count field. -/
  form : List Byte → Option Nat
  /-- The islands of the target block (02 R63 step 9). -/
  islands : List Byte → State → List Nat
  /-- The self-test blocks that the command reaches past step 9 (17 R621). -/
  reach : List Byte → State → List Nat
  /-- The command makes an MRAM write of its own before its reply (02 R99). -/
  mram : Bool
  /-- Steps 11 to 13. -/
  act : Packet → State → CmdOut

/-- AUTH of the command FLAGS (02 R52). -/
def cmdAuth (p : Packet) : Bool := p.flags.toNat.testBit 0
/-- REPLY of the command FLAGS. -/
def cmdReply (p : Packet) : Bool := p.flags.toNat.testBit 1
/-- KEY_SLOT of the command FLAGS. -/
def cmdSlot (p : Packet) : Nat := bitsOf p.flags.toNat 3 2

/-- Header, parameters and COUNTER: the bytes that the tag covers (02 R51, R87). -/
def cmdSigned (op : Nat) (p : Packet) : List Byte :=
  ([0xA7, p.flags] ++ le 2 p.params.length ++ le 2 op ++ le 2 p.seq.toNat) ++ p.params
    ++ (if cmdAuth p then le 8 p.counter.toNat else [])

/-- The packet before its CRC (02 R51). -/
def cmdBytes (op : Nat) (p : Packet) : List Byte :=
  cmdSigned op p ++ (if cmdAuth p then le 16 p.tag.toNat else [])

/-- A key slot. -/
def slotOf (s : State) (k : Nat) : KeySlot := tget KeySlot.empty s.security.slots k
/-- Change a key slot. -/
def modSlot (k : Nat) (f : KeySlot → KeySlot) (s : State) : State :=
  { s with security.slots := tmod KeySlot.empty s.security.slots k f }

/-- The reply packet; `key` is the key and slot that sign it (02 R53, R54, R94). -/
def replyBytes (op : Nat) (p : Packet) (st : Status) (chain : Nat) (payload : List Byte) (key : Option (List Byte)) :
    List Byte :=
  let pl := if st = .ok then payload else []
  let flags : Byte := match key with
    | some _ => BitVec.ofNat 8 (1 + 4 * cmdSlot p)
    | none => 0
  let body := ([0xA8, flags] ++ le 2 pl.length ++ le 2 op ++ le 2 p.seq.toNat
    ++ [BitVec.ofNat 8 (statusCode st), BitVec.ofNat 8 (if pl.isEmpty then 0 else chain), 0, 0]) ++ pl
  match key with
  | some k =>
    let signed := body ++ le 8 p.counter.toNat
    withCrc (signed ++ tagOf k signed)
  | none => withCrc body

/-- Put a reply into its port's queue, discarding class 2 messages while the queue exceeds its size (02 R69, R74; 12
R463). Replies to PCIe commands go to ring 0 (12 R478). -/
def queueReply (port : HostPort) (bytes : List Byte) (s : State) : State :=
  let it : QItem := { cls := 0, bytes := bytes, sent := 0 }
  match port with
  | .pcie => modRing 0 (fun r =>
      let x := shed (queueCap .pcie) 0 (insertReply it r.outq)
      { r with outq := x.1, drops := sat 0xFFFFFFFF (r.drops + x.2) }) s
  | q => modPort q (fun r =>
      let x := shed (queueCap q) 0 (insertReply it r.outq)
      { r with outq := x.1, drops := r.drops + x.2 }) s

/-- Statuses whose replies are not cached (02 R78). -/
def notCached (st : Status) : Bool := st == .busy || st == .authLocked || st == .crcFail

/-- Enter a reply into the port's cache: an entry of the same SEQ is replaced, and the oldest of 8 makes room (02 R75 to
R78). -/
def cachePut (port : HostPort) (e : CacheEntry) (s : State) : State :=
  modPort port (fun x =>
    let rest := x.cache.filter (fun c => c.seq != e.seq)
    { x with cache := (if rest.length ≥ 8 then rest.drop (rest.length - 7) else rest) ++ [e] }) s

/-- The error-log entry of a rejection (02 R66; 17 R639, R640). -/
def logReject (op : Nat) (p : Packet) (st : Status) (s : State) : State :=
  match st with
  | .crcFail => logErr 0x12 1 0x10 (portIdx p.port) s
  | .authFail => logErr 0x08 2 0x0F (cmdSlot p) s
  | .authLocked => logErr 0x09 3 0x0F (cmdSlot p) s
  | .counterStale => logErr 0x0A 2 0x0F (cmdSlot p) s
  | .integrity => logErr 0x0E 3 (op / 256) 0 s
  | _ => s

/-- Commit the reply of a command: log, cache and queue it (02 R66, R71, R72, R75 to R78). -/
def finish (op : Nat) (p : Packet) (st : Status) (chain : Nat) (payload : List Byte) (key : Option (List Byte)) (s : State) :
    State :=
  let bytes := replyBytes op p st chain payload key
  let s := logReject op p st s
  let s := if notCached st then s else
    cachePut p.port { seq := p.seq.toNat, opcode := op, crc := p.crc.toNat, reply := bytes, ok := st == .ok } s
  if st ≠ .ok ∨ cmdReply p then queueReply p.port bytes s else s

/-- The cached reply of a retransmission (02 R76). -/
def cacheFind (s : State) (op : Nat) (p : Packet) : Option CacheEntry :=
  (portOf s p.port).cache.find? (fun c => c.seq == p.seq.toNat && c.opcode == op && c.crc == p.crc.toNat)

/-- Commands of this port accepted and not yet replied to (02 R63 step 3). -/
def outstanding (s : State) (port : HostPort) : Nat := (s.ecsol.held.filter (fun h => h.pkt.port == port)).length

/-- The port takes no new command from its input: a queue beyond its size after a reply, or rings that are not enabled (12
R463, R478, R493). -/
def portBlocked (s : State) (port : HostPort) : Bool :=
  match port with
  | .pcie =>
    let r := ringOf s 0
    !s.pcie.cmdEn || !s.pcie.ringEn.testBit 0 || decide (queueCap .pcie < queueUsed r.outq)
      || (r.fault && r.outq.any (fun i => i.cls == 0))
  | q => decide (queueCap q < queueUsed (portOf s q).outq)

/-- Opcodes permitted in BLANK (17 R630). -/
def blankOps : List Nat := [0x0101, 0x0102, 0x0104, 0x0105, 0x0103, 0x0E01, 0x0E02, 0x0E03, 0x0F03, 0x0F04, 0x0F05]

/-- Step 6: the opcode is permitted in the life-cycle state (17 R630). -/
def permitted (l : LifeCycle) (op : Nat) : Bool :=
  match l with
  | .blank => blankOps.contains op
  | .returned => op != 0x0F01
  | _ => true

/-- Critical opcodes need AUTH 1 here (02 R84). -/
def authNeeded (l : LifeCycle) : Bool := l == .provisioned || l == .deployed

/-- The 16-byte payload of a security event (17 R638). -/
def secEvent (s : State) (event slot detail : Nat) : List Byte :=
  le 1 event ++ le 1 slot ++ le 1 detail ++ [0] ++ le 8 s.epochMs ++ zeros 4

/-- One more consecutive failure of a slot; the eighth locks it for 1 s (02 R96, R97). -/
def countFailure (k : Nat) (s : State) : State :=
  if (slotOf s k).failures + 1 ≥ 8 then
    let s := modSlot k (fun x => { x with failures := 0, lockUntil := some (nowMs s + 1000) }) s
    postStatus 0x0F k (secEvent s 5 k 0) s
  else modSlot k (fun x => { x with failures := x.failures + 1 }) s

/-- What step 7 answers: a rejection with the failure counted where it counts, or the key that signs the reply. -/
def authStep (sp : OpSpec) (p : Packet) (s : State) : (Status × State) ⊕ (Option (List Byte) × State) :=
  if !cmdAuth p then
    if sp.critical && authNeeded s.security.life then .inl (.authRequired, s) else .inr (none, s)
  else
    let k := cmdSlot p
    let sl := slotOf s k
    if sl.lockUntil.isSome then .inl (.authLocked, s)
    else if sl.state ≠ 1 then .inl (.authFail, s)
    else if le 16 p.tag.toNat ≠ tagOf sl.key (cmdSigned sp.opcode p) then .inl (.authFail, countFailure k s)
    else if p.counter.toNat ≤ sl.highWater then .inl (.counterStale, countFailure k s)
    else .inr (some sl.key, modSlot k (fun x => { x with failures := 0 }) s)

/-- Step 8: LENGTH lies in the opcode's range and is what its count fields require (02 R81, R82). -/
def lengthOk (sp : OpSpec) (p : Packet) : Bool :=
  let n := p.params.length
  decide (sp.minLen ≤ n) && decide (n ≤ sp.maxLen) && (match sp.form p.params with | some k => n == k | none => true)

/-- Step 9: the status of the first island in the way (01 R21, R22; 05 R246). -/
def islandStep (sp : OpSpec) (p : Packet) (s : State) : Option Status :=
  let is := sp.islands p.params s
  if is.any (fun i => !countsOn s i) then some .blockOff
  else if is.any (fun i => !countsReady s i) then some .busy
  else none

/-- The self-test blocks that a command reaches (17 R621). -/
def reached (sp : OpSpec) (p : Packet) (s : State) : List Nat :=
  sp.reach p.params s ++ (if cmdAuth p then [56] else [])

/-- A self-test block's record. -/
def bstOf (s : State) (b : Nat) : BstBlock := tget BstBlock.initial s.bst.blocks b
/-- Change a self-test block's record. -/
def modBst (b : Nat) (f : BstBlock → BstBlock) (s : State) : State :=
  { s with bst.blocks := tmod BstBlock.initial s.bst.blocks b f }

/-- The 16-byte payload of MSG_SELFTEST (17 R628). -/
def selftestBytes (s : State) (block result slice mode detail : Nat) : List Byte :=
  le 1 block ++ le 1 result ++ le 1 slice ++ le 1 mode ++ le 8 s.epochMs ++ le 4 detail

/-- Send a MSG_SELFTEST (17 R628). -/
def postSelftest (block result slice mode detail : Nat) (s : State) : State :=
  post (msg2 s 0x8E 0x0E block (selftestBytes s block result slice mode detail)) s

/-- The working key registers are loaded from MRAM (17 R633). -/
def reloadKeys (s : State) : State := { s with security.workKeys := (upto 4).any (fun k => (slotOf s k).state == 1) }

/-- Abort the slice in progress: recorded as ABORTED, changing no result; reported at most once a second per block (17
R621, R622, R628). -/
def abortSlice (s : State) : State :=
  match s.bst.active with
  | none => s
  | some r =>
    let b := bstOf s r.block
    let n := sat 65535 (b.aborts + 1)
    let due := match b.abortSentMs with
      | none => true
      | some t => instantReached (t + 1000) s
    let s := reloadKeys { s with bst.active := none, bst.aborted := (s.bst.aborted + 1) % 2 ^ 32 }
    let s := modBst r.block (fun x => { x with aborts := n, abortSentMs := if due then some (nowMs s) else x.abortSentMs }) s
    if due then postSelftest r.block 3 r.slice r.mode n s else s

/-- The command in process is held: every command that waits behind it stays behind it (02 R68). -/
def holdCmd (op : Nat) (p : Packet) (why : HoldReason) (s : State) : State :=
  { s with ecsol.held := { opcode := op, pkt := p, why := why, mute := false } :: s.ecsol.held }

/-- Steps 10 to 13 (02 R63): the parameter CRC, the opcode's own checks, the persisting of the counter, the change. -/
def commitCmd (sp : OpSpec) (p : Packet) (key : Option (List Byte)) (s : State) : State :=
  if p.obs.paramCrcFail then finish sp.opcode p .integrity 0 [] key s
  else
    let s' := if key.isSome then modSlot (cmdSlot p) (fun x => { x with highWater := p.counter.toNat }) s else s
    match sp.act p s' with
    | .reject st => finish sp.opcode p st 0 [] key s
    | .rejectNote st t =>
      finish sp.opcode p st 0 [] key
        (if key.isSome then modSlot (cmdSlot p) (fun x => { x with highWater := (slotOf s (cmdSlot p)).highWater }) t else t)
    | .ok chain payload t =>
      if p.obs.mramFail && (key.isSome || sp.mram) then finish sp.opcode p .integrity 0 [] key s
      else finish sp.opcode p .ok chain payload key t
    | .hold why => holdCmd sp.opcode p why s

/-- The key that signs the reply of a command that passed step 7 (02 R94). No other command is processed while one is held, so a
held command's slot still holds the key that step 7 used (log 37). -/
def signKey (s : State) (p : Packet) : Option (List Byte) := if cmdAuth p then some (slotOf s (cmdSlot p)).key else none

/-- From step 9 on: a self-test slice on a block that the command reaches is waited for or aborted (17 R621); a reserved
slice of the Voile correlators is withdrawn (17 R620). -/
def reachCmd (sp : OpSpec) (p : Packet) (key : Option (List Byte)) (s0 : State) : State :=
  let s := if (reached sp p s0).contains 37 then { s0 with bst.voileReserved := false } else s0
  match s.bst.active with
  | some r =>
    if (reached sp p s).contains r.block then
      if p.obs.testLeft ≤ 100 then
        holdCmd sp.opcode p (.selfTest r.block) s
      else commitCmd sp p key (abortSlice s)
    else commitCmd sp p key s
  | none => commitCmd sp p key s

/-- The device takes commands: Run, out of reset, firmware ready (16 R608). -/
def hostUp (s : State) : Bool := s.power.mode == .run && !s.power.inReset && s.power.fwReady

/-- Steps 4 to 9 of an opcode of the master index (02 R63). -/
def checkCmd (sp : OpSpec) (p : Packet) (s : State) : State :=
  let rej := fun (st : Status) (key : Option (List Byte)) (t : State) => finish sp.opcode p st 0 [] key t
  if bitsOf p.flags.toNat 7 4 ≠ 0 ∨ (!cmdAuth p ∧ cmdSlot p ≠ 0) then rej .badValue none s
  else if !permitted s.security.life sp.opcode then rej .lifecycle none s
  else
    match authStep sp p s with
    | .inl (st, t) => rej st none t
    | .inr (key, t) =>
      if !lengthOk sp p then rej .badLength key t
      else match islandStep sp p t with
        | some st => rej st key t
        | none => reachCmd sp p key t

/-- The sequence window answers BAD_STATE with no later check (02 R667); otherwise the later steps `rest` follow. -/
def windowStep (op : Nat) (p : Packet) (rest : State → State) (s : State) : State :=
  if s.ecsol.window ≠ .none then finish op p .badState 0 [] none s else rest s

/-- A command waits at the end of the one queue of commands (02 R68). -/
def queueBehind (op : Nat) (p : Packet) (s : State) : State :=
  { s with ecsol.held := s.ecsol.held ++ [{ opcode := op, pkt := p, why := .behind, mute := false }] }

/-- Input wakes the firmware processors from retention (01 R14). -/
def wakeFirmware (s : State) : State := { s with power.retention := false }

/-- A command whose key matches a cache entry is not executed: the cached reply is sent again (02 R76). -/
def fromCache (op : Nat) (p : Packet) (rest : State → State) (s : State) : State :=
  match cacheFind s op p with
  | some c => if !c.ok ∨ cmdReply p then queueReply p.port c.reply s else s
  | none => rest s

/-- Steps 1 to 3 (02 R63), around the later steps `rest`. A command packet wakes the firmware processors from retention (01 R14).
While an earlier command is held, a command that has passed step 3 waits behind it, so that effects keep the order of receipt (01
R27, 02 R68); in a sequence window it is answered at once (02 R667). -/
def frontCmd (op : Nat) (p : Packet) (rest : State → State) (s : State) : State :=
  if !hostUp s || portBlocked s p.port then s
  else
    let s := wakeFirmware s
    if p.crc.toNat ≠ crc32c (cmdBytes op p) then finish op p .crcFail 0 [] none s
    else fromCache op p (fun s =>
      if 8 ≤ outstanding s p.port then finish op p .busy 0 [] none s
      else if !s.ecsol.held.isEmpty ∧ s.ecsol.window = .none then queueBehind op p s
      else windowStep op p rest s) s

/-- One command packet, from its receipt to its reply (02 R63). -/
def runCmd (sp : OpSpec) (p : Packet) (s : State) : State := frontCmd sp.opcode p (checkCmd sp p) s

/-- Steps 4 and 5 of a packet whose opcode is absent from the master index (02 R63 step 5, R101). -/
def checkUnknown (op : Nat) (p : Packet) (s : State) : State :=
  finish op p (if bitsOf p.flags.toNat 7 4 ≠ 0 ∨ (!cmdAuth p ∧ cmdSlot p ≠ 0) then .badValue else .unknownOpcode) 0 [] none s

/-- A packet whose opcode is absent from the master index. -/
def runUnknown (op : Nat) (p : Packet) (s : State) : State := frontCmd op p (checkUnknown op p) s

/-- Where `mute` holds, the reply that `f` commits to the command ring is discarded (12 R482, R493). -/
def muteReply (mute : Bool) (f : State → State) (s : State) : State :=
  if mute then
    let old := (ringOf s 0).outq
    modRing 0 (fun r => { r with outq := r.outq.filter (fun it => it.cls != 0 || old.contains it) }) (f s)
  else f s

/-- A held command goes on from step 10 (17 R621): its COUNTER is still above the mark, since every later command waits behind it (02 R68, R90;
log 37). -/
def resumeCmd (sp : OpSpec) (p : Packet) (s : State) : State := commitCmd sp p (signKey s p) s

/-! ### How a command's own checks are written -/

/-- Reject with `st` when `bad` holds; otherwise go on. -/
def rejectIf (bad : Bool) (st : Status) (k : CmdOut) : CmdOut := if bad then .reject st else k

/-- Committed, with an empty payload. -/
def done (s : State) : CmdOut := .ok 0 [] s

/-- Committed, with a payload of chain status 0. -/
def answer (payload : List Byte) (s : State) : CmdOut := .ok 0 payload s

/-- An opcode of a fixed length whose target needs no island. -/
def plainOp (opcode : Nat) (critical : Bool) (len : Nat) (act : Packet → State → CmdOut) : OpSpec :=
  { opcode := opcode, critical := critical, minLen := len, maxLen := len, form := fun _ => none, islands := fun _ _ => [],
    reach := fun _ _ => [], mram := false, act := act }

end Sys2Proof.Machine
end

