-- ==== Sys2Proof/Machine/Subscribe.lean ====
section
/-! DEFINITION. Entries on their way to the subscription rings of the kernel cores (14 R555 to R557): which subscriptions a
message or a dump record reaches, and the queue that SUBSCRIPTION_DELIVERY takes them from. -/
namespace Sys2Proof.Machine

/-- A kernel core. -/
def coreOf (s : State) (k : Nat) : Core := tget Core.initial s.kernels.cores k
/-- Change a kernel core. -/
def modCore (k : Nat) (f : Core → Core) (s : State) : State :=
  { s with kernels.cores := tmod Core.initial s.kernels.cores k f }
/-- A subscription ring of a core. -/
def subRing (c : Core) (n : Nat) : SubRing := tget SubRing.none c.rings n

/-- The core's placement is current: it carries a generation (14 R553, R564). -/
def corePlaced (c : Core) : Bool := c.gen != 0

/-- OUT_FILTER of the subscriptions of core `k` (12 R489). -/
def coreFilter (s : State) (k : Nat) : Nat := tget 0 s.ecsol.filters (16 + k)

/-- The subscriptions, as core and ring, that a test selects. -/
def subscribers (s : State) (test : SubRing → Bool) : List (Nat × Nat) :=
  (upto 16).flatMap (fun k =>
    let c := coreOf s k
    if corePlaced c then ((upto 4).filter (fun n => test (subRing c n))).map (fun n => (k, n)) else [])

/-- Queue a message for the subscriptions that `test` selects; `payload` answers what a target with that OUT_FILTER
receives. -/
def deliverMsg (test : SubRing → Bool) (id cls inst chain : Nat) (payload : Nat → Option (List Byte)) (s : State) : State :=
  foldS (fun (x : Nat × Nat) t =>
    match payload (coreFilter t x.1) with
    | some b =>
      let d : Delivery :=
        { core := x.1, ring := x.2, gen := (coreOf t x.1).gen, kind := (subRing (coreOf t x.1) x.2).kind, dump := false, id := id,
          cls := cls, inst := inst, chain := chain, body := b }
      { t with kernels.deliveries := t.kernels.deliveries ++ [d] }
    | none => t) (subscribers s test) s

/-- Queue a dump record for the subscriptions of KIND 1 that cover its channel and aperture. -/
def deliverDump (c a chain : Nat) (rec : List Byte) (s : State) : State :=
  foldS (fun (x : Nat × Nat) t =>
    let d : Delivery :=
      { core := x.1, ring := x.2, gen := (coreOf t x.1).gen, kind := 1, dump := true, id := 0, cls := 0, inst := 0, chain := chain,
        body := rec }
    { t with kernels.deliveries := t.kernels.deliveries ++ [d] })
    (subscribers s (fun r => r.kind == 1 && decide (bitsOf r.filter 7 0 ≤ c ∧ c ≤ bitsOf r.filter 15 8) && r.apr.testBit a)) s

/-- Messages that every subscription to measurements receives: MSG_PVT and the commit records of MSG_CAL (14 R555). -/
def subscribeMeas (id cls : Nat) (chain : Nat) (payload : List Byte) (s : State) : State :=
  deliverMsg (fun r => r.kind == 2) id cls 0 chain (fun _ => some payload) s

/-- A MSG_ACQ of CONFIRM or REVOKE records for the subscriptions to measurements of one core that cover channel `c` (04
R178). -/
def subscribeAcq (k c : Nat) (payload : List Byte) (s : State) : State :=
  foldS (fun n t =>
    let d : Delivery :=
      { core := k, ring := n, gen := (coreOf t k).gen, kind := 2, dump := false, id := 0x89, cls := 0x04, inst := 0, chain := 0,
        body := payload }
    { t with kernels.deliveries := t.kernels.deliveries ++ [d] })
    ((upto 4).filter (fun n => corePlaced (coreOf s k) && (subRing (coreOf s k) n).kind == 2 && (subRing (coreOf s k) n).filter.testBit (c / 8))) s

end Sys2Proof.Machine
end

