-- ==== Sys2Proof/Machine/Banks.lean ====
section
/-! DEFINITION. The shared memory banks (15): owners and hand-over, granules with ECC and poison, the accesses of the host
through BAR2, the scrubber, and the MEM_ commands. -/
namespace Sys2Proof.Machine

/-- A bank. -/
def bankOf (s : State) (b : Nat) : Bank := tget Bank.initial s.banks b
/-- Change a bank. -/
def modBank (b : Nat) (f : Bank → Bank) (s : State) : State := { s with banks := tmod Bank.initial s.banks b f }
/-- The bytes of one bank (12 R481). -/
def bankSize : Nat := 1048576
/-- The byte of the banks at an address: bank b lies at b x 2^20; an unlisted byte reads as 0 (15 R581). -/
def bankByte (s : State) (addr : Nat) : Byte := tget 0 s.bankMem addr
/-- `n` bytes of the banks. -/
def bankBytes (s : State) (addr n : Nat) : List Byte := tgetMany 0 s.bankMem addr n
/-- The granule of a byte address. -/
def granuleOf (addr : Nat) : Nat := addr / 32
/-- A granule is poisoned. -/
def poisoned (s : State) (g : Nat) : Bool := tget false s.poison g
/-- Set or clear a granule's poison. -/
def setPoison (g : Nat) (p : Bool) (s : State) : State := { s with poison := tset false s.poison g p }
/-- The granules that `n` bytes from `addr` touch. -/
def granulesOf (addr n : Nat) : List Nat :=
  if n = 0 then [] else (upto (granuleOf (addr + n - 1) - granuleOf addr + 1)).map (· + granuleOf addr)

/-- The owner code of a kernel core (15 R570). -/
def coreOwner (k : Nat) : Nat := 0x10 + k

/-! ### Events and the log (15 R590, 17 R639) -/

/-- A bank event. -/
def bankEvent (ev b old new value : Nat) (s : State) : State :=
  postStatus 0x0D b (le 1 ev ++ le 1 b ++ le 1 old ++ le 1 new ++ le 8 s.epochMs ++ le 4 value) s

/-- The log entry of a bank access: the bank and its master together; none = the host. -/
def logAccess (code b : Nat) (core : Option Nat) (s : State) : State := match core with
  | none => logErr code 1 0x0D b s
  | some k => logErr code 1 0x0C (16 * b + k) s

/-! ### ECC and poison (15 R582 to R585) -/

/-- Decode a granule in which the hardware finds `errs` wrong bits: 1 or 2 are corrected and written back, more are
uncorrectable, and the granule is then poisoned, counted, logged and reported. Answers whether it was corrected. -/
def decodeGranule (g errs : Nat) (s : State) : State × Bool :=
  let b := g / 32768
  if poisoned s g then (modBank b (fun x => { x with poisonFound := true }) s, false)
  else if errs = 0 then (s, false)
  else if errs ≤ 2 then (modBank b (fun x => { x with corrected := sat 0xFFFFFFFF (x.corrected + 1) }) s, true)
  else
    let off := g % 32768 * 32
    let s := modBank b (fun x =>
      { x with uncorr := sat 0xFFFFFFFF (x.uncorr + 1), lastUncorr := some off, poisonFound := true }) (setPoison g true s)
    (bankEvent 3 b 0 0 off (logErr 0x0E 3 0x0D b s), false)

/-- Decode several granules; `errs` gives the wrong bits of each in turn. Answers whether one was corrected. -/
def decodeGranules : List Nat → List Nat → State → State × Bool
  | [], _, s => (s, false)
  | g :: gs, errs, s =>
    let x := decodeGranule g (errs.headD 0) s
    let y := decodeGranules gs errs.tail x.1
    (y.1, x.2 || y.2)

/-- Write bytes granule by granule: a whole granule takes the tag of the data, a partial one is decoded and merged, and stays
poisoned if it was (15 R582, 01 R34, R35). -/
def writeBank (addr : Nat) (bytes : List Byte) (tag : Bool) (errs : List Nat) (s : State) : State :=
  let n := bytes.length
  let gs := granulesOf addr n
  let whole := fun (g : Nat) => decide (addr ≤ 32 * g ∧ 32 * g + 32 ≤ addr + n)
  let s := (decodeGranules (gs.filter (fun g => !whole g)) errs s).1
  let s := foldS (fun g t => setPoison g (tag || (!whole g && poisoned t g)) t) gs s
  { s with bankMem := tsetMany 0 s.bankMem addr bytes }

/-! ### Owners and hand-over (15 R570 to R578) -/

/-- The bank is powered and initialised: an access is answered by its owner rules (15 R580, R581). -/
def bankReady (s : State) (b : Nat) : Bool := (bankOf s b).powered && (bankOf s b).ready

/-- The bank of a slot of the bank region. -/
def slotBank (slot : Nat) : Nat := slot / 262144
/-- The byte address of a slot. -/
def slotAddr (slot : Nat) : Nat := 4 * slot

/-- A core has a transfer in progress on the bank: a busy emit, a posted store or a load (15 R576). -/
def coreTransfer (c : Core) (b : Nat) : Bool :=
  (c.emitStat == 1 && slotBank (c.emitAddr - 0x400000) == b) || c.posted.any (fun p => slotBank p.slot == b)
    || (match c.stalled with | some l => slotBank l.slot == b | none => false)

/-- A MEM_SCRUB is in progress on the bank. -/
def scrubbing (s : State) (b : Nat) : Bool := match s.scrub with
  | some j => j.bank == b
  | none => false

/-- A transfer or a MEM_SCRUB is in progress on the bank (15 R576, R581). -/
def bankBusy (s : State) (b : Nat) : Bool := scrubbing s b || (upto 16).any (fun k => coreTransfer (coreOf s k) b)

/-- A transfer that is not the owner's is in progress: the accesses of `owner` itself wait behind it (15 R577). -/
def othersBusy (s : State) (b owner : Nat) : Bool :=
  scrubbing s b || (upto 16).any (fun k => coreOwner k != owner && coreTransfer (coreOf s k) b)

/-- Hand a bank over: transfers in progress complete under the old owner's rights, with DRAIN 1 meanwhile; the change is
reported (15 R577, R590). -/
def handBank (b new cause : Nat) (s : State) : State :=
  let old := (bankOf s b).owner
  if old = new then s
  else
    let busy := othersBusy s b new
    bankEvent 1 b old new cause (modBank b (fun x => { x with owner := new, drain := busy }) s)

/-- Every bank that a core owns passes to `new` (15 R575). -/
def handAll (k new cause : Nat) (s : State) : State :=
  foldS (fun b t => handBank b new cause t) ((upto 16).filter (fun b => (bankOf s b).owner == coreOwner k)) s

/-- DRAIN_COMPLETE (15 R577): the last transfer of the previous owner has ended. -/
def drainComplete (b : Nat) (s : State) : State :=
  if (bankOf s b).drain ∧ !othersBusy s b (bankOf s b).owner then modBank b (fun x => { x with drain := false }) s else s

/-- A bank is idle (15 R581); SB0 never is (15 R571). -/
def bankIdle (s : State) (b : Nat) : Bool := b != 0 && (bankOf s b).owner == 1 && !bankBusy s b && !(bankOf s b).drain

/-- Clear the contents of a bank: zeros with valid check bits. -/
def clearBank (b : Nat) (s : State) : State :=
  { s with
    bankMem := s.bankMem.filter (fun x => x.1 / 1048576 != b), poison := s.poison.filter (fun x => x.1 / 32768 != b) }

/-- Power banks by a new bank mask: those of the mask that are off power on, idle ones outside it power off (01 R31, R44). -/
def powerBanks (mask : Nat) (s : State) : State :=
  foldS (fun b t =>
    let x := bankOf t b
    if mask.testBit b ∧ !x.powered then clearBank b (modBank b (fun y => { y with powered := true, ready := false, owner := 1 }) t)
    else if !mask.testBit b ∧ x.powered ∧ bankIdle t b then
      clearBank b (modBank b (fun y => { y with powered := false, ready := false, owner := 1, rotate := false }) t)
    else t) (upto 16) s

/-- BANK_READY (15 R581): zero initialisation completes. -/
def bankReadyRow (b : Nat) (s : State) : State :=
  let x := bankOf s b
  if x.powered ∧ !x.ready then modBank b (fun y => { y with ready := true }) s else s

/-- A kernel core inside the envelope's kernel mask. -/
def coreAllowed (s : State) (k : Nat) : Bool := s.profile.env.krnMask.testBit k

/-- The written OWNER is 0x01, or a kernel core inside the envelope's kernel mask (15 R574). -/
def ownerValid (s : State) (o : Nat) : Bool := o == 1 || (decide (0x10 ≤ o ∧ o ≤ 0x1F) && coreAllowed s (o - 0x10))

/-- A BAR0 write to OWNER (15 R574, R579). -/
def ownerWrite (b v : Nat) (s : State) : State :=
  let o := bitsOf v 7 0
  if (bankOf s b).owner ≠ 1 then
    logAccess 0x0D b none (modBank b (fun x => { x with notOwnerWr := sat 0xFFFF (x.notOwnerWr + 1) }) s)
  else if !ownerValid s o then modBank b (fun x => { x with refused := sat 0xFFFF (x.refused + 1) }) s
  else handBank b o 1 (modBank b (fun x => { x with rotate := bitOf v 8 }) s)

/-- The OWNER register as it reads (15 R573). -/
def ownerReg (s : State) (b : Nat) : Nat :=
  let x := bankOf s b
  x.owner + 256 * b2n x.rotate + 4096 * b2n x.powered + 8192 * b2n x.ready + 16384 * b2n (scrubbing s b) + 32768 * b2n x.drain

/-! ### The host through BAR2 (12 R481, 15 R580, R583) -/

/-- Count an access to a bank that is off, and log it (01 R23). -/
def countOff (b : Nat) (core : Option Nat) (s : State) : State :=
  logAccess 0x4B b core (modBank b (fun x => { x with offAccess := sat 0xFFFF (x.offAccess + 1) }) s)

/-- A request above 256 bytes, or one that crosses from one bank's window into the next. -/
def badRequest (off len : Nat) : Bool := decide (256 < len) || off / bankSize != (off + len - 1) / bankSize

/-- Refuse a request: no effect, counted in the bank of its first byte, an Unsupported Request. -/
def refuseRequest (off : Nat) (s : State) : State :=
  modBank (off / bankSize) (fun x => { x with unaligned := sat 0xFFFF (x.unaligned + 1) }) { s with pcie.ur := true }

/-- Rotate a DWORD right by 8 x k bits (15 R583). -/
def rotateDword (k : Nat) (d : List Byte) : List Byte := d.drop k ++ d.take k

/-- The host reaches the endpoint: the link is up and the device runs out of reset. -/
def pcieUp (s : State) : Bool := s.pcie.link.isSome && s.power.mode == .run && !s.power.inReset

/-- BAR2_READ of the `n` bytes enabled from byte offset `off`: whole DWORDs are returned; `errs` are the wrong bits of each
granule. The host's own request waits while its bank drains (15 R577); another owner's
bank refuses it at once. -/
def bar2Read (off n : Nat) (errs : List Nat) (s : State) : State :=
  let first := off - off % 4
  let len := (off + n + 3) / 4 * 4 - first
  let b := first / bankSize
  let x := bankOf s b
  if !pcieUp s || n == 0 || (x.drain && x.owner == 1) then s
  else
    let s := { s with pcie.ur := false, pcie.ep := false }
    if badRequest first len then refuseRequest first s
    else if !bankReady s b then countOff b none { s with ecsol.bus := zeros len }
    else if x.owner ≠ 1 then
      modBank b (fun y => { y with notOwnerRd := sat 0xFFFF (y.notOwnerRd + 1) }) { s with ecsol.bus := zeros len }
    else
      let gs := granulesOf first len
      let s := (decodeGranules gs errs s).1
      let d := bankBytes s first len
      { s with ecsol.bus := if x.rotate ∧ len = 4 then rotateDword (off % 4) d else d, pcie.ep := gs.any (poisoned s) }

/-- BAR2_WRITE of bytes at byte offset `off`; `full` = every byte enable is set. -/
def bar2Write (off : Nat) (bytes : List Byte) (full : Bool) (errs : List Nat) (s : State) : State :=
  let b := off / bankSize
  let x := bankOf s b
  if !pcieUp s || bytes.isEmpty || (x.drain && x.owner == 1) then s
  else
    let s := { s with pcie.ur := false }
    if !full || off % 4 != 0 || bytes.length % 4 != 0 || badRequest off bytes.length then refuseRequest off s
    else if !bankReady s b then countOff b none s
    else if x.owner ≠ 1 then
      logAccess 0x0D b none (modBank b (fun y => { y with notOwnerWr := sat 0xFFFF (y.notOwnerWr + 1) }) s)
    else writeBank off bytes false errs s

/-! ### Scrubbing (15 R586, R588) -/

/-- SCRUB_GRANULE (15 R586): the scrubber visits the next granule of a powered bank, whatever its owner. -/
def scrubGranule (b errs : Nat) (s : State) : State :=
  if bankReady s b then
    let pos := (bankOf s b).scrubPos
    let s := (decodeGranule (32768 * b + pos) errs s).1
    if pos = 32767 then modBank b (fun x => { x with scrubPos := 0, scrubPasses := (x.scrubPasses + 1) % 2 ^ 32 }) s
    else modBank b (fun x => { x with scrubPos := pos + 1 }) s
  else s

/-- MEM_SCRUB_COMPLETE (15 R588, R590): `fixed` lists the granules with correctable errors that the scrub found, `bad` those
with uncorrectable ones. -/
def memScrubComplete (fixed bad : List Nat) (s : State) : State := match s.scrub with
  | none => s
  | some j =>
    let base := bankSize * j.bank + j.off
    let gs := granulesOf base j.len
    let s := { s with scrub := none }
    if j.clear then
      let s := { s with
        bankMem := s.bankMem.filter (fun x => !decide (base ≤ x.1 ∧ x.1 < base + j.len)),
        poison := s.poison.filter (fun x => !gs.contains x.1) }
      bankEvent 2 j.bank 1 0 0 s
    else
      let here := fun (l : List Nat) => gs.filter (fun g => l.contains g && !poisoned s g)
      let s := foldS (fun g t => (decodeGranule g 1 t).1) (here fixed) s
      let s := foldS (fun g t => (decodeGranule g 3 t).1) (here bad) s
      bankEvent 2 j.bank 0 (sat 255 (here fixed).length) 0 s

/-! ### Commands (15 R587 to R589) -/

/-- MEM_OWNER (15 R587). -/
def memOwnerAct (p : Packet) (s : State) : CmdOut :=
  let b := p.params
  let n := u8 b 0
  let o := u8 b 1
  rejectIf (decide (15 < n) || !(o == 1 || decide (0x10 ≤ o ∧ o ≤ 0x1F)) || decide (1 < u8 b 2) || !zeroAt b 3 1) .badValue <|
  rejectIf ((bankOf s n).owner != 1) .notOwner <|
  rejectIf (o != 1 && !coreAllowed s (o - 0x10)) .profileLimit <|
  done (handBank n o 1 (modBank n (fun x => { x with rotate := u8 b 2 == 1 }) s))

def specMemOwner : OpSpec := plainOp 0x0D01 false 4 memOwnerAct

/-- MEM_SCRUB (15 R588). -/
def memScrubAct (p : Packet) (s : State) : CmdOut :=
  let b := p.params
  let n := u8 b 0
  let off := u32 b 4
  let len := u32 b 8
  rejectIf (decide (15 < n) || decide (1 < u8 b 1) || !zeroAt b 2 2 || off % 32 != 0 || len % 32 != 0 || decide (len < 32)
    || decide (bankSize < off + len)) .badValue <|
  rejectIf (!bankReady s n || s.scrub.isSome) .badState <|
  rejectIf (u8 b 1 == 1 && (bankOf s n).owner != 1) .notOwner <|
  done { s with scrub := some { bank := n, clear := u8 b 1 == 1, off := off, len := len, corrected := 0 } }

def specMemScrub : OpSpec := plainOp 0x0D02 false 12 memScrubAct

/-- The counters of a bank after CLEAR 1 (15 R589). -/
def clearCounters (x : Bank) : Bank :=
  { x with
    corrected := 0, uncorr := 0, notOwnerWr := 0, notOwnerRd := 0, offAccess := 0, unaligned := 0, stale := 0, refused := 0,
    scrubPasses := 0, lastUncorr := none, poisonFound := false }

/-- MEM_STATUS (15 R589). -/
def memStatusAct (p : Packet) (s : State) : CmdOut :=
  let b := p.params
  let n := u8 b 0
  let x := bankOf s n
  let st := if !x.powered then 0 else if !x.ready then 1 else 2
  let flags := b2n x.rotate + 2 * b2n x.drain + 4 * b2n (scrubbing s n) + 8 * b2n x.poisonFound
  rejectIf (decide (15 < n) || decide (1 < u8 b 1) || !zeroAt b 2 2) .badValue <|
  answer (le 1 n ++ le 1 st ++ le 1 x.owner ++ le 1 flags ++ le 4 x.corrected ++ le 4 x.uncorr ++ le 2 x.notOwnerWr
    ++ le 2 x.notOwnerRd ++ le 2 x.offAccess ++ le 2 x.unaligned ++ le 2 x.stale ++ le 2 x.refused ++ le 4 x.scrubPasses
    ++ le 4 (x.lastUncorr.getD 0xFFFFFFFF)) (if u8 b 1 = 1 then modBank n clearCounters s else s)

def specMemStatus : OpSpec := plainOp 0x0D03 false 4 memStatusAct

/-! ### The rows -/

def execMemOwner (p : Packet) (s : State) : Host.Outcome State Fault Refusal := .next (runCmd specMemOwner p s)
def execMemScrub (p : Packet) (s : State) : Host.Outcome State Fault Refusal := .next (runCmd specMemScrub p s)
def execMemStatus (p : Packet) (s : State) : Host.Outcome State Fault Refusal := .next (runCmd specMemStatus p s)
def execBankReady (b : Fin 16) (s : State) : Host.Outcome State Fault Refusal := .next (if mainRuns s then bankReadyRow b s else s)
def execDrainComplete (b : Fin 16) (s : State) : Host.Outcome State Fault Refusal := .next (drainComplete b s)
def execScrubGranule (b : Fin 16) (errs : Nat) (s : State) : Host.Outcome State Fault Refusal := .next (scrubGranule b errs s)
def execMemScrubComplete (fixed bad : List Nat) (s : State) : Host.Outcome State Fault Refusal :=
  .next (memScrubComplete fixed bad s)
def execBar2Read (off : BitVec 24) (n : Nat) (errs : List Nat) (s : State) : Host.Outcome State Fault Refusal :=
  .next (bar2Read off.toNat n errs s)
def execBar2Write (off : BitVec 24) (bs : List Byte) (fullEnables : Bool) (errs : List Nat) (s : State) :
    Host.Outcome State Fault Refusal := .next (bar2Write off.toNat bs fullEnables errs s)
/-- OWNER_WRITE: a BAR0 write that reaches the endpoint (12 R476, 15 R574). -/
def execOwnerWrite (b : Fin 16) (v : BitVec 32) (s : State) : Host.Outcome State Fault Refusal :=
  .next (if pcieUp s then ownerWrite b v.toNat s else s)

end Sys2Proof.Machine
end

