-- ==== Sys2Proof/Machine/KernelDecode.lean ====
section
/-! DEFINITION. The encodings of the kernel instructions (13, "Instruction formats" and R508): what a program word spells, and
which words are illegal (13 R495, R503, R509, R510, R512, R516, R521, R522, R528, R531, R540). -/
namespace Sys2Proof.Machine

/-- Control instructions without an operand: major 0x01, SUB 0 to 7. -/
inductive KCtl where
  | nop | halt | ret | reti | fence | wait | ei | di
deriving DecidableEq, Repr

/-- ALU instructions of two sources. -/
inductive KAlu where
  | add | adds | sub | subs | and | or | xor | mul | mulh | min | max | minu | maxu | addbcd | subbcd | lsl | lsr | asr | asls
deriving DecidableEq, Repr

/-- ALU instructions of one source. -/
inductive KUna where
  | neg | negs | abs | abss | not | cls | clz | dadj | dbin
deriving DecidableEq, Repr

/-- The shifts of major 0x0A. -/
inductive KShi where
  | lsl | lsr | asr | asls
deriving DecidableEq, Repr

/-- The field instructions of major 0x17. -/
inductive KExt where
  | extu | exts | ins
deriving DecidableEq, Repr

/-- The multiply instructions of major 0x18. -/
inductive KMul where
  | mpy | mac | msu | mpyi | maci | msui
deriving DecidableEq, Repr

/-- Accumulator instructions on one accumulator. -/
inductive KAcu where
  | clra | nega | negas | absa | absas | rnda | sata
deriving DecidableEq, Repr

/-- Accumulator instructions on two accumulators. -/
inductive KAcb where
  | mova | adda | suba
deriving DecidableEq, Repr

/-- A decoded kernel instruction; register fields and immediates are the raw numbers of their fields. -/
inductive KInstr where
  | ctl (c : KCtl)
  | jr (p : Nat)
  | callr (p : Nat)
  | repr (d : Nat)
  | j (t : Nat)
  | call (t : Nat)
  | rep (n : Nat)
  | loopImm (n e : Nat)
  | loopReg (d e : Nat)
  | br (c : KCond) (a b off : Nat)
  | bri (c : KCond) (a i t : Nat)
  | bra (c : KCond) (a off : Nat)
  | alu (op : KAlu) (d a b : Nat)
  | una (op : KUna) (d a : Nat)
  | div (signed : Bool) (d a b : Nat)
  | shi (op : KShi) (d a amt : Nat)
  | addi (d a i : Nat)
  | addpi (d a i : Nat)
  | movi (d i : Nat)
  | movr (rd rs : Nat)
  | movil (rd i : Nat)
  | ld (d p m i : Nat)
  | st (d p m i : Nat)
  | ldr (r p m i : Nat)
  | str (r p m i : Nat)
  | ldx (d p q i : Nat)
  | stx (d p q i : Nat)
  | ldc (d p m i : Nat)
  | ext (op : KExt) (d a pos wm1 : Nat)
  | mul (op : KMul) (c a b : Nat)
  | acu (op : KAcu) (c : Nat)
  | acb (op : KAcb) (c a : Nat)
  | asha (sat : Bool) (c amt : Nat)
  | ashar (sat : Bool) (c a : Nat)
  | ftap (c pc ps : Nat)
deriving DecidableEq, Repr

/-- The member of a list at index `n`. -/
def nthOf {α : Type} : List α → Nat → Option α
  | [], _ => none
  | a :: _, 0 => some a
  | _ :: t, n + 1 => nthOf t n

/-- A field of a word. -/
def kf (w hi lo : Nat) : Nat := bitsOf w hi lo

/-- A register of the 6-bit numbering exists on this kind of core, and may be written when `wr` (13 R502, R503). -/
def kRegOk (transform : Bool) (r : Nat) (wr : Bool) : Bool :=
  if r = 56 then !transform
  else if r = 57 then transform
  else if r = 60 ∨ r = 61 then !wr
  else decide (r < 60)

/-- MODE and K of a memory instruction are defined on this kind of core (13 R510, R540). `k` is the raw field. -/
def kModeOk (transform : Bool) (m k : Nat) : Bool :=
  if m ≤ 2 then true
  else if m = 3 then decide (k < 4)
  else if m = 4 then transform && decide (1 ≤ k ∧ k ≤ 16)
  else false

/-- Codes 0 to 5 of COND (13 R522). -/
def kCondOf (n : Nat) : Option KCond := nthOf [.eq, .ne, .lt, .ge, .ltu, .geu] n

/-- A value when a condition holds. -/
def kIf {α : Type} (ok : Bool) (x : α) : Option α := if ok then some x else none

/-- The ALU group, major 0x09 (13 R508, R509). -/
def kDecodeAlu (w : Nat) : Option KInstr :=
  let sub := kf w 18 14
  let d := kf w 13 11
  let a := kf w 10 8
  let b := kf w 7 5
  if kf w 4 0 ≠ 0 then none
  else
    let alu := fun (op : KAlu) => some (KInstr.alu op d a b)
    let una := fun (op : KUna) => kIf (b == 0) (KInstr.una op d a)
    match sub with
    | 0 => alu .add | 1 => alu .adds | 2 => alu .sub | 3 => alu .subs | 4 => alu .and | 5 => alu .or | 6 => alu .xor
    | 7 => alu .mul | 8 => alu .mulh | 9 => alu .min | 10 => alu .max | 11 => alu .minu | 12 => alu .maxu
    | 13 => una .neg | 14 => una .negs | 15 => una .abs | 16 => una .abss | 17 => una .not | 18 => una .cls | 19 => una .clz
    | 20 => alu .addbcd | 21 => alu .subbcd | 22 => una .dadj | 23 => una .dbin
    | 24 => alu .lsl | 25 => alu .lsr | 26 => alu .asr | 27 => alu .asls
    | 28 => kIf (d % 2 == 0) (.div true d a b)
    | 29 => kIf (d % 2 == 0) (.div false d a b)
    | _ => none

/-- The control group, major 0x01. -/
def kDecodeCtl (w : Nat) : Option KInstr :=
  let sub := kf w 18 14
  let r := kf w 13 11
  if kf w 10 0 ≠ 0 then none
  else match sub with
    | 8 => some (.jr r)
    | 9 => some (.callr r)
    | 10 => some (.repr r)
    | n => if r ≠ 0 then none
      else (nthOf [KCtl.nop, .halt, .ret, .reti, .fence, .wait, .ei, .di] n).map .ctl

/-- The accumulator group, major 0x19: a field that the SUB does not use must be 0. -/
def kDecodeAcc (w : Nat) : Option KInstr :=
  let sub := kf w 18 14
  let c := kf w 13 12
  let a := kf w 11 10
  let amt := kf w 9 3
  let one := fun (op : KAcu) => kIf (a == 0 && amt == 0) (KInstr.acu op c)
  let two := fun (op : KAcb) => kIf (amt == 0) (KInstr.acb op c a)
  if kf w 2 0 ≠ 0 then none
  else match sub with
    | 0 => one .clra | 1 => two .mova | 2 => two .adda | 3 => two .suba | 4 => one .nega | 5 => one .negas | 6 => one .absa
    | 7 => one .absas
    | 8 => kIf (a == 0) (.asha false c amt)
    | 9 => kIf (a == 0) (.asha true c amt)
    | 10 => kIf (a == 0 && kf w 6 3 == 0) (.ashar false c (kf w 9 7))
    | 11 => kIf (a == 0 && kf w 6 3 == 0) (.ashar true c (kf w 9 7))
    | 12 => one .rnda | 13 => one .sata
    | _ => none

/-- Memory instructions, majors 0x10 to 0x16. -/
def kDecodeMem (transform : Bool) (major w : Nat) : Option KInstr :=
  let d := kf w 18 16
  let p := kf w 15 13
  let m := kf w 12 10
  let k := kf w 9 0
  let r := kf w 18 13
  let rp := kf w 12 10
  let rm := kf w 9 7
  let rk := kf w 6 0
  match major with
  | 0x10 => kIf (kModeOk transform m k) (.ld d p m k)
  | 0x11 => kIf (kModeOk transform m k) (.st d p m k)
  | 0x12 => kIf (kRegOk transform r true && kModeOk transform rm rk && !(rm != 0 && r == 8 + rp)) (.ldr r rp rm rk)
  | 0x13 => kIf (kRegOk transform r false && kModeOk transform rm rk) (.str r rp rm rk)
  | 0x14 => kIf (decide (kf w 12 9 ≤ 9)) (.ldx d p (kf w 12 9) (kf w 8 0))
  | 0x15 => kIf (decide (kf w 12 9 ≤ 5)) (.stx d p (kf w 12 9) (kf w 8 0))
  | _ => kIf (decide (m ≤ 1)) (.ldc d p m k)

/-- LOOP, BR, BRI and BRA, majors 0x05 to 0x08; an END below PC+ is undefined (13 R521). -/
def kDecodeFlow (pc major w v : Nat) : Option KInstr :=
  match major with
  | 0x05 =>
    let e := kf v 13 0
    let ok := kf w 17 16 == 0 && kf v 23 14 == 0 && decide (pc + 2 ≤ e)
    if kf w 18 18 = 0 then kIf ok (.loopImm (kf w 15 0) e) else kIf (ok && kf w 12 0 == 0) (.loopReg (kf w 15 13) e)
  | 0x06 => (kCondOf (kf w 18 16)).map (fun c => .br c (kf w 15 12) (kf w 11 8) (kf w 7 0))
  | 0x07 => (kCondOf (kf w 18 16)).bind (fun c => kIf (kf v 23 14 == 0) (.bri c (kf w 15 12) (kf w 11 0) (kf v 13 0)))
  | _ => if kf w 18 16 ≤ 3 ∧ kf w 13 8 = 0 then (kCondOf (kf w 18 16)).map (fun c => .bra c (kf w 15 14) (kf w 7 0)) else none

/-- The instruction that a word `w`, and for two-word instructions the word `v` after it, spells at offset `pc`; none = an
illegal encoding (13 R531), but for the conditions of R520. -/
def kDecode (transform : Bool) (pc w v : Nat) : Option KInstr :=
  match kf w 23 19 with
  | 0x01 => kDecodeCtl w
  | 0x02 => kIf (kf w 18 14 == 0) (.j (kf w 13 0))
  | 0x03 => kIf (kf w 18 14 == 0) (.call (kf w 13 0))
  | 0x04 => kIf (kf w 18 12 == 0) (.rep (kf w 11 0))
  | 0x05 => kDecodeFlow pc 0x05 w v
  | 0x06 => kDecodeFlow pc 0x06 w v
  | 0x07 => kDecodeFlow pc 0x07 w v
  | 0x08 => kDecodeFlow pc 0x08 w v
  | 0x09 => kDecodeAlu w
  | 0x0A => kIf (kf w 3 0 == 0) (.shi ((nthOf [KShi.lsl, .lsr, .asr, .asls] (kf w 18 17)).getD .lsl) (kf w 16 14) (kf w 13 11) (kf w 10 4))
  | 0x0B => some (.addi (kf w 18 16) (kf w 15 13) (kf w 12 0))
  | 0x0C => some (.addpi (kf w 18 16) (kf w 15 13) (kf w 12 0))
  | 0x0D => some (.movi (kf w 18 16) (kf w 15 0))
  | 0x0E => kIf (kf w 6 0 == 0 && kRegOk transform (kf w 18 13) true && kRegOk transform (kf w 12 7) false)
      (.movr (kf w 18 13) (kf w 12 7))
  | 0x0F => kIf (kf w 12 0 == 0 && kRegOk transform (kf w 18 13) true) (.movil (kf w 18 13) v)
  | 0x17 =>
    let pos := kf w 10 6
    let wm := kf w 5 1
    if kf w 0 0 ≠ 0 ∨ 23 < pos ∨ 24 < pos + wm + 1 then none
    else (nthOf [KExt.extu, .exts, .ins] (kf w 18 17)).map (fun op => .ext op (kf w 16 14) (kf w 13 11) pos wm)
  | 0x18 =>
    if kf w 7 0 ≠ 0 then none
    else (nthOf [KMul.mpy, .mac, .msu, .mpyi, .maci, .msui] (kf w 18 16)).map
      (fun op => .mul op (kf w 15 14) (kf w 13 11) (kf w 10 8))
  | 0x19 => kDecodeAcc w
  | 0x1A => kIf (kf w 10 0 == 0) (.ftap (kf w 18 17) (kf w 16 14) (kf w 13 11))
  | m => if 0x10 ≤ m ∧ m ≤ 0x16 then kDecodeMem transform m w else none

/-- The majors of two-word instructions: LOOP, BRI, MOVIL. -/
def kTwoWords (w : Nat) : Bool := kf w 23 19 == 0x05 || kf w 23 19 == 0x07 || kf w 23 19 == 0x0F

/-- A two-word instruction that its first word alone makes illegal (13 R532): no second word makes it legal. -/
def kFirstLegal (transform : Bool) (w : Nat) : Bool :=
  (kDecode transform 0 w (if kf w 23 19 = 0x05 then 0x3FFF else 0)).isSome

/-- Repeatable instructions (13 R520). -/
def kRepeatable : KInstr → Bool
  | .ctl .nop => true
  | .ctl _ | .jr _ | .callr _ | .repr _ | .j _ | .call _ | .rep _ | .loopImm _ _ | .loopReg _ _ | .br _ _ _ _ | .bri _ _ _ _
  | .bra _ _ _ | .movil _ _ | .div _ _ _ _ => false
  | _ => true

end Sys2Proof.Machine
end

