-- ==== Sys2Proof/Machine/KernelArith.lean ====
section
/-! DEFINITION. The arithmetic of the kernel cores: integer and fractional operations, shifts, division, decimal operations,
multiply-accumulate, moves out of an accumulator and pointer updates (13 R506 to R509, R525 to R530; 14 R535 to R540). A result
comes with the number of saturations that SATC counts. -/
namespace Sys2Proof.Machine

/-- A 24-bit word from an exact integer, wrapping. -/
def wrap24 (z : Int) : BitVec 24 := BitVec.ofInt 24 z

/-- A signed integer saturated to `w` bits, and whether it was (13 R507). -/
def satTo (w : Nat) (z : Int) : BitVec w × Nat :=
  let hi : Int := 2 ^ (w - 1)
  if hi ≤ z then (BitVec.ofInt w (hi - 1), 1) else if z < -hi then (BitVec.ofInt w (-hi), 1) else (BitVec.ofInt w z, 0)

/-- Shift left, bits out discarded; 0 from the width on. -/
def shl (w : Nat) (x : BitVec w) (n : Nat) : BitVec w := if w ≤ n then 0 else x <<< n
/-- Logical shift right. -/
def shr (w : Nat) (x : BitVec w) (n : Nat) : BitVec w := if w ≤ n then 0 else x >>> n
/-- Arithmetic shift right: all sign bits from the width on. -/
def sar (w : Nat) (x : BitVec w) (n : Nat) : BitVec w := BitVec.sshiftRight x (min n w)

/-- The shifts of R525 by the signed amount `s`. -/
def kShift (w : Nat) (op : KShi) (x : BitVec w) (s : Int) : BitVec w × Nat :=
  let n := s.natAbs
  match op with
  | .lsl => (if 0 ≤ s then shl w x n else shr w x n, 0)
  | .lsr => (if 0 ≤ s then shr w x n else shl w x n, 0)
  | .asr => (if 0 ≤ s then sar w x n else shl w x n, 0)
  | .asls =>
    if s < 0 then (sar w x n, 0)
    else if w ≤ n then
      if x = 0 then (0, 0) else satTo w (if x.msb then -(2 ^ w) else 2 ^ w)
    else satTo w (x.toInt * 2 ^ n)

/-- Leading zero bits among the low `n` bits of `x`. -/
def clzBits (x : Nat) : Nat → Nat
  | 0 => 0
  | n + 1 => if x.testBit n then 0 else 1 + clzBits x n

/-- CLZ: 0 to 24 (13 R508, R526). -/
def clz24 (x : BitVec 24) : Nat := clzBits x.toNat 24
/-- CLS: bits below bit 23 equal to bit 23 before the first that differs, 0 to 23. -/
def cls24 (x : BitVec 24) : Nat := clzBits (if x.msb then (~~~x).toNat else x.toNat) 23

/-- Digit `i` of a packed-decimal word, a nibble above 9 taken as 9 (13 R530). -/
def bcdDigit (x : BitVec 24) (i : Nat) : Nat := min 9 (bitsOf x.toNat (4 * i + 3) (4 * i))
/-- A nibble above 9 occurs. -/
def bcdBad (x : BitVec 24) : Bool := (upto 6).any (fun i => decide (9 < bitsOf x.toNat (4 * i + 3) (4 * i)))
/-- The number that six digits spell. -/
def bcdValue (x : BitVec 24) : Nat := (upto 6).foldl (fun n i => n + bcdDigit x i * 10 ^ i) 0
/-- Six digits of a number below 10^6. -/
def bcdOf (n : Nat) : BitVec 24 := BitVec.ofNat 24 ((upto 6).foldl (fun m i => m + n / 10 ^ i % 10 * 16 ^ i) 0)

/-- The result of an ALU instruction of two sources, and its saturations. -/
def kAlu (op : KAlu) (a b : BitVec 24) : BitVec 24 × Nat :=
  match op with
  | .add => (wrap24 (a.toInt + b.toInt), 0)
  | .adds => satTo 24 (a.toInt + b.toInt)
  | .sub => (wrap24 (a.toInt - b.toInt), 0)
  | .subs => satTo 24 (a.toInt - b.toInt)
  | .and => (a &&& b, 0)
  | .or => (a ||| b, 0)
  | .xor => (a ^^^ b, 0)
  | .mul => (wrap24 (a.toInt * b.toInt), 0)
  | .mulh => satTo 24 ((a.toInt * b.toInt + 2 ^ 22) / 2 ^ 23)
  | .min => (if a.toInt ≤ b.toInt then a else b, 0)
  | .max => (if a.toInt ≤ b.toInt then b else a, 0)
  | .minu => (if a.toNat ≤ b.toNat then a else b, 0)
  | .maxu => (if a.toNat ≤ b.toNat then b else a, 0)
  | .addbcd => (bcdOf ((bcdValue a + bcdValue b) % 1000000), b2n (bcdBad a || bcdBad b))
  | .subbcd => (bcdOf ((bcdValue a + 1000000 - bcdValue b) % 1000000), b2n (bcdBad a || bcdBad b))
  | .lsl => kShift 24 .lsl a b.toInt
  | .lsr => kShift 24 .lsr a b.toInt
  | .asr => kShift 24 .asr a b.toInt
  | .asls => kShift 24 .asls a b.toInt

/-- The result of an ALU instruction of one source. -/
def kUna (op : KUna) (a : BitVec 24) : BitVec 24 × Nat :=
  match op with
  | .neg => (wrap24 (-a.toInt), 0)
  | .negs => satTo 24 (-a.toInt)
  | .abs => (wrap24 a.toInt.natAbs, 0)
  | .abss => satTo 24 a.toInt.natAbs
  | .not => (~~~a, 0)
  | .cls => (BitVec.ofNat 24 (cls24 a), 0)
  | .clz => (BitVec.ofNat 24 (clz24 a), 0)
  | .dadj => if a.toNat ≤ 999999 then (bcdOf a.toNat, 0) else (0x999999, 1)
  | .dbin => (BitVec.ofNat 24 (bcdValue a), b2n (bcdBad a))

/-- DIV and DIVU: quotient, remainder, saturations, divisions by zero (13 R527). -/
def kDiv (signed : Bool) (a b : BitVec 24) : BitVec 24 × BitVec 24 × Nat × Nat :=
  if signed then
    if b = 0 then (if a.msb then 0x800000 else 0x7FFFFF, a, 0, 1)
    else if a = 0x800000 ∧ b = 0xFFFFFF then (0x7FFFFF, 0, 1, 0)
    else (wrap24 (a.toInt.tdiv b.toInt), wrap24 (a.toInt.tmod b.toInt), 0, 0)
  else if b = 0 then (0xFFFFFF, a, 0, 1)
  else (a / b, a % b, 0, 0)

/-- EXTU, EXTS and INS on a field of `w` bits at `pos`; `d` is the old destination. -/
def kExt (op : KExt) (d a : BitVec 24) (pos w : Nat) : BitVec 24 :=
  let f := a.toNat / 2 ^ pos % 2 ^ w
  match op with
  | .extu => BitVec.ofNat 24 f
  | .exts => wrap24 (if f.testBit (w - 1) then (f : Int) - 2 ^ w else f)
  | .ins =>
    let low := d.toNat % 2 ^ pos
    let high := d.toNat / 2 ^ (pos + w) * 2 ^ (pos + w)
    BitVec.ofNat 24 (high + a.toNat % 2 ^ w * 2 ^ pos + low)

/-- MPY, MAC, MSU and their integer forms (14 R535). -/
def kMul (op : KMul) (c : BitVec 56) (a b : BitVec 24) : BitVec 56 :=
  let p := a.toInt * b.toInt
  BitVec.ofInt 56 (match op with
    | .mpy => 2 * p
    | .mac => c.toInt + 2 * p
    | .msu => c.toInt - 2 * p
    | .mpyi => p
    | .maci => c.toInt + p
    | .msui => c.toInt - p)

/-- Accumulator instructions on one accumulator. -/
def kAcu (op : KAcu) (c : BitVec 56) : BitVec 56 × Nat :=
  match op with
  | .clra => (0, 0)
  | .nega => (BitVec.ofInt 56 (-c.toInt), 0)
  | .negas => satTo 56 (-c.toInt)
  | .absa => (BitVec.ofInt 56 c.toInt.natAbs, 0)
  | .absas => satTo 56 c.toInt.natAbs
  | .rnda => (BitVec.ofNat 56 ((c.toNat + 2 ^ 23) % 2 ^ 56 / 2 ^ 24 * 2 ^ 24), 0)
  | .sata =>
    let top := bitsOf c.toNat 55 47
    if top = 0 ∨ top = 511 then (c, 0) else (if c.msb then 0xFF800000000000 else 0x007FFFFFFFFFFF, 1)

/-- Accumulator instructions on two accumulators. -/
def kAcb (op : KAcb) (c a : BitVec 56) : BitVec 56 :=
  match op with
  | .mova => a
  | .adda => c + a
  | .suba => c - a

/-- A field read as a signed number of `n` bits. -/
def signExt (n v : Nat) : Int := if v < 2 ^ (n - 1) then v else (v : Int) - 2 ^ n

/-- The scaled move of a standard core (14 R536). -/
def scaledMove (scale : BitVec 24) (c : BitVec 56) : BitVec 24 × Nat :=
  let sh := signExt 6 (bitsOf scale.toNat 5 0)
  let x := if 0 ≤ sh then c.toInt * 2 ^ sh.natAbs else c.toInt / 2 ^ sh.natAbs
  satTo 24 ((x + (if scale.toNat.testBit 6 then 2 ^ 23 else 0)) / 2 ^ 24)

/-- The block-exponent move of a transform core (14 R537). -/
def blockMove (bexp : BitVec 24) (c : BitVec 56) : BitVec 24 × Nat :=
  let sh := bitsOf bexp.toNat 20 16
  satTo 24 ((c.toInt + 2 ^ (23 + sh)) / 2 ^ (24 + sh))

/-- HEAD after a block-exponent move: the lesser of HEAD and the headroom of the result, 0 when it saturated. -/
def headAfter (bexp r : BitVec 24) (sat : Nat) : BitVec 24 :=
  let h := min (bitsOf bexp.toNat 12 8) (if sat = 0 then cls24 r else 0)
  BitVec.ofNat 24 (bitsOf bexp.toNat 20 16 * 65536 + h * 256)

/-- The value that a write to SCALE keeps (14 R536). -/
def scaleWrite (v : BitVec 24) : BitVec 24 := BitVec.ofNat 24 (v.toNat % 128)
/-- The value that a write to BEXP keeps: SHIFT at most 16, HEAD 23 (14 R537, R538). -/
def bexpWrite (v : BitVec 24) : BitVec 24 := BitVec.ofNat 24 (min 16 (bitsOf v.toNat 20 16) * 65536 + 23 * 256)

/-- The update of a pointer by a signed step: circular inside B to B + L - 1, linear when L is 0 (14 R539). -/
def circular (p b l : BitVec 24) (k : Int) : BitVec 24 :=
  if l = 0 then wrap24 ((p.toNat : Int) + k)
  else wrap24 ((b.toNat : Int) + ((p.toNat : Int) - b.toNat + k) % (l.toNat : Int))

/-- The low `n` bits of `i`, reversed. -/
def reverseBits (i : Nat) : Nat → Nat
  | 0 => 0
  | n + 1 => (i % 2) * 2 ^ n + reverseBits (i / 2) n

/-- The bit-reversed step of mode 4 over `n` bits (14 R540). -/
def bitReversed (p b : BitVec 24) (n : Nat) : BitVec 24 :=
  let d := (p - b).toNat
  let i := reverseBits ((reverseBits (d % 2 ^ n) n + 1) % 2 ^ n) n
  b + BitVec.ofNat 24 (d / 2 ^ n * 2 ^ n + i)

/-- A condition on two words (13 R522). -/
def kCond (c : KCond) (a b : BitVec 24) : Bool :=
  match c with
  | .eq => a == b
  | .ne => a != b
  | .lt => decide (a.toInt < b.toInt)
  | .ge => decide (b.toInt ≤ a.toInt)
  | .ltu => decide (a.toNat < b.toNat)
  | .geu => decide (b.toNat ≤ a.toNat)

/-- A condition on an accumulator against 0 (13 R508, R522). -/
def kCondAcc (c : KCond) (a : BitVec 56) : Bool :=
  match c with
  | .eq => a == 0
  | .ne => a != 0
  | .lt => a.msb
  | .ge => !a.msb
  | .ltu | .geu => false

/-- The part of a 32-bit slot that LDX loads (13 R516). -/
def slotPart (slot q : Nat) : BitVec 24 :=
  match q with
  | 0 => BitVec.ofNat 24 (bitsOf slot 7 0)
  | 1 => BitVec.ofNat 24 (bitsOf slot 15 8)
  | 2 => BitVec.ofNat 24 (bitsOf slot 23 16)
  | 3 => BitVec.ofNat 24 (bitsOf slot 31 24)
  | 4 => BitVec.ofNat 24 (bitsOf slot 15 0)
  | 5 => BitVec.ofNat 24 (bitsOf slot 31 16)
  | 6 => wrap24 (signExt 16 (bitsOf slot 15 0))
  | 7 => wrap24 (signExt 16 (bitsOf slot 31 16))
  | 8 => BitVec.ofNat 24 (bitsOf slot 23 0)
  | _ => BitVec.ofNat 24 (bitsOf slot 31 8)

/-- A local word after STX writes part of it: its byte 3 ignores writes (13 R516). -/
def localPart (old v : BitVec 24) (q : Nat) : BitVec 24 :=
  let n := v.toNat
  let put := fun (pos w x : Nat) => kExt .ins old (BitVec.ofNat 24 x) pos w
  match q with
  | 0 => put 0 8 n
  | 1 => put 8 8 n
  | 2 => put 16 8 n
  | 3 => old
  | 4 => put 0 16 n
  | _ => put 16 8 n

end Sys2Proof.Machine
end

