-- ==== Sys2Proof/Machine/KernelOps.lean ====
section
/-! DEFINITION. What a kernel instruction reads and writes: registers with their poison tags, segments, places of the data map,
the I/O window, pointers and fetching (13 R496 to R505, R510 to R519, R533; 14 R536 to R540, R548, R549). -/
namespace Sys2Proof.Machine

/-- K12 to K15 are transform cores (13 R494). -/
def kTransform (k : Nat) : Bool := decide (12 ≤ k)

/-! ### Registers (13 R502 to R505, R533) -/

/-- Register LK. -/
def rLK : Nat := 52
/-- Register LC. -/
def rLC : Nat := 53
/-- Register LS. -/
def rLS : Nat := 54
/-- Register LE. -/
def rLE : Nat := 55
/-- Register SCALE. -/
def rSCALE : Nat := 56
/-- Register BEXP. -/
def rBEXP : Nat := 57
/-- Register SATC. -/
def rSATC : Nat := 58
/-- Register DZC. -/
def rDZC : Nat := 59

/-- A register that holds its own word. -/
def kReg (c : Core) (r : Nat) : KVal := tget KVal.zero c.regs r
/-- An accumulator. -/
def kAccOf (c : Core) (n : Nat) : KAcc := tget KAcc.zero c.accs n
/-- Replace an accumulator. -/
def kSetAcc (c : Core) (n : Nat) (v : KAcc) : Core := { c with accs := tset KAcc.zero c.accs n v }
/-- Put a word into a register that holds its own word. -/
def kSetReg (c : Core) (r : Nat) (v : KVal) : Core := { c with regs := tset KVal.zero c.regs r v }

/-- STAT (13 R502). -/
def kStat (k : Nat) (c : Core) : BitVec 24 := BitVec.ofNat 24 (k * 2 ^ 20 + b2n (kTransform k) * 2 ^ 19 + c.gen)

/-- The word that a register number reads as, but for ACn itself (13 R502). -/
def kRead (k : Nat) (c : Core) (r : Nat) : KVal :=
  if 40 ≤ r ∧ r < 48 then
    let a := kAccOf c ((r - 40) / 2)
    { v := if r % 2 = 0 then a.v.extractLsb' 24 24 else a.v.extractLsb' 0 24, t := a.t }
  else if 48 ≤ r ∧ r < 52 then
    let a := kAccOf c (r - 48)
    { v := (a.v.extractLsb' 48 8).signExtend 24, t := a.t }
  else if r = 60 then { v := kStat k c, t := false }
  else if r = 61 then { v := BitVec.ofNat 24 c.cyc, t := false }
  else kReg c r

/-- The accumulator that a register number names, wholly or in part. -/
def kAccIdx (r : Nat) : Option Nat :=
  if 32 ≤ r ∧ r < 36 then some (r - 32)
  else if 40 ≤ r ∧ r < 48 then some ((r - 40) / 2)
  else if 48 ≤ r ∧ r < 52 then some (r - 48)
  else none

/-- Replace a part of an accumulator: its tag becomes the OR of the old and the new one (13 R504, R533). -/
def kSetPart (c : Core) (r : Nat) (x : KVal) : Core :=
  let n := (kAccIdx r).getD 0
  let a := kAccOf c n
  let v := a.v.toNat
  let w := x.v.toNat
  let new := if 48 ≤ r then v % 2 ^ 48 + w % 256 * 2 ^ 48
    else if r % 2 = 0 then v / 2 ^ 48 * 2 ^ 48 + w * 2 ^ 24 + v % 2 ^ 24
    else v / 2 ^ 24 * 2 ^ 24 + w
  kSetAcc c n { v := BitVec.ofNat 56 new, t := a.t || x.t }

/-- A 24-bit value written to a register (13 R504, R505, R533; 14 R536 to R538). -/
def kWrite (c : Core) (r : Nat) (x : KVal) : Core :=
  if 32 ≤ r ∧ r < 36 then kSetAcc c (r - 32) { v := BitVec.ofInt 56 (x.v.toInt * 2 ^ 24), t := x.t }
  else if 40 ≤ r ∧ r < 52 then kSetPart c r x
  else if r = rSCALE then kSetReg c r { x with v := scaleWrite x.v }
  else if r = rBEXP then kSetReg c r { x with v := bexpWrite x.v }
  else if r = rSATC ∨ r = rDZC then kSetReg c r { x with t := false }
  else kSetReg c r x

/-- SATC counts `n` saturations, DZC divisions by zero; both stop at 0xFF_FFFF (13 R505, R526). -/
def kCount (r n : Nat) (c : Core) : Core :=
  if n = 0 then c else kSetReg c r { v := BitVec.ofNat 24 (min 0xFFFFFF ((kReg c r).v.toNat + n)), t := false }

/-- A move out of an accumulator: the value, and the core with what the move itself records (14 R536, R537). The value reads
SCALE or BEXP as well as the accumulator, so it carries the tags of both, and HEAD takes the tag of what it records (DEDUCED
from 13 R533, log 40). -/
def kMoveOut (k : Nat) (c : Core) (n : Nat) : KVal × Core :=
  let a := kAccOf c n
  if kTransform k then
    let e := kReg c rBEXP
    let m := blockMove e.v a.v
    let t := a.t || e.t
    ({ v := m.1, t := t }, kCount rSATC m.2 (kSetReg c rBEXP { v := headAfter e.v m.1 m.2, t := t }))
  else
    let e := kReg c rSCALE
    let m := scaledMove e.v a.v
    ({ v := m.1, t := a.t || e.t }, kCount rSATC m.2 c)

/-- A 24-bit source of MOVR or STR (13 R504). -/
def kSource (k : Nat) (c : Core) (r : Nat) : KVal × Core :=
  if 32 ≤ r ∧ r < 36 then kMoveOut k c (r - 32) else (kRead k c r, c)

/-! ### Faults and outcomes (13 R531 to R534; 14 R566) -/

/-- What a core's fault record says of the instruction that faulted (14 R566). -/
structure KFault where
  code : Nat
  seg : Nat
  access : Nat
  reg : Nat
  pc : Nat
  word2 : Nat
  off : Nat
deriving DecidableEq, Repr

/-- A segment fault: `seg` 0 = CS, 1 to 4 = DS0 to DS3. -/
def segFault (pc w2 seg access off : Nat) : KFault :=
  { code := 3, seg := seg, access := access, reg := 255, pc := pc, word2 := w2, off := off }
/-- A poison fault on a register. ACCESS is the use that the value was read for, 255 where it is none of the listed ones (DEDUCED,
log 40). -/
def poisonFault (pc w2 access reg : Nat) : KFault :=
  { code := 2, seg := 255, access := access, reg := reg, pc := pc, word2 := w2, off := 0 }
/-- An illegal-instruction fault. -/
def illegalFault (pc w2 : Nat) : KFault :=
  { code := 1, seg := 255, access := 255, reg := 255, pc := pc, word2 := w2, off := 0 }

/-- What issuing an instruction does. -/
inductive KOut where
  /-- It faults before it has any effect. -/
  | fault (f : KFault)
  /-- It completes: the core after its effect, the next PC, whether a branch was taken, and its cycles. A load's data waits in
  `slot` (13 R524). -/
  | next (c : Core) (pc : Nat) (taken : Bool) (cycles : Nat)
  /-- A bank load: the core stalls (13 R517). -/
  | bankLoad (c : Core) (l : StalledLoad)
  /-- WAIT: issue stops (14 R547). -/
  | wait
  /-- HALT (13 R508). -/
  | halt
  /-- It cannot complete yet: 8 bank stores are outstanding, or FENCE finds one (13 R508, R517). -/
  | blocked
deriving DecidableEq, Repr

/-- An instruction of the operand it runs with: its core's number and state, and its second word. -/
structure KCtx where
  k : Nat
  c : Core
  w2 : Nat
  /-- The number of the free value that the instruction may read. -/
  draw : Nat := 0
deriving DecidableEq, Repr

/-- The core without the load that lands after this instruction, as instructions write it. -/
def kBase (x : KCtx) : Core := { x.c with slot := none }
/-- The next instruction follows in line. -/
def kNext (x : KCtx) (c : Core) : KOut := .next c (x.c.pc + 1) false 1

/-- Go on unless a register used as a pointer, count or operand is tagged (13 R534). -/
def kClean (x : KCtx) (access reg : Nat) (tag : Bool) (go : KOut) : KOut :=
  if tag then .fault (poisonFault x.c.pc x.w2 access reg) else go

/-- The segment that a pointer selects, as a key of `segs` (13 R500). -/
def segOf (p : Nat) : Nat := 1 + p / 2

/-- Go on with the address of an offset that the segment permits (13 R499). -/
def kAt (x : KCtx) (seg off access : Nat) (go : Nat → KOut) : KOut :=
  let g := tget (0, 0) x.c.segs seg
  if off < g.2 then go (g.1 + off) else .fault (segFault x.c.pc x.w2 seg access off)

/-- A taken jump: a target at or beyond the CS LIMIT is a segment fault against the jump itself (13 R523). -/
def kJump (x : KCtx) (c : Core) (target cycles : Nat) : KOut :=
  if target < (tget (0, 0) x.c.segs 0).2 then .next c target true cycles else .fault (segFault x.c.pc x.w2 0 4 target)

/-- Where an address of the data map lies (13 R496). -/
inductive KPlace where
  | loc (n : Nat)
  | slot (n : Nat)
  | io (off : Nat)
deriving DecidableEq, Repr

/-- The place of a word address; a segment lies wholly inside one region, so an unmapped address does not arise (13 R498). -/
def kPlace (a : Nat) : KPlace :=
  if a < 0x400000 then .loc a else if a < 0x800000 then .slot (a - 0x400000) else .io (a - 0x800000)

/-! ### The I/O window (14 R548, R549, R558) -/

/-- A register of the I/O window as a core reads it; an offset that is not listed reads 0. `draw` numbers the reading. -/
def ioRead (draw epoch : Nat) (c : Core) (o : Nat) : KVal :=
  let plain := fun (n : Nat) => KVal.mk (BitVec.ofNat 24 n) false
  let free : KVal := { v := Config.ioOpen draw, t := false }
  if 0x10 ≤ o ∧ o < 0x18 then
    let r := subRing c ((o - 0x10) / 2)
    plain (if o % 2 = 0 then r.wr else r.rd)
  else if 0x100 ≤ o ∧ o < 0x140 then
    match nthOf c.inbox (o - 0x100) with
    | some w => { v := w, t := false }
    | none => free
  else if 0x200 ≤ o ∧ o < 0x240 then tget KVal.zero c.outbox (o - 0x200)
  else match o with
    | 0x00 => free
    | 0x01 => plain c.irqPend
    | 0x02 => plain c.irqEn
    | 0x03 => plain c.ivec
    | 0x04 => plain c.ipc
    | 0x05 => plain c.cause
    | 0x06 => plain epoch
    | 0x08 => plain c.emitAddr
    | 0x09 => free
    | 0x0A => plain c.emitStat
    | 0x20 => plain c.inbox.length
    | 0x21 => free
    | 0x22 => plain c.outboxN
    | _ => plain 0

/-- A refusal counts in REFUSED, which saturates (14 R567). -/
def kRefuse (c : Core) : Core := { c with refused := sat 0xFFFF (c.refused + 1) }

/-- Set IRQ_PEND bits. -/
def kPend (bits : Nat) (c : Core) : Core := { c with irqPend := c.irqPend ||| bits }

/-- HEARTBEAT (14 R560): the miss count is 0 and the interval has its heartbeat. A count of 3 has declared the placement dead, and
nothing undoes that. -/
def ioHeartbeat (c : Core) : Core := if 3 ≤ c.misses then c else { c with beat := true, misses := 0 }
/-- IRQ_PEND: a 1 clears its bit. -/
def ioPendClear (v : Nat) (c : Core) : Core := { c with irqPend := c.irqPend - (c.irqPend &&& v) }
/-- INBOX_ACK. -/
def ioInboxAck (c : Core) : Core := { c with inbox := [] }
/-- OUTBOX_N: 1 to 64 posts that many words; ignored and counted while a post is unread (14 R548, R549). -/
def ioOutboxN (v : Nat) (c : Core) : Core :=
  if c.outboxN ≠ 0 then kRefuse c else if 1 ≤ v ∧ v ≤ 64 then { c with outboxN := v } else c

/-- The body of an emit lies inside one data segment and inside one bank (14 R558). An empty body is held to the slot at
EMIT_ADDR. -/
def emitFits (c : Core) (len : Nat) : Bool :=
  let n := max 1 (cdiv len 4)
  decide (0x400000 ≤ c.emitAddr ∧ c.emitAddr + n ≤ 0x800000)
    && slotBank (c.emitAddr - 0x400000) == slotBank (c.emitAddr + n - 1 - 0x400000)
    && (upto 4).any (fun m =>
        let g := tget (0, 0) c.segs (1 + m)
        decide (g.1 ≤ c.emitAddr ∧ c.emitAddr + n ≤ g.1 + g.2))

/-- EMIT_LEN: start an emit, or refuse it (14 R549, R558). The bank itself refuses a body that the placement does not own when its
read reaches it, with EMIT_DONE (15 R580). -/
def ioEmitLen (v : Nat) (c : Core) : Core :=
  if c.emitStat = 1 then kRefuse c
  else if 4096 < v ∨ !emitFits c v then
    kPend 8 (kRefuse { c with emitLen := v, emitStat := 3 })
  else { c with emitLen := v, emitStat := 1, emitGen := c.gen }

/-- A whole-word store to the I/O window. The window's own registers carry no tag; an outbox word keeps it (13 R513, R518). -/
def ioWrite (o : Nat) (x : KVal) (c : Core) : Core :=
  let v := x.v.toNat
  if 0x10 ≤ o ∧ o < 0x18 then
    if o % 2 = 0 then c
    else { c with rings := tmod SubRing.none c.rings ((o - 0x10) / 2) (fun r => { r with rd := v - v % 8 }) }
  else if 0x200 ≤ o ∧ o < 0x240 then
    if c.outboxN ≠ 0 then kRefuse c else { c with outbox := tset KVal.zero c.outbox (o - 0x200) x }
  else match o with
    | 0x00 => ioHeartbeat c
    | 0x01 => ioPendClear v c
    | 0x02 => { c with irqEn := v % 256 }
    | 0x03 => { c with ivec := v }
    | 0x04 => { c with ipc := v }
    | 0x08 => { c with emitAddr := v }
    | 0x09 => ioEmitLen v c
    | 0x21 => ioInboxAck c
    | 0x22 => ioOutboxN v c
    | _ => c

/-- Core `k` owns a bank (15 R570). -/
def kOwns (s : State) (k b : Nat) : Bool := (bankOf s b).owner == coreOwner k

/-! ### Loads and stores (13 R510 to R518) -/

/-- The pointer after an access, with its tag; none = unchanged. The update reads L, and B unless L is 0 (13 R514; 14 R539, R540). -/
def kPointer (c : Core) (p m k : Nat) (width : Nat) : Option KVal :=
  let pv := kReg c (8 + p)
  let b := kReg c (16 + p)
  let l := kReg c (24 + p)
  let ring := l.t || (l.v != 0 && b.t)
  if m = 0 then none
  else if m = 4 then some { v := bitReversed pv.v b.v k, t := b.t }
  else if m = 3 then
    let step := kReg c (36 + k)
    some { v := circular pv.v b.v l.v step.v.toInt, t := ring || step.t }
  else some { v := circular pv.v b.v l.v (signExt width k), t := ring }

/-- The offset that an access of a mode reaches (13 R510, R515). -/
def kOffset (c : Core) (p m k : Nat) (width : Nat) : Nat :=
  let pv := (kReg c (8 + p)).v
  if m = 0 then (wrap24 ((pv.toNat : Int) + signExt width k)).toNat
  else if m = 2 then ((kPointer c p m k width).getD KVal.zero).v.toNat
  else pv.toNat

/-- The pointer update lands at once (13 R512). -/
def kUpdate (c : Core) (p : Nat) (new : Option KVal) : Core := match new with
  | some v => kSetReg c (8 + p) v
  | none => c

/-- A load into register `r` of the word at an address; `part` is the KIND of an LDX (13 R513, R516, R517, R524). -/
def kLoad (x : KCtx) (epoch : Nat) (r a : Nat) (part : Option Nat) (new : Option KVal) (p : Nat) : KOut :=
  let c := kUpdate (kBase x) p new
  let cut := fun (w : KVal) => match part with
    | none => w
    | some q => { w with v := slotPart w.v.toNat q }
  match kPlace a with
  | .loc n => kNext x { c with slot := some (r, cut (tget KVal.zero x.c.dmem n)) }
  | .io o => kNext x { c with slot := some (r, cut (ioRead x.draw epoch x.c o)) }
  | .slot n => .bankLoad c { dest := r, slot := n, part := part }

/-- A store of a value to an address; `part` is the KIND of an STX (13 R513, R516, R517; 14 R548). `c` holds what reading the
source recorded. -/
def kStore (x : KCtx) (c : Core) (a : Nat) (v : KVal) (part : Option Nat) (new : Option KVal) (p : Nat) :
    KOut :=
  match kPlace a with
  | .loc n =>
    let w := match part with
      | none => v
      | some q =>
        let old := tget KVal.zero c.dmem n
        { v := localPart old.v v.v q, t := old.t || v.t }
    kNext x (kUpdate { c with dmem := tset KVal.zero c.dmem n w } p new)
  | .io o => kNext x (kUpdate (if part.isSome then kRefuse c else ioWrite o v c) p new)
  | .slot n =>
    if 8 ≤ c.posted.length then .blocked
    else
      let post : PostedStore := { slot := n, val := v.v, tag := v.t, part := part, gen := c.gen }
      kNext x (kUpdate { c with posted := c.posted ++ [post] } p new)

/-- LD and LDR (13 R510 to R513). -/
def kLd (x : KCtx) (epoch r p m k width : Nat) : KOut :=
  kClean x 1 (8 + p) (kReg x.c (8 + p)).t <|
  kAt x (segOf p) (kOffset x.c p m k width) 1 fun a => kLoad x epoch r a none (kPointer x.c p m k width) p

/-- ST and STR. -/
def kSt (x : KCtx) (r p m k width : Nat) : KOut :=
  kClean x 2 (8 + p) (kReg x.c (8 + p)).t <|
  kAt x (segOf p) (kOffset x.c p m k width) 2 fun a =>
    let src := kSource x.k (kBase x) r
    kStore x src.2 a src.1 none (kPointer x.c p m k width) p

/-- LDC: a program word through CS; its data lands like any load's (DEDUCED from 13 R524, log 40). -/
def kLdc (x : KCtx) (d p m k : Nat) : KOut :=
  kClean x 3 (8 + p) (kReg x.c (8 + p)).t <|
  kAt x 0 (kOffset x.c p m k 10) 3 fun a =>
    kNext x { kUpdate (kBase x) p (kPointer x.c p m k 10) with
      slot := some (d, { v := tget 0 x.c.prog a, t := false }) }

/-- FTAP: all three accesses are checked before any takes place (13 R519). -/
def kFtap (x : KCtx) (n pc ps : Nat) : KOut :=
  kClean x 3 (8 + pc) (kReg x.c (8 + pc)).t <|
  kClean x 1 (8 + ps) (kReg x.c (8 + ps)).t <|
  kAt x 0 (kReg x.c (8 + pc)).v.toNat 3 fun ca =>
  let xo := (kReg x.c (8 + ps)).v.toNat
  let wo := ((kPointer x.c ps 1 1 10).getD KVal.zero).v.toNat
  kAt x (segOf ps) xo 1 fun xa =>
  kAt x (segOf ps) wo 2 fun wa =>
  if 0x10000 ≤ xa then .fault (segFault x.c.pc x.w2 (segOf ps) 1 xo)
  else if 0x10000 ≤ wa then .fault (segFault x.c.pc x.w2 (segOf ps) 2 wo)
  else
    let v := tget KVal.zero x.c.dmem xa
    let a := kAccOf x.c n
    let c := { kBase x with dmem := tset KVal.zero x.c.dmem wa v }
    let c := kSetAcc c n { v := kMul .mac a.v (tget 0 x.c.prog ca) v.v, t := a.t || v.t }
    let c := kUpdate c ps (kPointer c ps 1 1023 10)
    kNext x (kUpdate c pc (kPointer c pc 1 1 10))

/-! ### Fetching (13 R501, R531, R532) -/

/-- What a fetch finds. -/
inductive KFetch where
  | fault (f : KFault)
  | instr (i : KInstr) (w2 : Nat)
deriving DecidableEq, Repr

/-- A program word at an offset in CS. -/
def kWordAt (c : Core) (off : Nat) : Nat := (tget 0 c.prog ((tget (0, 0) c.segs 0).1 + off)).toNat
/-- The CS LIMIT. -/
def kLimit (c : Core) : Nat := (tget (0, 0) c.segs 0).2

/-- Fetch and decode the instruction at PC. -/
def kFetch (k : Nat) (c : Core) : KFetch :=
  let pc := c.pc
  let tr := kTransform k
  if kLimit c ≤ pc then .fault (segFault pc 0 0 0 pc)
  else
    let w := kWordAt c pc
    if !kTwoWords w then
      match kDecode tr pc w 0 with
      | some i => .instr i 0
      | none => .fault (illegalFault pc 0)
    else if !kFirstLegal tr w then .fault (illegalFault pc 0)
    else if kLimit c ≤ pc + 1 then .fault (segFault pc 0 0 0 (pc + 1))
    else
      let v := kWordAt c (pc + 1)
      match kDecode tr pc w v with
      | some i => .instr i v
      | none => .fault (illegalFault pc v)

end Sys2Proof.Machine
end

