-- ==== Sys2Proof/Machine/KernelIsa.lean ====
section
/-! DEFINITION. The meaning of every kernel instruction on a core (13 R504 to R530; 14 R535 to R547), and the completion of an
instruction: repeats, the load that lands, the loop hardware and cycles. -/
namespace Sys2Proof.Machine

/-! ### Instructions without memory -/

/-- A result with its saturations goes to a register; its sources' tags go with it. -/
def kResult (x : KCtx) (r : Nat) (v : BitVec 24 × Nat) (tag : Bool) : KOut :=
  kNext x (kWrite (kCount rSATC v.2 (kBase x)) r { v := v.1, t := tag })

/-- An accumulator result with its saturations. -/
def kAccResult (x : KCtx) (n : Nat) (v : BitVec 56 × Nat) (tag : Bool) : KOut :=
  kNext x (kSetAcc (kCount rSATC v.2 (kBase x)) n { v := v.1, t := tag })

/-- ALU instructions of two sources. -/
def kDoAlu (x : KCtx) (op : KAlu) (d a b : Nat) : KOut :=
  kResult x d (kAlu op (kReg x.c a).v (kReg x.c b).v) ((kReg x.c a).t || (kReg x.c b).t)

/-- ALU instructions of one source. -/
def kDoUna (x : KCtx) (op : KUna) (d a : Nat) : KOut := kResult x d (kUna op (kReg x.c a).v) (kReg x.c a).t

/-- Shifts by an immediate (13 R525). -/
def kDoShi (x : KCtx) (op : KShi) (d a amt : Nat) : KOut :=
  kResult x d (kShift 24 op (kReg x.c a).v (signExt 7 amt)) (kReg x.c a).t

/-- DIV and DIVU (13 R509, R527): quotient to `d`, remainder to `d + 1`, 26 cycles. -/
def kDoDiv (x : KCtx) (signed : Bool) (d a b : Nat) : KOut :=
  let u := kReg x.c a
  let v := kReg x.c b
  let q := kDiv signed u.v v.v
  let t := u.t || v.t
  let c := kCount rDZC q.2.2.2 (kCount rSATC q.2.2.1 (kBase x))
  .next (kWrite (kWrite c d { v := q.1, t := t }) (d + 1) { v := q.2.1, t := t }) (x.c.pc + 1) false 26

/-- ADDI and ADDPI: wrapping, with no circular wrap. -/
def kDoAddi (x : KCtx) (d a i : Nat) : KOut :=
  kResult x d (wrap24 ((kReg x.c a).v.toInt + signExt 13 i), 0) (kReg x.c a).t

/-- The field instructions; INS reads its destination as well. -/
def kDoExt (x : KCtx) (op : KExt) (d a pos w : Nat) : KOut :=
  kResult x d (kExt op (kReg x.c d).v (kReg x.c a).v pos w, 0) ((kReg x.c a).t || (op == .ins && (kReg x.c d).t))

/-- MOVR (13 R504). -/
def kDoMovr (x : KCtx) (rd rs : Nat) : KOut :=
  if (32 ≤ rd ∧ rd < 36) ∧ 32 ≤ rs ∧ rs < 36 then kNext x (kSetAcc (kBase x) (rd - 32) (kAccOf x.c (rs - 32)))
  else
    let src := kSource x.k (kBase x) rs
    kNext x (kWrite src.2 rd src.1)

/-- MOVIL: two words, 2 cycles. -/
def kDoMovil (x : KCtx) (rd i : Nat) : KOut :=
  .next (kWrite (kBase x) rd { v := BitVec.ofNat 24 i, t := false }) (x.c.pc + 2) false 2

/-- The multiply instructions; MPY and MPYI replace the accumulator, the others read it. -/
def kDoMul (x : KCtx) (op : KMul) (n a b : Nat) : KOut :=
  let u := kReg x.c a
  let v := kReg x.c b
  let acc := kAccOf x.c n
  kAccResult x n (kMul op acc.v u.v v.v, 0) (u.t || v.t || (op != .mpy && op != .mpyi && acc.t))

/-- Accumulator instructions on one accumulator. -/
def kDoAcu (x : KCtx) (op : KAcu) (n : Nat) : KOut :=
  kAccResult x n (kAcu op (kAccOf x.c n).v) (op != .clra && (kAccOf x.c n).t)

/-- Accumulator instructions on two accumulators. -/
def kDoAcb (x : KCtx) (op : KAcb) (n m : Nat) : KOut :=
  kAccResult x n (kAcb op (kAccOf x.c n).v (kAccOf x.c m).v, 0) ((kAccOf x.c m).t || (op != .mova && (kAccOf x.c n).t))

/-- Accumulator shifts by a signed amount (13 R525). -/
def kDoAsh (x : KCtx) (sat : Bool) (n : Nat) (amt : Int) (tag : Bool) : KOut :=
  kAccResult x n (kShift 56 (if sat then .asls else (if amt < 0 then .asr else .lsl)) (kAccOf x.c n).v
    (if sat ∨ 0 ≤ amt then amt else -amt)) ((kAccOf x.c n).t || tag)

/-! ### Control flow -/

/-- CALL and CALLR write LK with PC+. -/
def kLink (x : KCtx) : Core := kWrite (kBase x) rLK { v := BitVec.ofNat 24 (x.c.pc + 1), t := false }

/-- A branch of `len` words, taken when the condition holds: one cycle more than untaken (13 R508, R522, R523). -/
def kBranch (x : KCtx) (cond : Bool) (target len : Nat) : KOut :=
  if cond then kJump x (kBase x) target (len + 1) else .next (kBase x) (x.c.pc + len) false len

/-- The target of a relative branch. -/
def kRel (x : KCtx) (off : Nat) : Nat := (wrap24 ((x.c.pc : Int) + 1 + signExt 8 off)).toNat

/-- The instruction stands at LE while LC is non-zero (14 R542). For LOOP, LC and LE are those from before it writes them
(DEDUCED, log 40). -/
def kLoopEnd (c : Core) : Bool := (kReg c rLE).v.toNat == c.pc && (kReg c rLC).v != 0

/-- LOOP: LC, LS and LE; a count of 0 skips the body (13 R521). -/
def kDoLoop (x : KCtx) (count : BitVec 24) (e : Nat) : KOut :=
  if kLoopEnd x.c then .fault (illegalFault x.c.pc x.w2)
  else
    let c := kWrite (kBase x) rLC { v := count, t := false }
    let c := kWrite c rLS { v := BitVec.ofNat 24 (x.c.pc + 2), t := false }
    let c := kWrite c rLE { v := BitVec.ofNat 24 e, t := false }
    if count = 0 then .next c (e + 1) false 3 else .next c (x.c.pc + 2) false 2

/-- REP and REPR with their count and saturations; `tag` is REPR's register when it is tagged. The following instruction must
be repeatable, whatever the count (13 R520, R531, R532). -/
def kDoRep (x : KCtx) (n sats : Nat) (tag : Option Nat) : KOut :=
  let pc := x.c.pc
  let poison := fun (go : KOut) => match tag with
    | some r => KOut.fault (poisonFault pc 0 255 r)
    | none => go
  if kLimit x.c ≤ pc + 1 then
    if kLoopEnd x.c then .fault (illegalFault pc 0) else poison (.fault (segFault (pc + 1) 0 0 0 (pc + 1)))
  else
    let w := kWordAt x.c (pc + 1)
    let ok := match kDecode (kTransform x.k) (pc + 1) w 0 with
      | some i => kRepeatable i && !kTwoWords w
      | none => false
    if !ok then .fault (illegalFault pc w)
    else if kLoopEnd x.c then .fault (illegalFault pc 0)
    else poison (
      let c := kCount rSATC sats (kBase x)
      if n = 0 then .next c (pc + 2) false 1 else .next { c with rep := some n } (pc + 1) false 1)

/-- REPR: a negative count gives 0, one above 4095 gives 4095 and counts in SATC (13 R520). -/
def kDoRepr (x : KCtx) (d : Nat) : KOut :=
  let v := (kReg x.c d).v.toInt
  kDoRep x (min 4095 v.toNat) (b2n (decide (4095 < v))) (if (kReg x.c d).t then some d else none)

/-- The control instructions (13 R508; 14 R544, R547). -/
def kDoCtl (x : KCtx) (op : KCtl) : KOut :=
  match op with
  | .nop => kNext x (kBase x)
  | .halt => .halt
  | .ret => kClean x 4 rLK (kReg x.c rLK).t (kJump x (kBase x) (kReg x.c rLK).v.toNat 2)
  | .reti => kJump x { kBase x with ie := true } x.c.ipc 2
  | .fence => if x.c.posted.isEmpty then kNext x (kBase x) else .blocked
  | .wait => .wait
  | .ei => kNext x { kBase x with ie := true }
  | .di => kNext x { kBase x with ie := false }

/-- Issue one instruction (13 R508). `epoch` is EPOCH_LO. -/
def kExec (epoch : Nat) (x : KCtx) (i : KInstr) : KOut :=
  match i with
  | .ctl op => kDoCtl x op
  | .jr p => kClean x 4 (8 + p) (kReg x.c (8 + p)).t (kJump x (kBase x) (kReg x.c (8 + p)).v.toNat 2)
  | .callr p => kClean x 4 (8 + p) (kReg x.c (8 + p)).t (kJump x (kLink x) (kReg x.c (8 + p)).v.toNat 2)
  | .repr d => kDoRepr x d
  | .j t => kJump x (kBase x) t 2
  | .call t => kJump x (kLink x) t 2
  | .rep n => kDoRep x n 0 none
  | .loopImm n e => kDoLoop x (BitVec.ofNat 24 n) e
  | .loopReg d e =>
    if kLoopEnd x.c then .fault (illegalFault x.c.pc x.w2)
    else kClean x 255 d (kReg x.c d).t (kDoLoop x (kReg x.c d).v e)
  | .br c a b off =>
    kClean x 255 a (kReg x.c a).t <| kClean x 255 b (kReg x.c b).t <|
    kBranch x (kCond c (kReg x.c a).v (kReg x.c b).v) (kRel x off) 1
  | .bri c a i t => kClean x 255 a (kReg x.c a).t <| kBranch x (kCond c (kReg x.c a).v (wrap24 (signExt 12 i))) t 2
  | .bra c a off => kClean x 255 (32 + a) (kAccOf x.c a).t <| kBranch x (kCondAcc c (kAccOf x.c a).v) (kRel x off) 1
  | .alu op d a b => kDoAlu x op d a b
  | .una op d a => kDoUna x op d a
  | .div signed d a b => kDoDiv x signed d a b
  | .shi op d a amt => kDoShi x op d a amt
  | .addi d a i => kDoAddi x d a i
  | .addpi d a i => kDoAddi x (8 + d) (8 + a) i
  | .movi d i => kResult x d (wrap24 (signExt 16 i), 0) false
  | .movr rd rs => kDoMovr x rd rs
  | .movil rd i => kDoMovil x rd i
  | .ld d p m k => kLd x epoch d p m k 10
  | .st d p m k => kSt x d p m k 10
  | .ldr r p m k => kLd x epoch r p m k 7
  | .str r p m k => kSt x r p m k 7
  | .ldx d p q k =>
    kClean x 1 (8 + p) (kReg x.c (8 + p)).t <|
    kAt x (segOf p) (kOffset x.c p 0 k 9) 1 fun a => kLoad x epoch d a (some q) none p
  | .stx d p q k =>
    kClean x 2 (8 + p) (kReg x.c (8 + p)).t <|
    kAt x (segOf p) (kOffset x.c p 0 k 9) 2 fun a => kStore x (kBase x) a (kReg x.c d) (some q) none p
  | .ldc d p m k => kLdc x d p m k
  | .ext op d a pos wm => kDoExt x op d a pos (wm + 1)
  | .mul op n a b => kDoMul x op n a b
  | .acu op n => kDoAcu x op n
  | .acb op n m => kDoAcb x op n m
  | .asha sat n amt => kDoAsh x sat n (signExt 7 amt) false
  | .ashar sat n a => kDoAsh x sat n (kReg x.c a).v.toInt (kReg x.c a).t
  | .ftap n pc ps => kFtap x n pc ps

/-! ### Completion (13 R520, R524; 14 R541, R542) -/

/-- The registers that an instruction itself writes as destinations, by their numbers: a load that lands with it does not
replace them (13 R524). What the hardware records beside (SATC, DZC, HEAD) is none of them. -/
def kWrites : KInstr → List Nat
  | .ctl _ | .jr _ | .repr _ | .j _ | .rep _ | .br _ _ _ _ | .bri _ _ _ _ | .bra _ _ _ => []
  | .callr _ | .call _ => [rLK]
  | .loopImm _ _ | .loopReg _ _ => [rLC, rLS, rLE]
  | .alu _ d _ _ | .una _ d _ | .shi _ d _ _ | .addi d _ _ | .movi d _ | .ext _ d _ _ _ => [d]
  | .div _ d _ _ => [d, d + 1]
  | .addpi d _ _ => [8 + d]
  | .movr rd _ | .movil rd _ => [rd]
  | .ld _ p m _ | .st _ p m _ | .ldr _ p m _ | .str _ p m _ | .ldc _ p m _ => if m = 0 then [] else [8 + p]
  | .ldx _ _ _ _ | .stx _ _ _ _ => []
  | .mul _ c _ _ | .acu _ c | .acb _ c _ | .asha _ c _ | .ashar _ c _ => [32 + c]
  | .ftap c pc ps => [32 + c, 8 + pc, 8 + ps]

/-- A write of register `w` replaces what a load would put into register `r`: the same register, or an accumulator and a part
of it. -/
def kClash (r w : Nat) : Bool :=
  r == w || (match kAccIdx r, kAccIdx w with
    | some n, some m => n == m && (r == 32 + n || w == 32 + m)
    | _, _ => false)

/-- The load of the instruction before lands, unless this one wrote its destination. -/
def kLand (writes : List Nat) (slot : Option (Nat × KVal)) (c : Core) : Core := match slot with
  | some (r, v) => if writes.any (kClash r) then c else kWrite c r v
  | none => c

/-- The loop check at the completion of an instruction at `pc` (14 R541, R542): the core, or the tagged register. -/
def kLoopCheck (pc : Nat) (taken : Bool) (c : Core) : Core ⊕ Nat :=
  let lc := kReg c rLC
  let ls := kReg c rLS
  let le := kReg c rLE
  if le.t then .inr rLE
  else if taken ∨ le.v.toNat ≠ pc then .inl c
  else if lc.t then .inr rLC
  else if ls.t then .inr rLS
  else if 1 < lc.v.toNat then .inl { kSetReg c rLC { v := lc.v - 1, t := false } with pc := ls.v.toNat }
  else .inl (kSetReg c rLC { v := 0, t := false })

/-- An instruction completes: `c0` is the core as it issued, `c1` after its effect. Answers the core and, where the loop check
faults, the tagged register. -/
def kComplete (c0 : Core) (writes : List Nat) (c1 : Core) (pc : Nat) (taken : Bool) (cycles : Nat) : Core × Option Nat :=
  let c1 := { c1 with cyc := (c1.cyc + cycles) % 2 ^ 24 }
  match c0.rep with
  | some (n + 2) => (kLand writes c0.slot { c1 with rep := some (n + 1) }, none)
  | r =>
    let c := { c1 with pc := pc, rep := if r.isSome then none else c1.rep }
    match kLoopCheck c0.pc taken c with
    | .inl c => (kLand writes c0.slot c, none)
    | .inr reg => (kLand writes c0.slot c, some reg)

end Sys2Proof.Machine
end

