-- ==== Sys2Proof/Machine/Budget.lean ====
section
/-! DEFINITION. The accounting of routed output (12 R484 to R486): what each route loads its port with, the port budgets,
and when a command exceeds them. -/
namespace Sys2Proof.Machine

/-- An exact rate in bit/s: `num / den`. -/
structure Load where
  num : Nat
  den : Nat
deriving DecidableEq, Repr

/-- The baud rate at which a UART's budget is calculated (12 R471). -/
def uartBaud (s : State) (u : Nat) : Nat :=
  match tget none s.ecsol.uartRate u with
  | some b => b
  | none => 115200

/-- The budget of the PCIe link, Mbit/s (12 R484); 0 while the link is down and in the Burst profile (12 R483). -/
def pcieBudget (s : State) : Nat :=
  if s.profile.sel = 4 then 0
  else match s.pcie.link with
    | some l => 1500 * 2 ^ l.gen.val * (if l.wide then 2 else 1)
    | none => 0

/-- A port's budget in bit/s (12 R460, R484). -/
def portBudget (s : State) : HostPort → Nat
  | .spi => 200000000
  | .u0 => 72 * uartBaud s 1 / 100
  | .u1 => 72 * uartBaud s 2 / 100
  | .pcie => pcieBudget s * 1000000
  | .muslin => 700000

/-- The streams that are running: aperture, slice and stream (03 R139). -/
def iqStreams (s : State) : List (Nat × Nat × IqStream) :=
  s.apertures.flatMap (fun x => x.2.slices.filterMap (fun y => y.2.stream.map (fun st => (x.1, y.1, st))))

/-- S x R of a route without its divider, in byte/s (12 R485); nothing where the rate's own divider is 0 (07 R281, R295). -/
def routeVolume (s : State) (id : Nat) (r : Route) : Nat :=
  let apr := popcount 24 s.profile.env.aprMask
  if id = 0x81 then
    ((upto (cdiv s.profile.env.channels 8)).filter (routeSelects r)).length * (32 + 8 * (32 + 24 * apr)) * s.rates.rateHz
  else if id = 0x82 then
    if s.rates.tulDiv = 0 then 0 else ((upto s.profile.env.tulGroups).filter (routeSelects r)).length * (2 * (72 + 40 * min apr 24)) * s.rates.rateHz
  else if id = 0x83 then if s.rates.pvtDiv = 0 then 0 else 80 * s.rates.rateHz
  else if id = 0x8D then
    (iqStreams s).foldl (fun n x =>
      if routeSelects r x.1 then
        n + (if x.2.2.format = 1 then 2040 else 6040) * (if x.2.1 = 0 ∨ x.2.1 = 3 then 16000 else 10000)
      else n) 0
  else 0

/-- The divider of a route: DECIM and the divider of its own rate. -/
def routeDiv (s : State) (id : Nat) (r : Route) : Nat :=
  max 1 (r.decim * (if id = 0x82 then s.rates.tulDiv else if id = 0x83 then s.rates.pvtDiv else 1))

/-- The accounted message IDs (12 R485). -/
def accounted : List Nat := [0x81, 0x82, 0x83, 0x8D]

/-- The load of the routes that `sel` counts, each as often as it counts it. -/
def loadOf (s : State) (times : Route → Nat) : Load :=
  let rs := accounted.map (fun id => (id, routeOf s id))
  let den := rs.foldl (fun d x => d * routeDiv s x.1 x.2) 1
  { num := rs.foldl (fun n x => n + times x.2 * 8 * routeVolume s x.1 x.2 * (den / routeDiv s x.1 x.2)) 0, den := den }

/-- The routed load of one port. -/
def portLoad (s : State) (p : HostPort) : Load := loadOf s (fun r => b2n (r.ports.testBit (portIdx p)))
/-- The sum of the routes to all ports. -/
def totalLoad (s : State) : Load := loadOf s (fun r => popcount 5 r.ports)

/-- `a` is a greater rate than `b`. -/
def loadGt (a b : Load) : Bool := decide (b.num * a.den < a.num * b.den)

/-- The change from `s` to `t` breaks R485 in a way that R486 rejects: a limit is exceeded afterwards, and the change raised
that load or lowered that budget. -/
def budgetBroken (s t : State) : Bool :=
  allPorts.any (fun p =>
    let l := portLoad t p
    decide (95 * portBudget t p * l.den < 100 * l.num)
      && (loadGt l (portLoad s p) || decide (portBudget t p < portBudget s p)))
  || (let l := totalLoad t
      decide (t.profile.env.outBudget * 1000000 * l.den < l.num)
        && (loadGt l (totalLoad s) || decide (t.profile.env.outBudget < s.profile.env.outBudget)))

end Sys2Proof.Machine
end

