-- ==== Sys2Proof/Machine/Apertures.lean ====
section
/-! DEFINITION. Apertures (03): the APR commands, the slice path with its blanker, notches and AGC, the jamming indicator,
faults and events, and raw IQ streams. -/
namespace Sys2Proof.Machine

/-! ### Columns and counts -/

/-- Apertures enabled: the base profile's column (01 R42). -/
def columnApertures (base : Nat) : Nat := [24, 8, 4, 12, 4].getD base 0

/-- The envelope's aperture count (01 R26). -/
def aprCount (e : Envelope) : Nat := min (popcount 24 e.aprMask) (columnApertures e.base)

/-- The aperture is enabled, or will be at the next epoch. -/
def aprEnabledNext (x : Aperture) : Bool := match x.pendEnable with
  | some sl => sl != 0
  | none => x.enabled

/-- The slices that run, or will run from the next epoch. -/
def aprSlicesNext (x : Aperture) : Nat := x.pendEnable.getD x.slicesOn

/-- The apertures that an APERTURE field addresses: one, or every one whose island is on, also while it powers up (03 R115, R121, R130; log
60). -/
def aprTargets (n : Nat) (s : State) : List Nat :=
  if n = 255 then (upto 24).filter (countsOn s) else if n < 24 then [n] else []

/-- The slices that a SLICE field addresses (03 R130). -/
def sliceTargets (n : Nat) : List Nat := if n = 255 then upto 4 else if n < 4 then [n] else []

/-! ### Events (03 R137) -/

/-- The 16-byte payload of an aperture event. -/
def aprEventBytes (s : State) (kind a slice detail : Nat) (value : Int) : List Byte :=
  le 1 kind ++ le 1 a ++ le 1 slice ++ le 1 detail ++ le 8 s.epochMs ++ leI 4 value

/-- Send an aperture event, or hold the change until 100 ms have passed since the last event of its kind on that aperture
and slice. -/
def aprEvent (kind a slice detail : Nat) (value : Int) (s : State) : State :=
  let key := 16 * kind + min slice 4
  let last := tget 0 (aprOf s a).sentMs key      -- 0 = never; otherwise 1 + the millisecond
  if last = 0 ∨ last + 100 ≤ s.ms + 1 then
    postStatus 0x03 a (aprEventBytes s kind a slice detail value)
      (modApr a (fun x => { x with sentMs := tset 0 x.sentMs key (s.ms + 1) }) s)
  else
    modApr a (fun x =>
      { x with heldEvents :=
          x.heldEvents.filter (fun h => !(h.1 == kind && h.2.1 == slice && h.2.2.1 == detail)) ++ [(kind, slice, detail, value)] }) s

/-- Send the held changes whose interval has ended, one per kind and slice; EPOCH_MS is that of the sending (03 R137; log 60). -/
def aprFlushEvents (a : Nat) (s : State) : State :=
  let held := (aprOf s a).heldEvents
  foldS (fun h t => aprEvent h.1 a h.2.1 h.2.2.1 h.2.2.2 t) held (modApr a (fun x => { x with heldEvents := [] }) s)

/-- The aperture's ADC and downconversion run on the sample clock (01 R15; 03 R128, R129). -/
def adcRuns (s : State) (a : Nat) : Bool := islandReady s a && (aprOf s a).phase != .disabled && !clockBypass s

/-! ### Faults (03 R134, R135) -/

/-- Raise a fault bit: the event is sent when it was clear; NO_SIGNAL, ADC_FAULT and NO_CLOCK put the aperture in fault. -/
def aprRaise (a bit : Nat) (s : State) : State :=
  if (aprOf s a).faults.testBit bit then s
  else
    let s := modApr a (fun x =>
      { x with faults := setBit x.faults bit true, inFault := x.inFault || bit == 0 || bit == 2 || bit == 3 }) s
    aprEvent 3 a 255 bit 0 s

/-- Clear a fault bit; the state returns to running at the next epoch. -/
def aprClear (a bit : Nat) (s : State) : State :=
  if (aprOf s a).faults.testBit bit then
    aprEvent 4 a 255 bit 0 (modApr a (fun x => { x with faults := setBit x.faults bit false }) s)
  else s

/-- NO_CLOCK on every aperture whose island is on, as the clock system switches to or from its bypass clock (03 R134). -/
def aprClock (onBypass : Bool) (s : State) : State :=
  foldS (fun a t => if onBypass then aprRaise a 3 t else aprClear a 3 t) ((upto 24).filter (islandOn s)) s

/-! ### Settings that take effect at an epoch (03 R128, R129, R132) -/

/-- The output rate of a slice, samples per second (03 R109). -/
def sliceRate (i : Nat) : Nat := if i = 0 ∨ i = 3 then 64000000 else 40000000

/-- Slice samples of the 16 us over which a notch engages or disengages (03 R117). -/
def rampFull (i : Nat) : Nat := sliceRate i / 1000000 * 16

/-- A notch as its settings take effect: a fixed notch is engaged, an adaptive one starts from its estimate (03 R117, R121). -/
def notchStart (i : Nat) (n : Notch) : Notch :=
  { n with engaged := n.mode == 1, est := 65536 * n.freq, ramp := if n.mode = 1 then rampFull i else 0 }

/-- A slice takes its pending settings: a fixed gain is applied, a new reference is learnt from the start. -/
def applySlice (i : Nat) (x : SliceState) : SliceState :=
  let x : SliceState := match x.pendCfg with
    | none => x
    | some c =>
      { x with
        cfg := c, pendCfg := none,
        gain := if c.agcMode = 2 then (c.fixedGain + 24).toNat else x.gain,
        learnt := if c.noiseRef = none then none else x.learnt,
        samples := [] }
  let new := x.pendNotches.foldl (fun (t : Tab Notch) (p : Nat × Option Notch) => match p.2 with
    | some n => tset Notch.off t p.1 (notchStart i n)
    | none => t) x.notches
  { x with
    notches := new,
    notchMoved := x.notchMoved || (upto 4).any (fun n => (tget Notch.off new n).engaged != (tget Notch.off x.notches n).engaged),
    pendNotches := [] }

/-- The epoch at which an enable or disable takes effect. -/
def applyEnable (x : Aperture) : Aperture :=
  match x.pendEnable with
  | none => x
  | some sl =>
    if sl = 0 then { x with enabled := false, slicesOn := 0, phase := .disabled, pendEnable := none }
    else if x.enabled then { x with slicesOn := sl, pendEnable := none }
    else
      { x with
        enabled := true, slicesOn := sl, phase := .settling, pendEnable := none, blankEvents := 0,
        parityBlanks := 0, nosigMs := 0, rmsLowMs := 0, overMs := 0,
        slices := (upto 4).foldl (fun t i => tmod SliceState.initial t i (fun y => { y with agcFast := true })) x.slices }

/-- Every pending setting of an aperture takes effect together (03 R132). -/
def applyPending (x : Aperture) : Aperture :=
  let x := { x with
    blanker := x.pendBlanker.getD x.blanker, pendBlanker := none,
    nosigDb := (x.pendNosig.map (·.1)).getD x.nosigDb, clipLimit := (x.pendNosig.map (·.2)).getD x.clipLimit,
    pendNosig := none,
    slices := x.slices.foldl (fun t y => tset SliceState.initial t y.1 (applySlice y.1 y.2)) [] }
  applyEnable x

/-- The streams of an aperture begin at the first epoch after their command (03 R139); what the gain and the notches did before it is no
part of a block (R140). -/
def startStreams (x : Aperture) : Aperture :=
  { x with slices := x.slices.foldl (fun t y =>
      tset SliceState.initial t y.1 { y.2 with stream := y.2.stream.map (fun st =>
        if st.started then st else { st with started := true, gainMoved := false, notchMoved := false }) }) [] }

/-! ### The jamming indicator and the fault conditions of one epoch (03 R124, R126, R134) -/

/-- NOISE_REF in force, 0.25 dBFS units: set by the host or learnt (03 R125). -/
def noiseRef (x : SliceState) : Option Int := match x.cfg.noiseRef with
  | some r => some r
  | none => x.learnt

/-- The square of full scale of the 16-bit word: 0 dBFS (log 48). -/
def fullScale : Nat := 2 ^ 30

/-- JI = clamp(round(4 (P_pre - NOISE_REF)), 0, 255), P_pre the mean of I^2 + Q^2; 0 until a reference exists (03 R124, R125). -/
def jiOf (ref : Option Int) (sum n : Nat) : Nat := match ref with
  | none => 0
  | some r => (roundLog 40 sum (n * fullScale) r (r + 255) - r).toNat

/-- JI_NB = clamp(round(4 (P_pre - P_post)), 0, 255), over the same samples (03 R124). -/
def jiNbOf (pre post : Nat) : Nat := (roundLog 40 pre post 0 255).toNat

/-- One slice's epoch: indicator, learning samples, and the run of epochs below the alert level less 8. Where no sample measures a
quantity it is the free value `free` (03 R114). -/
def epochSlice (running : Bool) (free : Byte) (x : SliceState) : SliceState :=
  let ji := if x.powN = 0 then (if (noiseRef x).isNone then 0 else free.toNat) else jiOf (noiseRef x) x.preSum x.powN
  { x with
    ji := ji, jiNb := if x.preSum = 0 ∧ x.postSum = 0 then free.toNat else jiNbOf x.preSum x.postSum,
    samples := if running && (noiseRef x).isNone && x.powN != 0 && decide (x.samples.length < 1000)
      then x.samples ++ [(x.preSum, x.powN)] else x.samples,
    jiLow := if x.alert && decide (ji + 8 < x.cfg.jiAlert) then x.jiLow + 1 else 0,
    preSum := 0, postSum := 0, powN := 0 }

/-- P_pre of a slice lies at or below NOISE_REF less `db` and more `hyst` decibels (03 R134). -/
def nosigSlice (db hyst : Int) (x : SliceState) : Bool := match noiseRef x with
  | none => false
  | some r =>
    let p := tenTo (r - 4 * db + 4 * hyst)
    x.powN != 0 && decide (x.preSum ^ 40 * p.2 ≤ p.1 * (x.powN * fullScale) ^ 40)

/-- Every enabled slice lies NOSIG_DB or more below its reference. -/
def nosigAll (x : Aperture) (hyst : Int) : Bool :=
  x.slicesOn != 0 && (maskBits 4 x.slicesOn).all (fun i => nosigSlice x.nosigDb hyst (tget SliceState.initial x.slices i))

/-- ADC_RMS lies below -40 dBFS, or with hysteresis below -37 dBFS: its mean square below 10^-4, or 10^-3.7, of full scale (03 R134; 18). -/
def rmsLow (x : Aperture) (hyst : Bool) : Bool :=
  if hyst then decide ((8 * x.adcSq) ^ 10 * 10 ^ 37 < (adcFull * x.adcN) ^ 10) else decide (8 * x.adcSq * 10 ^ 4 < adcFull * x.adcN)

/-- A bit reads the same in every code of a histogram that holds any (03 R134). -/
def stuckBit (codes : Tab Nat) : Bool :=
  !codes.isEmpty && (upto 8).any (fun k => codes.all (fun z => z.1.testBit k) || codes.all (fun z => !z.1.testBit k))

/-- The background code histogram at an epoch: judged after each 100 ms of samples (03 R134; log 61). -/
def judgeCodes (x : Aperture) : Aperture :=
  if x.codesMs + 1 < 100 then { x with codesMs := x.codesMs + 1 }
  else { x with codes := [], codesMs := 0, codesBad := stuckBit x.codes || Config.missingCode x.codes }

/-- One more millisecond of a condition, or none. -/
def countMs (cond : Bool) (n : Nat) : Nat := if cond then n + 1 else 0

/-- The measured quantities of a millisecond of samples enter the aperture's records (03 R124, R134, R136); `free` holds the free values
of the slices' indicators. -/
def epochMeasure (running : Bool) (free : Nat) (x : Aperture) : Aperture :=
  let x' := if x.adcN = 0 then x else judgeCodes { x with
    adcRms := (roundLog 40 (adcFull * x.adcN) (8 * x.adcSq) 0 255).toNat, clips := sat 65535 x.clipN,
    blankDuty := sat 255 (256 * x.blankN / x.adcN),
    nosigMs := countMs (nosigAll x 0) x.nosigMs, rmsLowMs := countMs (rmsLow x false) x.rmsLowMs,
    nosigClearMs := countMs (!nosigAll x 3 && !rmsLow x true) x.nosigClearMs,
    overMs := countMs (decide (x.clipLimit < x.clipN)) x.overMs,
    overClearMs := countMs (decide (2 * x.clipN < x.clipLimit)) x.overClearMs,
    adcSq := 0, adcN := 0, blankN := 0, clipN := 0 }
  { x' with
    slices := (maskBits 4 x.slicesOn).foldl (fun t i =>
      tmod SliceState.initial t i (epochSlice running (Config.openIndicator (free + i)))) x'.slices }

/-- Raise the JI alert of a slice when JI reaches JI_ALERT (03 R126). -/
def jiAlertCheck (a i : Nat) (s : State) : State :=
  let x := sliceOf s a i
  if x.cfg.jiAlert ≠ 0 ∧ !x.alert ∧ x.cfg.jiAlert ≤ x.ji then
    aprEvent 5 a i 0 x.ji (modSlice a i (fun y => { y with alert := true, jiLow := 0 }) s)
  else s

/-- The settings of an aperture that wait take effect; a disable is told (03 R132, R137). -/
def takeSettings (a : Nat) (s : State) : State :=
  let t := modApr a applyPending s
  if (aprOf s a).enabled && !(aprOf t a).enabled then aprEvent 2 a 255 0 0 t else t

/-- The epoch of one aperture whose island is on: the millisecond that ends is measured under the settings it ran with, then the settings
waiting take effect. -/
def aprEpochOne (a : Nat) (s : State) : State :=
  let was := (aprOf s a).enabled
  let phase := (aprOf s a).phase
  let x := draw s
  let s := if was then modApr a (epochMeasure (aprRunning s a) (4 * x.1)) x.2 else s
  let s := takeSettings a s
  let s := modApr a (fun x => startStreams { x with
    sinceMs := if x.phase == phase then x.sinceMs else s.ms, inFault := aprFaulted x }) s
  let s := foldS (jiAlertCheck a) (maskBits 4 (aprOf s a).slicesOn) s
  aprFlushEvents a s

/-- The apertures' part of an epoch. -/
def aprEpoch (s : State) : State := foldS aprEpochOne ((upto 24).filter (islandReady s)) s

/-! ### APR_ENABLE (03 R127) -/

/-- A raw IQ stream runs on a slice that `slices` does not hold. -/
def streamLost (s : State) (a slices : Nat) : Bool :=
  (upto 4).any (fun i => (sliceOf s a i).stream.isSome && !slices.testBit i)

def aprEnableAct (p : Packet) (s : State) : CmdOut :=
  let b := p.params
  let mask := u32 b 0
  let act := u8 b 4
  let sl := u8 b 5
  let as := maskBits 24 mask
  let enabled := (upto 24).filter (fun a => aprEnabledNext (aprOf s a) || as.contains a)
  rejectIf (mask == 0 || decide (2 ^ 24 ≤ mask) || decide (1 < act) || decide (15 < sl) || (act == 1) == (sl == 0)
    || !zeroAt b 6 2) .badValue <|
  rejectIf (as.any (fun a => streamLost s a sl)) .badState <|
  rejectIf (act == 1 && (decide (aprCount s.profile.env < enabled.length)
    || as.any (fun a => !s.profile.env.aprMask.testBit a))) .profileLimit <|
  done (foldS (fun a t => modApr a (fun x => { x with pendEnable := some (if act = 1 then sl else 0) }) t) as s)

def specAprEnable : OpSpec :=
  { plainOp 0x0301 false 8 aprEnableAct with
    islands := fun b _ => maskBits 24 (u32 b 0), reach := fun b _ => maskBits 24 (u32 b 0) }

/-! ### APR_CONFIG (03 R130) -/

def aprConfigAct (p : Packet) (s : State) : CmdOut :=
  let b := p.params
  let ref := i16 b 8
  let learn := u16 b 8 == 0x8000
  let cfg : SliceCfg :=
    { agcMode := u8 b 2, agcTarget := u8 b 3, agcTc := u8 b 4, jiAlert := u8 b 5, fixedGain := i16 b 6,
      noiseRef := if learn then none else some ref }
  rejectIf ((decide (23 < u8 b 0) && u8 b 0 != 255) || (decide (3 < u8 b 1) && u8 b 1 != 255) || decide (2 < u8 b 2)
    || decide (u8 b 3 < 4) || decide (16 < u8 b 3) || decide (10 < u8 b 4)
    || decide (i16 b 6 < -24) || decide (192 < i16 b 6) || (!learn && (decide (ref < -384) || decide (0 < ref)))
    || decide (u8 b 10 < 3) || decide (30 < u8 b 10) || !zeroAt b 11 1 || u16 b 12 == 0 || !zeroAt b 14 2) .badValue <|
  done (foldS (fun a t =>
    foldS (fun i u => modSlice a i (fun x => { x with pendCfg := some cfg }) u) (sliceTargets (u8 b 1))
      (modApr a (fun x => { x with pendNosig := some (u8 b 10, u16 b 12) }) t)) (aprTargets (u8 b 0) s) s)

def specAprConfig : OpSpec :=
  { plainOp 0x0302 false 16 aprConfigAct with
    islands := fun b s => aprTargets (u8 b 0) s, reach := fun b s => aprTargets (u8 b 0) s }

/-! ### APR_NOTCH (03 R121) -/

/-- FREQ lies inside the passband of a slice (03 R109). -/
def inPassband (slice : Nat) (f : Int) : Bool :=
  match slice with
  | 0 => decide (-26000000 ≤ f ∧ f ≤ 26000000)
  | 1 => decide (-12000000 ≤ f ∧ f ≤ 22000000)
  | 2 => decide (-16000000 ≤ f ∧ f ≤ 16000000)
  | 3 => decide (-26000000 ≤ f ∧ f ≤ 26000000)
  | _ => false

/-- The mode a notch has, or will have from the next epoch. -/
def notchModeNext (s : State) (a i n : Nat) : Nat :=
  match tget none (sliceOf s a i).pendNotches n with
  | some x => x.mode
  | none => (notchOf s a i n).mode

/-- The notch parameters lie in their ranges for the mode (03 R121). -/
def notchRangesOk (b : List Byte) : Bool :=
  let mode := u8 b 3
  (decide (u8 b 0 ≤ 23) || u8 b 0 == 255) && (mode != 3 || u8 b 0 == 255) && decide (u8 b 1 ≤ 3) && decide (u8 b 2 ≤ 3)
    && decide (mode ≤ 3)
    && (if mode = 0 then i32 b 4 == 0 && u8 b 8 == 0 && u8 b 9 == 0
        else inPassband (u8 b 1) (i32 b 4) && decide (6 ≤ u8 b 8 ∧ u8 b 8 ≤ 14) && decide (10 ≤ u8 b 9 ∧ u8 b 9 ≤ 60))
    && (if mode ≤ 1 then u8 b 10 == 0 && u8 b 11 == 0
        else decide (4 ≤ u8 b 10 ∧ u8 b 10 ≤ 16) && decide (6 ≤ u8 b 11 ∧ u8 b 11 ≤ 40))

/-- APR_NOTCH. A notch in shared mode is left only by APERTURE 255 with MODE 0 or 1, or set anew by MODE 3; a command that would end
shared mode in another way is rejected (log 49). -/
def aprNotchAct (p : Packet) (s : State) : CmdOut :=
  let b := p.params
  let n : Notch :=
    { mode := u8 b 3, freq := i32 b 4, width := u8 b 8, depth := u8 b 9, rateK := u8 b 10, thresh := u8 b 11,
      engaged := false, est := 0, line := none, lowFor := 0, ramp := 0, mem := (0, 0) }
  rejectIf (!notchRangesOk b) .badValue <|
  rejectIf ((u8 b 0 != 255 || u8 b 3 == 2)
    && (aprTargets (u8 b 0) s).any (fun a => notchModeNext s a (u8 b 1) (u8 b 2) == 3)) .badState <|
  done (foldS (fun a t =>
    modSlice a (u8 b 1) (fun x => { x with pendNotches := tset none x.pendNotches (u8 b 2) (some n) }) t)
    (aprTargets (u8 b 0) s) s)

def specAprNotch : OpSpec :=
  { plainOp 0x0303 false 12 aprNotchAct with
    islands := fun b s => aprTargets (u8 b 0) s, reach := fun b s => aprTargets (u8 b 0) s }

/-! ### APR_BLANK (03 R115) -/

def aprBlankAct (p : Packet) (s : State) : CmdOut :=
  let b := p.params
  let mode := u8 b 1
  let k : Blanker := { mode := mode, thresh := u8 b 2, slices := u8 b 3, pre := u8 b 4, post := u8 b 5, run := u8 b 6 }
  let rangesOk :=
    if mode = 0 then zeroAt b 2 5
    else (if mode = 1 then decide (16 ≤ u8 b 2 ∧ u8 b 2 ≤ 127) else decide (12 ≤ u8 b 2 ∧ u8 b 2 ≤ 60))
      && decide (1 ≤ u8 b 3 ∧ u8 b 3 ≤ 15) && decide (u8 b 4 ≤ 50) && decide (u8 b 5 ≤ 200)
      && decide (1 ≤ u8 b 6 ∧ u8 b 6 ≤ 16)
  rejectIf ((decide (23 < u8 b 0) && u8 b 0 != 255) || decide (2 < mode) || !rangesOk || !zeroAt b 7 1) .badValue <|
  done (foldS (fun a t => modApr a (fun x => { x with pendBlanker := some k }) t) (aprTargets (u8 b 0) s) s)

def specAprBlank : OpSpec :=
  { plainOp 0x0304 false 8 aprBlankAct with
    islands := fun b s => aprTargets (u8 b 0) s, reach := fun b s => aprTargets (u8 b 0) s }

/-! ### APR_STATUS (03 R136) -/

/-- The 4-byte group of one slice. -/
def sliceStatus (x : SliceState) : List Byte :=
  le 1 x.gain ++ le 1 x.ji ++ le 1 x.jiNb
    ++ le 1 (bitsMask ((upto 4).filter (fun n => (tget Notch.off x.notches n).engaged))
        + 16 * bitsMask ((upto 4).filter (fun n => (tget Notch.off x.notches n).mode == 3)))

/-- The 32-byte entry of one aperture. -/
def aprEntry (s : State) (a : Nat) : List Byte :=
  let x := aprOf s a
  let st := aprState s a
  le 1 a ++ le 1 st ++ le 1 x.faults ++ le 1 x.slicesOn
    ++ (if 2 ≤ st then
          le 1 x.adcRms ++ le 1 x.blankDuty ++ le 2 x.clips ++ (upto 4).flatMap (fun i => sliceStatus (sliceOf s a i))
            ++ le 4 x.blankEvents ++ le 2 x.parityBlanks
        else zeros 26) ++ zeros 2

/-- APR_STATUS (03 R136); it ends a latched PARITY fault without an event (03 R134; log 60). -/
def aprStatusAct (p : Packet) (s : State) : CmdOut :=
  let mask := u32 p.params 0
  let as := maskBits 24 mask
  rejectIf (decide (2 ^ 24 ≤ mask)) .badValue <|
  answer (le 3 (bitsMask (enabledApertures s)) ++ le 1 as.length ++ as.flatMap (aprEntry s))
    (foldS (fun a t => modApr a (fun x => { x with faults := setBit x.faults 4 false }) t) as s)

def specAprStatus : OpSpec := plainOp 0x0305 false 4 aprStatusAct

/-! ### APR_STREAM (03 R139) -/

def aprStreamAct (p : Packet) (s : State) : CmdOut :=
  let b := p.params
  let a := u8 b 0
  let i := u8 b 1
  let act := u8 b 2
  let st : IqStream :=
    { format := u8 b 3, left := if u32 b 4 = 0 then none else some (u32 b 4), block := 0, lost := false, stopping := false,
      started := false, epochMs := 0, offset := 0, buf := [], gain0 := 0, blanked := false, parity := false, gainMoved := false,
      notchMoved := false }
  let t := modSlice a i (fun x => { x with stream := some st }) s
  rejectIf (decide (23 < a) || decide (3 < i) || decide (1 < act) || decide (1 < u8 b 3)
    || (act == 0 && (u8 b 3 != 0 || u32 b 4 != 0))) .badValue <|
  if act = 0 then
    done (modSlice a i (fun x => { x with stream := match x.stream with
      | some y => if y.started then some { y with stopping := true } else none
      | none => none }) s)
  else
    rejectIf (!aprRunning s a || !(aprOf s a).slicesOn.testBit i || (sliceOf s a i).stream.isSome || s.pcie.link.isNone)
      .badState <|
    rejectIf (decide (s.profile.env.iqSlices < (iqStreams t).length) || budgetBroken s t) .profileLimit <|
    done t

def specAprStream : OpSpec :=
  { plainOp 0x0306 false 8 aprStreamAct with
    islands := fun b _ => if u8 b 0 < 24 then [u8 b 0] else [],
    reach := fun b _ => if u8 b 0 < 24 then [u8 b 0] else [] }

/-! ### The slice path -/

/-! #### The ADC stream and the blanker (03 R113) -/

/-- An 8-bit ADC sample (03 R111). -/
def adcValue (b : Byte) : Int := b.toInt

/-- The magnitude reaches the threshold: in mode 1 an ADC magnitude, in mode 2 THRESH x 0.5 dB above the running RMS; x^40 n^20 against
acc^20 10^THRESH. -/
def blankHit (k : Blanker) (r : BlankRun) (x : Int) : Bool :=
  match k.mode with
  | 0 => false
  | 1 => decide (k.thresh ≤ x.natAbs)
  | _ => r.n != 0 && decide (r.acc ^ 20 * 10 ^ k.thresh ≤ x.natAbs ^ 40 * r.n ^ 20)

/-- The length of the blanker's delay line, ADC samples: the 0.5 us line of GUARD_PRE, and the run that starts an event (03 R109; log
48). -/
def blankLine : Nat := 565

/-- Blank the newest `n` samples of the line. -/
def blankNewest (n : Nat) (l : List (Int × Bool)) : List (Int × Bool) :=
  l.take (l.length - n) ++ (l.drop (l.length - n)).map (fun z => (z.1, true))

/-- An unblanked sample enters the running mean square: 110,000 samples are 100 us. -/
def blankRms (x : Int) (r : BlankRun) : BlankRun :=
  let sq := (x * x).toNat
  if r.n < 110000 then { r with acc := r.acc + sq, n := r.n + 1 } else { r with acc := r.acc + sq - r.acc / 110000 }

/-- One ADC sample enters the blanker. Answers the sample that leaves the delay line with its blanking, and whether an event has
started: MIN_RUN consecutive samples at or above the threshold start one, which covers GUARD_PRE before the first of them and lasts
until GUARD_POST after the last sample that reaches the threshold. -/
def blankStep (k : Blanker) (x : Int) (r : BlankRun) : BlankRun × Option (Int × Bool) × Bool :=
  let hit := blankHit k r x
  let run := if hit then r.run + 1 else 0
  let start := !r.on && hit && decide (k.run ≤ run)
  let on := start || (r.on && (hit || r.post != 0))
  let post := if start || (r.on && hit) then 55 * k.post else r.post - 1
  let line := (if start then blankNewest (run - 1 + 11 * k.pre) r.line else r.line) ++ [(x, on)]
  let r' : BlankRun := { r with run := run, on := on, post := if on then post else 0, line := line }
  match line with
  | z :: t =>
    if line.length ≤ blankLine then (r', none, start)
    else
      let r'' := { r' with line := t }
      (if z.2 then r'' else blankRms z.1 r'', some z, start)
  | [] => (r', none, start)

/-! #### Downconversion into the slices (03 R108 to R110) -/

/-- The alias of a slice's centre after sampling, in 1/220000 of the sample clock: 91.795, 127.60, 173.0 and 485.0 MHz of 1100 MHz. -/
def mixStep (i : Nat) : Nat := [18359, 25520, 34600, 97000].getD i 0

/-- The phase of a slice's mixers for an ADC sample of the millisecond, the same on every aperture (03 R108). -/
def mixPhase (f : Front) (i pos : Nat) : Nat := (tget 0 f.mix i + pos * mixStep i) % 220000

/-- The output rate in samples per 1100 ADC samples (03 R109). -/
def outRate (i : Nat) : Nat := sliceRate i / 1000000

/-- An output sample falls at this ADC sample of the millisecond, or between it and the one before; the first falls on the epoch. -/
def outputAt (i pos : Nat) : Bool := pos == 0 || decide ((pos - 1) * outRate i / 1100 < pos * outRate i / 1100)

/-- One sample that leaves the blanker enters a slice: 0 where it is blanked for this slice. Its mixer phase is that of its own instant, which the
blanker's line puts 565 samples before `pos`. -/
def sliceFeed (f : Front) (k : Blanker) (pos : Nat) (z : Int × Bool) (i : Nat) (x : SliceState) : SliceState :=
  let cut := z.2 && k.slices.testBit i
  let line := Config.ddcStep i (mixPhase f i (pos + 220000 - blankLine)) (if cut then 0 else z.1) x.ddc
  let taint := if cut then Config.ddcSpan i else x.taint - 1
  let y := Config.ddcOut i (pos * outRate i % 1100) line
  { x with
    ddc := line, taint := taint,
    fifo := if outputAt i pos then x.fifo ++ [{ i := y.1, q := y.2, tainted := taint != 0 }] else x.fifo }

/-- One ADC sample of an aperture: counted, blanked, and downconverted into the slices that run (03 R112, R114). Until the blanker's line is full it
gives zeros. -/
def adcFeed (f : Front) (b : Byte) (x : Aperture) : Aperture :=
  let v := adcValue b
  let r := blankStep x.blanker v x.blankRun
  let z := r.2.1.getD (0, false)
  { x with
    blankRun := r.1, codes := tmod 0 x.codes b.toNat (· + 1), adcSq := x.adcSq + (v * v).toNat, adcN := x.adcN + 1,
    clipN := x.clipN + b2n (v == -128 || v == 127),
    blankEvents := (x.blankEvents + b2n r.2.2) % 2 ^ 32, blankN := x.blankN + b2n z.2, adcPos := x.adcPos + 1,
    slices := (maskBits 4 x.slicesOn).foldl (fun t i =>
      tmod SliceState.initial t i (sliceFeed f x.blanker x.adcPos z i)) x.slices }

/-! #### Notches (03 R116 to R119) -/

/-- The offset from the slice centre, Hz, that a frequency in the complex samples stands for: the one that its passband can hold, up to +22 MHz in
S1 (03 R109, R110). -/
def sliceOffset (i : Nat) (f : Int) : Int :=
  let top : Int := if i = 1 then 22000000 else sliceRate i / 2
  top - (top - f) % sliceRate i

/-- How far two frequencies lie apart in the complex samples of a slice, which hold them modulo the output rate (03 R110). -/
def offsetGap (i : Nat) (f g : Int) : Nat :=
  let d := ((f - g) % sliceRate i).toNat
  min d (sliceRate i - d)

/-- A line within four of the notch's own widths of the line at `g`: 4 fs 2^-WIDTH / pi (03 R116, R118). -/
def nearLine (i width : Nat) (f g : Int) : Bool :=
  decide (offsetGap i f g * 314159265358979 * 2 ^ width ≤ 4 * sliceRate i * 100000000000000)

/-- The line is held by a lower-numbered adaptive notch of the slice, so that notch `n` ignores it (03 R118). -/
def lineHeld (x : SliceState) (i n width : Nat) (f : Int) : Bool :=
  (upto n).any (fun m => match (tget Notch.off x.notches m).line with
    | some g => decide (2 ≤ (tget Notch.off x.notches m).mode) && nearLine i width f g.1
    | none => false)

/-- The strongest of the lines, the first of equals. -/
def strongestLine : List SpectralLine → Option (Int × Int)
  | [] => none
  | l :: t => match strongestLine t with
    | some m => if l.level < m.2 then some m else some (l.freq, l.level)
    | none => some (l.freq, l.level)

/-- Change a notch. -/
def modNotch (a i n : Nat) (f : Notch → Notch) (s : State) : State :=
  modSlice a i (fun x => { x with notches := tmod Notch.off x.notches n f }) s

/-- The level of the line that notch `n` of an aperture takes; none = it takes no line. -/
def lineLevel (s : State) (i n a : Nat) : Option Int := (notchOf s a i n).line.map (·.2)

/-- The apertures on which a slice is sampled now. -/
def sliceRunners (s : State) (i : Nat) : List Nat := (upto 24).filter (fun a => adcRuns s a && (aprOf s a).slicesOn.testBit i)

/-- The aperture on which the line of a shared notch is strongest, of those on which the slice is sampled; the lowest-numbered of equals, and where
none has a line (03 R119). -/
def lineLeader (s : State) (i n : Nat) : Option Nat :=
  (sliceRunners s i).foldl (fun best a => match best with
    | none => some a
    | some b => if (lineLevel s i n a).any (fun l => (lineLevel s i n b).all (· < l)) then some a else best) none

/-- The notch follows its line by 2^-RATE_K of the difference, engages above THRESH, and counts the samples for which the line stays more
than 3 dB below THRESH (03 R117). -/
def notchFollow (i : Nat) (y : Notch) : Notch := match y.line with
  | some l =>
    { y with
      est := y.est + 65536 * (sliceOffset i l.1 - sliceOffset i (y.est / 65536)) / 2 ^ y.rateK, engaged := y.engaged || decide (10 * (y.thresh : Int) < l.2),
      lowFor := if l.2 < 10 * (y.thresh : Int) - 30 then y.lowFor + 32 else 0 }
  | none => { y with lowFor := y.lowFor + 32 }

/-- The apertures whose notch N of the slice moves together with this one (03 R119). -/
def notchPeers (s : State) (a i n : Nat) : List Nat :=
  if (notchOf s a i n).mode = 3 then enabledApertures s else [a]

/-- A notch takes the frequency, width, depth, engagement and mode of the shared notch of the aperture that leads (03 R119); its own
line, ramp and registers stay. -/
def notchShare (lead : Notch) (y : Notch) : Notch :=
  { lead with line := y.line, ramp := y.ramp, mem := y.mem }

/-- A notch of slice `i` has engaged or released: Voile's window and the IQ block in progress are marked (03 R140, 06 R262). -/
def notchMark (a i : Nat) (s : State) : State :=
  modSlice a i (fun x => { x with notchMoved := true, stream := x.stream.map (fun st => { st with notchMoved := true }) }) s

/-- The lines of a transfer unit reach notch `n` (03 R117 to R119). -/
def notchLines (a i : Nat) (ls : List SpectralLine) (n : Nat) (s : State) : State :=
  let y := notchOf s a i n
  if y.mode < 2 then s
  else
    let line := strongestLine (ls.filter (fun l => !lineHeld (sliceOf s a i) i n y.width l.freq))
    let s := modNotch a i n (fun z => { z with line := line }) s
    if y.mode == 3 && lineLeader s i n != some a then s
    else
      let new := notchFollow i (notchOf s a i n)
      let peers := notchPeers s a i n
      let s := foldS (fun b t => modNotch b i n (fun z => if b = a then new else notchShare new z) t) peers s
      if new.engaged && !y.engaged then foldS (fun b t => aprEvent 7 b i n (new.est / 65536) (notchMark b i t)) peers s else s

/-- What a notch of DEPTH dB takes of a tone at its centre: 1 - 10^(-DEPTH / 20), in 2^-16. -/
def notchCut (depth : Nat) : Int := 65536 - climb (fun k => decide (k.toNat ^ 20 * 10 ^ depth ≤ 2 ^ 320)) 17 0 65536

/-- One more sample in the resonator of a notch, whose pole lies at 1 - 2^-WIDTH and turns with the notch's frequency: its response is 3 dB down
fs 2^-WIDTH / (2 pi) to either side (03 R116; log 61). -/
def notchPole (i : Nat) (y : Notch) (v : BitVec 16 × BitVec 16) : Int × Int :=
  let t := turn (roundDiv (y.est * 65536) (sliceRate i)) y.mem
  let w := 2 ^ y.width
  (t.1 - roundDiv (t.1 - 65536 * v.1.toInt) w, t.2 - roundDiv (t.2 - 65536 * v.2.toInt) w)

/-- One sample through a notch: the depth ramps in or out over 16 us; with none of it on, the input passes unchanged (03 R117). -/
def notchSample (i : Nat) (v : BitVec 16 × BitVec 16) (y : Notch) : (BitVec 16 × BitVec 16) × Notch :=
  let ramp := if y.engaged then min (rampFull i) (y.ramp + 1) else y.ramp - 1
  if ramp = 0 then (v, { y with ramp := 0, mem := (0, 0) })
  else
    let b := notchPole i y v
    let out := fun (x : BitVec 16) (r : Int) =>
      BitVec.ofInt 16 (clampBits 16 (x.toInt - roundDiv (r * notchCut y.depth * ramp) (2 ^ 32 * rampFull i)))
    ((out v.1 b.1, out v.2 b.2), { y with ramp := ramp, mem := b })

/-- One sample through the four notches in series (03 R116). -/
def notchSeries (i : Nat) (v : BitVec 16 × BitVec 16) (t : Tab Notch) : (BitVec 16 × BitVec 16) × Tab Notch :=
  (upto 4).foldl (fun (p : (BitVec 16 × BitVec 16) × Tab Notch) n =>
    let z := notchSample i p.1 (tget Notch.off p.2 n)
    (z.1, tset Notch.off p.2 n z.2)) (v, t)

/-- The samples of a unit through the notches. -/
def notchUnit (i : Nat) : List DdcSample → Tab Notch → List (BitVec 16 × BitVec 16) × Tab Notch
  | [], t => ([], t)
  | z :: zs, t =>
    let p := notchSeries i (z.i, z.q) t
    let r := notchUnit i zs p.2
    (p.1 :: r.1, r.2)

/-- The group delay (2^-20 ns) and phase lag (2^-32 cycle) that a notch imposes `d` Hz above its centre: of its response
(D - k) / D with D = 1 - r e^(-j 2 pi d / fs), r = 1 - 2^-WIDTH and k = (1 - 10^(-DEPTH / 20)) 2^-WIDTH, in 2^-32 (03 R116, R120). -/
def notchResponse (rate width depth : Nat) (d : Int) : Int × Int :=
  let one : Int := (2 ^ 32 : Nat)
  let w := 2 ^ width
  let z := turn (roundDiv (d * one) rate) (one, 0)
  let e := (z.1 - roundDiv z.1 w, roundDiv z.2 w - z.2)
  let den := (one - e.1, -e.2)
  let num := (den.1 - roundDiv (notchCut depth * 65536) w, den.2)
  let lag := fun (v : Int × Int) => roundDiv (dotC e v * 1000000000 * 2 ^ 20) (power v * rate)
  (lag den - lag num, arctan4q den.1 den.2 - arctan4q num.1 num.2)

/-- What the engaged notches of slice `i` of aperture `a` impose at an offset from the slice centre (Hz): delay in 2^-20 ns, phase in 2^-32 cycle
(03 R120). -/
def notchImposes (s : State) (a i : Nat) (f : Int) : Int × Int :=
  (upto 4).foldl (fun (z : Int × Int) n =>
    let y := notchOf s a i n
    if y.engaged then
      let r := notchResponse (sliceRate i) y.width y.depth (f - y.est / 65536)
      (z.1 + r.1, z.2 + r.2)
    else z) (0, 0)

/-! #### AGC, requantisation, parity (03 R111, R122, R123) -/

/-- I^2 + Q^2 of a 16-bit sample. -/
def power16 (v : BitVec 16 × BitVec 16) : Nat := (v.1.toInt * v.1.toInt + v.2.toInt * v.2.toInt).toNat

/-- One component after the AGC gain of code `gain` and the requantiser: rounded half away from zero, saturated at -31 and +31. At 0 dB
1024 LSB of the 16-bit word make one LSB of the 6-bit word (log 48), so the magnitude reaches k when
|z|^80 10^(gain - 24) reaches (512 (2 k - 1))^80. -/
def requant (gain : Nat) (z : Int) : Int :=
  let p := tenTo (gain - 24 : Int)
  let m := climb (fun k => decide ((512 * (2 * k.toNat - 1)) ^ 80 * p.2 ≤ z.natAbs ^ 80 * p.1)) 6 0 31
  if z < 0 then -m else m

/-- The 6-bit words of a sample. -/
def requantPair (gain : Nat) (v : BitVec 16 × BitVec 16) : BitVec 6 × BitVec 6 :=
  (BitVec.ofInt 6 (requant gain v.1.toInt), BitVec.ofInt 6 (requant gain v.2.toInt))

/-- The bits of a unit: each sample's I and Q, the first sample lowest. -/
def unitWord : List (BitVec 6 × BitVec 6) → Nat
  | [] => 0
  | v :: t => v.1.toNat + 64 * v.2.toNat + 4096 * unitWord t

/-- The samples that a word of a unit spells. -/
def unitOf : Nat → Nat → List (BitVec 6 × BitVec 6)
  | 0, _ => []
  | n + 1, w => (BitVec.ofNat 6 w, BitVec.ofNat 6 (w / 64)) :: unitOf n (w / 4096)

/-- The parity of the low `n` bits: 1 when an odd number is set. -/
def parityOf (n w : Nat) : Nat := popcount n w % 2

/-- A crossing of the unit with the bits of `flip` changed: the word received, and whether its parity bit disagrees (03 R111). -/
def crossUnit (w flip : Nat) : Nat × Bool :=
  let got := (w + 2 ^ 384 * parityOf 384 w) ^^^ (flip % 2 ^ 385)
  (got % 2 ^ 384, parityOf 384 got != got / 2 ^ 384)

/-- A unit's samples join the block in progress of a stream that has begun; the first begins a block at the epoch or 4000 samples after another
block's start, of the epoch `label` and `pos` samples after it (03 R140). -/
def iqTake (label pos : Nat) (unit : List (BitVec 6 × BitVec 6)) (blanked parity : Bool) (gain : Nat) (st : IqStream) : IqStream :=
  if !st.started || decide (4000 ≤ st.buf.length) || st.buf.isEmpty && pos % 4000 != 0 then st
  else
    let st := if st.buf.isEmpty then { st with gain0 := gain, epochMs := label, offset := pos } else st
    { st with buf := st.buf ++ unit, blanked := st.blanked || blanked, parity := st.parity || parity }

/-- A unit of 32 samples of slice `i` is processed in the order of 03 R112 and crosses to the consumers; one that fails parity on P1 or P2
is blanked (01 R20). -/
def unitCross (a i : Nat) (u : TransferUnit) (s : State) : State :=
  let x := sliceOf s a i
  let zs := x.fifo.take 32
  let blanked := zs.any (·.tainted)
  let p := notchUnit i zs x.notches
  let pre := zs.foldl (fun n z => n + power16 (z.i, z.q)) 0
  let post := p.1.foldl (fun n v => n + power16 v) 0
  let w := unitWord (p.1.map (requantPair x.gain))
  let c1 := crossUnit w u.flip1
  let fails := b2n c1.2 + b2n (crossUnit w u.flip2).2
  let bad := fails != 0
  let unit := unitOf 32 (if bad then 0 else c1.1)
  let use := fun (n v : Nat) => if blanked then n else n + v
  let s := modSlice a i (fun y => { y with
    fifo := y.fifo.drop 32, notches := p.2, preSum := use y.preSum pre, postSum := use y.postSum post, powN := use y.powN 32,
    agcSum := use y.agcSum post, agcN := use y.agcN 32, unit := unit, unitBlanked := blanked || bad,
    stream := y.stream.map (iqTake s.epochMs y.unitPos unit blanked bad y.gain) }) s
  let s := modApr a (fun y => { y with
    blankEvents := (y.blankEvents + b2n bad) % 2 ^ 32, parityBlanks := sat 65535 (y.parityBlanks + fails) }) s
  foldS (fun _ t => logErr 0x0E 3 0x03 a (aprRaise a 4 t)) (upto fails) s

/-- The line detector of a slice takes the unit about to cross, and its lines reach the notches (03 R117 to R119). -/
def scanLines (a i : Nat) (s : State) : State :=
  let r := Config.lineScan i (((sliceOf s a i).fifo.take 32).map (fun z => (z.i, z.q))) (sliceOf s a i).lineMem
  foldS (notchLines a i r.1) (upto 4) (modSlice a i (fun x => { x with lineMem := r.2 }) s)

/-- SLICE_TRANSFER_UNIT: the aperture's ADC stream moves on, the lines of the slice reach its notches, and the slice's next 32 samples
cross; answers whether a unit has crossed. -/
def sliceUnit (a i : Nat) (u : TransferUnit) (s : State) : State × Bool :=
  if adcRuns s a && (aprOf s a).slicesOn.testBit i then
    let s := modApr a (fun x => u.adc.foldl (fun y b => adcFeed s.front b y) x) s
    if (sliceOf s a i).fifo.length < 32 then (s, false)
    else (unitCross a i u (scanLines a i s), true)
  else (s, false)

/-- NOTCH_RELEASE (03 R117): the line has stayed more than 3 dB below THRESH for 1 ms. -/
def notchRelease (a i n : Nat) (s : State) : State :=
  let y := notchOf s a i n
  if y.engaged ∧ 2 ≤ y.mode ∧ sliceRate i / 1000 ≤ y.lowFor then
    let peers := notchPeers s a i n
    foldS (fun b t => aprEvent 8 b i n (y.est / 65536) (notchMark b i (modNotch b i n (fun z => { z with engaged := false }) t)))
      peers s
  else s

/-- The AGC's running mean square (2^-16) takes the mean of the last 20 us: a first-order step of 20 us in 0.1 ms x 2^tc (03 R122; log
48). -/
def agcMean (tc : Nat) (avg : Option Nat) (sum n : Nat) : Nat :=
  let m := 65536 * sum / n
  match avg with
  | none => m
  | some v => (v + roundDiv ((m : Int) - v) (5 * 2 ^ tc)).toNat

/-- The gain code at which the RMS of I and of Q is nearest to AGC_TARGET: 24 + 40 log10 (target^2 2^21 / mean square). -/
def agcIdeal (target avg : Nat) : Int := 24 + roundLog 40 (target * target * 2 ^ 37) avg (-24) 192

/-- AGC_UPDATE (03 R122, R123): every 20 us, an automatic AGC moves one 0.25 dB step at most towards its target, inside its range; a unit
with blanked input does not count (03 R114). -/
def agcUpdate (a i : Nat) (s : State) : State :=
  if adcRuns s a && (aprOf s a).slicesOn.testBit i then
    modSlice a i (fun x =>
      if x.agcN = 0 then x
      else
        let avg := agcMean (if x.agcFast then 0 else x.cfg.agcTc) x.agcAvg x.agcSum x.agcN
        let g := match x.cfg.agcMode with
          | 0 =>
            let t := agcIdeal x.cfg.agcTarget avg
            if (x.gain : Int) < t then x.gain + 1 else if t < x.gain then x.gain - 1 else x.gain
          | 2 => (x.cfg.fixedGain + 24).toNat
          | _ => x.gain
        { x with
          agcAvg := some avg, agcSum := 0, agcN := 0, gain := g,
          stream := x.stream.map (fun st => { st with gainMoved := st.gainMoved || g != x.gain }) }) s
  else s

/-- AGC_TC_SWITCH (03 R128 step 3): 1 ms after settling began. -/
def agcTcSwitch (a : Nat) (s : State) : State :=
  if (aprOf s a).phase = .settling ∧ instantReached ((aprOf s a).sinceMs + 1) s then
    foldS (fun i t => modSlice a i (fun x => { x with agcFast := false }) t) (upto 4) s
  else s

/-- APERTURE_RUNNING (03 R128 step 4): no fault is raised. -/
def apertureRunning (a : Nat) (s : State) : State :=
  if (aprOf s a).phase = .settling ∧ !aprFaulted (aprOf s a) then
    aprEvent 1 a 255 0 0 (modApr a (fun x => { x with phase := .running, sinceMs := s.ms }) s)
  else s

/-- One power is at most another: sums over counts. -/
def powerLe (x y : Nat × Nat) : Bool := decide (x.1 * y.2 ≤ y.1 * x.2)

/-- The median of the powers in 0.25 dBFS units, from -384 to 0: of an even count the mean of the two middle levels, 4 x 10 log10 of the
root of their product (03 R125; log 48). -/
def medianLevel (l : List (Nat × Nat)) : Int :=
  let m := middleTwo (0, 1) (sortBy powerLe l)
  roundLog 20 (m.1.1 * m.2.1) (m.1.2 * m.2.2 * fullScale ^ 2) (-384) 0

/-- NOISE_REF_LEARNT (03 R125): the median P_pre of the first second of running, in 0.25 dBFS units. -/
def noiseRefLearnt (a i : Nat) (s : State) : State :=
  let x := sliceOf s a i
  if aprRunning s a ∧ noiseRef x = none ∧ 1000 ≤ x.samples.length then
    let r := medianLevel x.samples
    aprEvent 9 a i 0 r (modSlice a i (fun y => { y with learnt := some r, samples := [] }) s)
  else s

/-- JI_ALERT_CLEAR (03 R126): JI has stayed below JI_ALERT - 8 for 100 ms. -/
def jiAlertClear (a i : Nat) (s : State) : State :=
  let x := sliceOf s a i
  if x.alert ∧ 100 ≤ x.jiLow then
    aprEvent 6 a i 0 x.ji (modSlice a i (fun y => { y with alert := false, jiLow := 0 }) s)
  else s

/-- IQ samples packed as 12-bit words, two in three bytes (03 R141). -/
def packIq12 : List (BitVec 6 × BitVec 6) → List Byte
  | x :: y :: t =>
    let a := x.1.toNat * 64 + x.2.toNat
    let b := y.1.toNat * 64 + y.2.toNat
    le 1 (a % 256) ++ le 1 (a / 256 + 16 * (b % 16)) ++ le 1 (b / 16) ++ packIq12 t
  | [x] =>
    let a := x.1.toNat * 64 + x.2.toNat
    le 1 (a % 256) ++ le 1 (a / 256)
  | [] => []

/-- Sign and magnitude bits of one component: the magnitude bit is set from AGC_TARGET on (03 R141). -/
def iqSignMag (target : Nat) (z : BitVec 6) : Nat × Nat := (b2n (decide (z.toInt < 0)), b2n (decide (target ≤ z.toInt.natAbs)))

/-- One sample in four bits: I sign, I magnitude, Q sign, Q magnitude in bits 3 to 0. -/
def iqNibble (target : Nat) (x : BitVec 6 × BitVec 6) : Nat :=
  let i := iqSignMag target x.1
  let q := iqSignMag target x.2
  8 * i.1 + 4 * i.2 + 2 * q.1 + q.2

/-- Format 1: two samples in a byte. -/
def packIq4 (target : Nat) : List (BitVec 6 × BitVec 6) → List Byte
  | x :: y :: t => le 1 (iqNibble target x + 16 * iqNibble target y) ++ packIq4 target t
  | [x] => le 1 (iqNibble target x)
  | [] => []

/-- The MSG_IQ payload of the block that a stream holds (03 R140). -/
def iqPayload (s : State) (a i : Nat) (st : IqStream) : List Byte :=
  let flags := b2n st.blanked + 2 * b2n st.parity + 4 * b2n st.gainMoved + 8 * b2n st.notchMoved + 16 * b2n st.lost
    + 32 * b2n (aprState s a == 4)
  (le 1 a ++ le 1 i ++ le 1 st.format ++ le 1 flags ++ le 1 st.gain0 ++ [0] ++ le 2 4000 ++ le 8 st.epochMs ++ le 4 st.offset
    ++ le 4 st.block)
    ++ (if st.format = 1 then packIq4 (sliceOf s a i).cfg.agcTarget st.buf else packIq12 st.buf)

/-- The stream after a block: the next block's start, and its end when it was the last (03 R139, R140). -/
def iqAdvance (lost : Bool) (st : IqStream) : Option IqStream :=
  let ended := st.stopping || st.left == some 1
  if ended then none
  else some { st with
    left := st.left.map (· - 1), block := (st.block + 1) % 2 ^ 32, lost := lost,
    buf := [], gain0 := 0, blanked := false, parity := false, gainMoved := false, notchMoved := false }

/-- IQ_BLOCK (03 R140 to R142): the 4000 samples of a block have crossed; it is delivered through the PCIe rings, or discarded whole. -/
def iqBlock (a i : Nat) (s : State) : State :=
  match (sliceOf s a i).stream with
  | none => s
  | some st =>
    if st.buf.length < 4000 then s
    else
      let r := routeOf s 0x8D
      let m : Msg := { msg2 s 0x8D 0x03 a (iqPayload s a i st) with chain := if st.parity then 0x10 else 0 }
      let before := (ringOf s r.ring).outq.length
      let t := post m s
      let accepted := decide (before < (ringOf t r.ring).outq.length)
      modSlice a i (fun x => { x with stream := iqAdvance (!accepted && r.ports.testBit 3) st }) t

/-! ### Bursts (03 R133) -/

/-- What the control cluster keeps of an aperture while its island is gated between bursts: its configuration and settings waiting, the
AGC gains, the learnt noise reference and the notch estimates, beside its own records: the events, the counts since enable, the levels that the
reference is being learnt from, and the faults, whose conditions go on with the next millisecond measured; ADC_FAULT ends with the island's
power (03 R134, R136; log 61). -/
def aprGate (x : Aperture) : Aperture :=
  { Aperture.initial with
    enabled := x.enabled, slicesOn := x.slicesOn, pendEnable := x.pendEnable, nosigDb := x.nosigDb, clipLimit := x.clipLimit,
    pendNosig := x.pendNosig, blanker := x.blanker, pendBlanker := x.pendBlanker, sentMs := x.sentMs, heldEvents := x.heldEvents,
    faults := setBit x.faults 2 false, inFault := x.faults &&& 9 != 0, blankEvents := x.blankEvents, parityBlanks := x.parityBlanks,
    nosigMs := x.nosigMs, rmsLowMs := x.rmsLowMs, nosigClearMs := x.nosigClearMs, overMs := x.overMs, overClearMs := x.overClearMs,
    slices := x.slices.foldl (fun t y => tset SliceState.initial t y.1
      { SliceState.initial with
        samples := y.2.samples, alert := y.2.alert, jiLow := y.2.jiLow,
        cfg := y.2.cfg, pendCfg := y.2.pendCfg, pendNotches := y.2.pendNotches, gain := y.2.gain, learnt := y.2.learnt,
        notches := y.2.notches.foldl (fun u z => tset Notch.off u z.1
          { (notchStart y.1 z.2) with est := z.2.est }) [] }) [] }

/-- The control cluster's records are written back once the island is ready: the aperture settles, with the AGC at 0.1 ms from the
restored gains (03 R133; 05 R247 steps 3 and 4). -/
def aprRestore (a : Nat) (s : State) : State :=
  modApr a (fun y =>
    { y with
      phase := if y.enabled then .settling else .disabled, sinceMs := s.ms,
      slices := (upto 4).foldl (fun t i => tmod SliceState.initial t i (fun z => { z with agcFast := true })) y.slices }) (takeSettings a s)

/-! ### The rows -/

def execAprEnable (p : Packet) (s : State) : Host.Outcome State Fault Refusal := .next (runCmd specAprEnable p s)
def execAprConfig (p : Packet) (s : State) : Host.Outcome State Fault Refusal := .next (runCmd specAprConfig p s)
def execAprNotch (p : Packet) (s : State) : Host.Outcome State Fault Refusal := .next (runCmd specAprNotch p s)
def execAprBlank (p : Packet) (s : State) : Host.Outcome State Fault Refusal := .next (runCmd specAprBlank p s)
def execAprStatus (p : Packet) (s : State) : Host.Outcome State Fault Refusal := .next (runCmd specAprStatus p s)
def execAprStream (p : Packet) (s : State) : Host.Outcome State Fault Refusal := .next (runCmd specAprStream p s)
def execNotchRelease (a : Fin 24) (i n : Fin 4) (s : State) : Host.Outcome State Fault Refusal := .next (notchRelease a i n s)
def execAgcUpdate (a : Fin 24) (i : Fin 4) (s : State) : Host.Outcome State Fault Refusal := .next (agcUpdate a i s)
def execAgcTcSwitch (a : Fin 24) (s : State) : Host.Outcome State Fault Refusal := .next (agcTcSwitch a s)
/-- APERTURE_RUNNING (03 R128): in the Burst profile apertures run from the burst's start (05 R247). -/
def execApertureRunning (a : Fin 24) (s : State) : Host.Outcome State Fault Refusal :=
  .next (if betweenBursts s then s else apertureRunning a s)
def execNoiseRefLearnt (a : Fin 24) (i : Fin 4) (s : State) : Host.Outcome State Fault Refusal := .next (noiseRefLearnt a i s)
def execJiAlertClear (a : Fin 24) (i : Fin 4) (s : State) : Host.Outcome State Fault Refusal := .next (jiAlertClear a i s)
/-- NO_SIGNAL_RAISE (03 R134): one of its two conditions has held for 100 ms. -/
def execNoSignalRaise (a : Fin 24) (s : State) : Host.Outcome State Fault Refusal :=
  .next (if (aprOf s a).enabled ∧ (100 ≤ (aprOf s a).nosigMs ∨ 100 ≤ (aprOf s a).rmsLowMs) then aprRaise a 0 s else s)
/-- NO_SIGNAL_CLEAR (03 R134): both conditions have stayed absent for 100 ms. -/
def execNoSignalClear (a : Fin 24) (s : State) : Host.Outcome State Fault Refusal :=
  .next (if 100 ≤ (aprOf s a).nosigClearMs then aprClear a 0 s else s)
/-- OVERLOAD_RAISE (03 R134): ten consecutive milliseconds above CLIP_LIMIT. -/
def execOverloadRaise (a : Fin 24) (s : State) : Host.Outcome State Fault Refusal :=
  .next (if (aprOf s a).enabled ∧ 10 ≤ (aprOf s a).overMs then aprRaise a 1 s else s)
/-- OVERLOAD_CLEAR (03 R134): 100 consecutive milliseconds below half of CLIP_LIMIT. -/
def execOverloadClear (a : Fin 24) (s : State) : Host.Outcome State Fault Refusal :=
  .next (if 100 ≤ (aprOf s a).overClearMs then aprClear a 1 s else s)
/-- ADC_FAULT (03 R134): the code histogram shows a missing code or a stuck bit over 100 ms. -/
def execAdcFault (a : Fin 24) (s : State) : Host.Outcome State Fault Refusal :=
  .next (if islandReady s a ∧ (aprOf s a).codesBad then aprRaise a 2 s else s)
def execIqBlock (a : Fin 24) (i : Fin 4) (s : State) : Host.Outcome State Fault Refusal := .next (iqBlock a i s)

end Sys2Proof.Machine
end

