-- ==== Sys2Proof/Machine/Work.lean ====
section
/-! DEFINITION. What the device is working on, as other families ask it: the work that a gated island, a profile change, a
self-test slice or a stop looks at (01 R25, R44; 16 R601; 17 R620). -/
namespace Sys2Proof.Machine

/-- SCOPE bit 0 of SEC_ZEROIZE: the calibration and parked-aiding regions of MRAM are erased (17 R636). -/
def eraseRegions (s : State) : State :=
  { s with
    cal.stored := none, cal.storedDist := none, power.parked0 := { s.power.parked0 with valid := false, content := AidStore.empty },
    power.parked1 := { s.power.parked1 with valid := false, content := AidStore.empty } }

/-- The state code of Nunar (08 R333). -/
def nunarCode (s : State) : Nat := s.nunar.st
/-- STATE of CLK_STATUS (09 R392). -/
def clockCode (s : State) : Nat := s.clk.st
/-- The channel is free (05 R233, 17 R620). -/
def chanFree (s : State) (c : Nat) : Bool := (tget Channel.free s.chans c).state == .free
/-- A lane is in a dwell (04 R181, 17 R620). -/
def damaskLaneBusy (s : State) : Bool :=
  !s.acq.segs.isEmpty || s.acq.cands.any (fun c => c.passed != 2 && (match c.dwell with
    | some l => l.any (fun g => !g.live || g.blocksLeft != 0)
    | none => true))
/-- An acquisition is in progress (01 R25). -/
def acqActive (s : State) : Bool := s.acq.running || !s.acq.cands.isEmpty
/-- An overlap sequence is in progress (06 R268, 17 R620). -/
def overlapActive (s : State) : Bool := s.cal.change.isSome
/-- A core may be tested: idle, halted, faulted, quarantined or spare, and not reserved (17 R620, 01 R46). -/
def coreTestable (s : State) (k : Nat) : Bool :=
  let c := coreOf s k
  let m := s.profile.env.krnMask
  let reserved := s.nunar.timecode.on && m.testBit k && (upto 16).all (fun j => decide (j ≤ k) || !m.testBit j)
  let taken := match c.failFrom with
    | some (old, _) => old != k
    | none => false
  islandReady s (26 + k) && !taken && !reserved
    && (c.phase == .idle || c.phase == .halted || c.phase == .faulted || c.phase == .quarantined)
/-- The link role is idle (17 R620). -/
def linkIdle (s : State) : Bool := s.link.role == 0

/-- An MRAM write of the calibration table is pending (16 R601). -/
def calWritePending (s : State) : Bool := s.cal.writing
/-- What a reset keeps of MRAM: the stored calibration and distribution tables, the latter in force again (06 R273, 16 R611). -/
def keepMram (s t : State) : State :=
  { t with cal.stored := s.cal.stored, cal.storedDist := s.cal.storedDist, cal.dist := s.cal.storedDist.getD CalTable.empty }
/-- The vector from an anchor to an aperture that the current attitude solution gives, where both belong to one Tulle group with a fixed
solution no older than 1 s (05 R197). -/
def attitudeVec (s : State) (anchor a : Nat) : Option (Int × Int × Int) :=
  ((upto 4).find? (fun g =>
    let x := tget TulGroup.none s.meas.groups g
    (match x.fixedMs with
      | some t => decide (s.ms ≤ t + 1000)
      | none => false) && (match x.defn with
      | some d => d.members.any (fun m => m.apr == anchor) && d.members.any (fun m => m.apr == a)
      | none => false))).map (fun g =>
    let x := tget TulGroup.none s.meas.groups g
    let v := tget (0, 0, 0) x.vecs a
    let w := tget (0, 0, 0) x.vecs anchor
    (v.1 - w.1, v.2.1 - w.2.1, v.2.2 - w.2.2))
/-- SYNC_IN is a 1PPS input (09 R385). -/
def syncIs1pps (s : State) : Bool := s.clk.fn == 2
/-- The timecode is enabled (08 R354). -/
def timecodeOn (s : State) : Bool := s.nunar.timecode.on
/-- The last epoch carries time continuity broken (07 R291). -/
def timeBroken (s : State) : Bool := s.nunar.broken
/-- Time is not set (07 R291, 08 R333). -/
def timeUnset (s : State) : Bool := s.nunar.st == 0
/-- A declared delay in ps (08 R346). -/
def timDelay (s : State) (type i : Nat) : Int := tget 0 s.nunar.delays (32 * type + i)
/-- What is subtracted from the code measurements of aperture `a` in slice `i`, ps (08 R346). -/
def codeDelay (s : State) (a i : Nat) : Int := timDelay s 1 i + timDelay s 2 a
/-- The seconds between a scale's origin and the GPS origin (08 R327). -/
def scaleOrigin : Nat → Nat
  | 1 => 619315200 | 2 => 820108814 | 3 => 504478810 | _ => 0
/-- An orbit replaces the one of its kind held for its satellite (16 R613). -/
def holdOrbit (r : OrbitRec) (s : State) : State :=
  { s with nav.orbits := s.nav.orbits.filter (fun o => !(o.sv == r.sv && o.almanac == r.almanac)) ++ [r] }

/-- The epoch that begins is a measurement epoch: its label is a multiple of 1000 / RATE_HZ ms (07 R281); in the Burst profile, only inside a
burst and once a channel is in PLL (07 R283; 05 R247 step 8). -/
def measDue (s : State) : Bool :=
  s.epochMs % (1000 / s.rates.rateHz) == 0
    && (s.profile.sel != 4 || (s.burst.on && s.burst.active && s.chans.any (fun e => e.2.state == .pll)))
/-- The last epoch was a measurement epoch. -/
def isMeasEpoch (s : State) : Bool := s.measMs == s.epochMs
end Sys2Proof.Machine
end

