-- ==== Sys2Proof/Machine/SelfTest.lean ====
section
/-! DEFINITION. Self-test slices: the blocks, the scheduler and its commands (17 R617 to R628). -/
namespace Sys2Proof.Machine

/-- The island of a block (17 R619). -/
def blockIsland (b : Nat) : Nat :=
  if b < 25 then b else if b < 38 then 25 else if b < 54 then b - 38 + 26 else if b < 56 then 42 else 43

/-- Work of one full coverage, us (17 R619). -/
def blockWork (b : Nat) : Nat :=
  if b < 24 then 800 else if b = 24 then 1200 else if b < 37 then 3200 else if b = 37 then 200 else if b < 54 then 1600
  else if b = 54 then 360 else if b = 55 then 600 else 800

/-- A channel block: its slices never cross from one channel to the next. -/
def isChannelBlock (b : Nat) : Bool := decide (25 ≤ b ∧ b ≤ 36)

/-- The work that the next slice covers, from `doneUs` on. -/
def sliceWork (b budget doneUs : Nat) : Nat :=
  if isChannelBlock b then min budget (200 - doneUs % 200) else min budget (blockWork b - doneUs)

/-- Slices that the work left is divided into (17 R619, R625). -/
def slicesLeft (b budget doneUs : Nat) : Nat :=
  if isChannelBlock b then
    if blockWork b ≤ doneUs then 0
    else cdiv (200 - doneUs % 200) budget + (15 - doneUs / 200) * cdiv 200 budget
  else cdiv (blockWork b - doneUs) budget

/-- The budget in force for a block: that of its run-now coverage, where it names one, or the scheduled one (17 R625, R626). -/
def blockBudget (s : State) (b : Nat) : Nat := match (bstOf s b).runNow with
  | some r => if r.budget = 0 then s.bst.budget else r.budget
  | none => s.bst.budget

/-- TOTAL of BST_RESULTS (17 R627). -/
def blockTotal (s : State) (b : Nat) : Nat := (bstOf s b).done + slicesLeft b (blockBudget s b) (bstOf s b).workDone

/-- A block may be tested at this moment (17 R620); `synth` and `modem` tell what the link's schedule allows. -/
def eligible (s : State) (synth modem : Bool) (b : Nat) : Bool :=
  islandReady s (blockIsland b) &&
  (if b < 24 then !aprEnabledNext (aprOf s b)
   else if b = 24 then !damaskLaneBusy s
   else if b < 37 then chanFree s (16 * (b - 25) + (bstOf s b).workDone / 200)
   else if b = 37 then !s.bst.voileReserved
   else if b < 54 then coreTestable s (b - 38)
   else if b = 54 then synth
   else if b = 55 then linkIdle s || modem
   else s.security.op.isNone && s.ecsol.held.all (fun h => !cmdAuth h.pkt || h.why == .behind))

/-- A block begins to owe its next coverage CYCLE_S after the previous one began (17 R619). -/
def owe (s : State) (x : BstBlock) : BstBlock :=
  if !x.owes && instantReached (x.beganMs + 1000 * s.bst.cycle) s then
    { x with owes := true, begun := false, waitMs := x.beganMs + 1000 * s.bst.cycle, done := 0, workDone := 0, anyFail := false }
  else x

/-- The block that has waited longest; the lowest number among equals. -/
def longestWaiting (s : State) : List Nat → Option Nat
  | [] => none
  | b :: t => match longestWaiting s t with
    | some c => if (bstOf s c).waitMs < (bstOf s b).waitMs then some c else some b
    | none => some b

/-- Start a block's next slice; a run-now coverage starts from its first slice. A scan slice first clears the working key registers (17
R633). -/
def startSlice (b : Nat) (s : State) : State :=
  let s := modBst b (fun x => match x.runNow with
    | some r => if r.started then x else
        { x with runNow := some { r with started := true }, begun := false, done := 0, workDone := 0, anyFail := false, owes := true }
    | none => x) s
  let x := bstOf s b
  let budget := blockBudget s b
  let mode := match x.runNow with
    | some r => r.mode
    | none => 0
  let s := modBst b (fun y => { y with waitMs := nowMs s, begun := true, beganMs := if y.begun then y.beganMs else nowMs s }) s
  { s with
    security.workKeys := s.security.workKeys && mode != 1,
    bst.damaskCalled := s.bst.damaskCalled && b != 24,
    bst.active := some { block := b, slice := x.done, mode := mode, budget := budget } }

/-- The schedule or BST_RUN_NOW wants a slice of Damask (04 R181). -/
def damaskWanted (s : State) : Bool :=
  islandReady s 24 && ((bstOf s 24).runNow.isSome || (s.bst.enable && (bstOf s 24).owes))

/-- Damask starts no new search dwell: its slice has been called for and has not ended (04 R181). -/
def damaskPaused (s : State) : Bool :=
  (s.bst.damaskCalled && damaskWanted s) || (match s.bst.active with
    | some r => r.block == 24
    | none => false)

/-- The time between slots, us: CYCLE_S over the slices of one full coverage of every block at the budget in force (17 R619), rounded
down (log 59). -/
def slotSpacing (s : State) : Nat := s.bst.cycle * 1000000 / (upto 57).foldl (fun n b => n + slicesLeft b s.bst.budget 0) 0

/-- SELFTEST_SLOT (17 R619): at most one slice starts, on a run-now block first, then, where a slot of the schedule has come, on the block that
has waited longest. The Voile correlators' slice is reserved for the next whole second (17 R620). -/
def selftestSlot (us : Nat) (synth modem : Bool) (s : State) : State :=
  if !hostUp s || s.bst.active.isSome then s
  else
    let now := 1000 * nowMs s + us
    let slot := match s.bst.slotUs with
      | some t => decide (t + slotSpacing s ≤ now)
      | none => true
    let s := if slot then { s with bst.slotUs := some now } else s
    let s := foldS (fun b t => modBst b (owe s) t) (upto 57) s
    let s := { s with bst.damaskCalled := s.bst.damaskCalled || (damaskWanted s && damaskLaneBusy s) }
    let first := (upto 57).filter (fun b => (bstOf s b).runNow.isSome && eligible s synth modem b)
    let due := (upto 57).filter (fun b => slot && s.bst.enable && (bstOf s b).owes && eligible s synth modem b)
    match (first.head?).orElse (fun _ => longestWaiting s due) with
    | some b => if b = 37 then { s with bst.voileReserved := true } else startSlice b s
    | none => s

/-- At a whole second the reserved slice starts, unless an overlap sequence or another slice is in progress; it is then
withdrawn (17 R620). -/
def voileSliceStart (s : State) : State :=
  if s.bst.voileReserved then
    let t := { s with bst.voileReserved := false }
    if overlapActive s || s.bst.active.isSome || !islandReady s 25 then t else startSlice 37 t
  else s

/-- The end of a full coverage: its result, and the next coverage owed at once after a failure (17 R619, R623). A run-now coverage that has
not started follows (17 R647). -/
def endCoverage (s : State) (x : BstBlock) : BstBlock :=
  { x with
    begun := false, result := if x.anyFail then 2 else 1, coveredMs := some (nowMs s), owes := x.anyFail, runNow := x.runNow.filter (fun r => !r.started),
    done := if x.anyFail then 0 else x.done, workDone := if x.anyFail then 0 else x.workDone, anyFail := false }

/-- SELFTEST_SLICE_END (17 R617, R621 to R624, R628): the slice's result is recorded and the requests it held go on. -/
def sliceEnd (pass : Bool) (vector : Nat) (s : State) : State :=
  match s.bst.active with
  | none => s
  | some r =>
    let b := r.block
    let ch := (bstOf s b).workDone / 200
    let s := reloadKeys { s with bst.active := none, bst.slices := (s.bst.slices + 1) % 2 ^ 32 }
    let s := modBst b (fun x =>
      { x with
        done := x.done + 1, workDone := x.workDone + sliceWork b r.budget x.workDone, anyFail := x.anyFail || !pass,
        result := if pass then x.result else 2,
        failedCh := if isChannelBlock b then setBit x.failedCh ch (!pass) else x.failedCh }) s
    let s := if pass then s else
      postSelftest b 2 r.slice r.mode vector (logErr 0x44 (if b = 56 then 4 else 3) 0x0E b s)
    if blockWork b ≤ (bstOf s b).workDone then
      let ok := !(bstOf s b).anyFail
      let s := modBst b (endCoverage s) s
      if ok then postSelftest b 4 r.slice r.mode 0 s else s
    else s

/-! ### Commands -/

/-- BST_SCHEDULE (17 R625). -/
def bstScheduleAct (p : Packet) (s : State) : CmdOut :=
  let b := p.params
  rejectIf (decide (1 < u8 b 0) || !zeroAt b 1 1 || decide (u16 b 2 < 50) || decide (2000 < u16 b 2)
    || decide (u32 b 4 < 60) || decide (86400 < u32 b 4)) .badValue <|
  done { s with bst.enable := u8 b 0 == 1, bst.budget := u16 b 2, bst.cycle := u32 b 4 }

def specBstSchedule : OpSpec := plainOp 0x0E01 false 8 bstScheduleAct

/-- BST_RUN_NOW (17 R626). -/
def bstRunNowAct (p : Packet) (s : State) : CmdOut :=
  let b := p.params
  let n := u8 b 0
  let mode := u8 b 1
  let budget := u16 b 2
  rejectIf (decide (56 < n) || decide (1 < mode) || (mode == 1 && n != 56)
    || (budget != 0 && (decide (budget < 50) || decide (2000 < budget))) || !zeroAt b 4 4) .badValue <|
  rejectIf ((bstOf s n).runNow.isSome || (decide (n < 24) && aprEnabledNext (aprOf s n))
    || (decide (38 ≤ n ∧ n ≤ 53) && !coreTestable s (n - 38))
    || (mode == 1 && s.security.life != .manufacture && s.security.life != .returned)) .badState <|
  done (modBst n (fun x =>
    { x with runNow := some { mode := mode, budget := budget, started := false } }) s)

def specBstRunNow : OpSpec :=
  { plainOp 0x0E02 true 8 bstRunNowAct with islands := fun b _ => if u8 b 0 ≤ 56 then [blockIsland (u8 b 0)] else [] }

/-- One 8-byte entry of BST_RESULTS (17 R627). -/
def bstEntry (s : State) (b : Nat) : List Byte :=
  let x := bstOf s b
  let age := match x.coveredMs with
    | some t => sat 65535 ((nowMs s - t) / 1000)
    | none => 65535
  le 1 b ++ le 1 x.result ++ le 1 x.done ++ le 1 (blockTotal s b) ++ le 2 age ++ le 2 x.aborts

/-- BST_RESULTS (17 R627). -/
def bstResultsAct (_p : Packet) (s : State) : CmdOut :=
  let bs := (upto 57).filter (fun b => islandOn s (blockIsland b))
  answer (le 1 bs.length ++ le 1 (b2n s.bst.enable) ++ le 2 s.bst.budget ++ bs.flatMap (bstEntry s)) s

def specBstResults : OpSpec := plainOp 0x0E03 false 0 bstResultsAct

def execBstSchedule (p : Packet) (s : State) : Host.Outcome State Fault Refusal := .next (runCmd specBstSchedule p s)
def execBstRunNow (p : Packet) (s : State) : Host.Outcome State Fault Refusal := .next (runCmd specBstRunNow p s)
def execBstResults (p : Packet) (s : State) : Host.Outcome State Fault Refusal := .next (runCmd specBstResults p s)

end Sys2Proof.Machine
end

