-- ==== Sys2Proof/Machine/Signals.lean ====
section
/-! DEFINITION. The signals of the device (04 R145), detection thresholds (04 R153), C/N0 in 0.1 dB-Hz (04 R154, 05 R214),
and the search windows that aiding gives (04 R157 to R160). -/
namespace Sys2Proof.Machine

/-- One row of the signal table (04 R145). The carriers are those of the systems' interface documents (log 10). -/
structure SigInfo where
  code : Nat
  slice : Nat
  chipHz : Nat
  /-- Cells per chip: 2 or 4. -/
  perChip : Nat
  chips : Nat
  cells : Nat
  lanes : Nat
  svLo : Nat
  svHi : Nat
  coarse : Nat
  fine : Nat
  carrier : Nat
  searchable : Bool
deriving DecidableEq, Repr

/-- The signal table, GPS and Galileo (04 R145, 05 R236 for 0x14). -/
def sigTableA : List SigInfo :=
  [⟨0x01, 3, 1023000, 2, 1023, 2046, 2, 1, 32, 10, 20, 1575420000, true⟩,
   ⟨0x02, 3, 1023000, 4, 10230, 40920, 40, 1, 32, 10, 20, 1575420000, true⟩,
   ⟨0x03, 1, 511500, 2, 10230, 20460, 20, 1, 32, 20, 20, 1227600000, true⟩,
   ⟨0x04, 0, 10230000, 2, 10230, 20460, 20, 1, 32, 1, 20, 1176450000, true⟩,
   ⟨0x11, 3, 1023000, 4, 4092, 16368, 16, 1, 36, 4, 20, 1575420000, true⟩,
   ⟨0x12, 0, 10230000, 2, 10230, 20460, 20, 1, 36, 1, 20, 1176450000, true⟩,
   ⟨0x13, 0, 10230000, 2, 10230, 20460, 20, 1, 36, 1, 20, 1207140000, true⟩,
   ⟨0x14, 0, 10230000, 2, 10230, 20460, 20, 1, 36, 20, 20, 1191795000, false⟩,
   ⟨0x15, 2, 5115000, 2, 5115, 10230, 10, 1, 36, 1, 20, 1278750000, true⟩]

/-- The signal table, BeiDou and GLONASS. -/
def sigTableB : List SigInfo :=
  [⟨0x21, 3, 2046000, 2, 2046, 4092, 4, 1, 63, 1, 20, 1561098000, true⟩,
   ⟨0x22, 3, 1023000, 4, 10230, 40920, 40, 1, 63, 10, 20, 1575420000, true⟩,
   ⟨0x23, 0, 10230000, 2, 10230, 20460, 20, 1, 63, 1, 20, 1176450000, true⟩,
   ⟨0x24, 0, 10230000, 2, 10230, 20460, 20, 1, 63, 1, 1, 1207140000, true⟩,
   ⟨0x25, 2, 10230000, 2, 10230, 20460, 20, 1, 63, 1, 20, 1268520000, true⟩,
   ⟨0x31, 3, 511000, 2, 511, 1022, 1, 1, 14, 10, 20, 1602000000, true⟩,
   ⟨0x32, 1, 511000, 2, 511, 1022, 1, 1, 14, 10, 20, 1246000000, true⟩,
   ⟨0x33, 0, 10230000, 2, 10230, 20460, 20, 1, 24, 1, 20, 1202025000, true⟩]

/-- The signal table, QZSS, NavIC and SBAS. -/
def sigTableC : List SigInfo :=
  [⟨0x41, 3, 1023000, 2, 1023, 2046, 2, 193, 202, 10, 20, 1575420000, true⟩,
   ⟨0x42, 3, 1023000, 4, 10230, 40920, 40, 193, 202, 10, 20, 1575420000, true⟩,
   ⟨0x43, 1, 511500, 2, 10230, 20460, 20, 193, 202, 20, 20, 1227600000, true⟩,
   ⟨0x44, 0, 10230000, 2, 10230, 20460, 20, 193, 202, 1, 20, 1176450000, true⟩,
   ⟨0x45, 2, 2557500, 2, 10230, 20460, 20, 193, 202, 4, 4, 1278750000, true⟩,
   ⟨0x51, 0, 1023000, 2, 1023, 2046, 2, 1, 14, 10, 20, 1176450000, true⟩,
   ⟨0x61, 3, 1023000, 2, 1023, 2046, 2, 120, 158, 1, 2, 1575420000, true⟩,
   ⟨0x62, 0, 10230000, 2, 10230, 20460, 20, 120, 158, 1, 20, 1176450000, true⟩]

/-- The signal table (04 R145). -/
def sigTable : List SigInfo := sigTableA ++ sigTableB ++ sigTableC

/-- A signal's row. -/
def sigOf (code : Nat) : Option SigInfo := sigTable.find? (fun x => x.code == code)

/-- SV lies in the signal's range. -/
def svOk (i : SigInfo) (sv : Nat) : Bool := decide (i.svLo ≤ sv ∧ sv ≤ i.svHi)

/-- The carrier of a satellite's signal in Hz: GLONASS FDMA SV is the channel number k plus 8 (04 R145). -/
def carrierHz (signal sv : Nat) : Nat :=
  let f := ((sigOf signal).map (·.carrier)).getD 1575420000
  if signal = 0x31 then f + 562500 * sv - 562500 * 8
  else if signal = 0x32 then f + 437500 * sv - 437500 * 8
  else f

/-- BeiDou GEO satellites, whose B1I and B3I blocks are limited to 2 ms (04 R145; the numbers are log 10). -/
def isGeo (signal sv : Nat) : Bool := (signal == 0x21 || signal == 0x25) && (decide (1 ≤ sv ∧ sv ≤ 5) || decide (59 ≤ sv))

/-- COH_MS fine of a satellite's signal. -/
def cohFine (signal sv : Nat) : Nat := if isGeo signal sv then 2 else ((sigOf signal).map (·.fine)).getD 20

/-- Slice of a signal. -/
def sliceOfSignal (signal : Nat) : Nat := ((sigOf signal).map (·.slice)).getD 0

/-- The centre of a slice, Hz (03 R109). -/
def sliceCentre (i : Nat) : Nat :=
  if i = 0 then 1191795000 else if i = 1 then 1227600000 else if i = 2 then 1273000000 else 1585000000

/-- The fixed group delay of a slice's downconversion, the blanker's line included, in 1/1,024,000 ns: 1.720 us, and 2.310 us in S1 and S2 (03 R109). -/
def groupDelay (i : Nat) : Int := if i = 1 ∨ i = 2 then 2365440000 else 1761280000

/-- The offset of a carrier from its slice's centre as the complex samples carry it, Hz: in S1 from +20 MHz on less 40 MHz (03 R110). -/
def foldedOffset (slice carrier : Nat) : Int :=
  let o : Int := carrier - sliceCentre slice
  if slice = 1 ∧ 20000000 ≤ o then o - 40000000 else o

/-- The component tracked carries data: those that the table of 04 R145 marks, and the CM code (log 10). -/
def isData (signal : Nat) : Bool :=
  [0x01, 0x03, 0x21, 0x24, 0x25, 0x31, 0x32, 0x41, 0x43, 0x45, 0x51, 0x61].contains signal

/-- A millisecond in 1/1,024,000 ns, the unit of code delays. -/
def msUnits : Int := 1024000000000

/-- The code period of a signal in 1/1,024,000 ns: whole milliseconds (04 R145). -/
def periodUnits (i : SigInfo) : Int := msUnits * (i.chips * 1000 / i.chipHz : Nat)

/-- A code phase in 2^-16 chip at a place in the code period. -/
def placePhase (i : SigInfo) (tx : Int) : Nat :=
  ((tx % periodUnits i).toNat * i.chipHz * 65536 / 1024000000000000) % (i.chips * 65536)

/-- The place in the code period of a code phase in 2^-16 chip. -/
def phasePlace (i : SigInfo) (phase : Int) : Int := roundDiv (phase * 1024000000000000) (65536 * i.chipHz)

/-- What a code gains in `ms` milliseconds over the same time without Doppler (0.01 Hz): chip rate and carrier move together (04 R146, 05
R210). -/
def dopplerGain (carrier : Nat) (doppler ms : Int) : Int := roundDiv (doppler * ms * 10240000000) carrier

/-- Partial sums of x^k / k! scaled by b^N N!, with x = a / b: answers the sum over k < n and the sum over n <= k < N. -/
def expSums (a b n : Nat) : Nat → Nat → Nat → Nat → Nat → Nat × Nat
  | 0, _, _, lo, hi => (lo, hi)
  | fuel + 1, k, term, lo, hi =>
    let next := term * a / (b * (k + 1))
    if k < n then expSums a b n fuel (k + 1) next (lo + term) hi else expSums a b n fuel (k + 1) next lo (hi + term)

/-- N factorial. -/
def factorial : Nat → Nat
  | 0 => 1
  | n + 1 => (n + 1) * factorial n

/-- Z, given in 1/256, reaches the threshold of R153: P(X >= Z) <= 10^-e for the mean X of `n` exponential variables of unit
mean. With x = n Z, P = A / (A + B), A the sum of x^k / k! over k < n and B the rest of the series for e^x. -/
def reaches (n e z : Nat) : Bool :=
  let a := n * z
  let terms := n + 4 * (a / 256) + 64
  let s := expSums a 256 n terms 0 (256 ^ terms * factorial terms) 0 0
  decide (s.1 * (10 ^ e - 1) ≤ s.2)

/-- The median of X in 2^-16: the largest value that the mean of `n` exponential variables of unit mean reaches with a probability above a half
(04 R152). -/
def medianX (n : Nat) : Nat :=
  let above := fun (z : Int) =>
    let a := n * z.toNat
    let terms := n + 4 * (a / 65536) + 64
    let s := expSums a 65536 n terms 0 (65536 ^ terms * factorial terms) 0 0
    decide (s.2 < s.1)
  (climb above 20 0 131071).toNat

/-- The largest n below 2^bits + base with 10^(2n - 1) den^200 <= num^200: log10(num / den) in hundredths, rounded. -/
def logSearch (num den : Nat) : Nat → Nat → Nat
  | 0, base => base
  | bits + 1, base =>
    let t := base + 2 ^ bits
    if 10 ^ (2 * t - 1) * den ^ 200 ≤ num ^ 200 then logSearch num den bits t else logSearch num den bits base

/-- 10 log10(num / den) in 0.1 dB, rounded to nearest; 0 for ratios up to 1. -/
def tenthsDb (num den : Nat) : Nat := if num ≤ den then 0 else logSearch num den 10 0

/-- C/N0 in 0.1 dB-Hz of prompt and noise powers over 1 ms, with a floor of 10.0 (05 R214); the floor
stands where the noise power is 0 and the formula has no value (DESIGN CHOICE, log 62). -/
def cn0Of (p n : Nat) : Nat := if p ≤ n ∨ n = 0 then 100 else max 100 (tenthsDb ((p - n) * 1000) n)

/-- C/N0 of those powers is at least `db` dB-Hz (05 R216). -/
def cn0AtLeast (p n db : Nat) : Bool := decide (n < p) && decide (n ^ 10 * 10 ^ db ≤ ((p - n) * 1000) ^ 10)

/-! ### Aiding and search windows (04 R157 to R160) -/

/-- A search window: the centre, as the transmit time of the signal at the antenna pin at the present epoch, whole code periods known where the
window is fine (04 R145, R160), and as Doppler in 0.01 Hz; half-widths as exact ratios,
in chips and in Hz; none = the full code period. -/
structure Window where
  place : Int
  doppler : Int
  code : Option (Nat × Nat)
  dopp : Nat × Nat
  fine : Bool
deriving DecidableEq, Repr

/-- The speed of light, m/s. -/
def lightSpeed : Nat := 299792458

/-- The system number of a signal: 0 GPS, 1 Galileo, 2 BeiDou, 3 GLONASS, 4 QZSS, 5 NavIC, 6 SBAS. -/
def systemOf (signal : Nat) : Nat := signal / 16

/-- A satellite's number among orbits: system and SV. -/
def orbitKey (signal sv : Nat) : Nat := 256 * systemOf signal + sv

/-- Of two values with their 1 sigma, the one with the smaller, the first of equals (04 R157). -/
def smaller {α : Type} (a b : Option (α × Nat)) : Option (α × Nat) := match a, b with
  | some x, some y => if x.2 ≤ y.2 then some x else some y
  | some x, none => some x
  | none, y => y

/-- The oscillator offset with its 1 sigma, 0.01 ppb: the host's or the device's own; else 0 with 1 ppm (04 R157, R158). -/
def oscNow (s : State) : Int × Nat :=
  (smaller s.acq.aid.osc (s.nav.osc.map (fun e => (roundDiv (e.value.headD 0) 10, cdiv e.sd 10)))).getD (0, 100000)

/-- F_UNC, 0.01 ppb. -/
def fUnc (s : State) : Nat := (oscNow s).2

/-- GPS time of the present epoch by its label, ns (08 R327). -/
def labelGps (s : State) : Int := (s.epochMs : Int) * 1000000 + (scaleOrigin s.nunar.scale : Int) * 1000000000

/-- The 32.768 kHz count, which runs on the bypass clock too, in ms since the GPS origin (16 R599). -/
def tcNow (s : State) : Nat := s.power.tcGpsMs + bypassMs s
/-- The milliseconds since the count was loaded. -/
def tcSince (s : State) : Nat := s.power.tcSinceMs + bypassMs s
/-- T_UNC in us: SD at the last load + RTC_PPM x 1e-6 x time since it + 31 us (16 R600). -/
def tUnc (s : State) : Nat := s.power.tcSdUs + s.power.wake.rtcPpm * tcSince s / 1000 + 31

/-- GPS time in ns with its 1 sigma: the host's record, which moves with the device clock and grows at F_UNC; the device's own, which is
known while its time is set; or that of a valid time count (04 R157; 08 R333; 16 R600). -/
def gpsNow (s : State) : Option (Int × Nat) :=
  let host := s.acq.aid.time.map (fun t =>
    (t.1 + ((s.ms : Int) - t.2.2) * 1000000, t.2.1 + (s.ms - t.2.2) * fUnc s / 100000))
  let own := if s.nunar.st = 0 ∨ s.nunar.st = 5 then none
    else some (labelGps s, cdiv s.nunar.xSd 1000 + (s.ms - s.nunar.validMs.getD 0) * fUnc s / 100000)
  let count := if s.power.tcValid then some ((tcNow s : Int) * 1000000, 1000 * tUnc s) else none
  smaller (smaller host own) count

/-- Position (degrees x 10^7, mm) with its 1 sigma in cm: the host's, that of the current solution, or the one restored at the start (04 R157). -/
def posNow (s : State) : Option (List Int × Nat) :=
  let held := fun (o : Option Estimate) => o.map (fun e => (e.value, e.sd))
  smaller (s.acq.aid.pos.map (fun p => ([p.1, p.2.1, p.2.2.1], 100 * p.2.2.2))) (smaller (held s.nav.own) (held s.nav.rest))

/-- Velocity in mm/s with its 1 sigma; none known = 30 m/s (04 R157, R158). -/
def velNow (s : State) : List Int × Nat :=
  (smaller (s.acq.aid.vel.map (fun p => ([p.1, p.2.1, p.2.2.1], p.2.2.2))) (s.nav.vel.map (fun e => (e.value, e.sd)))).getD
    ([0, 0, 0], 30000)

/-- The 1 sigma of an orbit, cm: 10 m for an ephemeris up to the end of its validity or 4 h past its reference time, else 3000 m; an almanac
older than 30 days is not used (04 R158). -/
def orbitSd (nowMs : Int) (o : OrbitRec) : Option Nat :=
  if o.almanac then if nowMs ≤ (o.refMs : Int) + 30 * 86400000 then some 300000 else none
  else if nowMs ≤ (o.refMs : Int) + max o.fitMs (4 * 3600000) then some 1000 else some 300000

/-- The usable orbit of a satellite with the smallest 1 sigma, cm (04 R157, R158). -/
def orbitNow (s : State) (signal sv : Nat) : Option (OrbitRec × Nat) :=
  let nowMs := ((gpsNow s).map (·.1)).getD (labelGps s) / 1000000
  (s.nav.orbits.filter (fun o => o.sv == orbitKey signal sv)).foldl
    (fun best o => smaller best ((orbitSd nowMs o).map (fun d => (o, d)))) none

/-- The 1 sigma of an orbit's velocity, mm/s (04 R158). -/
def orbitVunc (sd : Nat) : Nat := if sd = 1000 then 20 else 1000

/-- The host record of a satellite has lapsed: 30 s after its reference time (04 R162). -/
def satLapsed (s : State) (r : SatAid) : Bool :=
  decide ((r.gpsNs : Int) + 30000000000 ≤ ((gpsNow s).map (·.1)).getD (labelGps s))

/-- The held satellite record of a signal and SV that has not lapsed (04 R159, R162, R163). -/
def satAid (s : State) (signal sv : Nat) : Option SatAid :=
  s.acq.aid.sats.find? (fun r => r.signal == signal && r.sv == sv && !satLapsed s r)

/-- A code half-width of 150 km or less, 0.5 ms of travel (04 R160). -/
def fineHalf (chipHz : Nat) (h : Nat × Nat) : Bool := decide (h.1 * lightSpeed ≤ 150000 * chipHz * h.2)

/-- f x f_off in 0.01 Hz: what a reference above its nominal frequency takes from every Doppler (04 R159). -/
def oscDoppler (s : State) (carrier : Nat) : Int := roundDiv ((oscNow s).1 * carrier) 1000000000

/-- The window of the third branch: the full code and DOPP_HALF (04 R159). -/
def openWindow (s : State) (signal sv doppHalf : Nat) : Window :=
  { place := 0, doppler := -(oscDoppler s (carrierHz signal sv)), code := none, dopp := (10 * doppHalf, 1), fine := false }

/-- What time, position, velocity and orbit predict for a satellite, where they are held. -/
def predicted (s : State) (signal sv : Nat) : Option (Int × Int × Int) := match gpsNow s, posNow s, orbitNow s signal sv with
  | some t, some p, some o => some (Config.predictSat signal sv o.1.elems p.1 (velNow s).1 t.1)
  | _, _, _ => none

/-- The window of a host record: its code phase propagated to the present epoch, in the code period that comes nearest to the prediction, where
there is one (04 R145, R159). -/
def recordWindow (s : State) (i : SigInfo) (r : SatAid) : Window :=
  let h := (3 * r.codeUnc, 256)
  let ns : Int := ((gpsNow s).map (·.1)).getD (labelGps s) - r.gpsNs
  let tx := phasePlace i r.codePhase + ns * 1024000 + roundDiv (r.doppler * ns * 10240) (carrierHz r.signal r.sv)
  let p := periodUnits i
  let whole := match predicted s r.signal r.sv with
    | some z => roundDiv (z.1 - tx) p.toNat
    | none => Config.recordPeriod r.signal r.sv r.gpsNs
  { place := tx + whole * p, doppler := r.doppler, code := some h, dopp := (3 * r.doppUnc, 100), fine := fineHalf i.chipHz h }

/-- The predicted elevation, degrees (04 R161, R167). -/
def elevOf (s : State) (signal sv : Nat) : Option Int := (predicted s signal sv).map (·.2.2)

/-- The window that aiding gives a satellite at the present epoch (04 R159): its record, or time, position and orbit, or none of them. -/
def aidedWindow (s : State) (signal sv doppHalf : Nat) : Window := match sigOf signal, satAid s signal sv with
  | none, _ => openWindow s signal sv doppHalf
  | some i, some r => recordWindow s i r
  | some i, none =>
    match gpsNow s, posNow s, orbitNow s signal sv, predicted s signal sv with
    | some t, some p, some o, some z =>
      if t.2 ≤ 60000000000 then
        let f := carrierHz signal sv
        let h := (3 * i.chipHz * (t.2 * lightSpeed * 100 + (p.2 + o.2) * 1000000000), lightSpeed * 100000000000)
        let d := 3 * f * (fUnc s * lightSpeed + ((velNow s).2 + orbitVunc o.2) * 100000000 + 18 * t.2)
        { place := z.1, doppler := z.2.1 - oscDoppler s f, code := some h, dopp := (d, lightSpeed * 100000000000),
          fine := fineHalf i.chipHz h }
      else openWindow s signal sv doppHalf
    | _, _, _, _ => openWindow s signal sv doppHalf

/-- Cells of a window: 2 ceil(H) + 1, or the full code period (04 R147). -/
def windowCells (i : SigInfo) (w : Window) : Nat := match w.code with
  | none => i.cells
  | some h => min i.cells (2 * cdiv (h.1 * i.perChip) h.2 + 1)

/-- Lanes that one bin needs (04 R144, R145). -/
def windowLanes (i : SigInfo) (w : Window) : Nat :=
  if windowCells i w = i.cells then i.lanes else cdiv (windowCells i w) 1024

/-- Half the number of Doppler bins beside the centre one: ceil(W / spacing), spacing 500 / COH_MS Hz (04 R147). -/
def windowBins (w : Window) (coh : Nat) : Nat := cdiv (w.dopp.1 * coh) (w.dopp.2 * 500)

end Sys2Proof.Machine
end

