-- ==== Sys2Proof/Machine/Correlate.lean ====
section
/-! DEFINITION. Correlation of slice samples with a replica of a signal, which the tracking array and Damask share (04 R143, R146; 05 R188,
R189, R199), with the mod-7 residues of its accumulators (01 R32). -/
namespace Sys2Proof.Machine

/-- A replica over one millisecond: the place of the code and the carrier phase (2^-32 cycle) at the epoch, what each gains over the
millisecond, and the samples that the millisecond holds. -/
structure Replica where
  tx : Int
  txGain : Int
  ph : Int
  phGain : Int
  n : Nat
deriving DecidableEq, Repr

/-- A quantity at sample `k` of the millisecond. -/
def atSample (start gain : Int) (k n : Nat) : Int := start + gain * k / n

/-- The place of the code at sample `k`. -/
def Replica.txAt (r : Replica) (k : Nat) : Int := atSample r.tx r.txGain k r.n

/-- A slice sample times the conjugate of the replica carrier at sample `k`. -/
def Replica.wipe (r : Replica) (k : Nat) (z : BitVec 6 × BitVec 6) : Int × Int :=
  let w := Config.carrierWave (atSample r.ph r.phGain k r.n % 2 ^ 32).toNat
  let c := w.1.toInt
  let s := w.2.toInt
  (z.1.toInt * c + z.2.toInt * s, z.2.toInt * c - z.1.toInt * s)

/-- A sample without carrier times the conjugate of the signal's chip at a place of the code. -/
def despread (i : SigInfo) (sv : Nat) (sec : Option Nat) (tx : Int) (v : Int × Int) : Int × Int :=
  let w := Config.replica i.code sv sec (placePhase i tx)
  let c := w.1.toInt
  let s := w.2.toInt
  (v.1 * c + v.2 * s, v.2 * c - v.1 * s)

/-- A sample without carrier times the reserved sequence of the N correlator (05 R199). -/
def despreadNoise (i : SigInfo) (tx : Int) (v : Int × Int) : Int × Int :=
  if Config.noiseChip i.code (placePhase i tx) then (-v.1, -v.2) else v

/-- The sum of two complex values. -/
def addC (v w : Int × Int) : Int × Int := (v.1 + w.1, v.2 + w.2)
/-- A complex value with its sign changed where `neg` holds. -/
def signC (neg : Bool) (v : Int × Int) : Int × Int := if neg then (-v.1, -v.2) else v
/-- A complex value modulo 7, as a residue accumulator holds it (01 R32). -/
def residueC (v : Int × Int) : Int × Int := (v.1 % 7, v.2 % 7)

/-- What a unit's samples from sample `k` on give: a fold over the samples with their numbers in the millisecond. -/
def foldUnit {β : Type} (f : Nat → BitVec 6 × BitVec 6 → β → β) : List (BitVec 6 × BitVec 6) → Nat → β → β
  | [], _, b => b
  | z :: t, k, b => foldUnit f t (k + 1) (f k z b)

end Sys2Proof.Machine
end

