-- ==== Sys2Proof/Machine/Tracking.lean ====
section
/-! DEFINITION. Array tracking channels (05): the shared NCOs, lags and residuals, correlators and dumps, the loops, lock detection, anchors
and hand-over, assignment and release, loop settings, burst tracking. -/
namespace Sys2Proof.Machine

/-- A channel. -/
def chanOf (s : State) (c : Nat) : Channel := tget Channel.free s.chans c
/-- Change a channel. -/
def modChan (c : Nat) (f : Channel → Channel) (s : State) : State := { s with chans := tmod Channel.free s.chans c f }
/-- A channel-aperture. -/
def caOf (s : State) (c a : Nat) : ChanApr := tget ChanApr.initial (chanOf s c).aprs a
/-- Change a channel-aperture. -/
def modCa (c a : Nat) (f : ChanApr → ChanApr) (s : State) : State :=
  modChan c (fun x => { x with aprs := tmod ChanApr.initial x.aprs a f }) s
/-- Change every channel-aperture of a channel. -/
def Channel.mapAprs (f : ChanApr → ChanApr) (x : Channel) : Channel :=
  { x with aprs := (maskBits 24 x.aprMask).foldl (fun t a => tmod ChanApr.initial t a f) x.aprs }

/-- The channel is assigned, or will be at the next epoch. -/
def chanAssigned (s : State) (c : Nat) : Bool := (chanOf s c).state != .free || (chanOf s c).pendAssign.isSome
/-- The assigned channels. -/
def assignedChannels (s : State) : List Nat := (upto 192).filter (chanAssigned s)
/-- The channel is in one of the states in which its correlators run. -/
def chanActive (s : State) (c : Nat) : Bool := (chanOf s c).state != .free && (chanOf s c).state != .burstHold
/-- The apertures of a channel. -/
def chanAprs (s : State) (c : Nat) : List Nat := maskBits 24 (chanOf s c).aprMask
/-- A channel already tracks the signal of a satellite. -/
def tracks (s : State) (signal sv : Nat) : Bool :=
  (assignedChannels s).any (fun c => (chanOf s c).signal == signal && (chanOf s c).sv == sv)
/-- The row of the signal table for a channel. -/
def chanSig (x : Channel) : SigInfo := (sigOf x.signal).getD ⟨0x01, 3, 1023000, 2, 1023, 2046, 2, 1, 32, 10, 20, 1575420000, true⟩
/-- The carrier of a channel's signal, Hz. -/
def chanCarrier (x : Channel) : Nat := carrierHz x.signal x.sv

/-! ### Events (05 R250) -/

/-- The 16-byte payload of a channel event. -/
def chanEventBytes (s : State) (kind c a detail : Nat) (value : Int) : List Byte :=
  le 1 kind ++ le 1 c ++ le 1 a ++ le 1 detail ++ le 8 s.epochMs ++ leI 4 value

/-- Send a channel event; events 1, 2 and 7 always, the others once per channel and aperture every 100 ms. -/
def chanEvent (kind c a detail : Nat) (value : Int) (s : State) : State :=
  let key := 256 * kind + a
  let last := tget 0 (chanOf s c).sentMs key
  if kind = 1 ∨ kind = 2 ∨ kind = 7 then postStatus 0x05 c (chanEventBytes s kind c a detail value) s
  else if last = 0 ∨ last + 100 ≤ s.ms + 1 then
    postStatus 0x05 c (chanEventBytes s kind c a detail value)
      (modChan c (fun x => { x with sentMs := tset 0 x.sentMs key (s.ms + 1) }) s)
  else
    modChan c (fun x => { x with
      heldEvents := x.heldEvents.filter (fun h => !(h.1 == kind && h.2.1 == a)) ++ [(kind, a, detail, value)] }) s

/-- Send the held changes whose interval has ended; EPOCH_MS is that of the sending (05 R250; log 54). -/
def chanFlushEvents (c : Nat) (s : State) : State :=
  let held := (chanOf s c).heldEvents
  foldS (fun h t => chanEvent h.1 c h.2.1 h.2.2.1 h.2.2.2 t) held (modChan c (fun x => { x with heldEvents := [] }) s)

/-! ### The NCOs (05 R188 to R191, R210; 08 R324) -/

/-- A quantity that a millisecond of the nominal length adds, over an interval of `cur` grid units of which `ff` are steering. -/
def overInterval (gain : Int) (cur : Nat) (ff : Int) : Int := roundDiv (gain * (cur - ff)) 35200000

/-- What the shared code delay gains in a nominal millisecond: the carrier NCO rate scaled by the ratio of chip rate to carrier, and the DLL's
part (05 R210). -/
def codeGain (x : Channel) : Int := x.dll - roundDiv (x.freq * 10240000) (chanCarrier x)

/-- What a steering of `ff` grid units takes from the code delay, and adds to the carrier phase: the feed-forward of the length of the time
count's millisecond (08 R324). -/
def codeFeed (ff : Int) : Int := roundDiv (ff * 1024000000000) 35200000
def carrierFeed (carrier : Nat) (ff : Int) : Int := roundDiv (ff * carrier * 4294967296) 35200000000

/-- What the carrier phase gains in a nominal millisecond at the NCO frequency (10^-5 Hz), and a residual at its own (0.01 Hz). -/
def phaseGain (freq : Int) : Int := roundDiv (freq * 4294967296) 100000000
def resGain (freq : Int) : Int := roundDiv (freq * 4294967296) 100000

/-- What the carrier NCO gains in a millisecond for the folded offset of the signal (03 R110). -/
def offsetGain (x : Channel) : Int := roundDiv (foldedOffset (chanSig x).slice (chanCarrier x) * 4294967296) 1000

/-- The shared NCOs, lags and residual phases at the epoch that ends an interval. In COAST the frequency follows its rate (05 R229). -/
def advanceChan (cur : Nat) (ff : Int) (x : Channel) : Channel :=
  Channel.mapAprs (fun y => { y with
      lag := y.lag + overInterval y.lagRate cur ff, resPhase := y.resPhase + overInterval (resGain y.resFreq) cur ff })
    { x with
      code := x.code + overInterval (codeGain x) cur ff - codeFeed ff,
      phase := x.phase + overInterval (phaseGain x.freq) cur ff + carrierFeed (chanCarrier x) ff,
      ifPhase := ((x.ifPhase + overInterval (offsetGain x) cur ff) % 4294967296).toNat,
      freq := if x.state = .coast then x.freq + x.rate else x.freq }

/-- The replica of a channel on an aperture over the millisecond that runs; for the first 2 us the residual is that of before its last update
(05 R189, R193). -/
def aprReplica (s : State) (x : Channel) (y : ChanApr) (old : Bool) : Replica :=
  let r := if old then y.resOld else (y.resPhase, y.resFreq)
  let ff := s.nunar.ff
  { tx := (s.epochMs : Int) * msUnits - x.code - y.lag, txGain := msUnits - codeGain x + codeFeed ff - y.lagRate,
    ph := x.phase + x.ifPhase + r.1, phGain := phaseGain x.freq + carrierFeed (chanCarrier x) ff + offsetGain x + resGain r.2,
    n := sliceRate (chanSig x).slice / 1000 }

/-- The period of the secondary code at a place, once synchronised (05 R188, R205). -/
def secondaryAt (x : Channel) (tx : Int) : Option Nat :=
  let n := Config.secondaryPeriods x.signal x.sv
  if x.sync ∧ 1 < n then some ((tx / periodUnits (chanSig x) + x.secAt) % n).toNat else none

/-- The number of the symbol at a place: data symbols, or, before synchronisation, primary code periods; a synchronised pilot has no symbol
boundary (05 R205). -/
def symbolAt (x : Channel) (tx : Int) : Int :=
  let p := tx / periodUnits (chanSig x)
  if !x.sync then p else if isData x.signal then (p + x.symAt) / (max 1 (Config.symbolPeriods x.signal x.sv) : Nat) else 0

/-! ### Correlators (05 R196, R199, R201) -/

/-- DLL_MODE 0 with E and L at 0.5 chip while the channel is in PULL_IN or FLL, in a COAST that it has entered from there, and in lag search (05
R201). -/
def startMode (x : Channel) (y : ChanApr) : Bool :=
  x.state == .pullIn || x.state == .fll || x.state == .coast && x.early || y.state == 1

/-- DLL_MODE and EL_HALF in force on a channel-aperture. -/
def dllMode (x : Channel) (y : ChanApr) : Nat := if startMode x y then 0 else x.cfg.dllMode
def elHalf (x : Channel) (y : ChanApr) : Nat := if startMode x y then 100 else x.cfg.elHalf

/-- An offset of 0.005 chip steps, and a cell of 04 R145, as a delay. -/
def chipDelay (i : SigInfo) (h : Int) : Int := roundDiv (h * 5120000000000) i.chipHz
def cellDelay (i : SigInfo) : Int := roundDiv 1024000000000000 (i.perChip * i.chipHz)

/-- A half-width of LAG's range, 1800 ns, as a delay, and the lag rate's 250 ns/s in its unit (05 R191). -/
def lagRange : Int := 1800 * 1024000
def lagRateRange : Int := 250 * 1024

/-- The lag of position `p` of a lag window. -/
def lagPosition (i : SigInfo) (q : LagSearch) (p : Nat) : Int := q.centre + ((p : Int) - q.half) * cellDelay i

/-- The delays of the nine correlators of a channel-aperture against its replica: VE, E, P, L, VL, NE, NL, N and one more, which a lag search
uses for its eighth position. A search places eight at adjacent positions; its confirmation places three at the detected lag and a cell to
either side. -/
def corrDelays (x : Channel) (y : ChanApr) : List Int :=
  let i := chanSig x
  match y.search with
  | none =>
    let el := chipDelay i (elHalf x y)
    let ve := chipDelay i x.cfg.vevlHalf
    let na := chipDelay i x.cfg.narrowHalf
    [-ve, -el, 0, el, ve, -na, na, 0, 0]
  | some q =>
    let at' := fun (j : Nat) => (match q.found with
      | some l => if j < 3 then l + ((j : Int) - 1) * cellDelay i else l
      | none => lagPosition i q (8 * q.group + j)) - y.lag
    (upto 7).map at' ++ [0, at' 7]

/-- Add a product to part A or B of a correlator. -/
def Corr.add (inB : Bool) (v : Int × Int) (w : Corr) : Corr :=
  if inB then { w with ib := w.ib + v.1, qb := w.qb + v.2 } else { w with ia := w.ia + v.1, qa := w.qa + v.2 }

/-- A correlator modulo 7. -/
def Corr.mod7 (w : Corr) : Corr := { ia := w.ia % 7, qa := w.qa % 7, ib := w.ib % 7, qb := w.qb % 7 }

/-- Sample `k` of the millisecond enters the open dump of a channel-aperture; from the first sample on after a symbol boundary of its delayed
replica, part B (05 R205). -/
def dumpSample (x : Channel) (offs : List Int) (r : Replica) (k : Nat) (z : BitVec 6 × BitVec 6) (d : OpenDump) : OpenDump :=
  let i := chanSig x
  let tx := r.txAt k
  let inB := d.inB || (k != 0 && symbolAt x tx != symbolAt x (r.txAt (k - 1)))
  let v := r.wipe k z
  let out := offs.mapIdx (fun j o => if j = 7 then despreadNoise i tx v else despread i x.sv (secondaryAt x (tx - o)) (tx - o) v)
  { d with
    acc := List.zipWith (fun v w => Corr.add inB v w) out d.acc,
    res := List.zipWith (fun v w => Corr.mod7 (Corr.add inB (residueC v) w)) out d.res, inB := inB, nA := d.nA + b2n (!inB) }

/-- A transfer unit enters the open dump of a channel-aperture (03 R112; 05 R204). -/
def dumpUnit (s : State) (x : Channel) (k : Nat) (unit : List (BitVec 6 × BitVec 6)) (blanked : Bool) (y : ChanApr) : ChanApr :=
  let r0 := aprReplica s x y true
  let r := aprReplica s x y false
  let offs := corrDelays x y
  let d : OpenDump := { y.opn with blanked := y.opn.blanked || blanked }
  { y with opn := foldUnit (fun k z d => dumpSample x offs (if k < r.n / 500 then r0 else r) k z d) unit k d }

/-- The tracking array takes a transfer unit of slice `i` of aperture `a`. -/
def trackUnit (a i : Nat) (s : State) : State :=
  let u := sliceOf s a i
  if islandReady s 25 then
    foldS (fun c t => modCa c a (dumpUnit t (chanOf t c) u.unitPos u.unit u.unitBlanked) t)
      ((upto 192).filter (fun c => chanActive s c && sliceOfSignal (chanOf s c).signal == i && (chanOf s c).aprMask.testBit a
        && (caOf s c a).state != 0)) s
  else s

/-! ### Dump records (05 R204 to R208) -/

/-- The value fits in 12 bits after division by 2^e. -/
def fits12 (e : Nat) (v : Int) : Bool := decide (-2048 ≤ v / 2 ^ e ∧ v / 2 ^ e ≤ 2047)

/-- The parts of a correlator in the order of the record. -/
def Corr.parts (w : Corr) : List Int := [w.ia, w.qa, w.ib, w.qb]

/-- The values of a dump record: the seven correlators, and N without part B. -/
def dumpValues (d : OpenDump) : List Int :=
  (d.acc.take 7).flatMap Corr.parts ++ (match d.acc[7]? with
    | some w => [w.ia + w.ib, w.qa + w.qb]
    | none => [0, 0])

/-- EXP: the smallest for which every value fits (05 R207). -/
def dumpExp (vals : List Int) : Nat := ((upto 16).find? (fun e => vals.all (fits12 e))).getD 15

/-- Values packed 12 bits each, the first lowest (05 R206). -/
def packBits (vals : List (BitVec 12)) : Nat := vals.foldr (fun v n => v.toNat + 4096 * n) 0

/-- The residues of a dump agree with its accumulators (01 R32). -/
def residuesAgree (d : OpenDump) : Bool := d.acc.map Corr.mod7 == d.res

/-- The 64-byte dump record that closes at this epoch (05 R206). -/
def dumpRecord (s : State) (c a : Nat) (d : OpenDump) : List Byte :=
  let x := chanOf s c
  let flags := b2n (!residuesAgree d) + 2 * b2n d.inB + 4 * b2n (x.anchor == a) + 8 * b2n x.provisional
    + 16 * b2n (aprOf s a).inFault + 32 * b2n d.blanked + 64 * b2n x.anchorChanged + 128 * b2n ((caOf s c a).state == 1)
  let vals := dumpValues d
  let e := dumpExp vals
  let packed := vals.map (fun v => BitVec.ofInt 12 (v / 2 ^ e))
  let body := le 1 c ++ le 1 a ++ le 1 x.signal ++ le 1 x.sv ++ le 4 (s.epochMs % 2 ^ 32) ++ le 1 flags ++ le 1 e
    ++ le 2 (if d.inB then d.nA else sliceRate (chanSig x).slice / 1000) ++ le 42 (packBits (packed.take 28))
    ++ le 3 (packBits (packed.drop 28)) ++ zeros 3
  withCrc body

/-- Value `k` of a record's correlator fields, scaled by 2^EXP (05 R207). -/
def recValue (d : List Byte) (k : Nat) : Int :=
  (BitVec.ofNat 12 (uN 45 d 12 / 4096 ^ k)).toInt * 2 ^ (u8 d 9 % 16)

/-- Correlator `j` of a record, from 0 for VE to 6 for NL. -/
def recCorr (d : List Byte) (j : Nat) : Corr :=
  { ia := recValue d (4 * j), qa := recValue d (4 * j + 1), ib := recValue d (4 * j + 2), qb := recValue d (4 * j + 3) }

/-- |N|^2 of a record (05 R207). -/
def recNoise (d : List Byte) : Nat := power (recValue d 28, recValue d 29)

/-- The record's residue check failed; it is split; it holds blanked input. -/
def recFailed (d : List Byte) : Bool := (u8 d 8).testBit 0
def recSplit (d : List Byte) : Bool := (u8 d 8).testBit 1
def recBlanked (d : List Byte) : Bool := (u8 d 8).testBit 5

/-- Part A, part B. -/
def Corr.a (w : Corr) : Int × Int := (w.ia, w.qa)
def Corr.b (w : Corr) : Int × Int := (w.ib, w.qb)

/-- Parts A and B of a correlator together, B with its sign changed where the prompt's parts oppose each other (05 R212, R215). -/
def joined (neg : Bool) (w : Corr) : Int × Int := addC w.a (signC neg w.b)

/-- The parts of the prompt have opposite signs. -/
def opposed (w : Corr) : Bool := decide (dotC w.a w.b < 0)

/-- The seven correlators of a record, parts joined by the prompt's sign. -/
def recJoined (d : List Byte) : List (Int × Int) := (upto 7).map (fun j => joined (opposed (recCorr d 2)) (recCorr d j))

/-- The prompt of a record. -/
def recPrompt (d : List Byte) : Int × Int := joined (opposed (recCorr d 2)) (recCorr d 2)

/-! ### Discriminators (05 R193, R200, R202) -/

/-- Member `j` of seven joined correlators. -/
def corrAt (v : List (Int × Int)) (j : Nat) : Int × Int := v.getD j (0, 0)

/-- The normalised code discriminator of DLL_MODE 0 to 2, in 2^-24; 0 where its norm is 0 (05 R200). -/
def codeDisc (mode : Nat) (v : List (Int × Int)) : Int :=
  let pair := fun (e l : Nat) =>
    roundDiv (((power (corrAt v e) : Int) - power (corrAt v l)) * 16777216) (power (corrAt v e) + power (corrAt v l))
  match mode with
  | 0 => pair 1 3
  | 1 => pair 5 6
  | _ =>
    let p := corrAt v 2
    let d := fun (e l : Nat) => dotC (corrAt v e) p - dotC (corrAt v l) p
    roundDiv ((2 * d 1 3 - d 0 4) * 16777216) (2 * power p)

/-- How much later than its replica a channel-aperture's code discriminator places the signal, 1/1,024,000 ns: an early correlator above the late
one places it earlier; in DLL_MODE 3 the last fit's bias. `m` holds DLL_MODE, EL_HALF, VEVL_HALF and NARROW_HALF. -/
def codeOffsetAt (m : Nat × Nat × Nat × Nat) (x : Channel) (y : ChanApr) (v : List (Int × Int)) : Int :=
  if m.1 = 3 then y.means.bias
  else -roundDiv (codeDisc m.1 v * Config.dllSlope x.signal m.1 m.2.1 m.2.2.1 m.2.2.2) 16777216

/-- DLL_MODE and the spacings in force on a channel-aperture. -/
def dllNow (x : Channel) (y : ChanApr) : Nat × Nat × Nat × Nat := (dllMode x y, elHalf x y, x.cfg.vevlHalf, x.cfg.narrowHalf)

/-- The same, in the mode and spacings in force. -/
def codeOffset (x : Channel) (y : ChanApr) (v : List (Int × Int)) : Int := codeOffsetAt (dllNow x y) x y v

/-- The prompt phase of a record, in 2^-32 cycle: of the part that holds more samples; four-quadrant on a pilot, and on data where the sign of
that part's symbol is decided (05 R193). -/
def promptPhase (x : Channel) (sign : Option Bool) (d : List Byte) : Int :=
  let w := recCorr d 2
  let n := sliceRate (chanSig x).slice / 1000
  let useA := !recSplit d || decide (n ≤ 2 * u16 d 10)
  let v := if useA then w.a else w.b
  if !isData x.signal then arctan4q v.1 v.2
  else match sign with
    | some neg => if useA ∧ recSplit d then (let u := signC neg v; arctan4q u.1 u.2) else arctan2q v.1 v.2
    | none => arctan2q v.1 v.2

/-- The sign of the symbol that part A of this epoch's dumps completes, where the anchor's dump shows it (05 R212; true = negative). -/
def symbolSign (s : State) (c : Nat) : Option Bool :=
  let x := chanOf s c
  let d := (caOf s c x.anchor).dump
  if x.sync && isData x.signal && !d.isEmpty && !recFailed d && recSplit d then
    some (decide ((addC (corrAt x.sym 2) (recCorr d 2).a).1 < 0))
  else none

/-! ### Slips, limits and lag search (05 R194, R196, R197, R217) -/

/-- Record a cycle slip on a channel-aperture; DETAIL 1 = aperture, 3 = half-cycle. -/
def recordSlip (c a detail : Nat) (s : State) : State :=
  chanEvent 11 c a detail 0
    (modCa c a (fun x => { x with slipMs := s.ms, slips := x.slips + 1, slipNow := true, slipSince := true, cpInt := none }) s)

/-- Record a slip of the shared carrier NCO (05 R218). -/
def recordCommonSlip (c : Nat) (s : State) : State :=
  chanEvent 11 c 255 2 0 (modChan c (fun x => { x with commonMs := some s.ms, commonNow := true }) s)

/-- The lag window of an aperture: about the lag that the attitude solution predicts, one chip to either side, or the whole range (05 R197). -/
def lagWindow (s : State) (c a : Nat) : LagSearch :=
  let x := chanOf s c
  let i := chanSig x
  let w := match attitudeVec s x.anchor a with
    | some v => (clampI (-lagRange) lagRange (Config.lagPredict x.signal x.sv v s.epochMs), i.perChip)
    | none => (0, cdiv (1800 * i.chipHz * i.perChip) 1000000000)
  { centre := w.1, half := w.2, group := 0, found := none, count := 0, power := [], noise := 0, prompts := [] }

/-- The groups of eight positions that cover a lag window. -/
def LagSearch.groups (q : LagSearch) : Nat := cdiv (2 * q.half + 1) 8

/-- A new dwell of a lag search. -/
def LagSearch.dwell (q : LagSearch) (group : Nat) (found : Option Int) : LagSearch :=
  { q with group := group, found := found, count := 0, power := [], noise := 0, prompts := [] }

/-- The dwell of the group after this one, in the lag window as it stands now; the first group after the last, and where the window is another
(05 R197, R198). -/
def LagSearch.next (q now : LagSearch) : LagSearch :=
  now.dwell (if now.half = q.half ∧ q.group + 1 < q.groups then q.group + 1 else 0) none

/-- An aperture enters lag search (05 R196): its residual frequency is held at 0. -/
def enterSearch (c a detail : Nat) (s : State) : State :=
  let q := lagWindow s c a
  chanEvent 9 c a detail 0 (modCa c a (fun x =>
    { x with
      state := 1, owes := false, lag := q.centre, lagRate := 0, resFreq := 0, resOld := (x.resPhase, 0), good := 0, bad := 0, search := some q,
      opn := OpenDump.empty }) s)

/-- LAG, the lag rate or the residual frequency of an aperture is out of range (05 R191). -/
def lagOut (x : ChanApr) : Bool := decide (lagRange < x.lag.natAbs) || decide (lagRateRange < x.lagRate.natAbs)
def resOut (x : ChanApr) : Bool := decide (30000 < x.resFreq.natAbs)

/-- An aperture reaches the limit of LAG (`lagSide`) or of RES: marked, a slip, lag search (05 R194). In COAST no aperture enters lag search:
its values stay at their limits (05 R229). -/
def limitHit (c a : Nat) (lagSide : Bool) (s : State) : State :=
  let s := modCa c a (fun x => { x with lagLimit := x.lagLimit || lagSide, resLimit := x.resLimit || !lagSide }) s
  let s := recordSlip c a 1 s
  let s := if (chanOf s c).state = .coast then modCa c a (fun x =>
      { x with
        lag := clampI (-lagRange) lagRange x.lag, lagRate := clampI (-lagRateRange) lagRateRange x.lagRate,
        resFreq := clampI (-30000) 30000 x.resFreq }) s
    else enterSearch c a (if lagSide then 2 else 3) s
  if (chanOf s c).anchor = a then modChan c (fun x => { x with forced := true }) s else s

/-- Check the limits of an aperture of the channel. -/
def checkLimits (c a : Nat) (s : State) : State :=
  let x := caOf s c a
  if x.state = 0 then s else if lagOut x then limitHit c a true s else if resOut x then limitHit c a false s else s

/-- A window begins: its sums are empty. -/
def pliClear (now : Nat) (y : ChanApr) : ChanApr := { y with pliFrom := now, sumI2 := 0, sumQ2 := 0, cross := 0 }

/-! ### Anchors (05 R219 to R227) -/

/-- The mean C/N0 over 1 s, in 0.001 dB-Hz. -/
def cn0Mean (x : ChanApr) : Nat := if x.cn0s.isEmpty then 0 else 100 * x.cn0s.foldl (· + ·) 0 / x.cn0s.length

/-- The aperture may be the channel's anchor (05 R219). -/
def anchorEligible (s : State) (c a : Nat) : Bool :=
  let x := caOf s c a
  aprRunning s a && (chanOf s c).aprMask.testBit a && x.state == 3 && decide (x.lockMs + 2000 ≤ s.ms)
    && decide (x.slipMs + 2000 ≤ s.ms) && !x.lagLimit && !x.resLimit

/-- The member of a list with the greatest value, the first of equals. -/
def bestBy (f : Nat → Nat) : List Nat → Option Nat
  | [] => none
  | a :: t => match bestBy f t with
    | some b => if f a < f b then some b else some a
    | none => some a

/-- The deputy (05 R219). -/
def deputy (s : State) (c : Nat) : Option Nat :=
  bestBy (fun a => cn0Mean (caOf s c a)) ((chanAprs s c).filter (fun a => a != (chanOf s c).anchor && anchorEligible s c a))

/-- What a hand-over takes from an aperture: the new anchor's lag, lag rate, phase and frequency (05 R223). A lag search goes on at the same delays,
its residual frequency held at 0 (05 R196, R224; log 54). -/
def ChanApr.relative (y w : ChanApr) : ChanApr :=
  let held := w.state == 1
  { w with
    lag := w.lag - y.lag, resPhase := w.resPhase - y.resPhase, lagRate := if held then 0 else w.lagRate - y.lagRate,
    resFreq := if held then 0 else w.resFreq - y.resFreq,
    search := w.search.map (fun q => { q with centre := q.centre - y.lag, found := q.found.map (· - y.lag) }) }

/-- A hand-over to aperture `b` (05 R223): b's lag, phase and frequency move from every aperture into the shared NCOs, and into what the loops set
at this epoch. A new anchor leaves lag search, with a slip: its LAG and RES are zero (05 R189, R217). An aperture that the move takes out of range
is handled as R194 says. -/
def handOver (c b detail : Nat) (s : State) : State :=
  let old := (chanOf s c).anchor
  let y := caOf s c b
  let s := modChan c (fun z =>
    { Channel.mapAprs y.relative z with
      anchor := b, loopDue := z.loopDue.map (fun l => (l.1 + 1000 * y.resFreq, l.2)), code := z.code + y.lag, phase := z.phase + y.resPhase,
      freq := z.freq + 1000 * y.resFreq, anchorChanged := true,
      handDue := none, exceed := 0 }) s
  let s := if (caOf s c b).state = 1 then
      recordSlip c b 1 (modCa c b (fun w => pliClear s.ms { w with
        state := 2, search := none, lag := 0, lagRate := 0, resPhase := 0, resFreq := 0, owes := false, lagLimit := false, resLimit := false,
        hist := [], means := CorrMeans.none }) s)
    else s
  foldS (fun a t => if a = b then t else checkLimits c a t) (chanAprs s c) (chanEvent 7 c b detail old s)

/-- The new anchor of a forced hand-over, and whether it is phase-locked (05 R222). -/
def forcedTarget (s : State) (c : Nat) : Option (Nat × Bool) :=
  let run := (chanAprs s c).filter (aprRunning s)
  let others := run.filter (· != (chanOf s c).anchor)
  match deputy s c with
  | some d => some (d, true)
  | none => match bestBy (fun a => (caOf s c a).cn0) (others.filter (fun a => (caOf s c a).state == 3)) with
    | some a => some (a, true)
    | none => (bestBy (fun a => (caOf s c a).cn0) run).map (fun a => (a, false))

/-- A hand-over by R222, whether or not the anchor is pinned: away from a pinned aperture the pin is overridden, and told (05 R227). -/
def pinnedHandOver (c b : Nat) (s : State) : State :=
  let x := chanOf s c
  let s := if b = x.anchor then s else handOver c b 2 s
  match x.pin with
  | some p =>
    if p = x.anchor ∧ (chanOf s c).anchor ≠ p then
      chanEvent 8 c p 0 0 (modChan c (fun z => { z with pinOverridden := true }) s)
    else s
  | none => s

/-- A forced hand-over; in PLL, without a phase-locked aperture, the channel enters FLL (05 R216, R222, R229; log 54). -/
def forcedHandOver (c : Nat) (s : State) : State :=
  let s := modChan c (fun z => { z with forced := false }) s
  let unlocked := fun (t : State) => modChan c (fun z => if z.state == .pll then { z with state := .fll } else z) t
  match forcedTarget s c with
  | some (b, locked) => if locked then pinnedHandOver c b s else unlocked (pinnedHandOver c b s)
  | none => unlocked s

/-- A pin is to take effect at this epoch: at the first epoch when its aperture is phase-locked, afterwards when it is eligible (05 R227). -/
def pinTarget (s : State) (c : Nat) : Option Nat := match (chanOf s c).pin with
  | some p =>
    if p = (chanOf s c).anchor then none
    else if ((chanOf s c).pinDue && (caOf s c p).state == 3) || anchorEligible s c p then some p else none
  | none => none

/-- The one hand-over of an epoch: forced, or to the deputy as prompt power fell, or a pin's, or one that was decided (05 R222, R225). -/
def epochHandOver (c : Nat) (s : State) : State :=
  let clear := fun (z : Channel) => { z with pinDue := false, pinOverridden := z.pinOverridden && z.pin != some z.anchor }
  let fallen := if (chanOf s c).promptDue then deputy s c else none
  let s := modChan c (fun z => { z with promptDue := false }) s
  if (chanOf s c).forced then modChan c clear (forcedHandOver c s)
  else match fallen, pinTarget s c, (chanOf s c).handDue with
    | some d, _, _ => modChan c clear (pinnedHandOver c d s)
    | none, some p, _ => handOver c p 3 (modChan c (fun z => { z with pinDue := false, pinOverridden := false }) s)
    | none, none, some (b, detail) =>
      let s := modChan c (fun z => { clear z with handDue := none }) s
      if aprRunning s b && (caOf s c b).state != 0 && (chanOf s c).anchor != b then handOver c b detail s else s
    | none, none, none => modChan c clear s

/-! ### Release -/

/-- Free a channel at this epoch (05 R240, R250): its settings do not survive. -/
def freeChannel (c cause : Nat) (s : State) : State :=
  let s := chanEvent 2 c 255 cause 0 s
  let s := { s with acq.chans := s.acq.chans.filter (·.2 != c) }
  { s with chans := tset Channel.free s.chans c Channel.free }

/-- Release a channel. A provisional one stays assigned until the next measurement epoch, at which it is released and its
measurements are revoked (04 R176, 05 R231). -/
def releaseChannel (c cause : Nat) (s : State) : State :=
  if (chanOf s c).provisional then
    modChan c (fun x => { x with revokeDue := some (x.revokeDue.getD cause) }) s
  else freeChannel c cause s

/-! ### Assignment (05 R233 to R239) -/

/-- The channel whose self-test slice is in progress. -/
def chanUnderTest (s : State) : Option Nat := match s.bst.active with
  | some r => if isChannelBlock r.block then some (16 * (r.block - 25) + (bstOf s r.block).workDone / 200) else none
  | none => none

/-- A channel withheld from the allocator until a slice on it passes (17 R624). -/
def chanWithheld (s : State) (c : Nat) : Bool := (bstOf s (25 + c / 16)).failedCh.testBit (c % 16)

/-- The allocator: the lowest-numbered free channel that is neither under test nor withheld (05 R233). -/
def lowestFree (s : State) : Option Nat :=
  (upto 192).find? (fun c => !chanAssigned s c && !chanWithheld s c && chanUnderTest s != some c)

/-- Only the channel under test is free. -/
def onlyUnderTest (s : State) : Option Nat := match lowestFree s with
  | some _ => none
  | none => match chanUnderTest s with
    | some c => if chanAssigned s c || chanWithheld s c then none else some c
    | none => none

/-- The allocator when only a channel under test is free: the slice is aborted for it (17 R621). -/
def allocate (s : State) : Option (Nat × State) := match lowestFree s with
  | some c => some (c, s)
  | none => (onlyUnderTest s).map (fun c => (c, abortSlice s))

/-- Give a channel to a signal; it enters PULL_IN at the first epoch after (05 R220, R238, R244). `detail` is 0 = host, 1 =
Damask provisional, 2 = Damask verified. -/
def assignChannel (c signal sv mask anchor detail : Nat) (prov comp : Bool) (s : State) : State :=
  let cfg : ChanCfg := { ChanCfg.initial with coh := cohFine signal sv }
  let x : Channel :=
    { Channel.free with
      signal := signal, sv := sv, aprMask := mask, anchor := anchor, provisional := prov, companion := comp,
      pendAssign := some detail, cohNow := 1, cfg := cfg }
  { s with chans := tset Channel.free s.chans c x }

/-- The shared NCOs start from a place in the code period of the slice samples and a Doppler (0.01 Hz): the delay within one code period (04 R173,
05 R235). -/
def startNcos (s : State) (tx doppler : Int) (x : Channel) : Channel :=
  { x with code := ((s.epochMs : Int) * msUnits - tx) % periodUnits (chanSig x), freq := 1000 * doppler }

/-- The window for TRK_ASSIGN is close enough: 2 chips and 250 Hz (05 R235). -/
def aidClose (w : Window) : Bool := match w.code with
  | some h => decide (h.1 ≤ 2 * h.2) && decide (w.dopp.1 ≤ 250 * w.dopp.2)
  | none => false

/-- The companion may start the channel: in PLL, the same SV, another signal; for 0x14 one of 0x12 and 0x13 (05 R235,
R236). -/
def companionOk (s : State) (k signal sv : Nat) : Bool :=
  let x := chanOf s k
  x.state == .pll && x.sv == sv && systemOf x.signal == systemOf signal && x.signal != signal
    && (signal != 0x14 || x.signal == 0x12 || x.signal == 0x13)

/-- The state that a companion gives: its transmit time, its Doppler scaled by the carriers, its lag and residual frequency for each common
aperture, as they stand to the new anchor; those apertures start without a lag search (05 R235). The transmit time is that of the antenna signal,
which each slice delays by its own filter (03 R109). What does not lie in its range is found by lag search (05 R191, R194). -/
def fromCompanion (s : State) (k : Nat) (x : Channel) : Channel :=
  let y := chanOf s k
  let base := if y.aprMask.testBit x.anchor then tget ChanApr.initial y.aprs x.anchor else ChanApr.initial
  { x with
    code := y.code + base.lag - groupDelay (chanSig y).slice + groupDelay (chanSig x).slice, weekKnown := y.weekKnown,
    freq := roundDiv ((y.freq + 1000 * base.resFreq) * chanCarrier x) (chanCarrier y),
    aprs := (maskBits 24 (x.aprMask &&& y.aprMask)).foldl (fun t a =>
      let w := tget ChanApr.initial y.aprs a
      let v := { ChanApr.initial with
        state := 2, lag := w.lag - base.lag, lagRate := w.lagRate - base.lagRate, resFreq := w.resFreq - base.resFreq }
      if lagOut v || resOut v then t else tset ChanApr.initial t a v) [] }

/-- An aperture counts as running for an assignment; between bursts an enabled one does (05 R237, R246). -/
def aprAssignable (s : State) (a : Nat) : Bool :=
  aprRunning s a || (betweenBursts s && (aprOf s a).enabled && !(aprOf s a).inFault && !aprFaulted (aprOf s a))

/-- TRK_ASSIGN (05 R234 to R238). -/
def trkAssignAct (p : Packet) (s : State) : CmdOut :=
  let b := p.params
  let signal := u8 b 0
  let sv := u8 b 1
  let ch := u8 b 2
  let flags := u8 b 3
  let mask := uN 3 b 4
  let anc := u8 b 7
  let comp := u8 b 8
  let anchor := if anc = 255 then (maskBits 24 mask).headD 0 else anc
  let rangesOk := match sigOf signal with
    | none => false
    | some i => svOk i sv && (decide (ch ≤ 191) || ch == 255) && (flags == 1 || flags == 2) && mask != 0
        && (anc == 255 || (decide (anc < 24) && mask.testBit anc))
        && (if flags = 2 then decide (comp ≤ 191) else comp == 255) && zeroAt b 9 3
  let slice := sliceOfSignal signal
  let w := aidedWindow s signal sv 0
  let startOk := if flags = 2 then companionOk s comp signal sv else signal != 0x14 && aidClose w
  let pick := if ch = 255 then allocate s else some (ch, s)
  rejectIf (!rangesOk) .badValue <|
  rejectIf (tracks s signal sv || (ch != 255 && chanAssigned s ch)
    || (maskBits 24 mask).any (fun a => !aprAssignable s a || !(aprOf s a).slicesOn.testBit slice) || !startOk) .badState <|
  match pick with
  | none => .reject .noResource
  | some (c, t) =>
    rejectIf (decide (s.profile.env.channels < (assignedChannels s).length + 1)
      || (maskBits 24 mask).any (fun a => !s.profile.env.aprMask.testBit a)) .profileLimit <|
    let u := assignChannel c signal sv mask anchor 0 false (flags == 2) t
    let u := modChan c (if flags = 2 then fromCompanion s comp else startNcos s (w.place - groupDelay slice) w.doppler) u
    answer (le 1 c ++ zeros 3) u

/-- The self-test blocks an assignment reaches: its channel's block when that channel is under test (17 R621, 05 R233). -/
def assignReach (b : List Byte) (s : State) : List Nat := match chanUnderTest s with
  | some c => if u8 b 2 = c ∨ (u8 b 2 = 255 ∧ (lowestFree s).isNone) then [25 + c / 16] else []
  | none => []

def specTrkAssign : OpSpec :=
  { plainOp 0x0501 false 12 trkAssignAct with islands := fun _ _ => [25], reach := assignReach }

/-- The channels a CHANNEL field addresses. -/
def chanTargets (n : Nat) (s : State) : List Nat := if n = 255 then assignedChannels s else [n]

/-- TRK_RELEASE (05 R240). -/
def trkReleaseAct (p : Packet) (s : State) : CmdOut :=
  let b := p.params
  rejectIf ((decide (191 < u8 b 0) && u8 b 0 != 255) || !zeroAt b 1 3) .badValue <|
  done (foldS (fun c t => if chanAssigned t c then modChan c (fun x => { x with pendRelease := some 1 }) t else t)
    (chanTargets (u8 b 0) s) s)

def specTrkRelease : OpSpec := { plainOp 0x0502 false 4 trkReleaseAct with islands := fun _ _ => [25] }

/-- The settings a channel has, or will have from the next epoch. -/
def chanCfgNext (x : Channel) : ChanCfg := x.pendCfg.getD x.cfg

/-- TRK_LOOPS (05 R241). -/
def trkLoopsAct (p : Packet) (s : State) : CmdOut :=
  let b := p.params
  let cs := chanTargets (u8 b 0) s
  let coh := u8 b 11
  rejectIf ((decide (191 < u8 b 0) && u8 b 0 != 255) || decide (1 < u8 b 1) || decide (u8 b 2 < 2) || decide (3 < u8 b 2)
    || decide (u8 b 3 < 1) || decide (2 < u8 b 3) || decide (u16 b 4 < 10) || decide (500 < u16 b 4)
    || decide (u16 b 6 < 10) || decide (200 < u16 b 6) || decide (u16 b 8 < 5) || decide (1000 < u16 b 8)
    || decide (u8 b 10 < 5) || decide (200 < u8 b 10) || decide (coh < 1) || decide (20 < coh)
    || decide (u8 b 12 < 10) || decide (40 < u8 b 12) || decide (100 < u8 b 13) || !zeroAt b 14 2
    || decide (3000 < u16 b 4 * coh) || decide (3000 < u16 b 6 * coh)) .badValue <|
  rejectIf (cs.any (fun c => !chanAssigned s c || decide (cohFine (chanOf s c).signal (chanOf s c).sv < coh))) .badState <|
  done (foldS (fun c t => modChan c (fun x => { x with pendCfg := some { chanCfgNext x with
    assist := u8 b 1 == 1, pllOrder := u8 b 2, dllOrder := u8 b 3, pllBw := u16 b 4, fllBw := u16 b 6, dllBw := u16 b 8,
    resBw := u8 b 10, coh := coh, lossCn0 := u8 b 12, coast := u8 b 13 } }) t) cs s)

def specTrkLoops : OpSpec := { plainOp 0x0503 false 16 trkLoopsAct with islands := fun _ _ => [25] }

/-- TRK_CORR (05 R242). -/
def trkCorrAct (p : Packet) (s : State) : CmdOut :=
  let b := p.params
  let cs := chanTargets (u8 b 0) s
  let mode := u8 b 1
  let el := u16 b 2
  let ve := u16 b 4
  let na := u16 b 6
  rejectIf ((decide (191 < u8 b 0) && u8 b 0 != 255) || decide (3 < mode) || decide (el < 10) || decide (200 < el)
    || decide (ve < 20) || decide (400 < ve) || decide (na < 5) || decide (40 < na) || decide (1 < u8 b 8)
    || !zeroAt b 9 3 || !(decide (na < el) && decide (el < ve)) || (mode == 2 && ve != 2 * el)
    || (u8 b 8 == 1 && ve != 100)) .badValue <|
  rejectIf (cs.any (fun c => !chanAssigned s c)) .badState <|
  rejectIf (mode == 3 && s.profile.sel != 2) .profileLimit <|
  done (foldS (fun c t => modChan c (fun x => { x with pendCfg := some { chanCfgNext x with
    dllMode := mode, elHalf := el, vevlHalf := ve, narrowHalf := na, bocGuard := u8 b 8 == 1 } }) t) cs s)

def specTrkCorr : OpSpec := { plainOp 0x0504 false 12 trkCorrAct with islands := fun _ _ => [25] }

/-- TRK_BURST (05 R245): takes effect at the next whole second. -/
def trkBurstAct (p : Packet) (s : State) : CmdOut :=
  let b := p.params
  let on := u8 b 0 == 1
  let len := u16 b 2
  let ph := u16 b 4
  let miss := u8 b 6
  rejectIf (decide (1 < u8 b 0) || !zeroAt b 1 1 || !zeroAt b 7 1
    || (if on then decide (len < 20) || decide (200 < len) || decide (1000 < ph + len) || decide (miss < 1) || decide (10 < miss)
        else len != 0 || ph != 0 || miss != 0)) .badValue <|
  rejectIf (s.profile.sel != 4) .badState <|
  done { s with burst.pend := some (on, len, ph, miss) }

/-- TRK_BURST names no island: the setting is the firmware's, and is taken whatever the tracking array's island does (DESIGN CHOICE, log 76). -/
def specTrkBurst : OpSpec := plainOp 0x0505 false 8 trkBurstAct

/-- The code of a channel state (05 R209). -/
def chanCode : ChanState → Nat
  | .free => 0 | .pullIn => 1 | .fll => 2 | .pll => 3 | .coast => 4 | .burstHold => 5

/-- LOCK_S: whole seconds since the last slip, saturating (05 R217); since the aperture joined the channel where there has been none (DESIGN CHOICE, log
62). -/
def lockS (s : State) (x : ChanApr) : Nat := sat 65535 ((s.ms - x.slipMs) / 1000)

/-- One 16-byte entry of TRK_STATUS (05 R249). -/
def chanAprEntry (s : State) (c a : Nat) : List Byte :=
  let x := caOf s c a
  let ch := chanOf s c
  let flags := b2n (ch.anchor == a) + 2 * b2n (deputy s c == some a) + 4 * b2n x.lagLimit + 8 * b2n x.resLimit
    + 16 * b2n (decide (x.slips ≠ 0 ∧ s.ms < x.slipMs + 1000))
    + 32 * b2n (match x.residueMs with | some t => decide (s.ms < t + 1000) | none => false)
  le 1 a ++ le 1 x.state ++ le 2 x.cn0 ++ leI 4 (x.lag / 1000) ++ leI 2 x.resFreq ++ le 2 (lockS s x) ++ le 1 x.mpDelay
    ++ leI 1 x.mpValue ++ le 1 flags ++ leI 1 x.pli

/-- TRK_STATUS (05 R249). -/
def trkStatusAct (p : Packet) (s : State) : CmdOut :=
  let b := p.params
  let c := u8 b 0
  let x := chanOf s c
  let flags := b2n x.provisional + 2 * b2n x.sync + 4 * b2n x.halfResolved + 8 * b2n x.pin.isSome + 16 * b2n x.pinOverridden
    + 32 * b2n x.companion + 64 * b2n (match x.commonMs with | some t => decide (s.ms < t + 1000) | none => false)
  let as := if x.state = .free then [] else chanAprs s c
  rejectIf (decide (191 < c) || !zeroAt b 1 3) .badValue <|
  if x.state = .free then answer (le 1 c ++ zeros 4 ++ le 1 255 ++ zeros 2) s
  else
    answer (le 1 c ++ le 1 (chanCode x.state) ++ le 1 x.signal ++ le 1 x.sv ++ le 1 flags ++ le 1 x.anchor ++ le 1 as.length
      ++ le 1 x.cohNow ++ as.flatMap (chanAprEntry s c)) s

def specTrkStatus : OpSpec := plainOp 0x0506 false 4 trkStatusAct

/-- TRK_ANCHOR (05 R226, R227). -/
def trkAnchorAct (p : Packet) (s : State) : CmdOut :=
  let b := p.params
  let cs := chanTargets (u8 b 0) s
  let a := u8 b 1
  rejectIf ((decide (191 < u8 b 0) && u8 b 0 != 255) || (decide (23 < a) && a != 255) || !zeroAt b 2 2) .badValue <|
  rejectIf (cs.any (fun c => !chanAssigned s c || (a != 255 && !(chanOf s c).aprMask.testBit a))) .badState <|
  done (foldS (fun c t => modChan c (fun x => { x with
    pin := if a = 255 then none else some a, pinDue := a != 255, pinOverridden := false }) t) cs s)

def specTrkAnchor : OpSpec := { plainOp 0x0507 false 4 trkAnchorAct with islands := fun _ _ => [25] }

/-! ### The epoch: dumps (05 R190, R204, R214, R215) -/

/-- The change of frequency (0.01 Hz) in one epoch that 400 m/s^2 would cause is exceeded: 0.4 f / c Hz (05 R217). -/
def freqJump (signal sv : Nat) (a b : Int) : Bool :=
  decide (40 * carrierHz signal sv < (a - b).natAbs * lightSpeed)

/-- Soft errors in the open dump of a channel-aperture (01 R32). -/
def upsetDump (c a : Nat) (us : List CorrUpset) (d : OpenDump) : OpenDump :=
  us.foldl (fun d u =>
    if u.ch.val = c ∧ u.a.val = a then
      { d with acc := d.acc.mapIdx (fun j w =>
          if j ≠ u.j.val then w
          else match u.part.val with
            | 0 => { w with ia := w.ia + u.add }
            | 1 => { w with qa := w.qa + u.add }
            | 2 => { w with ib := w.ib + u.add }
            | _ => { w with qb := w.qb + u.add }) }
    else d) d

/-- The powers of the eight positions of a lag search in a dump, and the prompt of the detected lag. -/
def searchPowers (d : List Byte) (ninth : Corr) : List Nat :=
  let own := fun (w : Corr) => power (joined (opposed w) w)
  let e : Int := 2 ^ (u8 d 9 % 16)
  (upto 7).map (fun j => own (recCorr d j)) ++
    [own { ia := ninth.ia / e * e, qa := ninth.qa / e * e, ib := ninth.ib / e * e, qb := ninth.qb / e * e }]

/-- A dump enters a lag search: twenty coherent blocks of 1 ms, combined noncoherently (05 R196). -/
def takeSearch (d : List Byte) (ninth : Corr) (q : LagSearch) : LagSearch :=
  if 20 ≤ q.count then q
  else
    let p := searchPowers d ninth
    let w := recCorr d 1
    { q with
      count := q.count + 1, noise := q.noise + recNoise d, prompts := joined (opposed w) w :: q.prompts,
      power := if q.power.isEmpty then p else List.zipWith (· + ·) q.power p }

/-- A good dump enters the sums of a channel-aperture (05 R192, R202, R203, R214, R215). In DLL_MODE 3 the correlators are averaged, the
prompt's sign wiped, and fitted every 50 ms. -/
def takeDump (x : Channel) (d : List Byte) (y : ChanApr) : ChanApr :=
  let v := recJoined d
  let pq := recPrompt d
  let pw := power pq
  let neg := decide (pq.1 < 0)
  let fit := if y.means.fit.isEmpty then v.map (signC neg) else List.zipWith addC y.means.fit (v.map (signC neg))
  let full := decide (50 ≤ y.means.fitN + 1)
  let z := Config.mpFit x.signal (elHalf x y) x.cfg.vevlHalf x.cfg.narrowHalf fit
  let m := y.means
  let m : CorrMeans := { m with
    p2 := m.p2 + pw, n2 := m.n2 + recNoise d, disc := m.disc + codeOffset x y v, ve := m.ve + magnitude (corrAt v 0),
    p := m.p + magnitude pq, vl := m.vl + magnitude (corrAt v 4), n := m.n + 1 }
  let m := if dllMode x y ≠ 3 then { m with fit := [], fitN := 0, bias := 0, delay := 0, amp := 0 }
    else if full then { m with fit := [], fitN := 0, bias := z.1, delay := max 1 (min 150 z.2.1), amp := z.2.2 }
    else { m with fit := fit, fitN := m.fitN + 1 }
  { y with
    hist := ((pw, recNoise d) :: y.hist).take 20, means := m, prompt := pq,
    sumI2 := y.sumI2 + (pq.1 * pq.1).toNat, sumQ2 := y.sumQ2 + (pq.2 * pq.2).toNat }

/-- The dump of a channel-aperture closes (05 R204); a failed one is logged and used by no loop (05 R208). -/
def closeDump (c : Nat) (us : List CorrUpset) (a : Nat) (s : State) : State :=
  let x := chanOf s c
  let y := caOf s c a
  if y.state = 0 then s
  else
    let d := upsetDump c a us y.opn
    let rec' := dumpRecord s c a d
    let s := modCa c a (fun y =>
      let y := { y with dump := rec', committed := false, dumpErrs := [], opn := OpenDump.empty,
                        residueMs := if recFailed rec' then some s.ms else y.residueMs }
      if recFailed rec' then y
      else match y.search with
        | some q => { takeDump x rec' y with search := some (takeSearch rec' (d.acc.getD 8 Corr.zero) q) }
        | none => takeDump x rec' y) s
    if recFailed rec' then logErr 0x41 3 0x05 c s else s

/-! ### The residual trackers (05 R193, R208, R228) -/

/-- The residual tracker's update from a prompt phase: a second-order loop of noise bandwidth B = RES_BW and damping 0.707, natural
frequency B / 0.53: phase by 2 x 0.707 w T e and frequency by w^2 T e, T = 1 ms. They apply from 2 us after the epoch, up to which the residual
runs on unchanged. -/
def residualStep (bw : Nat) (e : Int) (y : ChanApr) : ChanApr :=
  let f := y.resFreq + roundDiv (e * (1000 * bw * bw : Nat)) (2809 * 4294967296)
  { y with
    resFreq := f,
    resPhase := y.resPhase + roundDiv (e * (1414 * bw : Nat)) 530000 + roundDiv ((y.resFreq - f) * 8589934592) 100000000 }

/-- The residual tracker of one aperture at an epoch: a non-anchor one with lock or pulling in follows its prompt; in lag search and in
aperture coast, and over a failed dump, it propagates. A jump of its frequency is a slip (05 R217). -/
def residualEpoch (c : Nat) (sign : Option Bool) (a : Nat) (s : State) : State :=
  let x := chanOf s c
  let y := caOf s c a
  if a = x.anchor ∨ (y.state ≠ 2 ∧ y.state ≠ 3) ∨ y.dump.isEmpty ∨ recFailed y.dump then s
  else
    let s := modCa c a (residualStep x.cfg.resBw (promptPhase x sign y.dump)) s
    let anc := caOf s c x.anchor
    let s := if anc.dump.isEmpty || recFailed anc.dump then s else modCa c a (fun z => { z with cross := z.cross + dotC z.prompt anc.prompt }) s
    let s := if freqJump x.signal x.sv y.resFreq (caOf s c a).resFreq then recordSlip c a 1 s else s
    checkLimits c a s

/-! ### The shared loops (05 R209 to R213) -/

/-- Componentwise sums of seven complex values; the empty list is zero. -/
def addSeven (v w : List (Int × Int)) : List (Int × Int) :=
  if v.isEmpty then w else if w.isEmpty then v else List.zipWith addC v w

/-- The anchor's dump enters the coherent block. A symbol that part A completes joins the block with its decided sign; part B begins the next
symbol; without a boundary the symbol in progress grows (05 R212). A dump that failed its residue check counts as one without signal (05 R208). -/
def blockTake (d : List Byte) (x : Channel) : Channel :=
  let parts := (upto 7).map (fun j => if recFailed d then Corr.zero else recCorr d j)
  if recSplit d then
    let whole := addSeven x.sym (parts.map Corr.a)
    let neg := decide ((corrAt whole 2).1 < 0)
    { x with
      block := addSeven x.block (whole.map (signC neg)), blockDone := true, sym := parts.map Corr.b,
      bits := if x.sync && isData x.signal then (neg :: x.bits).take 4096 else x.bits }
  else { x with sym := addSeven x.sym (parts.map Corr.a) }

/-- The loops at the end of a coherent block: their output applies at the next epoch (05 R209, R211). A block that holds no whole symbol is
the symbol in progress; otherwise that symbol goes into the next block. -/
def loopBlock (y : ChanApr) (x : Channel) : Channel :=
  let v := if x.blockDone then x.block else x.sym
  let n := if x.sync && x.state != .pullIn then x.cfg.coh else 1
  let x' := { x with blockPos := 0, block := [], blockDone := false, sym := if x.blockDone then x.sym else [], cohNow := n }
  if v.isEmpty then x'
  else
    let now := corrAt v 2
    let pll := x.state == .pll
    let k := Config.carrierLoop pll (if pll then x.cfg.pllOrder else 2) (if pll then x.cfg.pllBw else x.cfg.fllBw) x.cfg.fllBw
      (pll && x.cfg.assist) x.cohNow now x.before x.freq x.rate x.carrierMem
    let l := Config.codeLoop x.cfg.dllOrder x.cfg.dllBw x.cohNow (codeOffset x y v) x.codeMem
    { x' with before := now, carrierMem := k.2, codeMem := l.2, loopDue := some (k.1.1, k.1.2, l.1) }

/-- The code generator is synchronised: it is `p.1` code periods into the secondary code and `p.2` into the symbol where the transmit time counts
0 of both, so the transmit time moves by those of the longer of the two, modulo which it is then known (05 R188, R212; 07 R288). -/
def Channel.synchronise (p : Nat × Nat) (x : Channel) : Channel :=
  let n := max 1 (Config.secondaryPeriods x.signal x.sv)
  let m := max 1 (Config.symbolPeriods x.signal x.sv)
  let k := if m ≤ n then p.1 else p.2
  { x with
    sync := true, secAt := (((p.1 : Int) - k) % n).toNat, symAt := (((p.2 : Int) - k) % m).toNat,
    code := x.code - k * periodUnits (chanSig x) }

/-- Synchronisation of the code generator (05 R212). -/
def syncStep (d : List Byte) (x : Channel) : Channel :=
  let w := recCorr d 2
  let x := { x with prompts := (w :: x.prompts).take 100 }
  if x.sync then x
  else match Config.symbolSync x.signal x.sv (x.prompts.map (fun w => (w.ia, w.qa, w.ib, w.qb))) with
    | some p => x.synchronise p
    | none => x

/-- A preamble of known polarity resolves the channel's half-cycle ambiguity: where its polarity calls for it, the carrier phase of every
aperture moves by the same half cycle, which is a slip on each (05 R213, R217). -/
def resolveHalf (c : Nat) (s : State) : State :=
  let x := chanOf s c
  let z := Config.navDecode x.signal x.sv x.bits
  let s := match z.2 with
    | some ms => if x.weekKnown then s else modChan c (fun x => { x with weekKnown := true, code := x.code - ms * msUnits }) s
    | none => s
  if x.halfResolved || !isData x.signal then s
  else match z.1 with
    | none => s
    | some false => modChan c (fun x => { x with halfResolved := true }) s
    | some true =>
      foldS (fun a t => if (caOf t c a).state = 0 then t else recordSlip c a 3 t) (chanAprs s c)
        (modChan c (fun x => { x with halfResolved := true, phase := x.phase + 2147483648 }) s)

/-- The shared loops at an epoch, from the anchor's dump; one that failed carries no signal (05 R208). -/
def sharedEpoch (c : Nat) (s : State) : State :=
  let x := chanOf s c
  let y := caOf s c x.anchor
  if x.state ≠ .pullIn ∧ x.state ≠ .fll ∧ x.state ≠ .pll then s
  else
    let s := if y.dump.isEmpty then s else modChan c (blockTake y.dump) s
    let s := if y.dump.isEmpty || recFailed y.dump then s else modChan c (syncStep y.dump) s
    let s := modChan c (fun x => { x with blockPos := x.blockPos + 1 }) s
    let s := if (chanOf s c).cohNow ≤ (chanOf s c).blockPos then modChan c (loopBlock y) s else s
    resolveHalf c s

/-- The other phase-locked apertures, and whether at least half of them show no slip at this epoch: then a slip is the shared NCO's (05
R218). -/
def lockedOthers (s : State) (c : Nat) : List Nat :=
  (chanAprs s c).filter (fun a => a != (chanOf s c).anchor && (caOf s c a).state == 3)
def mostKeep (s : State) (c : Nat) (others : List Nat) : Bool :=
  !others.isEmpty && decide (others.length ≤ 2 * (others.filter (fun a => !(caOf s c a).slipNow)).length)

/-- The anchor has lost phase lock or its frequency has jumped, while `others` were phase-locked (05 R218). -/
def suspectCommon (c : Nat) (others : List Nat) (s : State) : State :=
  modChan c (fun z => { z with comDue := some (z.comDue.getD others) }) s

/-- A common slip is judged once every slip of the epoch is recorded: after the 20 ms window and the 100 ms update of this millisecond, where it has
them; `late` at the latest moment there is (05 R218). -/
def judgeCommon (late : Bool) (c : Nat) (s : State) : State :=
  let x := chanOf s c
  match x.comDue with
  | none => s
  | some others =>
    if late || (s.epochMs % 20 != 0 || x.pliMs == s.ms + 1) && (s.epochMs % 100 != 0 || x.updMs == s.ms + 1) then
      let s := modChan c (fun z => { z with comDue := none }) s
      if mostKeep s c others then recordCommonSlip c s else s
    else s

/-- The loops' output reaches the NCOs (05 R211); a jump of the anchor's frequency may be a common slip (05 R218). -/
def applyLoops (c : Nat) (others : List Nat) (s : State) : State :=
  let x := chanOf s c
  match x.loopDue with
  | none => s
  | some (f, r, d) =>
    if x.state = .coast then modChan c (fun z => { z with loopDue := none }) s
    else
      let s := modChan c (fun z => { z with freq := f, rate := r, dll := d, loopDue := none }) s
      if freqJump x.signal x.sv (roundDiv x.freq 1000) (roundDiv f 1000) then suspectCommon c others s else s

/-! ### The epoch: the channel -/

/-- The apertures that have left the running state leave the channel; a pin on one of them ends (05 R227, R230). -/
def leaveChannel (c : Nat) (s : State) : State :=
  foldS (fun a t =>
    if aprRunning t a || (caOf t c a).state == 0 then t
    else
      let t := modCa c a (fun y => { y with state := 0, search := none, owes := false, opn := OpenDump.empty, dump := [] }) t
      let t := if (chanOf t c).pin = some a then modChan c (fun z => { z with pin := none, pinDue := false, pinOverridden := false }) t
        else t
      if (chanOf t c).anchor = a then modChan c (fun z => { z with forced := true }) t else t) (chanAprs s c) s

/-- The apertures that run and are not in the channel rejoin it by lag search, which waits for the end of a COAST; the anchor of a channel starts in
code lock (05 R196, R204, R229, R230). LOCK_S counts from there (log 62). -/
def joinChannel (c : Nat) (s : State) : State :=
  foldS (fun a t =>
    if !aprRunning t a || (caOf t c a).state != 0 then t
    else
      let t := modCa c a (fun y => pliClear t.ms { y with slipMs := t.ms, lag := 0, lagRate := 0, resFreq := 0 }) t
      if (chanOf t c).anchor = a then modCa c a (fun y => { y with state := 2 }) t
      else if (chanOf t c).state = .coast then modCa c a (fun y => { y with state := 4, owes := true, coastMs := t.ms, opn := OpenDump.empty }) t
      else enterSearch c a 1 t) (chanAprs s c) s

/-- C/N0 of a channel-aperture over its last 20 dumps is at least `db`. -/
def cn0Last20 (x : ChanApr) (db : Nat) : Bool :=
  decide (20 ≤ x.hist.length)
    && cn0AtLeast (x.hist.foldl (fun n h => n + h.1) 0) (x.hist.foldl (fun n h => n + h.2) 0) db

/-- The state moves that an epoch decides (05 R216). On return from COAST the aperture that is found, the lowest of several (DESIGN CHOICE, log 62),
becomes the anchor, at the next epoch, and every aperture has a slip (05 R229). -/
def chanMoves (c : Nat) (s : State) : State :=
  let x := chanOf s c
  let need := x.cfg.lossCn0 + 3
  match x.state with
  | .pullIn => if cn0Last20 (caOf s c x.anchor) need then modChan c (fun z => { z with state := .fll }) s else s
  | .fll => if (caOf s c x.anchor).state = 3 then modChan c (fun z => { z with state := .pll, reached := true }) s else s
  | .coast =>
    match (chanAprs s c).find? (fun a => aprRunning s a && (caOf s c a).state != 0 && cn0Last20 (caOf s c a) need) with
    | some a =>
      let s := modChan c (fun z => { z with
        state := .fll, lossCount := 0, handDue := if a = z.anchor then none else some (a, 2), blockPos := 0, block := [],
        blockDone := false, sym := [] }) s
      let s := foldS (fun b t => if (caOf t c b).state = 0 then t else
        let t := recordSlip c b 1 (modCa c b (fun y =>
          { y with state := if y.state = 4 then 2 else y.state, lagLimit := false, resLimit := false }) t)
        if (caOf t c b).owes ∧ b ≠ a then enterSearch c b 1 t else modCa c b (fun y => { y with owes := false }) t) (chanAprs s c) s
      chanEvent 6 c 255 0 0 s
    | none => s
  | _ => s

/-- The anchor's prompt power has fallen 10 dB below its 1 s mean (05 R222). -/
def promptDrop (x : ChanApr) : Bool :=
  let five : Nat := (x.hist.take 5).foldl (fun n h => n + h.1) 0
  let n : Nat := x.pSums.foldl (fun n p => n + p.2) 0
  decide (5 ≤ x.hist.length) && decide (0 < n) && decide (five * 10 * n ≤ 5 * x.pSums.foldl (fun n p => n + p.1) 0)

/-- The fast trigger on prompt power: the anchor's falls while the deputy's does not (05 R222). -/
def promptTrigger (c : Nat) (s : State) : State := match deputy s c with
  | some d =>
    if promptDrop (caOf s c (chanOf s c).anchor) ∧ !promptDrop (caOf s c d) then modChan c (fun z => { z with promptDue := true }) s else s
  | none => s

/-- Half a chip in 1/1,024,000 ns. -/
def halfChip (x : Channel) : Int := chipDelay (chanSig x) 100

/-- A code jump of BOC_GUARD that is due moves the shared code NCO, and is told (05 R203, R250). -/
def codeJump (c : Nat) (s : State) : State :=
  let dir := (chanOf s c).jumpDue
  if dir = 0 then s
  else chanEvent 12 c 255 0 dir (modChan c (fun z => { z with code := z.code + dir * halfChip z, jumpDue := 0 }) s)

/-- The settings and assignments that take effect at an epoch (05 R238, R243). -/
def chanTakeEffect (c : Nat) (s : State) : State :=
  let s := modChan c (fun z =>
    let n := chanCfgNext z
    { z with
      cfg := n, pendCfg := none, corrChange := n.dllMode != z.cfg.dllMode || n.elHalf != z.cfg.elHalf
        || n.vevlHalf != z.cfg.vevlHalf || n.narrowHalf != z.cfg.narrowHalf }) s
  match (chanOf s c).pendAssign with
  | some d =>
    let s := modChan c (fun z => { z with pendAssign := none, state := .pullIn, since := s.ms }) s
    let s := modCa c (chanOf s c).anchor (fun y => { y with state := 2 }) s
    let s := modChan c (Channel.mapAprs (fun y => if y.state = 0 then y else pliClear s.ms { y with slipMs := s.ms })) s
    chanEvent 1 c 255 d 0 s
  | none => s

/-- The marks of the last epoch go, and its records. -/
def chanBegin (x : Channel) : Channel :=
  Channel.mapAprs (fun y => { y with slipNow := false, dump := [], committed := false, dumpErrs := [], checked := false })
    { x with commonNow := false, anchorChanged := false, corrChange := false }

/-- The NCOs, lags and residual phases are latched (05 R190), with the mode in which the dumps that close were taken. -/
def chanLatch (x : Channel) : Channel :=
  Channel.mapAprs (fun y =>
      { y with latch := (y.lag, y.resPhase, y.resFreq), resOld := (y.resPhase, y.resFreq), dll := dllNow x y })
    { x with latch := (x.code, x.phase, x.freq) }

/-- One tracked channel at an epoch: hand-over and latch, dumps, trackers and loops, then the moves that they decide. -/
def chanTrack (us : List CorrUpset) (c : Nat) (s : State) : State :=
  let s := modChan c chanLatch (epochHandOver c s)
  let others := lockedOthers s c
  let s := foldS (closeDump c us) (chanAprs s c) s
  let sign := symbolSign s c
  let s := modChan c (fun z => { z with sign := sign }) s
  let s := foldS (residualEpoch c sign) (chanAprs s c) s
  let s := sharedEpoch c (codeJump c (applyLoops c others s))
  judgeCommon false c (promptTrigger c (chanMoves c s))

/-- A release that was commanded takes effect (05 R240). -/
def takeRelease (c : Nat) (s : State) : State := match (chanOf s c).pendRelease with
  | some cause => releaseChannel c cause (modChan c (fun z => { z with pendRelease := none }) s)
  | none => s

/-- One assigned channel's epoch (05 R188 to R193, R204, R225, R230, R238, R240). -/
def chanEpoch (us : List CorrUpset) (c : Nat) (s : State) : State :=
  let s := takeRelease c (modChan c chanBegin (judgeCommon true c s))
  if !chanAssigned s c then s
  else
    let s := leaveChannel c s
    let gone := (chanAprs s c).all (fun a => !aprRunning s a)
    if gone then releaseChannel c 3 s
    else
      let s := foldS (checkLimits c) ((chanAprs s c).filter (· != (chanOf s c).anchor)) s
      let s := if (chanOf s c).state = .free then s else chanTrack us c s
      chanFlushEvents c (joinChannel c (chanTakeEffect c s))

/-- The shared NCOs, lags and residuals of the channels that are not held, at the epoch that ends the millisecond in progress (05 R188, R192). -/
def advanceChannels (s : State) : State :=
  foldS (fun c t => modChan c (advanceChan t.nunar.cur t.nunar.ff) t)
    ((assignedChannels s).filter (fun c => (chanOf s c).state != .burstHold)) s

/-- Every epoch starts anew the counts of the ADC samples and of those that have crossed: the next output sample of every slice falls on it and
begins a transfer unit (03 R108, R111; 05 R204). -/
def unitsEpoch (s : State) : State :=
  foldS (fun a t => foldS (fun i u => modSlice a i (fun x => { x with unitPos := 0, fifo := [] }) u) (upto 4) (modApr a (fun x => { x with adcPos := 0 }) t))
    ((upto 24).filter (islandOn s)) s

/-- The labels have moved by `d` (1/1,024,000 ns) against the transmit times: so has every code delay that is not held (07 R286; 08 R342, R343). -/
def shiftCodes (d : Int) (s : State) : State :=
  foldS (fun c t => modChan c (fun x => { x with code := x.code + d }) t)
    ((assignedChannels s).filter (fun c => (chanOf s c).state != .burstHold)) s

/-- An interval of a step lasts `d` (1/1,024,000 ns) more than the millisecond that it counts as: so much further are the codes of the search (04
R146, R155; 08 R342, R343). -/
def shiftSearch (d : Int) (s : State) : State :=
  let f := fun (g : Segment) => { g with tx := g.tx + d }
  { s with
    acq.segs := s.acq.segs.map f, acq.endedSegs := s.acq.endedSegs.map f,
    acq.cands := s.acq.cands.map (fun c => { c with tx := c.tx + d, dwell := c.dwell.map (·.map f) }) }

/-- An interval of which `ff` grid units are steering ends: the hypotheses of the search move with it (04 R146; 08 R324). -/
def feedSearch (ff : Int) (s : State) : State :=
  let f := fun (g : Segment) => { g with feed := g.feed + carrierFeed (carrierHz g.signal g.sv) ff }
  shiftSearch (codeFeed ff)
    { s with
      acq.segs := s.acq.segs.map f, acq.cands := s.acq.cands.map (fun c => { c with dwell := c.dwell.map (·.map f) }) }

/-! ### Windows of 20 ms (05 R213, R215, R217, R218, R228) -/

/-- PLI x 100 of the sums of a window, rounded towards zero. -/
def pliOf (i q : Nat) : Int := if i + q = 0 then 0 else Int.tdiv (100 * ((i : Int) - q)) ((i + q : Nat) : Int)

/-- Phase lock is gained: the limits are left; a lock regained from coast is a slip (05 R217, R228). The channel of the anchor enters PLL (05
R216). -/
def lockGained (c a : Nat) (s : State) : State :=
  let s := if (caOf s c a).state = 4 then recordSlip c a 1 s else s
  let s := modCa c a (fun y => { y with state := 3, lockMs := s.ms, owes := false, lagLimit := false, resLimit := false }) s
  let s := chanEvent 3 c a 0 0 s
  if (chanOf s c).anchor = a ∧ (chanOf s c).state = .fll then modChan c (fun z => { z with state := .pll, reached := true }) s else s

/-- Phase lock is lost: a slip; a non-anchor aperture coasts, and for the anchor a forced hand-over is due (05 R217, R222, R228). -/
def lockLost (c a : Nat) (s : State) : State :=
  let anchor := (chanOf s c).anchor == a
  let s := recordSlip c a 1 (chanEvent 4 c a 0 0 s)
  let s := modCa c a (fun y => { y with state := if anchor then 2 else 4, coastMs := s.ms }) s
  if anchor then modChan c (fun z => { z with forced := true }) s else s

/-- A non-anchor aperture whose prompts stood against the anchor's over the window, on a data component: half a cycle is put right (05 R213). -/
def halfCycle (c a : Nat) (cross : Int) (s : State) : State :=
  let x := chanOf s c
  if cross < 0 ∧ isData x.signal ∧ x.anchor ≠ a then
    recordSlip c a 3 (modCa c a (fun y => { y with resPhase := y.resPhase + 2147483648 }) s)
  else s

/-- The end of a 20 ms window on one channel-aperture; sums over another time are dropped. -/
def pliApr (c a : Nat) (s : State) : State :=
  let x := caOf s c a
  let s := modCa c a (pliClear s.ms) s
  if x.state < 2 ∨ x.pliFrom + 20 ≠ s.ms then s
  else
    let n := x.sumI2 + x.sumQ2
    let good := if 0 < n ∧ 4 * n ≤ 5 * (x.sumI2 - x.sumQ2) then x.good + 1 else 0
    let bad := if 2 * ((x.sumI2 : Int) - x.sumQ2) < n then x.bad + 1 else 0
    let s := halfCycle c a x.cross (modCa c a (fun y => { y with pli := pliOf x.sumI2 x.sumQ2, good := good, bad := bad }) s)
    if x.state ≠ 3 ∧ 2 ≤ good then lockGained c a s else if x.state = 3 ∧ 3 ≤ bad then lockLost c a s else s

/-- The channels whose correlators run. -/
def activeChannels (s : State) : List Nat := (upto 192).filter (chanActive s)

/-- The window ends on a channel: the anchor's loss of lock may be a slip of the shared NCO (05 R218). -/
def pliChannel (c : Nat) (s : State) : State :=
  let anchor := (chanOf s c).anchor
  let others := lockedOthers s c
  let was := (caOf s c anchor).state
  let t := modChan c (fun z => { z with pliMs := s.ms + 1 }) (foldS (pliApr c) (chanAprs s c) s)
  judgeCommon false c (if was = 3 ∧ (caOf t c anchor).state ≠ 3 then suspectCommon c others t else t)

/-- PLI_WINDOW (05 R215): at an epoch that is a multiple of 20 ms. -/
def pliWindow (s : State) : State := if s.epochMs % 20 = 0 then foldS pliChannel (activeChannels s) s else s

/-! ### Updates every 100 ms (05 R192, R202, R203, R214, R216, R221) -/

/-- The lag rate of a residual frequency: -10^9 f_r / f_c ns/s, in 1/1024 ns/s (05 R192). -/
def lagRateOf (signal sv : Nat) (f : Int) : Int := roundDiv (-(f * 10240000000)) (carrierHz signal sv)

/-- The multipath value in 1/128: the fitted amplitude, or (|VE| - |VL|) / |P| (05 R202). -/
def mpValueOf (mode : Nat) (m : CorrMeans) : Int :=
  clampI (-128) 127 (if mode = 3 then m.amp else roundDiv (128 * ((m.ve : Int) - m.vl)) m.p)

/-- The update of a channel-aperture's C/N0 and multipath value; the sums begin anew, and the present fit goes on. -/
def updateMeans (x : Channel) (y : ChanApr) : ChanApr :=
  let m := y.means
  let mode := dllMode x y
  if m.n = 0 then y
  else
    let cn0 := cn0Of m.p2 m.n2
    { y with
      cn0 := cn0, cn0s := (cn0 :: y.cn0s).take 10, pSums := ((m.p2, m.n) :: y.pSums).take 10,
      mpDelay := if mode = 3 then m.delay else 0, mpValue := mpValueOf mode m,
      means := { m with p2 := 0, n2 := 0, disc := 0, ve := 0, p := 0, vl := 0, n := 0 } }

/-- A code jump is due: on the searched BOC(1,1), the mean of |VE| or of |VL| exceeds that of |P| by 20 % or more; towards the larger side (05
R203). -/
def bocJump (x : Channel) (m : CorrMeans) : Int :=
  if x.cfg.bocGuard ∧ [0x02, 0x11, 0x22, 0x42].contains x.signal ∧ m.n ≠ 0 ∧ (6 * m.p ≤ 5 * m.ve ∨ 6 * m.p ≤ 5 * m.vl) then
    (if m.vl ≤ m.ve then -1 else 1)
  else 0

/-- The 100 ms update of one channel-aperture: its values, the code jump of the anchor, and a non-anchor's LAG and lag rate while it tracks;
an aperture in coast keeps them (05 R192, R194, R228). -/
def lagUpdateOne (c a : Nat) (s : State) : State :=
  let x := chanOf s c
  let y := caOf s c a
  let m := y.means
  let s := modCa c a (updateMeans x) s
  if x.anchor = a then modChan c (fun z => { z with jumpDue := bocJump z m }) s
  else if y.state ≠ 2 ∧ y.state ≠ 3 then s
  else
    checkLimits c a (modCa c a (fun w =>
      { w with lag := w.lag + roundDiv m.disc m.n, lagRate := lagRateOf x.signal x.sv w.resFreq }) s)

/-- What the update decides for the channel: the run of updates with every aperture measured below LOSS_CN0, each over 100 ms of the channel's
tracking (05 R216), and of those in which the deputy leads the anchor by 3 dB (05 R221). -/
def lagUpdateLead (c : Nat) (s : State) : State :=
  let x := chanOf s c
  let run := (chanAprs s c).filter (fun a => (caOf s c a).state != 0 && !(caOf s c a).cn0s.isEmpty)
  let low := !run.isEmpty && decide (x.since + 100 ≤ s.ms) && run.all (fun a => decide ((caOf s c a).cn0 < 10 * x.cfg.lossCn0))
  let lead := match deputy s c with
    | some d => if cn0Mean (caOf s c x.anchor) + 3000 ≤ cn0Mean (caOf s c d) then some d else none
    | none => none
  modChan c (fun z =>
    { z with
      updMs := s.ms + 1, lossCount := if low then z.lossCount + 1 else 0,
      exceed := if lead.isNone then 0 else if lead = some z.exceedDeputy then z.exceed + 1 else 1,
      exceedDeputy := lead.getD 255 }) s

/-- LAG_UPDATE (05 R192, R202, R203, R214): at an epoch that is a multiple of 100 ms, once for each channel. -/
def lagUpdate (s : State) : State :=
  if s.epochMs % 100 = 0 then
    foldS (fun c t => judgeCommon false c <| lagUpdateLead c (foldS (lagUpdateOne c) ((chanAprs t c).filter (fun a => (caOf t c a).state != 0)) t))
      ((activeChannels s).filter (fun c => (chanOf s c).updMs != s.ms + 1)) s
  else s

/-- VOLUNTARY_HANDOVER (05 R221): the deputy has led by 3 dB for 5 s; at most one in any 10 s. It takes place at the next epoch (log 54). -/
def voluntaryHandover (c : Nat) (s : State) : State :=
  let x := chanOf s c
  match deputy s c with
  | some d =>
    let spaced : Bool := match x.lastVolMs with
      | some t => decide (t + 10000 ≤ s.ms)
      | none => true
    if x.pin.isNone ∧ x.handDue.isNone ∧ 50 ≤ x.exceed ∧ x.exceedDeputy = d ∧ spaced then
      modChan c (fun z => { z with lastVolMs := some s.ms, handDue := some (d, 1) }) s
    else s
  | none => s

/-! ### Lag search (05 R196 to R198) -/

/-- Z of a position: its sum of powers against the noise correlator's, truncated to 1/256 before it meets the threshold (DESIGN CHOICE, log 62).
Without noise the value is open: the free value. -/
def searchZ (free : Nat) (noise p : Nat) : Nat := if noise = 0 then free else 256 * p / noise

/-- The position of a dwell with the greatest power, among the first `n`. -/
def bestPosition (q : LagSearch) (n : Nat) : Nat := (bestBy (fun p => q.power.getD p 0) (upto n)).getD 0

/-- An aperture whose lag is confirmed: it pulls in from that lag, with the phase and frequency of the prompt's progression, and leaves the
search with a slip (05 R198, R217). -/
def lagFound (c a : Nat) (lag : Int) (q : LagSearch) (s : State) : State :=
  let z := Config.phaseStart q.prompts
  let s := modCa c a (fun y => pliClear s.ms { y with
    state := 2, search := none, lag := lag, lagRate := 0, resPhase := y.resPhase + z.1, resFreq := z.2, lagLimit := false,
    resLimit := false, good := 0, bad := 0, hist := [], means := CorrMeans.none, opn := OpenDump.empty }) s
  checkLimits c a (recordSlip c a 1 (chanEvent 10 c a 0 (lag / 1000) s))

/-- LAG_SEARCH_DWELL (05 R196 to R198): a dwell of twenty dumps is judged; a detection is confirmed by one further dwell at the lag and a cell
to either side; else the search goes on with the next group, after the last with the first (log 54). -/
def lagSearchDwell (c a : Nat) (s : State) : State :=
  match (caOf s c a).search with
  | none => s
  | some q =>
    if q.count < 20 then s
    else
      let x := draw s
      let i := chanSig (chanOf s c)
      let go := fun (r : LagSearch) => modCa c a (fun y => { y with search := some r, opn := OpenDump.empty }) x.2
      let now := lagWindow x.2 c a
      let next := modCa c a (fun y => { y with search := some (q.next now), lag := now.centre, opn := OpenDump.empty }) x.2
      let n := if q.found.isSome then 3 else min 8 (2 * q.half + 1 - 8 * q.group)
      let p := bestPosition q n
      let hit := reaches 20 6 (searchZ (Config.openZ x.1) q.noise (q.power.getD p 0))
      match q.found with
      | none => if hit then go (q.dwell q.group (some (lagPosition i q (8 * q.group + p)))) else next
      | some l => if hit then lagFound c a (l + ((p : Int) - 1) * cellDelay i) q x.2 else next

/-! ### Timeouts (05 R216, R228, R229) -/

/-- PULL_IN_TIMEOUT (05 R216): FLL not reached within 500 ms of assignment. -/
def pullInTimeout (c : Nat) (s : State) : State :=
  if (chanOf s c).state = .pullIn ∧ (chanOf s c).since + 500 ≤ s.ms then releaseChannel c 6 s else s

/-- COAST_ENTRY (05 R216, R229): every aperture's C/N0 has been below LOSS_CN0 for 200 ms. The measurement that ends the coast begins anew. -/
def coastEntry (c : Nat) (s : State) : State :=
  let x := chanOf s c
  if (x.state = .pullIn ∨ x.state = .fll ∨ x.state = .pll) ∧ 2 ≤ x.lossCount then
    chanEvent 5 c 255 0 0 (modChan c (fun z => Channel.mapAprs (fun y =>
        if y.state < 2 then { y with hist := [] } else { y with state := 4, coastMs := s.ms, hist := [] })
      { z with state := .coast, early := z.state != .pll, coastMs := s.ms, loopDue := none }) s)
  else s

/-- COAST_TIMEOUT (05 R216): COAST has lasted COAST x 100 ms. -/
def coastTimeout (c : Nat) (s : State) : State :=
  let x := chanOf s c
  if x.state = .coast ∧ x.coastMs + 100 * x.cfg.coast ≤ s.ms then releaseChannel c 2 s else s

/-- APERTURE_COAST_TIMEOUT (05 R217, R228): after 1 s of coast a non-anchor aperture leaves it, which is a slip, and enters lag search; not in
COAST (05 R229). -/
def aprCoastTimeout (c a : Nat) (s : State) : State :=
  let x := caOf s c a
  if x.state = 4 ∧ (chanOf s c).state ≠ .coast ∧ (chanOf s c).anchor ≠ a ∧ x.coastMs + 1000 ≤ s.ms then
    enterSearch c a 4 (recordSlip c a 1 s)
  else s

/-! ### Bursts (05 R246 to R248) -/

/-- BURST_WAKE (05 R247 steps 1 to 3): 3 ms before T0 the firmware leaves retention and the gated islands start to power up. -/
def burstWake (s : State) : State :=
  if betweenBursts s ∧ !s.burst.awake ∧ (s.epochMs + 3) % 1000 = s.burst.phaseMs then
    { s with burst.awake := true, power.retention := false, islands.powered := s.islands.powered ||| s.burst.gated }
  else s

/-- The NCOs, lags and residual phases of a held channel, propagated across the gap (05 R247 step 5): `cur` grid units in `n` ms, in which the
label has moved by `d` ms. -/
def propagateHeld (cur n : Nat) (d : Int) (x : Channel) : Channel :=
  let y := advanceChan cur ((cur : Int) - 35200000 * n) x
  { y with code := y.code + (d - n) * msUnits }

/-- A held channel enters PULL_IN (05 R247 step 5), from where the 500 ms of 05 R216 count (DESIGN CHOICE, log 62). -/
def resumeChannel (c : Nat) (s : State) : State :=
  let b := s.burst
  let cur := (roundDiv (s.nunar.pos - b.heldPos) (2 ^ 32)).toNat
  modChan c (fun x => Channel.mapAprs (fun y =>
      if y.state = 0 then y
      else pliClear s.ms { y with
        state := if y.state = 1 then 1 else 2, search := y.search.map (fun q => q.dwell q.group q.found), good := 0, bad := 0,
        hist := [], means := CorrMeans.none, opn := OpenDump.empty, dump := [], resOld := (y.resPhase, y.resFreq) })
    { propagateHeld cur (s.ms - b.heldMs) ((s.epochMs : Int) - b.heldLabel) x with
      state := .pullIn, since := s.ms, sync := false, cohNow := 1, reached := false, lossCount := 0, forced := false, promptDue := false, handDue := none,
      comDue := none, blockPos := 0, block := [], blockDone := false, sym := [], loopDue := none, prompts := [], bits := [] }) s

/-- A channel-aperture begins a burst, with a slip; one that the gap has taken out of its range is handled as R194 says (05 R217, R248). -/
def burstSlip (c a : Nat) (s : State) : State :=
  let y := caOf s c a
  if y.state = 0 then s
  else if (chanOf s c).anchor ≠ a ∧ (lagOut y ∨ resOut y) then checkLimits c a s
  else recordSlip c a 1 s

/-- A channel comes back from BURST_HOLD, or starts: its settings take effect, and every aperture of it that runs begins with a slip. -/
def returnChannel (c : Nat) (s : State) : State :=
  let s := if (chanOf s c).state = .burstHold then resumeChannel c s else s
  let s := joinChannel c (chanTakeEffect c s)
  foldS (burstSlip c) (chanAprs s c) s

/-- A channel at the start of a burst: what was commanded between bursts takes effect (05 R246). -/
def burstChannel (c : Nat) (s : State) : State :=
  let s := takeRelease c s
  if chanAssigned s c then returnChannel c s else s

/-- BURST_START (05 R247 step 5): at T0 apertures run and channels leave BURST_HOLD; the aperture settings that wait are in force from here (05
R246). -/
def burstStart (s : State) : State :=
  if betweenBursts s ∧ s.burst.awake ∧ s.epochMs % 1000 = s.burst.phaseMs then
    let s := { s with burst.active := true }
    let as := (upto 24).filter (islandReady s)
    let s := foldS apertureRunning (as.filter (fun a => (aprOf s a).enabled)) s
    let s := foldS takeSettings as s
    foldS burstChannel (assignedChannels s) s
  else s

/-- A channel at the end of a burst: saved and held; one that has not reached PLL has missed the burst, and is released after MISS_LIMIT
misses in a row (05 R248). -/
def burstHoldChannel (c : Nat) (s : State) : State :=
  let x := chanOf s c
  let m := if x.reached then 0 else x.misses + 1
  let s := modChan c (fun z => Channel.mapAprs (fun y => { y with opn := OpenDump.empty }) { z with state := .burstHold, misses := m }) s
  if x.reached then s
  else
    let s := chanEvent 13 c 255 0 0 s
    if s.burst.missLimit ≤ m then releaseChannel c 5 s else s

/-- The tracking array's island and those of the enabled apertures are gated; a self-test slice on one of their blocks is aborted (05 R247 step
10; 17 R621). -/
def burstGate (s : State) : State :=
  let as := (enabledApertures s).filter (islandReady s)
  let g := bitsMask (as ++ (if islandReady s 25 then [25] else []))
  let s := match s.bst.active with
    | some r => if g.testBit (blockIsland r.block) then abortSlice s else s
    | none => s
  let s := foldS (fun a t => modApr a aprGate t) as s
  { s with
    burst.gated := s.burst.gated ||| g,
    islands := (maskBits 43 g).foldl (fun (k : Islands) i =>
      { k with powered := setBit k.powered i false, ready := setBit k.ready i false }) s.islands }

/-- BURST_END (05 R247 steps 9 and 10): at T0 + BURST_MS channel state is saved and the islands are gated (log 53). -/
def burstEnd (s : State) : State :=
  let b := s.burst
  if b.on ∧ b.active ∧ s.epochMs % 1000 = (b.phaseMs + b.burstMs) % 1000 then
    let s := foldS burstHoldChannel (activeChannels s) s
    burstGate { s with burst := { s.burst with
      active := false, awake := false, heldMs := s.ms, heldLabel := s.epochMs, heldPos := s.nunar.pos } }
  else s

/-- Burst tracking ends: the gated islands power up; held channels come back with their apertures (05 R245). -/
def burstLeave (s : State) : State :=
  { s with
    burst := { s.burst with on := false, awake := false, active := false, pend := none }, power.retention := false,
    islands.powered := s.islands.powered ||| s.burst.gated }

/-- A TRK_BURST setting takes effect at a whole second (05 R245); the first burst is the time up to the next end of one. Work of a whole second that
retention has deferred is done later, and no setting takes effect with it. -/
def burstTakeEffect (s : State) : State := match if s.epochMs % 1000 = 0 then s.burst.pend else none with
  | some (true, len, ph, miss) =>
    { s with burst := { s.burst with
        on := true, burstMs := len, phaseMs := ph, missLimit := miss, pend := none, active := s.burst.active || !s.burst.on } }
  | some (false, _, _, _) => burstLeave s
  | none => s

/-- A channel that is still held after bursts have ended comes back when an aperture of it runs; with none to wait for it is released (05 R230,
R245). Its settings and its release take effect meanwhile (05 R240, R243). -/
def heldEpoch (c : Nat) (s : State) : State :=
  let s := takeRelease c s
  if !chanAssigned s c then s
  else if (chanAprs s c).any (aprRunning s) then returnChannel c s
  else if (chanAprs s c).any (fun a => aprEnabledNext (aprOf s a) && countsOn s a && !aprFaulted (aprOf s a)) then chanTakeEffect c s
  else releaseChannel c 3 s

/-- The tracking array's part of an epoch. -/
def trkEpoch (us : List CorrUpset) (s : State) : State :=
  if islandReady s 25 && !betweenBursts s then
    let held := (assignedChannels s).filter (fun c => (chanOf s c).state == .burstHold)
    foldS (chanEpoch us) ((assignedChannels s).filter (fun c => !held.contains c)) (foldS heldEpoch held s)
  else s

/-! ### The rows -/

def execTrkAssign (p : Packet) (s : State) : Host.Outcome State Fault Refusal := .next (runCmd specTrkAssign p s)
def execTrkRelease (p : Packet) (s : State) : Host.Outcome State Fault Refusal := .next (runCmd specTrkRelease p s)
def execTrkLoops (p : Packet) (s : State) : Host.Outcome State Fault Refusal := .next (runCmd specTrkLoops p s)
def execTrkCorr (p : Packet) (s : State) : Host.Outcome State Fault Refusal := .next (runCmd specTrkCorr p s)
def execTrkBurst (p : Packet) (s : State) : Host.Outcome State Fault Refusal := .next (runCmd specTrkBurst p s)
def execTrkStatus (p : Packet) (s : State) : Host.Outcome State Fault Refusal := .next (runCmd specTrkStatus p s)
def execTrkAnchor (p : Packet) (s : State) : Host.Outcome State Fault Refusal := .next (runCmd specTrkAnchor p s)
def execLagUpdate (s : State) : Host.Outcome State Fault Refusal := .next (lagUpdate s)
def execPliWindow (s : State) : Host.Outcome State Fault Refusal := .next (pliWindow s)
def execVoluntaryHandover (ch : Fin 192) (s : State) : Host.Outcome State Fault Refusal := .next (voluntaryHandover ch s)
def execLagSearchDwell (ch : Fin 192) (a : Fin 24) (s : State) : Host.Outcome State Fault Refusal := .next (lagSearchDwell ch a s)
def execPullInTimeout (ch : Fin 192) (s : State) : Host.Outcome State Fault Refusal := .next (pullInTimeout ch s)
def execCoastEntry (ch : Fin 192) (s : State) : Host.Outcome State Fault Refusal := .next (coastEntry ch s)
def execCoastTimeout (ch : Fin 192) (s : State) : Host.Outcome State Fault Refusal := .next (coastTimeout ch s)
def execApertureCoastTimeout (ch : Fin 192) (a : Fin 24) (s : State) : Host.Outcome State Fault Refusal :=
  .next (aprCoastTimeout ch a s)
def execBurstWake (s : State) : Host.Outcome State Fault Refusal := .next (burstWake s)
def execBurstEnd (s : State) : Host.Outcome State Fault Refusal := .next (burstEnd s)

end Sys2Proof.Machine
end

