-- ==== Sys2Proof/Machine/Kernels.lean ====
section
/-! DEFINITION. The life of a kernel (14): images, start, stop, halts and faults, the fence, interrupts, bank accesses, emits,
subscriptions, the mailbox, the watchdog and failover, and the rows of every kernel instruction. -/
namespace Sys2Proof.Machine

/-! ### Messages and counts (14 R564, R566, R568) -/

/-- MSG_KERNEL. -/
def postKernel (kind k gen detail chain : Nat) (body : List Byte) (s : State) : State :=
  post { msg2 s 0x8B 0x0C k (le 1 kind ++ le 1 k ++ le 2 gen ++ le 1 detail ++ zeros 3 ++ body) with
    gen := gen, chain := chain } s

/-- The fence drops something of core `k` whose generation is not current: counted and logged (14 R564). -/
def dropStale (k : Nat) (bank : Option Nat) (s : State) : State :=
  let s := modCore k (fun c => { c with stale := sat 65535 (c.stale + 1) }) s
  let s := match bank with
    | some b => modBank b (fun x => { x with stale := sat 0xFFFF (x.stale + 1) }) s
    | none => s
  logErr 0x15 1 0x0C k s

/-- An access of core `k` to a bank that is off or that it does not own: counted and logged (15 R580, 14 R567). -/
def refuseBank (k b : Nat) (write : Bool) (s : State) : State :=
  let s := modCore k kRefuse s
  if !bankReady s b then countOff b (some k) s
  else if write then logAccess 0x0D b (some k) (modBank b (fun x => { x with notOwnerWr := sat 0xFFFF (x.notOwnerWr + 1) }) s)
  else modBank b (fun x => { x with notOwnerRd := sat 0xFFFF (x.notOwnerRd + 1) }) s

/-- The bank answers core `k` by its owner rules. -/
def bankServes (s : State) (k b : Nat) : Bool := bankReady s b && kOwns s k b

/-- The access of core `k` waits while a previous owner's transfer drains (15 R577). -/
def bankWaits (s : State) (k b : Nat) : Bool := (bankOf s b).drain && kOwns s k b

/-! ### Posted stores (13 R513, R516, R517; 14 R564) -/

/-- The bytes that a store writes, and the byte of its slot where they begin. -/
def storeBytes (p : PostedStore) : Nat × List Byte :=
  let v := p.val.toNat
  match p.part with
  | none => (0, le 3 v ++ [0])
  | some q => if q < 4 then (q, le 1 v) else if q = 4 then (0, le 2 v) else (2, le 2 v)

/-- One posted store reaches the fence and the bank. -/
def commitStore (k : Nat) (p : PostedStore) (errs : List Nat) (s : State) : State :=
  let b := slotBank p.slot
  if p.gen ≠ (coreOf s k).gen ∨ p.gen = 0 then dropStale k (some b) s
  else if !bankServes s k b then refuseBank k b true s
  else
    let d := storeBytes p
    writeBank (slotAddr p.slot + d.1) d.2 p.tag errs s

/-- Every posted store of a core is committed, oldest first. -/
def commitAll (k : Nat) (s : State) : State :=
  let ps := (coreOf s k).posted
  foldS (fun p t => commitStore k p [] t) ps (modCore k (fun c => { c with posted := [] }) s)

/-- POSTED_STORE_COMMIT (13 R517): the oldest store commits; `stall` cycles passed while the core waited for it. -/
def postedCommit (k stall errs : Nat) (s : State) : State := match (coreOf s k).posted with
  | [] => s
  | p :: rest =>
    if bankWaits s k (slotBank p.slot) then s
    else
      let s := modCore k (fun c => { c with
        posted := rest, cyc := if 8 ≤ c.posted.length then (c.cyc + stall) % 2 ^ 24 else c.cyc }) s
      commitStore k p [errs] s

/-! ### Halts and faults (14 R554, R561, R565, R566) -/

/-- The 32 bytes of a fault record. -/
def faultBytes (s : State) (c : Core) (f : KFault) : List Byte :=
  le 1 f.code ++ le 1 f.seg ++ le 1 f.access ++ le 1 f.reg ++ le 4 f.pc
    ++ le 4 (if f.pc < kLimit c then kWordAt c f.pc else 0) ++ le 4 f.word2 ++ le 4 f.off ++ le 8 s.epochMs ++ le 4 c.cyc

/-- The core stops: the load before lands, and nothing is left of a run or a stall. -/
def kStopped (phase : CorePhase) (c : Core) : Core :=
  { kLand [] c.slot c with phase := phase, slot := none, rep := none, stalled := none, stopDue := false }

/-- The generation is revoked and the banks pass on in the same act (14 R554, 15 R575). -/
def revoke (k new cause : Nat) (s : State) : State := handAll k new cause (modCore k (fun c => { c with gen := 0 }) s)

/-- A halt of its own or by KRN_STOP (14 R554). -/
def haltCore (k detail : Nat) (s : State) : State :=
  let gen := (coreOf s k).gen
  postKernel 3 k gen detail 0 [] (revoke k 1 2 (commitAll k (modCore k (kStopped .halted) s)))

/-- A fault of an instruction (14 R565). -/
def faultCore (k : Nat) (f : KFault) (s : State) : State :=
  let c := coreOf s k
  let rec' := faultBytes s c f
  let s := commitAll k (modCore k (fun c => { kStopped .faulted c with faultRec := rec' }) s)
  postKernel 4 k c.gen 0 0 rec' (logErr 0x4D 2 0x0C k (revoke k 1 2 s))

/-! ### Issuing instructions -/

/-- An interrupt is taken at this boundary (14 R544). -/
def kIrqDue (c : Core) : Bool :=
  c.ie && (c.irqPend &&& c.irqEn) != 0 && c.rep.isNone && c.slot.isNone && c.stalled.isNone

/-- The core issues its next instruction: it runs on a ready island, no load is awaited and no interrupt is taken first. -/
def kIssues (s : State) (k : Nat) : Bool :=
  let c := coreOf s k
  islandReady s (26 + k) && c.phase == .running && c.stalled.isNone && !kIrqDue c

/-- The second word of the instruction at PC, 0 where it has none (14 R566). -/
def kSecondWord (k : Nat) (c : Core) : Nat := match kFetch k c with
  | .instr _ w2 => w2
  | .fault _ => 0

/-- Put a completed instruction's core back: a loop check on a tagged register faults, a stop that was waiting takes effect. -/
def kSettle (k : Nat) (x : Core × Option Nat) (s : State) : State :=
  let c := coreOf s k
  let s := modCore k (fun _ => x.1) { s with kernels.draws := s.kernels.draws + 1 }
  match x.2 with
  | some reg => faultCore k (poisonFault c.pc (kSecondWord k c) 5 reg) s
  | none => if x.1.stopDue ∧ x.1.rep.isNone then haltCore k 2 s else s

/-- What issuing `i` does to the machine; `extra` cycles are those that it waited. -/
def kApply (k : Nat) (i : KInstr) (extra : Nat) (o : KOut) (s : State) : State :=
  let c := coreOf s k
  match o with
  | .fault f => faultCore k f s
  | .next c1 pc taken cycles => kSettle k (kComplete c (kWrites i) c1 pc taken (cycles + extra)) s
  | .bankLoad c1 l => modCore k (fun _ => { c1 with slot := c.slot, stalled := some l }) s
  | .wait => modCore k (fun c => { c with phase := .waiting }) s
  | .halt =>
    let x := kComplete c [] { c with slot := none } (c.pc + 1) false 1
    let s' := modCore k (fun _ => x.1) s
    match x.2 with
    | some reg => faultCore k (poisonFault c.pc 0 5 reg) s'
    | none => haltCore k 1 s'
  | .blocked => s

/-- What the core meets when it issues the instruction at PC. -/
def kMeets (s : State) (k : Nat) (i : KInstr) (w2 : Nat) : KOut :=
  kExec (s.measMs % 2 ^ 24) { k := k, c := coreOf s k, w2 := w2, draw := s.kernels.draws } i

/-- The row of a kernel instruction: core `k` issues it where it is the instruction at PC; a fetch beyond the CS LIMIT is a
segment fault (13 R501). Where the core issues something else, the row has no effect. -/
def kRowWith (k : Nat) (i : KInstr) (extra : Nat) (s : State) : State :=
  if kIssues s k then
    match kFetch k (coreOf s k) with
    | .fault f => if f.code = 3 then faultCore k f s else s
    | .instr j w2 => if j = i then kApply k i extra (kMeets s k i w2) s else s
  else s

/-- The row of a kernel instruction that does not wait. -/
def kRow (k : Nat) (i : KInstr) (s : State) : State := kRowWith k i 0 s

/-- ILLEGAL_INSTRUCTION (13 R531, R532): the word at PC is illegal, or is a REP, REPR or LOOP that R520 or 14 R542 makes
illegal. -/
def kIllegal (k : Nat) (s : State) : State :=
  if kIssues s k then
    match kFetch k (coreOf s k) with
    | .fault f => faultCore k f s
    | .instr i w2 => match kMeets s k i w2 with
      | .fault f => if f.code = 1 then faultCore k f s else s
      | _ => s
  else s

/-- The instruction at PC, as a row that completes it later decodes it again. -/
def kAtPc (k : Nat) (c : Core) : Option KInstr := match kFetch k c with
  | .instr i _ => some i
  | .fault _ => none

/-- WAIT_WAKE (14 R547): a waiting core goes on after WAIT; the interrupt, where enabled, is then taken by
INTERRUPT_ENTRY. `cycles` passed while it waited. -/
def waitWake (k cycles : Nat) (s : State) : State :=
  let c := coreOf s k
  if c.phase = .waiting ∧ c.irqPend &&& c.irqEn ≠ 0 then
    kSettle k (kComplete c [] { c with phase := .running, slot := none } (c.pc + 1) false (1 + cycles)) s
  else s

/-- INTERRUPT_ENTRY (14 R544): IPC, then interrupts off and IVEC, 2 cycles. -/
def interruptEntry (k : Nat) (s : State) : State :=
  let c := coreOf s k
  if islandReady s (26 + k) ∧ c.phase = .running ∧ kIrqDue c then
    modCore k (fun c => { c with ipc := c.pc, ie := false, pc := c.ivec, cyc := (c.cyc + 2) % 2 ^ 24 }) s
  else s

/-- BANK_LOAD_RETURN (13 R517): the data of a stalled load returns after every earlier store has committed; a refused load
delivers 0. `stall` cycles passed; `errs` wrong bits are found in the granule. -/
def bankLoadReturn (k stall errs : Nat) (s : State) : State :=
  let c := coreOf s k
  match c.stalled, kAtPc k c with
  | some l, some i =>
    let b := slotBank l.slot
    if !c.posted.isEmpty || bankWaits s k b then s
    else
      let ok := bankServes s k b
      let g := granuleOf (slotAddr l.slot)
      let s := if ok then (decodeGranule g errs s).1 else refuseBank k b false s
      let w := if ok then ofLe (bankBytes s (slotAddr l.slot) 4) else 0
      let v := match l.part with
        | none => BitVec.ofNat 24 (w % 2 ^ 24)
        | some q => slotPart w q
      let c := coreOf s k
      let c0 := { c with stalled := none }
      kSettle k (kComplete c0 (kWrites i) { c0 with slot := some (l.dest, { v := v, t := ok && poisoned s g }) } (c.pc + 1) false
        (1 + stall)) s
  | _, _ => s

/-! ### Placements (14 R550 to R554, R562) -/

/-- A word of the descriptor. -/
def descWord (m : Image) (n : Nat) : Nat := (tget 0 m.desc n).toNat

/-- A segment lies inside one region of the data map; an empty one does anywhere (13 R496, 14 R552). -/
def regionOk (base limit : Nat) : Bool :=
  limit == 0 || decide (base + limit ≤ 0x10000) || decide (0x400000 ≤ base ∧ base + limit ≤ 0x800000)
    || decide (0x800000 ≤ base ∧ base + limit ≤ 0x801000)

/-- FILTER and APR of a subscription fit its KIND (14 R552, R555). -/
def filterOk (kind f apr : Nat) : Bool :=
  (match kind with
    | 1 => decide (f < 2 ^ 16)
    | 2 => true
    | 3 => decide (f < 16)
    | 4 => decide (f < 256)
    | 5 => decide (f ≤ 64)
    | _ => false) && (kind == 1 || apr == 0)

/-- The subscription at entry `n` of a descriptor. -/
def descRing (m : Image) (n : Nat) : SubRing :=
  let w := fun (i : Nat) => descWord m (12 + 5 * n + i)
  { kind := w 0, filter := w 1, apr := w 2, ring := w 3, len := w 4, wr := 0, rd := 0, seqNo := 0 }

/-- A ring lies inside one bank and one data segment (14 R552). -/
def ringPlaced (m : Image) (r : SubRing) : Bool :=
  r.len % 8 == 0 && decide (8 ≤ r.len ∧ r.len ≤ 262144) && decide (0x400000 ≤ r.ring ∧ r.ring + r.len ≤ 0x800000)
    && slotBank (r.ring - 0x400000) == slotBank (r.ring + r.len - 1 - 0x400000)
    && (upto 4).any (fun i => decide (descWord m (2 + 2 * i) ≤ r.ring
        ∧ r.ring + r.len ≤ descWord m (2 + 2 * i) + descWord m (3 + 2 * i)))

/-- The rings of a descriptor that are used. -/
def descRings (m : Image) : List SubRing := ((upto 4).map (descRing m)).filter (fun r => r.kind != 0)

/-- No two rings of a list overlap. -/
def apart : List SubRing → Bool
  | [] => true
  | r :: t => t.all (fun q => decide (r.ring + r.len ≤ q.ring ∨ q.ring + q.len ≤ r.ring)) && apart t

/-- The descriptor meets R552. -/
def descOk (m : Image) : Bool :=
  decide (descWord m 0 + descWord m 1 ≤ 16384) && decide (descWord m 10 < descWord m 1 ∧ descWord m 11 < descWord m 1)
    && (upto 4).all (fun i => regionOk (descWord m (2 + 2 * i)) (descWord m (3 + 2 * i)))
    && (descRings m).all (fun r => filterOk r.kind r.filter r.apr && ringPlaced m r) && apart (descRings m)

/-- The generation after `g` (14 R553). -/
def nextGen (g : Nat) : Nat := if g = 65535 then 1 else g + 1

/-- The memories, segments and rings that a start sequence sets from the store (14 R550, R552). -/
def copyImage (c : Core) : Core :=
  let m := c.image
  { c with
    prog := m.prog, dmem := m.data.map (fun e => (e.1, { v := e.2, t := false })),
    segs := (upto 5).foldl (fun t i => tset (0, 0) t i (descWord m (2 * i), descWord m (2 * i + 1))) [],
    rings := (upto 4).foldl (fun t n => tset SubRing.none t n (descRing m n)) [] }

/-- The state of a placement that begins: what an earlier one left in the I/O window is gone (DESIGN CHOICE, log 41). -/
def freshIo (c : Core) : Core :=
  { c with
    irqPend := 0, irqEn := 0, ipc := 0, emitAddr := 0, emitLen := 0, emitStat := 0, emitGen := 0, inbox := [], outbox := [],
    outboxN := 0, misses := 0, beat := false, ie := false, rep := none, slot := none, stalled := none, stopDue := false }

/-- An emit that a revoked placement left behind is dropped by the fence (14 R564). -/
def dropEmit (k : Nat) (s : State) : State := if (coreOf s k).emitStat = 1 then dropStale k none s else s

/-- The registers at the start (13 R505), ENTRY and IVEC (14 R552, R553). -/
def enterCore (cause : Nat) (c : Core) : Core :=
  { c with
    phase := .running, cause := cause, accs := [], pc := descWord c.image 10, ivec := descWord c.image 11, cyc := 0, ie := false,
    regs := [(rSCALE, { v := 0x40, t := false }), (rBEXP, { v := 0x1700, t := false })], misses := 0, beat := false }

/-- KERNEL_ENTRY (14 R553): a started core reaches ENTRY. -/
def kernelEntry (k : Nat) (s : State) : State :=
  let c := coreOf s k
  if c.phase = .starting then postKernel 2 k c.gen 0 0 [] (modCore k (enterCore 1) s) else s

/-- The core runs or waits, counted from the reply of KRN_START (14 R553). -/
def coreActive (c : Core) : Bool := c.phase == .running || c.phase == .waiting || c.phase == .starting

/-- A failover to the core is under way: it is taken, though neither running nor waiting (14 R569). -/
def coreTaken (c : Core) (k : Nat) : Bool := match c.failFrom with
  | some (old, _) => old != k
  | none => false

/-- The core stands in the spare pool, whether or not its island is on (14 R563, R567). -/
def coreSpare (s : State) (k : Nat) : Bool :=
  s.kernels.spares.testBit k && !coreActive (coreOf s k) && (coreOf s k).phase != .quarantined

/-- The core that a timecode output reserves (01 R46). -/
def reservedCore (s : State) (k : Nat) : Bool :=
  timecodeOn s && coreAllowed s k && (upto 16).all (fun j => decide (j ≤ k) || !coreAllowed s j)

/-! ### Emits (14 R558) -/

/-- EMIT_DONE: the body of a busy emit is read, and its message is committed, or dropped by the fence. -/
def emitDone (k : Nat) (errs : List Nat) (s : State) : State :=
  let c := coreOf s k
  let b := slotBank (c.emitAddr - 0x400000)
  if c.emitStat ≠ 1 || bankWaits s k b then s
  else if c.emitGen ≠ c.gen ∨ c.gen = 0 then dropStale k none (modCore k (fun c => { c with emitStat := 0 }) s)
  else if !bankServes s k b then
    modCore k (fun c => kPend 8 { c with emitStat := 3 }) (refuseBank k b false s)
  else
    let addr := slotAddr (c.emitAddr - 0x400000)
    let gs := granulesOf addr c.emitLen
    let x := decodeGranules gs errs s
    let s := x.1
    let chain := 128 * b2n (gs.any (poisoned s)) + 8 * b2n x.2
    let s := postKernel 6 k c.gen 0 chain (bankBytes s addr c.emitLen) s
    modCore k (fun c => kPend 8 { c with emitStat := 2, emits := (c.emits + 1) % 2 ^ 32 }) s

/-! ### Subscriptions (14 R555 to R557) -/

/-- The dump records of the epoch that a subscription still awaits. -/
def dumpsLeft (s : State) (r : SubRing) : Bool :=
  (assignedChannels s).any (fun c => decide (bitsOf r.filter 7 0 ≤ c ∧ c ≤ bitsOf r.filter 15 8)
    && (upto 24).any (fun a => r.apr.testBit a && !(caOf s c a).dump.isEmpty && !(caOf s c a).committed))

/-- The body of an entry: a dump record, or the packet of a message for this placement (14 R556). -/
def entryBody (d : Delivery) (seq : Nat) : List Byte :=
  if d.dump then d.body
  else msgBytes { id := d.id, cls := d.cls, inst := d.inst, chain := d.chain, gen := d.gen, label := 0, class1 := false,
                  payload := d.body, provPayload := none, provTulle := false } seq d.body

/-- An entry as it lies in the ring: header, body, zeros up to a multiple of 32 bytes. -/
def entryBytes (d : Delivery) (seq : Nat) : List Byte :=
  let b := entryBody d seq
  let e := le 2 b.length ++ le 1 d.kind ++ le 1 d.chain ++ le 2 d.gen ++ le 2 seq ++ b
  e ++ zeros (cdiv e.length 32 * 32 - e.length)

/-- The marker at the abandoned end of a ring. -/
def ringMarker (draw : Nat) : List Byte := zeros 3 ++ le 5 (Config.markerHead draw).toNat ++ zeros 24

/-- Where an entry of `slots` slots goes: its offset, and how far WR advances; none = it would bring WR onto RD. -/
def ringRoom (r : SubRing) (slots : Nat) : Option (Nat × Nat) :=
  let free := r.len - (r.wr + r.len - r.rd % r.len) % r.len
  let start := if r.wr + slots ≤ r.len then r.wr else 0
  let adv := if start = r.wr then slots else r.len - r.wr + slots
  if r.len = 0 ∨ free ≤ adv then none else some (start, adv)

/-- Write one entry into ring `n` of core `k`; granules written from a poisoned delivery are poisoned (01 R34). `errs` are the wrong
bits of the granules that the entry covers in part (15 R582). -/
def putEntry (k n : Nat) (d : Delivery) (errs : List Nat) (s : State) : State :=
  let r := subRing (coreOf s k) n
  let seq := r.seqNo
  let bytes := entryBytes d seq
  let b := slotBank (r.ring - 0x400000)
  let base := slotAddr (r.ring - 0x400000)
  let setRing := fun (f : SubRing → SubRing) (t : State) => modCore k (fun c => { c with rings := tmod SubRing.none c.rings n f }) t
  let s := setRing (fun x => { x with seqNo := (x.seqNo + 1) % 65536 }) s
  match ringRoom r (bytes.length / 4) with
  | none => modCore k (fun c => { c with subDrops := tmod 0 c.subDrops n (fun v => sat 255 (v + 1)) }) s
  | some (start, adv) =>
    if !bankServes s k b then refuseBank k b true s
    else
      let s := writeBank (base + 4 * start) bytes (d.chain.testBit 7) errs s
      let s := if start = r.wr then s else
        writeBank (base + 4 * r.wr) (ringMarker s.kernels.draws) false [] { s with kernels.draws := s.kernels.draws + 1 }
      setRing (fun x => { x with wr := (r.wr + adv) % r.len }) s

/-- The first delivery that waits for core `k`, and the others. -/
def takeDelivery (k : Nat) : List Delivery → Option (Delivery × List Delivery)
  | [] => none
  | d :: t => if d.core = k then some (d, t) else (takeDelivery k t).map (fun x => (x.1, d :: x.2))

/-- SUBSCRIPTION_DELIVERY (14 R556, R557, R564). The SUB bit tells of entries in the ring: a message that was dropped or refused
sets none (DEDUCED, log 77). -/
def subscriptionDelivery (k : Nat) (errs : List Nat) (s : State) : State := match takeDelivery k s.kernels.deliveries with
  | none => s
  | some (d, rest) =>
    let r := subRing (coreOf s k) d.ring
    let b := slotBank (r.ring - 0x400000)
    if bankWaits s k b then s
    else
      let s := { s with kernels.deliveries := rest }
      if d.gen ≠ (coreOf s k).gen ∨ d.gen = 0 then dropStale k (some b) s
      else
        let s := putEntry k d.ring d errs s
        let new := d.kind == 1 || (subRing (coreOf s k) d.ring).wr != r.wr
        let more := d.kind == 1 && (rest.any (fun e => e.core == k && e.ring == d.ring && e.dump) || dumpsLeft s r)
        if more || !new then s else modCore k (kPend (2 ^ (4 + d.ring))) s

/-! ### Watchdog and failover (14 R560 to R562) -/

/-- The check of every measurement epoch (14 R560), and the EPOCH bit (14 R548). -/
def kernelEpoch (s : State) : State :=
  foldS (fun k t =>
    let c := coreOf t k
    if (c.phase == .running || c.phase == .waiting) && c.gen != 0 then
      modCore k (fun c =>
        let c := kPend 1 c
        if !c.watchdog || decide (3 ≤ c.misses) then c
        else if c.beat then { c with beat := false } else { c with misses := c.misses + 1 }) t
    else t) (upto 16) s

/-- The spare that takes over: the lowest of the pool, of the same kind, whose self-test result is not FAIL (14 R562).
A core whose island is not ready is passed over (DESIGN CHOICE, log 77). -/
def spareFor (s : State) (dead : Nat) : Option Nat :=
  (upto 16).find? (fun k => k != dead && coreSpare s k && islandReady s (26 + k) && !coreTaken (coreOf s k) k && kTransform k == kTransform dead
    && (bstOf s (38 + k)).result != 2)

/-- Provisional measurement entries delivered to the old core count as delivered to the spare (04 R178, 07 R319). -/
def moveProv (old new : Nat) (s : State) : State :=
  { s with acq.provSent := (upto 192).foldl (fun t c =>
      tset [] (tset [] t (32 * c + 16 + new) (tget [] t (32 * c + 16 + old))) (32 * c + 16 + old) []) s.acq.provSent }

/-- The store, the banks and the generation G + 1 pass to the spare; it starts with FAILOVER_START. -/
def moveToSpare (dead gen sp : Nat) (s : State) : State :=
  let d := coreOf s dead
  let s := handAll dead (coreOwner sp) 3 s
  let s := modCore sp (fun c =>
    let c := copyImage { freshIo c with image := d.image }
    { c with
      phase := .idle, gen := nextGen gen, lastGen := nextGen gen, watchdog := d.watchdog, eligible := d.eligible,
      failFrom := some (dead, gen),
      rings := (upto 4).foldl (fun t n => tset SubRing.none t n
        { subRing c n with wr := (subRing d n).wr, rd := (subRing d n).rd, seqNo := (subRing d n).seqNo }) [] }) (dropEmit sp s)
  let s := modCore dead (fun c => { c with image := Image.empty }) s
  moveProv dead sp { s with kernels.spares := setBit s.kernels.spares sp false }

/-- KERNEL_WATCHDOG_EXPIRY (14 R561, R562): three measurement epochs without a heartbeat. -/
def watchdogExpiry (k : Nat) (s : State) : State :=
  let c := coreOf s k
  if c.watchdog && decide (3 ≤ c.misses) && c.gen != 0 then
    let f : KFault := { code := 4, seg := 255, access := 255, reg := 255, pc := c.pc, word2 := 0, off := 0 }
    let rec' := faultBytes s c f
    let s := modCore k (fun c => { kStopped .quarantined c with faultRec := rec', gen := 0, posted := [] }) s
    let s := foldS (fun (p : PostedStore) t => dropStale k (some (slotBank p.slot)) t) c.posted s
    let s := postKernel 4 k c.gen 0 0 rec' s
    match if c.eligible then spareFor s k else none with
    | some sp => moveToSpare k c.gen sp s
    | none =>
      let s := handAll k 1 4 s
      if c.eligible then modCore k (fun c' => { c' with failFrom := some (k, c.gen) }) s else s
  else s

/-- FAILOVER_START (14 R562): the spare of the dead core `k` starts, or failover is reported impossible. -/
def failoverStart (k : Nat) (s : State) : State :=
  match (upto 16).find? (fun j => match (coreOf s j).failFrom with | some (old, _) => old == k | none => false) with
  | none => s
  | some j =>
    let gen := ((coreOf s j).failFrom.getD (0, 0)).2
    let s := modCore j (fun c => { c with failFrom := none }) s
    if j = k then logErr 0x48 3 0x0C k (postKernel 8 k gen 0 0 [] s)
    else
      let s := modCore j (enterCore 2) s
      postKernel 5 j (coreOf s j).gen k 0 (le 2 gen ++ zeros 2) s

/-- A quarantined core passes a self-test slice (14 R550, R561). -/
def quarantineEnd (k : Nat) (s : State) : State :=
  if (coreOf s k).phase = .quarantined then
    postKernel 7 k 0 0 0 [] (modCore k (fun c => { c with phase := .idle, image := Image.empty }) s)
  else s

/-! ### Commands (14 R551 to R554, R559, R563, R567) -/

/-- The words of a packet of 4-byte slots. -/
def slotWords (b : List Byte) : List Nat := (chunks 4 1024 b).map ofLe

/-- The offsets that a store target has. -/
def targetSize (t : Nat) : Nat := if t = 0 then 16384 else if t = 1 then 65536 else 32

/-- A target of an image store. -/
def imageOf (m : Image) (t : Nat) : Tab (BitVec 24) := if t = 0 then m.prog else if t = 1 then m.data else m.desc

/-- Put words into a target of an image store. -/
def storeWords (m : Image) (t off : Nat) (ws : List (BitVec 24)) : Image :=
  let new := tsetMany 0 (imageOf m t) off ws
  let m := if t = 0 then { m with prog := new } else if t = 1 then { m with data := new } else { m with desc := new }
  { m with high := tmod 0 m.high t (fun h => max h (off + ws.length)), due := m.due ++ [t] }

/-- KRN_LOAD (14 R551). -/
def krnLoadAct (p : Packet) (s : State) : CmdOut :=
  let b := p.params
  let k := u8 b 0
  let t := u8 b 1
  let n := u16 b 2
  let off := u32 b 4
  let ws := slotWords (b.drop 12)
  rejectIf (decide (15 < k) || decide (2 < t) || n == 0 || decide (1020 < n) || decide (targetSize t < off + n) || !zeroAt b 8 4
    || ws.any (fun w => decide (2 ^ 24 ≤ w))) .badValue <|
  rejectIf (coreActive (coreOf s k) || (coreOf s k).phase == .quarantined || coreSpare s k || coreTaken (coreOf s k) k) .badState <|
  done (modCore k (fun c => { c with image := storeWords c.image t off (ws.map (BitVec.ofNat 24)) }) s)

def specKrnLoad : OpSpec :=
  { opcode := 0x0C01, critical := true, minLen := 16, maxLen := 4092, form := fun b => some (12 + 4 * u16 b 2),
    islands := fun _ _ => [], reach := fun _ _ => [], mram := false, act := krnLoadAct }

/-- IMAGE_STORED (14 R551): the CRC of a loaded target. -/
def imageStored (k : Nat) (s : State) : State :=
  let m := (coreOf s k).image
  match m.due with
  | [] => s
  | t :: rest =>
    let crc := crc32c ((upto (tget 0 m.high t)).flatMap (fun i => le 4 (tget 0 (imageOf m t) i).toNat))
    postKernel 1 k 0 t 0 (le 4 crc) (modCore k (fun c => { c with image := { c.image with due := rest } }) s)

/-- The island and the self-test block of the core that a command names. -/
def coreOp (opcode : Nat) (critical : Bool) (len : Nat) (act : Packet → State → CmdOut) : OpSpec :=
  { plainOp opcode critical len act with
    islands := fun b _ => if u8 b 0 ≤ 15 then [26 + u8 b 0] else [],
    reach := fun b _ => if u8 b 0 ≤ 15 then [38 + u8 b 0] else [] }

/-- KRN_START (14 R553; 17 R624; 01 R45, R46). -/
def krnStartAct (p : Packet) (s : State) : CmdOut :=
  let b := p.params
  let k := u8 b 0
  let f := u8 b 1
  let c := coreOf s k
  rejectIf (decide (15 < k) || f == 2 || decide (3 < f) || !zeroAt b 2 6) .badValue <|
  rejectIf (coreActive c || c.phase == .quarantined || coreTaken c k || tget 0 c.image.high 2 == 0 || !descOk c.image
    || reservedCore s k || (bstOf s (38 + k)).result == 2) .badState <|
  rejectIf ((descRings c.image).any (fun r => !kOwns s k (slotBank (r.ring - 0x400000)))) .notOwner <|
  rejectIf (!coreAllowed s k) .profileLimit <|
  let g := nextGen c.lastGen
  answer (le 1 k ++ zeros 1 ++ le 2 g) (modCore k (fun c =>
    { copyImage (freshIo c) with
      phase := .starting, gen := g, lastGen := g, watchdog := bitOf f 0, eligible := bitOf f 1, cause := 1 })
    { dropEmit k s with kernels.spares := setBit s.kernels.spares k false })

def specKrnStart : OpSpec := coreOp 0x0C02 true 8 krnStartAct

/-- A stop reaches one core (14 R553, R554): at once at an instruction boundary, else when the run or the load ends. -/
def stopCore (k : Nat) (s : State) : State :=
  let c := coreOf s k
  if !coreActive c then s
  else if c.phase = .running ∧ (c.rep.isSome ∨ c.stalled.isSome) then modCore k (fun c => { c with stopDue := true }) s
  else haltCore k 2 s

/-- KRN_STOP (14 R554). -/
def krnStopAct (p : Packet) (s : State) : CmdOut :=
  let b := p.params
  let k := u8 b 0
  let g := u16 b 2
  rejectIf ((decide (15 < k) && k != 255) || (k == 255 && g != 0) || !zeroAt b 1 1) .badValue <|
  rejectIf (g != 0 && g != (coreOf s k).gen) .staleGeneration <|
  done (foldS stopCore (if k = 255 then upto 16 else [k]) s)

def specKrnStop : OpSpec := coreOp 0x0C03 false 4 krnStopAct

/-- STATE of KRN_STATUS (14 R567). -/
def coreCode (s : State) (k : Nat) : Nat :=
  if !islandOn s (26 + k) then 0
  else if coreSpare s k then 7
  else match (coreOf s k).phase with
    | .idle => 1 | .starting => 2 | .running => 2 | .waiting => 3 | .halted => 4 | .faulted => 5 | .quarantined => 6

/-- KRN_STATUS (14 R567). -/
def krnStatusAct (p : Packet) (s : State) : CmdOut :=
  let b := p.params
  let k := u8 b 0
  let c := coreOf s k
  let flags := b2n c.watchdog + 2 * b2n c.eligible + 4 * b2n c.ie + 8 * b2n (tget 0 c.image.high 2 != 0)
  rejectIf (decide (15 < k) || !zeroAt b 1 3) .badValue <|
  answer (le 1 k ++ le 1 (coreCode s k) ++ le 1 flags ++ le 1 c.cause ++ le 2 c.gen ++ zeros 2 ++ le 4 (kReg c rSATC).v.toNat
    ++ le 4 (kReg c rDZC).v.toNat ++ c.faultRec ++ le 2 c.stale ++ le 2 c.refused
    ++ (upto 4).flatMap (fun n => le 1 (tget 0 c.subDrops n)) ++ le 4 c.emits ++ le 2 c.misses ++ zeros 2) s

def specKrnStatus : OpSpec := plainOp 0x0C04 false 4 krnStatusAct

/-- KRN_SPARES (14 R563). -/
def krnSparesAct (p : Packet) (s : State) : CmdOut :=
  let b := p.params
  let m := u16 b 0
  rejectIf (!zeroAt b 2 2) .badValue <|
  rejectIf ((maskBits 16 m).any (fun k => coreActive (coreOf s k) || coreTaken (coreOf s k) k || reservedCore s k)) .badState <|
  rejectIf ((maskBits 16 m).any (fun k => !coreAllowed s k)) .profileLimit <|
  done { s with kernels.spares := m }

def specKrnSpares : OpSpec := plainOp 0x0C05 false 4 krnSparesAct

/-- KRN_MAILBOX (14 R559). -/
def krnMailboxAct (p : Packet) (s : State) : CmdOut :=
  let b := p.params
  let k := u8 b 0
  let op := u8 b 1
  let g := u16 b 2
  let n := u8 b 4
  let c := coreOf s k
  let ws := slotWords (b.drop 8)
  rejectIf (decide (15 < k) || decide (1 < op) || decide (64 < n) || (op == 0 && n == 0) || !zeroAt b 5 3
    || ws.any (fun w => decide (2 ^ 24 ≤ w))) .badValue <|
  rejectIf (!coreActive c) .badState <|
  rejectIf (g != 0 && g != c.gen) .staleGeneration <|
  rejectIf (op == 0 && !c.inbox.isEmpty) .noResource <|
  if op = 0 then done (modCore k (fun c => kPend 2 { c with inbox := ws.map (BitVec.ofNat 24) }) s)
  else
    let got := (upto (min n c.outboxN)).map (fun i => tget KVal.zero c.outbox i)
    let all := decide (0 < c.outboxN ∧ c.outboxN ≤ n)
    .ok (128 * b2n (got.any (fun w => w.t))) (got.flatMap (fun w => le 4 w.v.toNat))
      (if all then modCore k (fun c => kPend 4 { c with outboxN := 0 }) s else s)

def specKrnMailbox : OpSpec :=
  { coreOp 0x0C06 false 8 krnMailboxAct with
    maxLen := 264, form := fun b => some (if u8 b 1 = 0 then 8 + 4 * u8 b 4 else 8) }

/-! ### Rows of a kernel's own register writes (14 R548, R549, R558, R560; 14 R538) -/

/-- A write of core `k` to a register of its own, while it is placed. -/
def kernelWrite (k : Nat) (f : Core → Core) (s : State) : State :=
  if (coreOf s k).phase == .running || (coreOf s k).phase == .waiting then modCore k f s else s

def execHeartbeat (k : Fin 16) (s : State) : Host.Outcome State Fault Refusal := .next (kernelWrite k ioHeartbeat s)
def execIrqPendClear (k : Fin 16) (v : BitVec 24) (s : State) : Host.Outcome State Fault Refusal :=
  .next (kernelWrite k (ioPendClear v.toNat) s)
def execEmitLenWrite (k : Fin 16) (v : BitVec 24) (s : State) : Host.Outcome State Fault Refusal :=
  .next (kernelWrite k (ioEmitLen v.toNat) s)
def execEmitDone (k : Fin 16) (errs : List Nat) (s : State) : Host.Outcome State Fault Refusal := .next (emitDone k errs s)
def execInboxAck (k : Fin 16) (s : State) : Host.Outcome State Fault Refusal := .next (kernelWrite k ioInboxAck s)
def execOutboxNWrite (k : Fin 16) (v : BitVec 24) (s : State) : Host.Outcome State Fault Refusal :=
  .next (kernelWrite k (ioOutboxN v.toNat) s)
/-- BEXP_WRITE: an untagged value written to BEXP of a transform core (14 R537, R538). -/
def execBexpWrite (k : Fin 16) (v : BitVec 24) (s : State) : Host.Outcome State Fault Refusal :=
  .next (if kTransform k then kernelWrite k (fun c => kWrite c rBEXP { v := v, t := false }) s else s)
def execSubscriptionDelivery (k : Fin 16) (errs : List Nat) (s : State) : Host.Outcome State Fault Refusal := .next (subscriptionDelivery k errs s)
def execImageStored (k : Fin 16) (s : State) : Host.Outcome State Fault Refusal := .next (imageStored k s)
def execKernelEntry (k : Fin 16) (s : State) : Host.Outcome State Fault Refusal := .next (kernelEntry k s)
def execKernelWatchdogExpiry (k : Fin 16) (s : State) : Host.Outcome State Fault Refusal := .next (watchdogExpiry k s)
def execFailoverStart (k : Fin 16) (s : State) : Host.Outcome State Fault Refusal := .next (failoverStart k s)
def execInterruptEntry (k : Fin 16) (s : State) : Host.Outcome State Fault Refusal := .next (interruptEntry k s)
def execBankLoadReturn (k : Fin 16) (stall errs : Nat) (s : State) : Host.Outcome State Fault Refusal :=
  .next (bankLoadReturn k stall errs s)
def execPostedStoreCommit (k : Fin 16) (stall errs : Nat) (s : State) : Host.Outcome State Fault Refusal :=
  .next (postedCommit k stall errs s)
def execIllegalInstruction (k : Fin 16) (s : State) : Host.Outcome State Fault Refusal := .next (kIllegal k s)
def execWaitWake (k : Fin 16) (cycles : Nat) (s : State) : Host.Outcome State Fault Refusal := .next (waitWake k cycles s)
def execKrnLoad (p : Packet) (s : State) : Host.Outcome State Fault Refusal := .next (runCmd specKrnLoad p s)
def execKrnStart (p : Packet) (s : State) : Host.Outcome State Fault Refusal := .next (runCmd specKrnStart p s)
def execKrnStop (p : Packet) (s : State) : Host.Outcome State Fault Refusal := .next (runCmd specKrnStop p s)
def execKrnStatus (p : Packet) (s : State) : Host.Outcome State Fault Refusal := .next (runCmd specKrnStatus p s)
def execKrnSpares (p : Packet) (s : State) : Host.Outcome State Fault Refusal := .next (runCmd specKrnSpares p s)
def execKrnMailbox (p : Packet) (s : State) : Host.Outcome State Fault Refusal := .next (runCmd specKrnMailbox p s)

end Sys2Proof.Machine
end

