-- ==== Sys2Proof/Machine/ClockBase.lean ====
section
/-! DEFINITION. Clock outputs, the correction shape and the lag of the outputs that follow the time count (09 R374 to R384): what
the time engine and the clock commands share. -/
namespace Sys2Proof.Machine

/-! ### The grid and the rate of the time count (08 R322, R323) -/

/-- A millisecond of the nominal time count, in 2^-32 grid units. -/
def msNominal : Int := (35200000 * 2 ^ 32 : Nat)
/-- A grid unit, in the units of `pos`. -/
def gridOne : Int := (2 ^ 32 : Nat)

/-- The frequency error that TC removes: none while UNSET (08 R379 of 09: y_F is 0). -/
def freqApplied (n : Nunar) : Int := if n.st = 0 then 0 else n.freq

/-- A millisecond of the selected scale on the sample clock, in 2^-32 grid units, but for changes of A. -/
def msLen (n : Nunar) : Int := msNominal + freqApplied n * msNominal / 1000000000000000000

/-- A duration in ps, in 2^-32 grid units. -/
def psToGrid (n : Nunar) (ps : Int) : Int := ps * msLen n / 1000000000

/-- The nearest grid point, ties to the earlier one (08 R349). -/
def nearestGrid (p : Int) : Int := (p + (2 ^ 31 : Nat) - 1) / gridOne

/-- What a slew moves A in a millisecond, ps: RATE, and at its end what is left (08 R341). -/
def slewMove (n : Nunar) : Int := clampI (-(n.rate : Int)) n.rate n.slew

/-- The length of a millisecond in which A moves by `m` ps, in 2^-32 grid units: within 704 grid units of the nominal one (08 R323). -/
def lenWith (n : Nunar) (m : Int) : Int :=
  clampI (msNominal - 704 * gridOne) (msNominal + 704 * gridOne) (msLen n - psToGrid n m)

/-- The rate at which TC advances against the sample clock in a millisecond of a length, 10^-18 (09 R379). -/
def tcRate (len : Int) : Int := msNominal * 1000000000000000000 / len - 1000000000000000000

/-- The part of that rate that comes in jumps: a slew and the frequency that TC removes; 0 in UNSET and BROKEN (09 R379, R380). -/
def jumpRate (n : Nunar) : Int := if n.st = 0 ∨ n.st = 5 then 0 else tcRate (lenWith n (slewMove n))

/-- The pulse boundary is the next epoch of the old placement. -/
def stepDue (s : State) : Bool := match s.nunar.step with
  | some p => s.nunar.running && s.epochMs + 1 == p.boundary
  | none => false

/-- The rate at which TC advances against the sample clock in the millisecond in progress, 10^-18: that of its ideal length, which carries no dither of whole
grid units; a step is no part of it; 0 in UNSET and BROKEN (09 R379, R381). -/
def clkYF (s : State) : Int :=
  if s.nunar.st = 0 ∨ s.nunar.st = 5 then 0 else if stepDue s then s.nunar.rateY else tcRate s.nunar.plan

/-! ### Outputs -/

/-- A clock output. -/
def clkOutOf (s : State) (o : Nat) : ClkOut := tget ClkOut.initial s.clk.outputs o
/-- Change a clock output. -/
def modClkOut (o : Nat) (f : ClkOut → ClkOut) (s : State) : State :=
  { s with clk.outputs := tmod ClkOut.initial s.clk.outputs o f }

/-- The output is enabled. -/
def clkOutOn (x : ClkOut) : Bool := x.format != 0
/-- FOLLOW. -/
def clkFollow (x : ClkOut) : Bool := x.flags.testBit 0
/-- The enabled outputs that follow TC. -/
def followers (s : State) : List Nat := (upto 4).filter (fun o => clkOutOn (clkOutOf s o) && clkFollow (clkOutOf s o))

/-- A clock event (09 R393): the payload of MSG_STATUS. -/
def clkEvent (ev : Nat) (out : Option Nat) (detail : Nat) (value : Int) (s : State) : State :=
  postStatus 0x09 (out.getD 0) (le 1 ev ++ le 1 (out.getD 255) ++ le 1 detail ++ [0] ++ le 8 s.epochMs
    ++ leI 4 (clampI (-2147483648) 2147483647 value)) s

/-- s(t) of a shape in 2^-24 after `t` ms (09 R382). -/
def shapeAt : List (Nat × Nat) → Nat → Nat
  | [], _ => 0
  | (r, d) :: rest, t => r * min t d + shapeAt rest (t - d)

/-- The length of a shape in ms. -/
def shapeLen (segs : List (Nat × Nat)) : Nat := segs.foldl (fun n x => n + x.2) 0

/-- One more millisecond of a shape. -/
def shapeTick (x : Shape) : Shape := { x with t := min (x.t + 1) (shapeLen x.segs) }

/-- The shape has run to its end. -/
def shapeDone (x : Shape) : Bool := decide (shapeLen x.segs ≤ x.t)

/-- What one more millisecond of a shape adds to the lag: the change times 1 - s, taken as linear over the millisecond. -/
def shapeLag (x : Shape) : Int :=
  let t' := min (x.t + 1) (shapeLen x.segs)
  x.dy * ((2 ^ 25 : Nat) - (shapeAt x.segs x.t : Int) - (shapeAt x.segs t' : Int))

/-- A jump in Nunar's rate starts its own shape at once (09 R380, R383). -/
def rateJump (dy : Int) (s : State) : State :=
  if dy = 0 then s else { s with clk.shapes := s.clk.shapes ++ [{ dy := dy, segs := s.clk.shape, t := 0 }] }

/-- The jumps of Nunar's rate: from what the last millisecond had to what the coming one has (09 R380). -/
def takeJump (s : State) : State :=
  let y := jumpRate s.nunar
  rateJump (y - s.nunar.rateY) { s with nunar.rateY := y }

/-- LAG of CLK_STATUS in ps (09 R392). -/
def clkLag (s : State) : Int :=
  let d : Int := (2 ^ 25 * 1000000000 : Nat)
  (2 * s.clk.lag + d) / (2 * d)

/-- 2^24 less s(t) of a shape, `us` microseconds into the coming millisecond, times 1000. -/
def shapeLeft (us : Nat) (x : Shape) : Nat :=
  2 ^ 24 * 1000 - (x.segs.foldl (fun (z : Nat × Nat) e => (z.1 + e.1 * min z.2 (1000 * e.2), z.2 - 1000 * e.2)) (0, 1000 * x.t + us)).1

/-- What shapes hold back of their changes, 10^-18 (09 R380, R382). -/
def heldBack (us : Nat) (l : List Shape) : Int :=
  l.foldl (fun (n : Int) x => n + x.dy * (shapeLeft us x : Int)) 0 / ((2 ^ 24 * 1000 : Nat) : Int)

/-- y_F as a following output has it, `us` microseconds into the millisecond in progress: the jumps of Nunar's rate through their shapes (09
R379, R380, R383). -/
def shapedYF (s : State) (us : Nat) : Int := clkYF s - heldBack us s.clk.shapes

/-- y_F + y_H of an output, 10^-18 (09 R379, R384, R387). -/
def outOffset (s : State) (o us : Nat) : Int :=
  let x := clkOutOf s o
  let ramp : Int := match x.sweep with
    | some ((r, _) :: _) => r * us
    | _ => 0
  (if clkFollow x then shapedYF s us else 0) + (1000 * x.yH + ramp) - heldBack us (x.own.map (·.2))

/-- The spacing of an output's ideal instants in 2^-32 grid units, D cycles scaled by its offset, and what is carried to the next spacing so
that no rounding accumulates (09 R375). -/
def outSpacing (y : Int) (x : ClkOut) : Int × Nat :=
  let m := ((10 ^ 18 : Nat) + y).toNat
  let v := 32 * x.div * 10 ^ 18 + x.carry
  (((v / m : Nat) : Int), v % m)

/-- The nominal half period in grid units (09 R375). -/
def halfPeriod (div : Nat) : Nat := (16 * div + 2 ^ 31) / 2 ^ 32

/-- A phase move lengthens the cycle in progress by `d` modulo the period (09 R377). -/
def lengthen (d period : Int) (x : ClkOut) : ClkOut := { x with next := x.next.map (· + d % period) }

/-- Every following output makes a phase move equal to a step of D, in the cycle in progress: its edges move by -D (09 R381); one that an alignment has
already put on the second of the step has made it (09 R387). -/
def stepOutputs (d : Int) (s : State) : State :=
  let s := foldS (fun o t => modClkOut o (fun x =>
    if x.onStep then x else lengthen (-(psToGrid t.nunar d)) (outSpacing (outOffset t o 0) x).1 x) t) (followers s) s
  foldS (fun o t => modClkOut o (fun x => { x with onStep := false }) t) (upto 4) s

/-- A shape in progress on an output. -/
def shapesRun (s : State) (o : Nat) : Bool :=
  let x := clkOutOf s o
  (clkFollow x && s.clk.shapes.any (fun z => !shapeDone z)) || x.own.any (fun z => !shapeDone z.2)

/-- The part of y_H that a shape still carries, 10^-15. -/
def residualOf (z : Shape) : Int := z.dy * ((shapeAt z.segs z.t : Int) - (2 ^ 24 : Nat)) / ((1000 * 2 ^ 24 : Nat) : Int)

/-- y_H of an output, 10^-15, with what its own shapes carry (09 R384). -/
def yHOf (x : ClkOut) : Int := x.yH + x.own.foldl (fun (n : Int) z => if z.1 then n + residualOf z.2 else n) 0

/-- One millisecond of an output's own shapes and of its sweep in progress (09 R384). -/
def sweepTick (x : ClkOut) : ClkOut :=
  let x : ClkOut := { x with own := x.own.map (fun (z : Bool × Shape) => (z.1, shapeTick z.2)) }
  match x.sweep with
  | some ((r, d) :: rest) => { x with yH := x.yH + r, sweep := some (if d ≤ 1 then rest else (r, d - 1) :: rest) }
  | _ => x

/-- A sweep that waits starts where its time has come, from the y_H reached: what a return to 0 still carries ends there (09 R384, R390). -/
def sweepStart (label : Nat) (x : ClkOut) : ClkOut := match x.nextSweep with
  | some (segs, whole) =>
    if whole && label % 1000 != 0 then x
    else { x with yH := yHOf x, own := x.own.filter (fun z => !z.1), sweep := some segs, nextSweep := none }
  | none => x

/-- A millisecond of the shapes and sweeps. -/
def clkTick (s : State) : State :=
  let lag := s.clk.shapes.foldl (fun n x => n + shapeLag x) s.clk.lag
  let s := { s with clk.lag := lag, clk.shapes := s.clk.shapes.map shapeTick }
  foldS (fun o t => modClkOut o sweepTick t) (upto 4) s

/-- The sweeps that start at an epoch. -/
def startSweeps (s : State) : State := foldS (fun o t => modClkOut o (sweepStart t.epochMs) t) (upto 4) s

end Sys2Proof.Machine
end

