-- ==== Sys2Proof/Machine/Acquisition.lean ====
section
/-! DEFINITION. Damask acquisition and aiding (04): plans, the 1 ms step that fills the lanes, their correlation, dwells, candidates,
verification, hand-off to channels, CONFIRM and REVOKE. -/
namespace Sys2Proof.Machine

/-! ### Records and MSG_ACQ (04 R187) -/

/-- One 32-byte record: the common fields and the bytes from offset 12. -/
def acqRecord (kind signal sv apr epochMs : Nat) (rest : List Byte) : List Byte :=
  (le 1 kind ++ le 1 signal ++ le 1 sv ++ le 1 apr ++ le 8 epochMs ++ rest ++ zeros 20).take 32

/-- The payload of MSG_ACQ. -/
def acqPayload (s : State) (recs : List (List Byte)) : List Byte :=
  le 2 recs.length ++ le 2 (if s.acq.running then s.acq.pass else 0) ++ zeros 4 ++ recs.flatten

/-- A MSG_ACQ of the given records; CONFIRM and REVOKE are class 1 (12 R462). -/
def acqMsg (s : State) (cls1 : Bool) (chain : Nat) (recs : List (List Byte)) : Msg :=
  { msg2 s 0x89 0x04 0 (acqPayload s recs) with class1 := cls1, chain := chain }

/-- Commit records in one MSG_ACQ; none for no record. -/
def postAcq (chain : Nat) (recs : List (List Byte)) (s : State) : State :=
  if recs.isEmpty then s else post (acqMsg s false chain recs) s

/-- The place of a code after `dt` ms at a Doppler (04 R146, R155). -/
def movePlace (signal sv : Nat) (doppler dt tx : Int) : Int := tx + dt * msUnits + dopplerGain (carrierHz signal sv) doppler dt

/-- The place of a candidate's code at the present epoch (04 R155). -/
def Candidate.place (c : Candidate) (s : State) : Int := movePlace c.signal c.sv c.doppler ((s.ms : Int) - c.atMs) c.tx

/-- A row of the signal table for a signal code of a plan. -/
def sigRow (signal : Nat) : SigInfo := (sigOf signal).getD ⟨0x01, 3, 1023000, 2, 1023, 2046, 2, 1, 32, 10, 20, 1575420000, true⟩

/-- A candidate record (kind 1), with the code phase at the antenna pin at the present epoch: the slice samples lag it by the group delay (04 R155;
03 R109). -/
def candRecord (s : State) (c : Candidate) (outcome channel : Nat) : List Byte :=
  acqRecord 1 c.signal c.sv c.apr s.epochMs
    (le 1 outcome ++ le 1 channel ++ le 2 (tenthsDb ((c.z - 256) * 1000) (256 * c.coh)) 
      ++ le 4 (placePhase (sigRow c.signal) (c.place s + groupDelay (sigRow c.signal).slice))
      ++ leI 4 c.doppler ++ le 4 c.z ++ le 1 c.task ++ le 1 c.passed)

/-- Commit a candidate record: kept among the 125 most recent, counted for the plan that made it, and sent (04 R186, R187). -/
def commitCand (c : Candidate) (outcome channel chain : Nat) (s : State) : State :=
  let r := candRecord s c outcome channel
  let keep := if s.acq.results.length < 125 then s.acq.results else s.acq.results.drop (s.acq.results.length - 124)
  postAcq chain [r] { s with
    acq.results := keep ++ [r], acq.candCount := if c.plan = s.acq.plans then sat 255 (s.acq.candCount + 1) else s.acq.candCount }

/-! ### Plans (04 R165 to R168) -/

/-- A task of the loaded plan. -/
def taskOf (s : State) (t : Nat) : Option AcqTask := s.acq.plan.bind (fun p => p.tasks[t]?)

/-- The satellites of a task. -/
def taskSvs (t : AcqTask) : List Nat := match sigOf t.signal with
  | some i => if t.sv = 0 then (upto 256).filter (svOk i) else [t.sv]
  | none => []

/-- A satellite is skipped: FLAGS bit 1, and its elevation is known and below ELEV_MASK (04 R161). -/
def satSkipped (s : State) (mask : Nat) (t : AcqTask) (sv : Nat) : Bool :=
  t.flags.testBit 1 && (match elevOf s t.signal sv with
    | some e => decide (e < mask)
    | none => false)

/-- Insert a satellite in R167 order: descending elevation when known, then ascending SV. -/
def insertSat (e : Option Int × SatRun) : List (Option Int × SatRun) → List (Option Int × SatRun)
  | [] => [e]
  | h :: t =>
    let before : Bool := match e.1, h.1 with
      | some a, some b => decide (b < a)
      | some _, none => true
      | none, _ => false
    if before then e :: h :: t else h :: insertSat e t

/-- Task numbers in R167 order: by PRIORITY, then by entry order. -/
def taskOrder (p : AcqPlan) : List Nat :=
  (upto 8).flatMap (fun pr => (upto p.tasks.length).filter (fun i => (p.tasks[i]?.map (·.prio)) == some pr))

/-- The satellites of the pass in the order in which they are served at this step. -/
def satOrder (s : State) (p : AcqPlan) : List SatRun :=
  (taskOrder p).flatMap (fun i => match p.tasks[i]? with
    | some t => (((s.acq.sats.filter (fun r => r.task == i)).map (fun r => (elevOf s t.signal r.sv, r))).foldl
        (fun l e => insertSat e l) []).map (·.2)
    | none => [])

/-- The satellites that a pass has to search. -/
def passSats (s : State) (p : AcqPlan) : List SatRun :=
  (upto p.tasks.length).flatMap (fun i => match p.tasks[i]? with
    | some t => ((taskSvs t).filter (fun v => !s.acq.dropped.contains (i, v))).map
        (fun v => { task := i, sv := v, opened := false, started := [], shut := false })
    | none => [])

/-- COH_MS actually used: the coarse limit where fine time does not hold (04 R160). -/
def cohUsed (t : AcqTask) (sv : Nat) (w : Window) : Nat :=
  if w.fine then min t.coh (cohFine t.signal sv) else min t.coh (sigRow t.signal).coarse

/-- Doppler bins from the centre outward, the positive one first (04 R167). -/
def binOrder : Nat → List Int
  | 0 => [0]
  | n + 1 => binOrder n ++ [(n + 1 : Int), -(n + 1 : Int)]

/-- The search window of a satellite of a task at the start of a dwell (04 R159). -/
def satWindow (s : State) (t : AcqTask) (sv : Nat) : Window :=
  if t.flags.testBit 0 then aidedWindow s t.signal sv t.doppHalf else openWindow s t.signal sv t.doppHalf

/-- A bin's Doppler: spacing 1000 / (2 COH_MS) Hz, in 0.01 Hz (04 R147). -/
def binDoppler (coh : Nat) (centre bin : Int) : Int := centre + roundDiv (bin * 50000) coh

/-- The aperture serves the slice of a signal. -/
def searchable (s : State) (signal a : Nat) : Bool := aprRunning s a && (aprOf s a).slicesOn.testBit (sliceOfSignal signal)

/-- Accumulators without a sample. -/
def CellSum.zero : CellSum := { coh := (0, 0), pow := 0, cohRes := (0, 0), powRes := 0 }

/-- A segment over `n` cells about a place in the slice samples, at a Doppler, whose dwell starts now. -/
def newSegment (s : State) (signal sv apr coh noncoh n lanes : Nat) (fine : Bool) (bin place doppler : Int) : Segment :=
  { task := 0, signal := signal, sv := sv, apr := apr, bin := bin, coh := coh, lanes := lanes, cells := n, live := true,
    blocksLeft := noncoh, stepsLeft := 0, fine := fine, startMs := s.ms,
    tx := place - ((n - 1) / 2 : Nat) * cellDelay (sigRow signal), doppler := doppler, feed := 0, sums := List.replicate n CellSum.zero, endMs := 0 }

/-- The segments of a satellite in the order of R167, in the window that holds at this step (04 R144, R147, R159). -/
def satSegments (s : State) (i sv : Nat) (t : AcqTask) : List Segment :=
  let g := sigRow t.signal
  let w := satWindow s t sv
  let coh := cohUsed t sv w
  let aprs := (maskBits 24 t.aprMask).filter (searchable s t.signal)
  (binOrder (windowBins w coh)).flatMap (fun b => aprs.map (fun a =>
    { newSegment s t.signal sv a coh t.noncoh (windowCells g w) (windowLanes g w) w.fine b (w.place - groupDelay g.slice)
        (binDoppler coh w.doppler b) with
      task := i }))

/-- A candidate of the satellite is alive: no further segment starts for it (04 R168). -/
def candAlive (s : State) (task sv : Nat) : Bool := s.acq.cands.any (fun c => c.plan == s.acq.plans && c.task == task && c.sv == sv)

/-- Those of them that the pass has not started. -/
def satTodo (s : State) (r : SatRun) : List Segment := match s.acq.plan, taskOf s r.task with
  | some p, some t =>
    if r.shut || candAlive s r.task r.sv || satSkipped s p.elevMask t r.sv then []
    else (satSegments s r.task r.sv t).filter (fun g => !r.started.contains (g.bin, g.apr))
  | _, _ => []

/-! ### The duty window (04 R148 to R151) -/

/-- The length of a window of the profile: the burst in the Burst profile, or 100 ms. -/
def dutyWindow (s : State) : Nat := if s.profile.sel = 4 then s.burst.burstMs else 100
/-- The allowance of a window in active steps. -/
def dutyAllowance (s : State) : Nat := dutyWindow s * s.profile.env.duty / 100

/-- A window begins, with the allowance that the envelope gives it (04 R148, R151). -/
def beginWindow (s : State) : State :=
  { s with acq.used := 0, acq.windowAt := some s.epochMs, acq.windowLen := dutyWindow s, acq.allow := dutyAllowance s }

/-- A block of `coh` steps fits in the allowance and in the window that remain (04 R149). -/
def blockFits (s : State) (coh : Nat) : Bool := match s.acq.windowAt with
  | some t => decide (s.acq.used + coh ≤ s.acq.allow) && decide (t ≤ s.epochMs) && decide (s.epochMs - t + coh ≤ s.acq.windowLen)
  | none => false

/-! ### Correlation (04 R143, R146) -/

/-- A block's coherent sum joins the noncoherent sum, as its squared magnitude; the residue of that addend comes from the residues. -/
def CellSum.close (c : CellSum) : CellSum :=
  { coh := (0, 0), pow := c.pow + power c.coh, cohRes := (0, 0), powRes := (c.powRes + power c.cohRes) % 7 }

/-- A product enters a cell; `cut` at a bit boundary of a data component, across which nothing is integrated coherently (04 R145). -/
def CellSum.add (cut : Bool) (v : Int × Int) (c : CellSum) : CellSum :=
  let c := if cut then c.close else c
  { c with coh := addC c.coh v, cohRes := residueC (addC c.cohRes (residueC v)) }

/-- The replica of a segment's cell 0 over the millisecond that runs, its steering included (04 R146; 08 R324). -/
def segReplica (s : State) (g : Segment) : Replica :=
  let i := sigRow g.signal
  let f := carrierHz g.signal g.sv
  let dt : Int := (s.ms : Int) - g.startMs
  let ph := roundDiv (g.doppler * 4294967296) 100000 + roundDiv (foldedOffset i.slice f * 4294967296) 1000
  let ff := s.nunar.ff
  { tx := movePlace g.signal g.sv g.doppler dt g.tx, txGain := msUnits + dopplerGain f g.doppler 1 + codeFeed ff,
    ph := dt * ph + g.feed, phGain := ph + carrierFeed f ff,
    n := sliceRate i.slice / 1000 }

/-- The period of the secondary code at a place, which fine time gives (04 R145). -/
def segSecondary (g : Segment) (tx : Int) : Option Nat :=
  let n := Config.secondaryPeriods g.signal g.sv
  if g.fine ∧ 1 < n then some (tx / periodUnits (sigRow g.signal) % n).toNat else none

/-- A bit boundary lies between two places of a data component under fine time. -/
def bitBetween (g : Segment) (tx tx' : Int) : Bool :=
  let n : Int := max 1 (Config.symbolPeriods g.signal g.sv)
  let p := periodUnits (sigRow g.signal)
  g.fine && isData g.signal && tx / p / n != tx' / p / n

/-- One cell over the samples of a unit, wiped of the carrier. -/
def cellUnit (g : Segment) (r : Replica) (off : Int) : List (Int × Int) → Nat → CellSum → CellSum
  | [], _, c => c
  | v :: t, k, c =>
    let tx := r.txAt k + off
    let cut := bitBetween g (tx - r.txGain / r.n) tx
    cellUnit g r off t (k + 1) (CellSum.add cut (despread (sigRow g.signal) g.sv (segSecondary g tx) tx v) c)

/-- A transfer unit from sample `k` on enters a segment whose block runs. -/
def segUnit (s : State) (k : Nat) (unit : List (BitVec 6 × BitVec 6)) (g : Segment) : Segment :=
  let r := segReplica s g
  let vs := unit.mapIdx (fun j z => r.wipe (k + j) z)
  { g with sums := g.sums.mapIdx (fun c x => cellUnit g r (c * cellDelay (sigRow g.signal)) vs k x) }

/-- A segment takes the unit of slice `i` of aperture `a` in a step that it runs. -/
def segTakes (g : Segment) (a i : Nat) : Bool := g.live && g.stepsLeft != 0 && g.apr == a && sliceOfSignal g.signal == i

/-- Damask takes a transfer unit of slice `i` of aperture `a`. -/
def damaskUnit (a i : Nat) (s : State) : State :=
  let u := sliceOf s a i
  let f := fun (g : Segment) => if segTakes g a i then segUnit s u.unitPos u.unit g else g
  if islandReady s 24 then
    { s with acq.segs := s.acq.segs.map f, acq.cands := s.acq.cands.map (fun c => { c with dwell := c.dwell.map (·.map f) }) }
  else s

/-! ### The step (04 R143 to R149, R167 to R170) -/

/-- The segments of the verification dwells. -/
def verifySegs (s : State) : List Segment := s.acq.cands.flatMap (fun c => c.dwell.getD [])

/-- Lanes in use: those of the segments in progress. -/
def lanesUsed (s : State) : Nat :=
  s.acq.segs.foldl (fun n g => n + g.lanes) 0 + ((verifySegs s).filter (fun g => g.live && g.blocksLeft != 0)).length

/-- A satellite drops out of this pass and of all later ones (04 R168). -/
def dropSat (task sv : Nat) (s : State) : State :=
  { s with acq.dropped := if s.acq.dropped.contains (task, sv) then s.acq.dropped else s.acq.dropped ++ [(task, sv)],
           acq.sats := s.acq.sats.filter (fun r => !(r.task == task && r.sv == sv)) }

/-- A candidate's satellite drops out, while the plan that made it is the present one. -/
def dropCand (c : Candidate) (s : State) : State := if c.plan = s.acq.plans then dropSat c.task c.sv s else s

/-- A candidate's verification dwell is due: its segments are to start, or the next dwell's are. -/
def verifyDue (c : Candidate) : Bool := c.passed != 2 && (match c.dwell with
  | none => true
  | some l => l.any (fun g => !g.live))

/-- The three segments of a verification dwell (04 R170): the candidate's bin and one on each side, 8 cells to either side of its code phase;
none has its lane yet. -/
def verifyList (s : State) (c : Candidate) : List Segment :=
  [0, 1, -1].map (fun b =>
    { newSegment s c.signal c.sv c.apr c.coh c.noncoh 17 1 false b (c.place s) (binDoppler c.coh c.binDoppler b) with
      task := c.task, live := false })

/-- A candidate's waiting verification segments start while lanes are free, each propagated to its start; `n` lanes are in use. -/
def startVerify (s : State) (c : Candidate) (n : Nat) : Candidate :=
  let l := c.dwell.getD (verifyList s c)
  let new := verifyList s c
  { c with dwell := some (l.mapIdx (fun j g =>
      let before := ((l.take j).filter (fun g => !g.live)).length
      if g.live || decide (256 < n + before + 1) then g
      else { (new.getD j g) with live := true, fine := c.fine })) }

/-- Verification segments take free lanes first, oldest candidate first (04 R167, R170). -/
def fillVerification (s : State) : State :=
  (upto s.acq.cands.length).foldl (fun u i =>
    { u with acq.cands := u.acq.cands.mapIdx (fun j c => if j = i ∧ verifyDue c then startVerify u c (lanesUsed u) else c) }) s

/-- Start the waiting segments of one satellite for which lanes are free; a segment that does not fit waits (04 R167). -/
def fillSat (r : SatRun) (s : State) : State :=
  let x := (satTodo s r).foldl (fun (acc : Nat × List Segment) g =>
    if acc.1 + g.lanes ≤ 256 then (acc.1 + g.lanes, acc.2 ++ [g]) else acc) (lanesUsed s, [])
  let cells := x.2.foldl (fun n g => n + g.cells) 0
  { s with
    acq.segs := s.acq.segs ++ x.2, acq.passCells := s.acq.passCells + cells, acq.cells := tmod 0 s.acq.cells r.task (· + cells),
    acq.sats := s.acq.sats.map (fun q => if q.task = r.task ∧ q.sv = r.sv then
      { q with opened := true, started := q.started ++ x.2.map (fun g => (g.bin, g.apr)) } else q) }

/-- Fill the free lanes with search segments (04 R167): nothing new starts while lanes are full. -/
def fillSearch (s : State) : State := match s.acq.plan with
  | some p => foldS (fun r u => if 256 ≤ lanesUsed u then u else fillSat r u) (satOrder s p) s
  | none => s

/-- Start the coherent block of a segment that is between blocks, where it fits (04 R149). -/
def startBlock (s : State) (g : Segment) : Segment :=
  if g.live ∧ g.stepsLeft = 0 ∧ g.blocksLeft ≠ 0 ∧ blockFits s g.coh then { g with stepsLeft := g.coh } else g

/-- Start the coherent blocks that fit. -/
def startBlocks (s : State) : State :=
  { s with
    acq.cands := s.acq.cands.map (fun c => { c with dwell := c.dwell.map (·.map (startBlock s)) }),
    acq.segs := s.acq.segs.map (startBlock s) }

/-- A lane runs in this step. -/
def stepActive (s : State) : Bool := (s.acq.segs ++ verifySegs s).any (fun g => g.stepsLeft != 0)

/-- A segment at the end of a step: its block ends with its last step, and its dwell with the last block (04 R146). -/
def stepSeg (now : Nat) (g : Segment) : Segment :=
  if g.stepsLeft = 0 then g
  else if g.stepsLeft ≠ 1 then { g with stepsLeft := g.stepsLeft - 1 }
  else { g with
    stepsLeft := 0, blocksLeft := g.blocksLeft - 1, sums := g.sums.map CellSum.close, endMs := if g.blocksLeft = 1 then now else g.endMs }

/-- The end of the step that ran, at an epoch: a dwell whose aperture has left the running state is discarded (04 R169; between bursts its blocks
wait, R150; log 63), blocks and dwells that are complete end (04 R146, R148). -/
def acqFinish (s : State) : State :=
  let s := { s with acq.segs := s.acq.segs.filter (fun g => betweenBursts s || searchable s g.signal g.apr) }
  let active := stepActive s
  let steps := s.acq.segs.foldl (fun t g => if g.stepsLeft = 0 then t else tmod 0 t g.task (· + g.lanes)) s.acq.laneSteps
  let segs := s.acq.segs.map (stepSeg s.ms)
  { s with
    acq.laneSteps := steps, acq.segs := segs.filter (fun g => g.blocksLeft != 0),
    acq.endedSegs := s.acq.endedSegs ++ segs.filter (fun g => g.blocksLeft == 0),
    acq.cands := s.acq.cands.map (fun c => { c with dwell := c.dwell.map (·.map (stepSeg s.ms)) }),
    acq.used := s.acq.used + b2n active, acq.activeMs := s.acq.activeMs + b2n (active && s.acq.running) }

/-- Release of a provisional channel at the next measurement epoch (04 R176). -/
def revokeChannel (c cause : Nat) (s : State) : State :=
  modChan c (fun x => { x with revokeDue := some (x.revokeDue.getD cause) }) s

/-- A candidate ends. -/
def endCand (c : Candidate) (outcome chain : Nat) (channel : Nat) (s : State) : State :=
  commitCand c outcome channel chain
    { s with acq.cands := s.acq.cands.filter (fun d => !(d.plan == c.plan && d.task == c.task && d.sv == c.sv)) }

/-- What the apertures and channels have done to the search: lost apertures and released channels of provisional candidates (04 R176),
satellites that are tracked or have no aperture left (04 R168). Release cause 14 = aperture lost. -/
def acqUpkeep (s : State) : State :=
  let s := { s with acq.segs := s.acq.segs.filter (fun g => searchable s g.signal g.apr) }
  let s := foldS (fun (c : Candidate) t => match c.channel with
    | some ch =>
      let x := chanOf t ch
      if !x.provisional || x.revokeDue.isSome || x.pendRelease.isSome then endCand c 10 0 ch t
      else if !aprRunning t c.apr then endCand c 10 0 ch (revokeChannel ch 14 t)
      else t
    | none => if aprRunning t c.apr || c.passed == 2 then t else endCand c 4 0 255 t) s.acq.cands s
  foldS (fun (r : SatRun) t => match taskOf t r.task with
    | some k => if tracks t k.signal r.sv || (maskBits 24 k.aprMask).all (fun a => !aprRunning t a) then dropSat r.task r.sv t else t
    | none => t) s.acq.sats s

/-! ### Ends of passes, tasks and plans (04 R168, R184, R187) -/

/-- A task-end record (kind 4). -/
def taskEndRecord (s : State) (i cause : Nat) : List Byte :=
  let t := taskOf s i
  acqRecord 4 ((t.map (·.signal)).getD 0) ((t.map (·.sv)).getD 0) 255 s.epochMs
    (le 1 i ++ le 1 cause ++ zeros 2 ++ le 4 (tget 0 s.acq.cells i) ++ le 4 (tget 0 s.acq.laneSteps i))

/-- A plan-end record (kind 5). -/
def planEndRecord (s : State) (cause : Nat) : List Byte :=
  acqRecord 5 0 0 255 s.epochMs
    (le 1 cause ++ le 1 s.acq.candCount ++ zeros 2 ++ le 4 s.acq.activeMs ++ le 4 (s.ms - s.acq.startedMs))

/-- The tasks that have not ended. -/
def openTasks (s : State) : List Nat := match s.acq.plan with
  | some p => (upto p.tasks.length).filter (fun i => !s.acq.tasksEnded.contains i)
  | none => []

/-- The plan stops: the records of its open tasks and of itself are sent, and its dwells in progress are discarded. One that has ended still has
its statistic to come (04 R184). -/
def endPlan (taskCause planCause : Nat) (s : State) : State :=
  let s := postAcq 0 ((openTasks s).map (fun i => taskEndRecord s i taskCause) ++ [planEndRecord s planCause]) s
  { s with acq.running := false, acq.aborting := false, acq.ended := true, acq.segs := [] }

/-- Every satellite of a task has dropped out. -/
def taskEmpty (s : State) (i : Nat) : Bool := match taskOf s i with
  | some t => (taskSvs t).all (fun v => s.acq.dropped.contains (i, v))
  | none => true

/-- Tasks whose satellites have all dropped out end: cause 3 where no aperture is left, else 2. -/
def endTasks (s : State) : State :=
  foldS (fun i t =>
    if taskEmpty t i && !t.acq.segs.any (fun g => g.task == i) && !t.acq.endedSegs.any (fun g => g.task == i) then
      let lost := match taskOf t i with
        | some k => (maskBits 24 k.aprMask).all (fun a => !aprRunning t a)
        | none => false
      postAcq 0 [taskEndRecord t i (if lost then 3 else 2)] { t with acq.tasksEnded := t.acq.tasksEnded ++ [i] }
    else t) (openTasks s) s

/-- Begin pass `n`. -/
def beginPass (n : Nat) (s : State) : State := match s.acq.plan with
  | some p => { s with acq.pass := n, acq.sats := passSats s p, acq.cells := [], acq.passCells := 0 }
  | none => s

/-- A satellite has had its window searched in this pass, or is skipped; one whose candidate of an earlier pass is alive waits for its end (04
R168). -/
def satDone (s : State) (r : SatRun) : Bool := (satTodo s r).isEmpty && (r.opened || r.shut || !candAlive s r.task r.sv)

/-- The pass is over: every window has been searched once. -/
def passOver (s : State) : Bool := s.acq.sats.all (satDone s) && s.acq.segs.isEmpty && s.acq.endedSegs.isEmpty

/-- The end of a pass: its progress record, then the next pass or the end of the plan. -/
def endPass (s : State) : State := match s.acq.plan with
  | none => s
  | some p =>
    let s := if 1 ≤ s.acq.report then
        postAcq 0 [acqRecord 6 0 0 255 s.epochMs (le 2 s.acq.pass ++ zeros 2 ++ le 4 s.acq.passCells)] s
      else s
    if (openTasks s).isEmpty ∨ (p.passes ≠ 255 ∧ p.passes ≤ s.acq.pass) then endPlan 1 1 s
    else beginPass (s.acq.pass + 1) s

/-! ### Assignment (04 R173; 05 R233) -/

/-- What the allocator answers a candidate. -/
inductive AssignOut where
  /-- No channel, with the outcome of the candidate: 6 = DUPLICATE, 7 = NO_CHANNEL. -/
  | refused (outcome : Nat)
  /-- Only channels under test are free, and 100 us or less of the test remain: the assignment waits. -/
  | wait
  | got (channel : Nat) (s : State)

/-- Channels that a plan assigned and that are still assigned. -/
def planChannels (s : State) (plan : Nat) : Nat := (s.acq.chans.filter (fun x => x.1 == plan && chanAssigned s x.2)).length

/-- Assign a channel to a candidate: its apertures are those of its task's APR_MASK (log 12). With more than 100 us of the self-test slice left
on the only free channel the slice is aborted, else the assignment waits for its end (17 R621). -/
def assignCand (testLeft : Nat) (c : Candidate) (s : State) : AssignOut :=
  if tracks s c.signal c.sv then .refused 6
  else if c.chLimit ≤ planChannels s c.plan || decide (s.profile.env.channels < (assignedChannels s).length + 1) then .refused 7
  else if (onlyUnderTest s).isSome ∧ testLeft ≤ 100 then .wait
  else match allocate s with
    | none => .refused 7
    | some (ch, t) =>
      let u := assignChannel ch c.signal c.sv (c.mask ||| (1 <<< c.apr)) c.apr (if c.passed = 2 then 2 else 1) (c.passed != 2) false t
      let u := modChan ch (startNcos s (c.place s) c.doppler) u
      .got ch { u with acq.chans := u.acq.chans ++ [(c.plan, ch)] }

/-- Change a candidate that is held. -/
def modCand (c : Candidate) (f : Candidate → Candidate) (s : State) : State :=
  { s with acq.cands := s.acq.cands.map (fun d => if d.plan = c.plan ∧ d.task = c.task ∧ d.sv = c.sv then f d else d) }

/-- A held candidate at or above the handoff threshold gets its provisional channel, ends without one, or waits (04 R172, R173). -/
def handOff (testLeft chain : Nat) (c : Candidate) (s : State) : State := match assignCand testLeft c s with
  | .refused 6 => endCand c 6 chain 255 (dropCand c s)
  | .refused o => endCand c o chain 255 s
  | .wait => modCand c (fun d => { d with waits := true }) s
  | .got ch u => modCand c (fun d => { d with channel := some ch, waits := false }) (commitCand c 1 ch chain (dropCand c u))

/-- A candidate has passed both dwells (04 R172, R173, R175). -/
def verified (testLeft chain : Nat) (c : Candidate) (s : State) : State := match c.channel with
  | some ch => endCand c 2 chain ch (modChan ch (fun x => { x with confirmDue := true }) s)
  | none =>
    let s := dropCand c s
    if c.handoff = 0 then endCand c 3 chain 255 s
    else match assignCand testLeft c s with
      | .refused o => endCand c o chain 255 s
      | .wait => modCand c (fun d => { d with passed := 2, waits := true }) s
      | .got ch u => endCand c 2 chain ch u

/-- The candidates whose assignment waited for a self-test slice, once it is over (17 R621). -/
def assignWaiting (s : State) : State :=
  if (onlyUnderTest s).isSome then s
  else foldS (fun (c : Candidate) t => if c.passed = 2 then verified 0 0 c t else handOff 0 0 c t) (s.acq.cands.filter (·.waits)) s

/-! ### The step at an epoch -/

/-- Damask's part of an epoch: passes and tasks that are over end, free lanes are filled, and the blocks of the coming step start (04 R143, R167,
R168, R181). -/
def acqStep (s : State) : State :=
  let s := if s.acq.aborting then endPlan 4 2 s else s
  if !islandReady s 24 || betweenBursts s then s
  else
    let s := acqUpkeep (assignWaiting s)
    let s := if s.acq.running then
        let s := endTasks s
        if passOver s then endPass s else s
      else s
    if (match s.bst.active with | some r => r.block == 24 | none => false) then s
    else
      let s := fillVerification s
      startBlocks (if s.acq.running && !damaskPaused s then fillSearch s else s)

/-- DUTY_WINDOW (04 R148): outside the Burst profile a window begins at an epoch that is a multiple of 100 ms. -/
def dutyWindowRow (s : State) : State :=
  if s.profile.sel ≠ 4 ∧ s.epochMs % 100 = 0 ∧ s.acq.windowAt ≠ some s.epochMs then
    let s := beginWindow s
    if islandReady s 24 && (match s.bst.active with | some r => r.block != 24 | none => true) then startBlocks s else s
  else s

/-- BURST_START (05 R247): apertures run and channels enter PULL_IN; the burst is Damask's window, the first after
TRK_BURST as well, for which they run already (04 R148; 05 R245). -/
def burstStartRow (s : State) : State :=
  let t := burstStart s
  let begins := t.burst.active && (!s.burst.active || s.burst.on && s.epochMs % 1000 == s.burst.phaseMs && s.acq.windowAt != some s.epochMs)
  if begins then startBlocks (beginWindow t) else t

/-! ### Candidates (04 R152 to R156, R170 to R172, R180) -/

/-- Signals with the same code family: the C/A codes of L1 (log 11), or the signal itself. -/
def codeFamily (signal : Nat) : Nat := if signal = 0x41 ∨ signal = 0x61 then 0x01 else signal

/-- A Doppler difference (0.01 Hz) is within one bin of a multiple of 1 kHz (04 R156). -/
def nearKilohertz (coh : Nat) (d : Int) : Bool :=
  let m := (d % 100000).toNat
  decide (m * coh ≤ 50000) || decide ((100000 - m) * coh ≤ 50000)

/-- The cross-correlation test (04 R156). -/
def crossCorrelated (s : State) (margin : Nat) (c : Candidate) : Bool :=
  margin != 0 && [0x01, 0x21, 0x41, 0x51, 0x61].contains c.signal &&
  (upto 192).any (fun k =>
    let x := chanOf s k
    x.state != .free && codeFamily x.signal == codeFamily c.signal
      && decide (tenthsDb ((c.z - 256) * 1000) (256 * c.coh) + 10 * margin ≤ (caOf s k x.anchor).cn0)
      && nearKilohertz c.coh (c.doppler - roundDiv x.freq 1000))

/-- The sums of a segment's cells. -/
def Segment.pows (g : Segment) : List Nat := g.sums.map (·.pow)

/-- Twice the median of a segment's sums. -/
def twiceMedian (g : Segment) : Nat :=
  let m := middleTwo 0 (sortBy (fun a b => decide (a ≤ b)) g.pows)
  m.1 + m.2

/-- Z = S / (NONCOH sigma^2), truncated to 1/256 before it meets a threshold (DESIGN CHOICE, log 62), for a sum and twice the median: sigma^2 is the
median over NONCOH and over the median of X (04 R152). Where the median is 0 the value is open: the free value. -/
def statistic (free noncoh med pow : Nat) : Nat := if med = 0 then free else 512 * pow * medianX noncoh / (65536 * med)

/-- Soft errors in the accumulators of a segment (01 R32). -/
def upsetSegment (us : List CellUpset) (g : Segment) : Segment :=
  us.foldl (fun g u =>
    if u.a.val = g.apr ∧ u.bin = g.bin then
      { g with sums := g.sums.mapIdx (fun c x => if c = u.cell then { x with pow := ((x.pow : Int) + u.add).toNat } else x) }
    else g) g

/-- The cell with the largest Z of some segments, whose noise `noise` gives: the segment, the cell and its sum; the first of equals (04 R154). -/
def strongest (noise : Segment → Nat) : List Segment → Option (Segment × Nat × Nat)
  | [] => none
  | g :: t => match bestBy (fun c => g.pows.getD c 0) (upto g.sums.length), strongest noise t with
    | some c, some y => let p := g.pows.getD c 0; if p * noise y.1 < y.2.2 * noise g then some y else some (g, c, p)
    | some c, none => some (g, c, g.pows.getD c 0)
    | none, y => y

/-- The place of a parabola's top between the neighbours of a greatest value, times `unit`: half of (after - before) over twice the middle less
both. -/
def parabola (unit : Int) (before mid after : Nat) : Int :=
  roundDiv (unit * ((after : Int) - before)) (2 * (2 * (mid : Int) - before - after).toNat)

/-- The code phase's part of the interpolation (04 R154): between neighbouring cells; around the end of a full code period. -/
def cellShift (i : SigInfo) (g : Segment) (c : Nat) : Int :=
  let n := g.sums.length
  let at' := fun (k : Nat) => g.pows.getD k 0
  if n = i.cells then parabola (cellDelay i) (at' ((c + n - 1) % n)) (at' c) (at' ((c + 1) % n))
  else if c = 0 ∨ n ≤ c + 1 then 0
  else parabola (cellDelay i) (at' (c - 1)) (at' c) (at' (c + 1))

/-- The Doppler's part (04 R154): between the same cell of the neighbouring bins, where both have ended with it. -/
def binShift (segs : List Segment) (g : Segment) (c : Nat) : Int :=
  let beside := fun (d : Int) => (segs.find? (fun h => h.apr == g.apr && h.bin == g.bin + d)).map (fun h => h.pows.getD c 0)
  match beside (-1), beside 1 with
  | some a, some b => roundDiv (parabola 50000 a (g.pows.getD c 0) b) g.coh
  | _, _ => 0

/-- The chain status that the checks of a candidate leave (04 R180): its cell's residue, the CRC-32C of its record at P4 and the ECC of the
stored record. -/
def candChain (cell : CellSum) (rec' : List Byte) (r : Upset) : Nat :=
  let w := withCrc rec'
  let got := (upto w.length).map (fun k => (w.getD k 0) ^^^ (BitVec.ofNat 8 (r.flip / 256 ^ k)))
  (if cell.pow % 7 ≠ cell.powRes then 0x20 else 0) + (if got.drop 32 ≠ crcBytes (got.take 32) then 0x40 else 0)
    + (if (r.errs.take 2).any (fun e => decide (2 < e)) then 0x80 else if (r.errs.take 2).any (· != 0) then 0x08 else 0)

/-- The candidate fails its integrity checks. -/
def chainFails (chain : Nat) : Bool := decide (0x10 ≤ chain)

/-- A candidate of the strongest cell of the segments that ended together (04 R154, R155). -/
def makeCand (s : State) (p : AcqPlan) (task : Nat) (t : AcqTask) (segs : List Segment) (g : Segment) (c z : Nat) : Candidate :=
  let i := sigRow t.signal
  let at0 := g.tx + c * cellDelay i + cellShift i g c
  { task := task, signal := t.signal, sv := g.sv, apr := g.apr, coh := g.coh, noncoh := t.noncoh, pfa := t.pfa, handoff := p.handoff,
    chLimit := p.chLimit, z := z, atMs := s.ms, tx := movePlace g.signal g.sv g.doppler ((s.ms : Int) - g.startMs) at0,
    doppler := g.doppler + binShift segs g c, binDoppler := g.doppler, med := twiceMedian g, fine := g.fine, plan := s.acq.plans,
    mask := t.aprMask, passed := 0, dwell := none, channel := none, waits := false }

/-- A candidate is formed: the disposition of R172, and verification of all that is not rejected (04 R156, R168, R170). -/
def formCand (p : AcqPlan) (t : AcqTask) (testLeft chain : Nat) (c : Candidate) (s : State) : State :=
  if crossCorrelated s p.xcMargin c then commitCand c 5 255 chain s
  else
    let s := if s.acq.report = 2 then commitCand c 9 255 chain s else s
    let s := { s with acq.cands := s.acq.cands ++ [c] }
    if t.ho ≠ 0 ∧ p.handoff = 2 ∧ reaches c.noncoh t.ho c.z then handOff testLeft chain c s else s

/-- The satellite's candidate of this pass is formed (04 R168). -/
def shutSat (task sv : Nat) (s : State) : State :=
  { s with acq.sats := s.acq.sats.map (fun r => if r.task = task ∧ r.sv = sv then { r with shut := true } else r) }

/-- The segments of a satellite whose dwells ended first and together. -/
def endedTogether (s : State) (task sv : Nat) : List Segment :=
  let own := s.acq.endedSegs.filter (fun g => g.task == task && g.sv == sv)
  own.filter (fun g => own.all (fun h => decide (g.endMs ≤ h.endMs)))

/-- DWELL_END (04 R152 to R156, R168, R180; 01 R32): the segments of one satellite that ended in the same step form their statistic; a satellite that has
its candidate forms no other. -/
def dwellEnd (task sv : Nat) (us : List CellUpset) (r : Upset) (testLeft : Nat) (s : State) : State :=
  let segs := endedTogether s task sv
  let s := { s with acq.endedSegs := s.acq.endedSegs.filter (fun g => !segs.contains g) }
  let live := s.acq.sats.any (fun q => q.task == task && q.sv == sv && !q.shut)
  let d := draw s
  let segs := segs.map (upsetSegment us)
  match s.acq.plan, taskOf s task, strongest twiceMedian segs with
  | some p, some t, some (g, c, pow) =>
    let z := sat 0xFFFFFFFF (statistic (Config.openZ d.1) t.noncoh (twiceMedian g) pow)
    if live && reaches t.noncoh t.pfa z then
      let cand := makeCand s p task t segs g c z
      let chain := candChain (g.sums.getD c CellSum.zero) (candRecord s cand 9 255) r
      let s := shutSat task sv d.2
      if chainFails chain then commitCand cand 8 255 chain (logChain chain 0x04 0 s) else formCand p t testLeft chain cand s
    else d.2
  | _, _, _ => s

/-- A verification dwell is complete. -/
def dwellDone (c : Candidate) : Bool := c.passed != 2 && (match c.dwell with
  | some l => l.all (fun g => g.live && g.blocksLeft == 0)
  | none => false)

/-- VERIFICATION_DWELL_END (04 R152, R170, R171, R180): the dwell passes when its strongest cell reaches the threshold, by the noise estimate of the
detecting segment, within 1 cell and 1 bin of the candidate. -/
def verificationEnd (signal sv : Nat) (us : List CellUpset) (r : Upset) (testLeft : Nat) (s : State) : State :=
  match s.acq.cands.find? (fun c => c.signal == signal && c.sv == sv && dwellDone c) with
  | none => s
  | some c =>
    let fail := fun (outcome chain : Nat) (t : State) =>
      endCand c outcome chain (c.channel.getD 255) (match c.channel with
        | some ch => revokeChannel ch 4 t
        | none => t)
    match strongest (fun _ => 1) ((c.dwell.getD []).map (upsetSegment us)) with
    | none => s
    | some (g, k, pow) =>
      let d := draw s
      let z := statistic (Config.openZ d.1) c.noncoh c.med pow
      let chain := candChain (g.sums.getD k CellSum.zero) (candRecord s c 9 255) r
      if chainFails chain then fail 8 chain (logChain chain 0x04 0 d.2)
      else if reaches c.noncoh c.pfa z && decide (7 ≤ k ∧ k ≤ 9) then
        if c.passed = 1 then verified testLeft chain { c with passed := 2 } d.2
        else modCand c (fun x => { x with passed := 1, dwell := none }) d.2
      else fail 4 chain d.2

/-! ### CONFIRM and REVOKE at a measurement epoch (04 R175 to R177) -/

/-- The CAUSE of a REVOKE for a channel's release cause (04 R187). -/
def revokeCause (cause : Nat) : Nat := if cause = 4 then 1 else if cause = 1 then 3 else if cause = 14 then 4 else 2

/-- The epochs whose provisional records of a channel a target received: a port, or 16 + k for the subscriptions of core k. -/
def provEpochs (s : State) (c t : Nat) : List Nat := tget [] s.acq.provSent (32 * c + t)

/-- Forget the provisional records of a channel. -/
def clearProv (c : Nat) (s : State) : State := { s with acq.provSent := s.acq.provSent.filter (fun e => e.1 / 32 != c) }

/-- A revoke record (kind 2). -/
def revokeRecord (x : Channel) (c cause label : Nat) : List Byte := acqRecord 2 x.signal x.sv 255 label (le 1 cause ++ le 1 c)
/-- A confirm record (kind 3). -/
def confirmRecord (s : State) (x : Channel) (c : Nat) : List Byte :=
  acqRecord 3 x.signal x.sv 255 s.epochMs (le 1 c ++ zeros 3 ++ le 8 (x.firstMs.getD s.epochMs))

/-- Release a provisional channel: one REVOKE for each of its records, on every port that record was routed to, and in the
subscription it was delivered through (04 R177, R178). -/
def revokeAt (c cause : Nat) (s : State) : State :=
  let x := chanOf s c
  let s := foldS (fun p t =>
    foldS (fun ls u => postToPorts (acqMsg u true 0 (ls.map (revokeRecord x c (revokeCause cause)))) [p] u)
      (chunks 256 (provEpochs t c (portIdx p)).length (provEpochs t c (portIdx p))) t) allPorts s
  let s := foldS (fun k t =>
    foldS (fun ls u => subscribeAcq k c (acqPayload u (ls.map (revokeRecord x c (revokeCause cause)))) u)
      (chunks 256 (provEpochs t c (16 + k)).length (provEpochs t c (16 + k))) t) (upto 16) s
  freeChannel c (cause % 10) (clearProv c s)

/-- A verified channel becomes final: a CONFIRM on every port that received its provisional records. -/
def confirmAt (c : Nat) (s : State) : State :=
  let x := chanOf s c
  let s := foldS (fun p t => if (provEpochs t c (portIdx p)).isEmpty then t else
    postToPorts (acqMsg t true 0 [confirmRecord t x c]) [p] t) allPorts s
  let s := foldS (fun k t => if (provEpochs t c (16 + k)).isEmpty then t else
    subscribeAcq k c (acqPayload t [confirmRecord t x c]) t) (upto 16) s
  modChan c (fun y => { y with provisional := false, confirmDue := false, firstMs := none }) (clearProv c s)

/-- The provisional channels at a measurement epoch; release prevails over verification (04 R176). -/
def provisionalEpoch (s : State) : State :=
  if isMeasEpoch s then
    foldS (fun c t => match (chanOf t c).revokeDue with
      | some cause => revokeAt c cause t
      | none => if (chanOf t c).confirmDue then confirmAt c t else t)
      ((upto 192).filter (fun c => (chanOf s c).revokeDue.isSome || (chanOf s c).confirmDue)) s
  else s

/-! ### Aiding (04 R157, R162 to R164) -/

/-- A type 5 record is in range (04 R163). -/
def satRecordOk (r : List Byte) : Bool := match sigOf (u8 r 1) with
  | some i => i.searchable && svOk i (u8 r 2) && zeroAt r 3 1 && decide (u64 r 4 < 2 ^ 63) && decide (u32 r 12 < i.chips * 65536)
      && decide ((i32 r 16).natAbs ≤ 2000000) && decide (1 ≤ u32 r 20 ∧ u32 r 20 ≤ i.chips * 256)
      && decide (1 ≤ u32 r 24 ∧ u32 r 24 ≤ 2000000) && zeroAt r 28 4
  | none => false

/-- A record of ACQ_AID is in range (04 R163, R164). -/
def aidRecordOk (r : List Byte) : Bool :=
  if u8 r 0 = 1 then decide (u8 r 1 ≤ 1) && zeroAt r 2 2 && decide (u64 r 4 < 2 ^ 63)
    && decide (10 ≤ u32 r 12 ∧ u32 r 12 ≤ 4000000000) && zeroAt r 16 16
  else if u8 r 0 = 2 then zeroAt r 1 3 && decide ((i32 r 4).natAbs ≤ 900000000) && decide ((i32 r 8).natAbs ≤ 1800000000)
    && decide (-1000000 ≤ i32 r 12 ∧ i32 r 12 ≤ 10000000) && decide (1 ≤ u32 r 16 ∧ u32 r 16 ≤ 10000000) && zeroAt r 20 12
  else if u8 r 0 = 3 then zeroAt r 1 3 && decide ((i32 r 4).natAbs ≤ 1000000) && decide ((i32 r 8).natAbs ≤ 1000000)
    && decide ((i32 r 12).natAbs ≤ 1000000) && decide (1 ≤ u32 r 16 ∧ u32 r 16 ≤ 100000) && zeroAt r 20 12
  else if u8 r 0 = 4 then zeroAt r 1 3 && decide ((i32 r 4).natAbs ≤ 2000000) && decide (1 ≤ u32 r 8 ∧ u32 r 8 ≤ 2000000)
    && zeroAt r 12 20
  else u8 r 0 == 5 && satRecordOk r

/-- Two records of one command replace the same held record (04 R164). -/
def sameAid (a b : List Byte) : Bool := u8 a 0 == u8 b 0 && (u8 a 0 != 5 || (u8 a 1 == u8 b 1 && u8 a 2 == u8 b 2))

/-- Some two elements of a list are related. -/
def anyPair {α : Type} (f : α → α → Bool) : List α → Bool
  | [] => false
  | a :: t => t.any (f a) || anyPair f t

/-- Apply one record (04 R163): a time names the instant `us` microseconds after the epoch at `ms`, at which the packet's last byte came; which of two
time records stays when they differ in REF is log 52. -/
def applyAid (ms now us : Nat) (h : HostAid) (r : List Byte) : HostAid :=
  if u8 r 0 = 1 then
    if u8 r 1 = 0 then { h with time := some ((u64 r 4 : Int) - 1000 * us, u32 r 12, ms), timeWaits := none }
    else { h with timeWaits := some (u64 r 4, u32 r 12, now) }
  else if u8 r 0 = 2 then { h with pos := some (i32 r 4, i32 r 8, i32 r 12, u32 r 16) }
  else if u8 r 0 = 3 then { h with vel := some (i32 r 4, i32 r 8, i32 r 12, u32 r 16) }
  else if u8 r 0 = 4 then { h with osc := some (i32 r 4, u32 r 8) }
  else
    let e : SatAid :=
      { signal := u8 r 1, sv := u8 r 2, gpsNs := u64 r 4, codePhase := u32 r 12, doppler := i32 r 16, codeUnc := u32 r 20,
        doppUnc := u32 r 24 }
    { h with sats := h.sats.filter (fun x => !(x.signal == e.signal && x.sv == e.sv)) ++ [e] }

/-- ACQ_AID (04 R163, R164). -/
def acqAidAct (p : Packet) (s : State) : CmdOut :=
  let b := p.params
  let n := u8 b 0
  let recs := chunks 32 n (b.drop 8)
  let start := if u8 b 1 = 0 then HostAid.none else s.acq.aid
  let held := recs.foldl (applyAid s.ms (nowMs s) p.obs.rxUs) start
  rejectIf (decide (127 < n) || decide (1 < u8 b 1) || !zeroAt b 2 6 || recs.any (fun r => !aidRecordOk r)
    || anyPair sameAid recs) .badValue <|
  rejectIf (recs.any (fun r => u8 r 0 == 1 && u8 r 1 == 1) && !syncIs1pps s) .badState <|
  rejectIf (decide (64 < held.sats.length)) .noResource <|
  done { s with acq.aid := held }

def specAcqAid : OpSpec :=
  { plainOp 0x0402 false 8 acqAidAct with maxLen := 4096, form := fun b => some (8 + 32 * u8 b 0) }

/-- An aid-lapsed record (kind 7). -/
def lapseRecord (s : State) (type cause sv : Nat) : List Byte := acqRecord 7 0 sv 255 s.epochMs (le 1 type ++ le 1 cause)

/-- The time record that waits for a SYNC_IN edge lapses, with CAUSE 1 = no edge in time or 3 = SYNC_IN reconfigured (04 R162). -/
def lapseTime (cause : Nat) (s : State) : State := match s.acq.aid.timeWaits with
  | some _ => postAcq 0 [lapseRecord s 1 cause 0] { s with acq.aid.timeWaits := none }
  | none => s

/-- The waiting time record is older than 1.5 s. -/
def timeLate (s : State) : Bool := match s.acq.aid.timeWaits with
  | some w => decide (w.2.2 + 1500 ≤ nowMs s)
  | none => false

/-- AID_LAPSE (04 R162): the held record of a satellite 30 s after its reference time, or (signal 0) the time record that waits for a SYNC_IN
edge. -/
def aidLapse (signal sv : Nat) (s : State) : State :=
  if signal = 0 then if timeLate s then lapseTime 1 s else s
  else
    let mine := fun (r : SatAid) => r.signal == signal && r.sv == sv && satLapsed s r
    if s.acq.aid.sats.any mine then
      postAcq 0 [lapseRecord s 5 2 sv] { s with acq.aid.sats := s.acq.aid.sats.filter (fun r => !mine r) }
    else s

/-! ### Commands -/

/-- A task entry is in range (04 R165, R166). A task with SV 0 has the limit of COH_MS of its signal; satellites with a lower one dwell with that (DESIGN
CHOICE, log 76). -/
def acqTaskOk (handoff : Nat) (t : List Byte) : Bool := match sigOf (u8 t 0) with
  | some i =>
    let sv := u8 t 1
    let fine := if sv = 0 then i.fine else cohFine i.code sv
    i.searchable && (sv == 0 || svOk i sv) && decide (u8 t 2 ≤ 7) && decide (u8 t 3 ≤ 3) && uN 3 t 4 != 0
      && decide (1 ≤ u8 t 7 ∧ u8 t 7 ≤ fine) && decide (1 ≤ u16 t 8 ∧ u16 t 8 ≤ 1000) && decide (u16 t 10 ≤ 2000)
      && decide (3 ≤ u8 t 12 ∧ u8 t 12 ≤ 12) && (u8 t 13 == 0 || (handoff == 2 && decide (u8 t 12 < u8 t 13 ∧ u8 t 13 ≤ 15)))
      && zeroAt t 14 2
  | none => false

/-- A task from its entry. -/
def acqTaskIn (t : List Byte) : AcqTask :=
  { signal := u8 t 0, sv := u8 t 1, prio := u8 t 2, flags := u8 t 3, aprMask := uN 3 t 4, coh := u8 t 7, noncoh := u16 t 8,
    doppHalf := u16 t 10, pfa := u8 t 12, ho := u8 t 13 }

/-- ACQ_PLAN (04 R165, R166). -/
def acqPlanAct (p : Packet) (s : State) : CmdOut :=
  let b := p.params
  let n := u8 b 0
  let ts := chunks 16 n (b.drop 8)
  rejectIf (decide (64 < n) || decide (2 < u8 b 1) || decide (u8 b 2 < 1) || decide (192 < u8 b 2) || decide (u8 b 3 < 1)
    || decide (90 < u8 b 4) || (u8 b 5 != 0 && (decide (u8 b 5 < 10) || decide (40 < u8 b 5))) || !zeroAt b 6 2
    || ts.any (fun t => !acqTaskOk (u8 b 1) t) || anyPair (fun x y => u8 x 0 == u8 y 0 && u8 x 1 == u8 y 1) ts) .badValue <|
  rejectIf s.acq.running .badState <|
  let plan : AcqPlan :=
    { handoff := u8 b 1, chLimit := u8 b 2, passes := u8 b 3, elevMask := u8 b 4, xcMargin := u8 b 5, tasks := ts.map acqTaskIn }
  done { s with acq.plan := if n = 0 then none else some plan, acq.ended := false, acq.sats := [], acq.endedSegs := [] }

def specAcqPlan : OpSpec :=
  { plainOp 0x0401 false 8 acqPlanAct with maxLen := 1032, form := fun b => some (8 + 16 * u8 b 0) }

/-- The task's apertures all run with its slice enabled (04 R183). -/
def taskReady (s : State) (t : AcqTask) : Bool :=
  (maskBits 24 t.aprMask).all (searchable s t.signal)

/-- ACQ_START (04 R150, R182, R183). -/
def acqStartAct (p : Packet) (s : State) : CmdOut :=
  let b := p.params
  let ts := match s.acq.plan with
    | some q => q.tasks
    | none => []
  rejectIf (decide (1 < u8 b 0) || decide (2 < u8 b 1) || !zeroAt b 2 2) .badValue <|
  rejectIf (s.acq.plan.isNone || s.acq.running || ts.any (fun t => !taskReady s t)) .badState <|
  rejectIf (s.profile.env.duty == 0 || ts.any (fun t => decide (dutyAllowance s < t.coh))
    || ts.any (fun t => (maskBits 24 t.aprMask).any (fun a => !s.profile.env.aprMask.testBit a))) .profileLimit <|
  let s := { s with
    acq.running := true, acq.aborting := false, acq.ended := false, acq.report := u8 b 1, acq.results := if u8 b 0 = 1 then [] else s.acq.results,
    acq.dropped := [], acq.tasksEnded := [], acq.laneSteps := [], acq.candCount := 0, acq.activeMs := 0,
    acq.plans := s.acq.plans + 1, acq.startedMs := s.ms + 1, acq.segs := [], acq.endedSegs := [] }
  done (beginPass 1 s)

def specAcqStart : OpSpec :=
  { plainOp 0x0403 false 4 acqStartAct with islands := fun _ _ => [24], reach := fun _ _ => [24] }

/-- ACQ_ABORT (04 R179, R184): the search ends at the next step; verification continues. -/
def acqAbortAct (_p : Packet) (s : State) : CmdOut := done (if s.acq.running then { s with acq.aborting := true } else s)

def specAcqAbort : OpSpec :=
  { plainOp 0x0404 false 0 acqAbortAct with islands := fun _ _ => [24], reach := fun _ _ => [24] }

/-- STATE of ACQ_RESULTS (04 R186). While candidates of an earlier plan are still in verification it is 3, whatever plan is loaded (DESIGN CHOICE, log
76). -/
def acqStateCode (s : State) : Nat :=
  if s.acq.running then 2 else if !s.acq.cands.isEmpty then 3 else if s.acq.plan.isNone then 0 else if s.acq.ended then 4 else 1

/-- ACQ_RESULTS (04 R186). -/
def acqResultsAct (p : Packet) (s : State) : CmdOut :=
  let b := p.params
  let out := (s.acq.results.drop (u8 b 0)).take (u8 b 1)
  rejectIf (decide (124 < u8 b 0) || decide (125 < u8 b 1) || !zeroAt b 2 2) .badValue <|
  answer (le 1 (acqStateCode s) ++ le 1 s.acq.results.length ++ le 1 out.length ++ zeros 1 ++ out.flatten) s

def specAcqResults : OpSpec := plainOp 0x0405 false 4 acqResultsAct

/-! ### The rows -/

def execAcqPlan (p : Packet) (s : State) : Host.Outcome State Fault Refusal := .next (runCmd specAcqPlan p s)
def execAcqAid (p : Packet) (s : State) : Host.Outcome State Fault Refusal := .next (runCmd specAcqAid p s)
def execAcqStart (p : Packet) (s : State) : Host.Outcome State Fault Refusal := .next (runCmd specAcqStart p s)
def execAcqAbort (p : Packet) (s : State) : Host.Outcome State Fault Refusal := .next (runCmd specAcqAbort p s)
def execAcqResults (p : Packet) (s : State) : Host.Outcome State Fault Refusal := .next (runCmd specAcqResults p s)
def execDutyWindow (s : State) : Host.Outcome State Fault Refusal := .next (dutyWindowRow s)
def execBurstStart (s : State) : Host.Outcome State Fault Refusal := .next (burstStartRow s)
def execDwellEnd (task : Fin 64) (sv : Byte) (u : List CellUpset) (r : Upset) (testLeft : Nat) (s : State) :
    Host.Outcome State Fault Refusal := .next (dwellEnd task sv.toNat u r testLeft s)
def execVerificationDwellEnd (signal sv : Byte) (u : List CellUpset) (r : Upset) (testLeft : Nat) (s : State) :
    Host.Outcome State Fault Refusal := .next (verificationEnd signal.toNat sv.toNat u r testLeft s)
def execAidLapse (signal sv : Byte) (s : State) : Host.Outcome State Fault Refusal :=
  .next (aidLapse signal.toNat sv.toNat s)

end Sys2Proof.Machine
end

