-- ==== Sys2Proof/Machine/Voile.lean ====
section
/-! DEFINITION. Voile live calibration (06): windows and estimates, the reference, candidates, changes of the table with their
overlap sequence, storage, and the CAL_ commands. -/
namespace Sys2Proof.Machine

/-- The value of a table for aperture `a` and slice `i`. -/
def calValue (t : CalTable) (a i : Nat) : Option CalValue := tget none t.values (4 * a + i)
/-- That value, 0 where the aperture and slice are uncalibrated (06 R267). -/
def calValueZ (t : CalTable) (a i : Nat) : CalValue := (calValue t a i).getD { delay := 0, phase := 0, sd := 0, sp := 0 }
/-- Slices of an aperture that hold values. -/
def calValid (t : CalTable) (a : Nat) : List Nat := (upto 4).filter (fun i => (calValue t a i).isSome)

/-! ### MSG_CAL (06 R278, R280) -/

/-- One 64-byte entry of an aperture. -/
def calEntryBytes (t : CalTable) (a role : Nat) : List Byte :=
  le 1 a ++ le 1 (bitsMask (calValid t a)) ++ le 1 role ++ zeros 1 ++ leI 2 (tget (-32768) t.temps a) ++ zeros 2
    ++ (upto 4).flatMap (fun i =>
      let v := calValueZ t a i
      leI 4 v.delay ++ leI 4 v.phase ++ le 2 v.sd ++ le 2 v.sp) ++ zeros 8

/-- Send a MSG_CAL. -/
def postCal (kind cause a slice label : Nat) (entries : List (List Byte)) (s : State) : State :=
  post (msg2 s 0x8A 0x06 0 (le 1 kind ++ le 1 entries.length ++ le 2 s.cal.table.id ++ le 1 cause ++ le 1 (s.cal.ref.getD 255)
    ++ le 1 a ++ le 1 slice ++ le 8 label ++ entries.flatten)) s

/-- Send a MSG_CAL of an event at this epoch. -/
def postCalEvent (kind cause : Nat) (s : State) : State := postCal kind cause 255 255 s.epochMs [] s

/-! ### Changes (06 R267 to R271, R274) -/

/-- Abandon the change in progress: the table and CAL_ID stay as they were. -/
def abandonCal (cause : Nat) (s : State) : State :=
  if s.cal.change.isSome then postCalEvent 3 cause { s with cal.change := none, cal.abandonDue := false } else s

/-- Voile stops: VCAL_OUT falls silent at once, the window in progress is invalid and a change is abandoned (06 R255,
R274). -/
def voileStop (cause : Nat) (s : State) : State :=
  abandonCal cause { s with cal.radiating := false, cal.win.spoilt := true }

/-- The apertures whose entry, TEMP included, differs between two tables. -/
def calChanged (t u : CalTable) : List Nat :=
  (upto 24).filter (fun a => (upto 4).any (fun i => calValue t a i != calValue u a i) || tget (-32768) t.temps a != tget (-32768) u.temps a)

/-- The CAL_ID of the next calibration epoch (06 R271). -/
def nextCalId (s : State) : Nat := if s.cal.table.id = 65535 then 1 else s.cal.table.id + 1

/-- The commit record: previous and new entry of each aperture that changes; CAL_ID after the event, EPOCH_MS of E8 (06
R270, R280). -/
def calCommitMsg (s : State) (ch : CalChange) (label : Nat) : List Byte :=
  let es := (calChanged s.cal.table ch.next).flatMap (fun a => [calEntryBytes s.cal.table a 1, calEntryBytes ch.next a 0])
  le 1 2 ++ le 1 es.length ++ le 2 (nextCalId s) ++ le 1 ch.cause ++ le 1 (s.cal.ref.getD 255) ++ le 1 255 ++ le 1 255
    ++ le 8 label ++ es.flatten

/-- Send the commit record, once: to the routed ports and to the kernel cores subscribed to measurements (06 R270). -/
def announceCal (label : Nat) (s : State) : State := match s.cal.change with
  | some ch =>
    if ch.announced then s
    else
      let m := msg2 s 0x8A 0x06 0 (calCommitMsg s ch label)
      subscribeMeas 0x8A 0x06 0 m.payload (post m { s with cal.change := some { ch with announced := true } })
  | none => s

/-- theta in 2^-16 cycle: PHASE and (f - f_s) x DELAY (06 R258). -/
def theta (v : CalValue) (f slice : Nat) : Int :=
  roundDiv v.phase 256 + roundDiv (((f : Int) - sliceCentre slice) * v.delay * 64) 1000000000

/-- Single differences, the form in which a new ambiguity stands (07 R304). -/
def singleForm : TulForm := { dd := false, sat := 255, base := none, float := 0 }
/-- The form of a member's ambiguities of a signal. -/
def formOf (x : TulGroup) (m signal : Nat) : TulForm := tget singleForm x.forms (256 * m + signal)

/-- The change of a member's theta less the reference's, for an ambiguity's signal, between two tables. -/
def thetaShift (t u : CalTable) (m ref : Nat) (b : TulAmb) : Int :=
  let i := sliceOfSignal b.signal
  let d := fun (a : Nat) => theta (calValueZ u a i) (carrierHz b.signal b.sv) i - theta (calValueZ t a i) (carrierHz b.signal b.sv) i
  d m - d ref

/-- The change that the reference satellite of a member's signal takes; none moves in single differences (07 R304). -/
def baseShift (t u : CalTable) (x : TulGroup) (m signal : Nat) (bs : List TulAmb) : Int :=
  let f := formOf x m signal
  if f.dd then ((bs.find? (fun b => b.ch == f.sat)).map (thetaShift t u m x.ref)).getD 0 else 0

/-- The float states of a group at a calibration epoch: each aperture's change in theta is added, less the reference satellite's in double
differences, and every integer kept (06 R269, 07 R304). -/
def shiftFloats (t u : CalTable) (x : TulGroup) : TulGroup :=
  { x with
    ambs := x.ambs.map (fun e => (e.1, e.2.map (fun b =>
      { b with float := b.float + thetaShift t u e.1 x.ref b - baseShift t u x e.1 b.signal e.2 }))),
    forms := x.forms.map (fun e =>
      (e.1, { e.2 with float := e.2.float + baseShift t u x (e.1 / 256) (e.1 % 256) (tget [] x.ambs (e.1 / 256)) })) }

/-- The calibration epoch E8: every output uses the new table (06 R268, R271). CAL_LOAD has replaced the entries whose phases ran out of their range, but
for those that left the change (06 R263). -/
def calApply (s : State) : State := match s.cal.change with
  | some ch =>
    let s := { s with meas.groups := s.meas.groups.map (fun (g : Nat × TulGroup) => (g.1, shiftFloats s.cal.table ch.next g.2)) }
    { s with
      cal.table := { ch.next with id := nextCalId s }, cal.change := none, cal.abandonDue := false, cal.writing := true,
      cal.ests := [], cal.ending := s.cal.ending.map (fun w => { w with old := true }),
      cal.closed := s.cal.closed.map (fun w => { w with old := true }), cal.epochLabel := some s.epochMs, cal.epochAt := some s.ms,
      cal.outOfRange := if ch.cause = 3 then s.cal.outOfRange.filter (fun k => ch.gone.testBit (k / 4)) else s.cal.outOfRange }
  | none => s

/-- The entries of apertures that leave running during the overlap leave the change and keep their old values (06 R274). -/
def calLeave (s : State) : State := match s.cal.change with
  | some ch =>
    if 8 ≤ ch.epochs then s
    else
    let gone := (maskBits 24 ch.ran).filter (fun a => !aprRunning s a && s.cal.ref != some a)
    let vals := gone.foldl (fun t a => (upto 4).foldl (fun u i => tset none u (4 * a + i) (calValue s.cal.table a i)) t) ch.next.values
    let temps := gone.foldl (fun t a => tset (-32768) t a (tget (-32768) s.cal.table.temps a)) ch.next.temps
    let next : CalTable := { ch.next with values := vals, temps := temps }
    { s with cal.change := some { ch with next := next, ran := gone.foldl (fun m a => setBit m a false) ch.ran, gone := ch.gone ||| bitsMask gone } }
  | none => s

/-- Restore the stored tables at the first measurement epoch after a reset, where their CRCs hold; what MRAM holds stays until it is
overwritten (06 R272, R273; a distribution table that fails is logged and empty: log 50). -/
def calRestore (tableBad distBad : Bool) (s : State) : State :=
  let s := { s with cal.restoreDue := false }
  let s := if distBad && s.cal.storedDist.isSome then logErr 0x0E 3 0x06 0 { s with cal.dist := CalTable.empty } else s
  match s.cal.stored with
  | none => postCalEvent 4 3 s
  | some t =>
    if tableBad then postCalEvent 4 2 (logErr 0x0E 3 0x06 0 { s with cal.table := CalTable.empty })
    else
      let es := ((upto 24).filter (fun a => !(calValid t a).isEmpty)).map (fun a => calEntryBytes t a 0)
      postCal 4 1 255 255 s.epochMs es { s with cal.table := t }

/-- The conditions under which VCAL_OUT carries the signal (06 R255). -/
def voileOn (s : State) : Bool :=
  s.cal.cfg.mode != 0 && !clockBypass s && s.profile.sel != 4 && islandReady s 25

/-- Measurement is suspended: Burst, or the tracking array island is off (06 R274). -/
def voileSuspended (s : State) : Bool := s.profile.sel == 4 || !islandReady s 25

/-! ### The signal and the correlators (06 R251, R252, R254, R261) -/

/-- Chips of a component in a millisecond: 50 Mcps in S0 and S3, 30 Mcps in S1 and S2 (06 R251). -/
def voileChips (i : Nat) : Nat := if i = 0 ∨ i = 3 then 50000 else 30000

/-- One step of a 31-stage generator: its register shifts in the parity of the tapped stages (06 R252). -/
def genStep (taps r : BitVec 31) : BitVec 31 := (r <<< 1) ||| BitVec.ofNat 31 (parityOf 31 (r &&& taps).toNat)
/-- A generator after `n` steps. -/
def genAfter (taps : BitVec 31) : Nat → BitVec 31 → BitVec 31
  | 0, r => r
  | n + 1, r => genAfter taps n (genStep taps r)

/-- The generators at their restart. -/
def genSeeds : List (BitVec 31) := (upto 4).map Config.voileSeed

/-- The generators at an epoch: they restart at a whole second, and run while the signal does (06 R252, R255). -/
def voileGens (s : State) : State :=
  let s := { s with cal.gensOld := if s.cal.radiating then s.cal.gens else [] }
  if s.epochMs % 1000 = 0 then { s with cal.gens := genSeeds }
  else if s.cal.radiating then { s with cal.gens := s.cal.gens.mapIdx (fun i r => genAfter (Config.voileTaps i) (voileChips i) r) }
  else s

/-- A chip of a component from its generator: the top stage, +1 or -1. -/
def chipOf (taps r : BitVec 31) (n : Nat) : Int := if (genAfter taps n r).msb then -1 else 1

/-- Chip `j` of a component, counted from the epoch; those before it are the earlier millisecond's, while the signal ran in it. -/
def voileChip (s : State) (i : Nat) (j : Int) : Int :=
  if 0 ≤ j then chipOf (Config.voileTaps i) (s.cal.gens.getD i 0) j.toNat
  else match s.cal.gensOld[i]? with
    | some r => chipOf (Config.voileTaps i) r (j + voileChips i).toNat
    | none => 0

/-- The passband of a slice, offsets in Hz (03 R109): a component is filtered to it and centred in it (06 R251). -/
def voileBand (i : Nat) : Int × Int :=
  if i = 1 then (-12000000, 22000000) else if i = 2 then (-16000000, 16000000) else (-26000000, 26000000)
/-- The width of a component's occupied band, and its centre as an offset from the slice's, Hz: 0, and 5 MHz in S1 (06 R251). -/
def voileWidth (i : Nat) : Nat := ((voileBand i).2 - (voileBand i).1).toNat
def voileOffset (i : Nat) : Int := ((voileBand i).1 + (voileBand i).2) / 2
/-- The centre of a component, Hz. -/
def voileCentre (i : Nat) : Int := sliceCentre i + voileOffset i

/-- A component without its carrier, `at'` in 2^-16 chip after the epoch: its chips, filtered to the slice's passband (06 R251). -/
def voileBase (s : State) (i at' : Nat) : Int :=
  let hz := 1000 * voileChips i
  (upto (Config.voileSpan hz (voileWidth i))).foldl (fun v d =>
    let after : Nat := at' % 65536 + 65536 * d
    v + voileChip s i ((at' / 65536 : Nat) - d) * Config.voilePulse hz (voileWidth i) after) 0

/-- A component at sample `n` of a millisecond of `rate` samples a second, on a carrier whose phase is 0 at the epoch (Hz): in phase, and in quadrature. -/
def voileWave (s : State) (i n rate : Nat) (carrier : Int) : Int × Int :=
  turn (carrier * n * 4294967296 / rate) (voileBase s i (n * voileChips i * 65536 / (rate / 1000)), 0)

/-- The sample that the DAC of VCAL_OUT gives in the `n`-th cycle of the 1.1 GHz sample clock after an epoch, before LEVEL scales it: the sum of the four
components, placed so that the third Nyquist zone, 1100 MHz to 1650 MHz, holds them at their centres; 0, the mid-code, while the signal is silent
(06 R252, R255). -/
def vcalSample (s : State) (n : Nat) : Int :=
  if s.cal.radiating then
    ((maskBits 4 s.cal.cfg.slices).map (fun i => (voileWave s i n 1100000000 (voileCentre i - 1100000000)).1)).foldl (· + ·) 0
  else 0

/-- The local replica of a component at sample `k` of a slice in the millisecond (06 R261). -/
def voileReplica (s : State) (i k : Nat) : Int × Int := voileWave s i k (sliceRate i) (voileOffset i)

/-- VCAL_OUT's density in 0.1 dBm/MHz while it carries the signal (06 R254). -/
def vcalDensity (s : State) : Option Int := if s.cal.radiating then some (-600 - 5 * s.cal.cfg.level) else none

/-- The Voile correlator of an aperture takes a transfer unit of slice `i`. -/
def voileUnit (a i : Nat) (s : State) : State :=
  let u := sliceOf s a i
  if s.cal.radiating && islandReady s 25 && s.cal.cfg.slices.testBit i && aprRunning s a then
    { s with cal.win := { s.cal.win with
      sums := tmod [] s.cal.win.sums (4 * a + i) (foldUnit (fun k z r => Config.voileStep i (voileReplica s i k) z r) u.unit u.unitPos) } }
  else s

/-! ### The epoch -/

/-- The window that ends, as its results will be formed: with what notches impose at the slice centres as it ends (06 R261; 03 R120). -/
def closeWindow (s : State) : CalWindow :=
  { s.cal.win with
    imposed := s.cal.win.sums.foldl (fun t e => tset (0, 0) t e.1 (notchImposes s (e.1 / 4) (e.1 % 4) 0)) [],
    label := s.epochMs, ref := s.cal.ref, slices := s.cal.cfg.slices, report := s.cal.cfg.report, dist := s.cal.dist }

/-- The slices on which a notch engaged or released in the millisecond that ends. -/
def notchedKeys (s : State) : List Nat := (upto 96).filter (fun k => (sliceOf s (k / 4) (k % 4)).notchMoved)

/-- The window's conditions over the millisecond that ends, before the settings of the epoch take effect (06 R262); a whole second ends the window,
and the next begins with it (06 R261). -/
def voileMark (s : State) : State :=
  let notched := notchedKeys s
  let s := foldS (fun k t => modSlice (k / 4) (k % 4) (fun x => { x with notchMoved := false }) t) notched s
  let s := { s with cal.win := { s.cal.win with
    lost := (upto 24).foldl (fun m a => if aprRunning s a then m else setBit m a true) s.cal.win.lost,
    off := s.cal.win.off ++ ((upto 96).filter (fun k => !s.cal.win.off.contains k && !(aprOf s (k / 4)).slicesOn.testBit (k % 4))),
    notched := s.cal.win.notched ++ notched.filter (fun k => !s.cal.win.notched.contains k),
    spoilt := s.cal.win.spoilt || !voileOn s } }
  if s.epochMs % 1000 = 0 then { s with cal.ending := some (closeWindow s), cal.win := CalWindow.fresh } else s

/-- The blanking of the millisecond that has ended enters its window. -/
def blankWindow (s : State) (w : CalWindow) : CalWindow :=
  { w with duty := (enabledApertures s).foldl (fun t a => tmod 0 t a (· + (aprOf s a).blankDuty)) w.duty, epochs := w.epochs + 1 }

/-- The epoch's part of Voile: abandonment asked by the host, the blanking of the millisecond that has ended, and at a measurement epoch the
restore, the overlap count and the calibration epoch (06 R262, R268, R273, R274). -/
def voileEpoch (tableBad distBad : Bool) (s : State) : State :=
  let s := if s.cal.abandonDue then abandonCal 1 s else s
  let s := calLeave s
  let s := { s with cal.radiating := s.cal.radiating && voileOn s }
  let s := match s.cal.ending with
    | some w => if s.epochMs % 1000 = 0 then { s with cal.ending := some (blankWindow s w) } else { s with cal.win := blankWindow s s.cal.win }
    | none => { s with cal.win := blankWindow s s.cal.win }
  let s := voileGens s
  if isMeasEpoch s then
    let s := if s.cal.restoreDue then calRestore tableBad distBad s else s
    match s.cal.change with
    | some ch =>
      if ch.epochs = 8 then calApply (announceCal s.epochMs s)
      else { s with cal.change := some { ch with epochs := ch.epochs + 1 } }
    | none => s
  else s

/-- At the final cut-off of an overlap epoch: a failed shadow check abandons the change, and after E7 the commit record is sent
(06 R269, R270). -/
def voileFinal (shadowFail : Bool) (s : State) : State := match s.cal.change with
  | some ch =>
    if ch.epochs = 0 then s
    else if shadowFail then abandonCal 2 s
    else if ch.epochs = 8 then announceCal (s.epochMs + 1000 / s.rates.rateHz) s
    else s
  | none => s

/-! ### The whole second (06 R252, R255, R261, R265, R275) -/

/-- The reference: the aperture named by REF while it runs, else the lowest-numbered running one (06 R264). -/
def wantedRef (s : State) : Option Nat :=
  if s.cal.cfg.ref < 24 ∧ aprRunning s s.cal.cfg.ref then some s.cal.cfg.ref else (upto 24).find? (aprRunning s)

/-- The CAUSE of a change of reference (06 R280). -/
def refCause (old : Option Nat) (named : Bool) (s : State) : Nat :=
  if named then 3
  else match old with
    | some a => if aprRunning s a then 2 else 1
    | none => 2

/-- The work of a whole second, which ended a window: settings, the reference and the distribution table change only here. What starts the candidates anew
keeps the window that has ended out of them (06 R266). In MODE 0 nothing is measured, and there is no reference (06 R276; log 67). -/
def voileSecond (s : State) : State :=
  let was := s.cal.cfg
  let cfg := s.cal.pendCfg.getD was
  let restart := cfg.ref != was.ref || cfg.slices != was.slices || (was.mode == 0 && cfg.mode != 0)
  let old := s.cal.ref
  let s := { s with
    cal.cfg := cfg, cal.pendCfg := none, cal.dist := s.cal.distNext.getD s.cal.dist, cal.distNext := none,
    cal.ests := if restart then [] else s.cal.ests, cal.ending := none,
    cal.closed := if was.mode = 0 then none else s.cal.ending.map (fun (w : CalWindow) => { w with old := w.old || restart }) }
  let s := { s with cal.radiating := voileOn s }
  if cfg.mode = 0 then { s with cal.ref := none }
  else
    let new := wantedRef s
    if new = old then s
    else
      let s := { s with cal.ref := new, cal.ests := [], cal.closed := s.cal.closed.map (fun w => { w with old := true }) }
      abandonCal 3 (postCalEvent 5 (refCause old (cfg.ref != was.ref || was.mode == 0) s) s)

/-! ### The end of a window (06 R261 to R267) -/

/-- What the correlators of an aperture and of the window's reference measured: group delay (1/1024 ns) and phase (2^-24 cycle, modulo one cycle),
less what notches imposed, and their 1 sigma (ps, 10^-4 cycle) (06 R261, R264; 03 R120). -/
def calMeasured (w : CalWindow) (ref k : Nat) : Int × Int × Nat × Nat :=
  let kr := 4 * ref + k % 4
  let m := Config.voileFit (k % 4) (tget [] w.sums k) (tget [] w.sums kr)
  let z := tget (0, 0) w.imposed k
  let zr := tget (0, 0) w.imposed kr
  (m.1 - roundDiv (z.1 - zr.1) 1024, m.2.1 - roundDiv (z.2 - zr.2) 256, m.2.2.1, m.2.2.2)

/-- The estimate of a window, by the distribution table that held in it: relative to the datum, its phase unwrapped to the value that the delay
predicts (06 R263, R264). -/
def calEstimate (s : State) (w : CalWindow) (ref k : Nat) (m : Int × Int × Nat × Nat) : CalValue :=
  let a := k / 4
  let i := k % 4
  let d := calValueZ w.dist a i
  let dr := calValueZ w.dist ref i
  let r := calValueZ s.cal.table ref i
  let t := calValueZ s.cal.table a i
  let delay := m.1 - (d.delay - dr.delay) + r.delay
  let raw := m.2.1 - (d.phase - dr.phase) + r.phase
  let target := t.phase + roundDiv ((sliceCentre i : Int) * (delay - t.delay) * 16384) 1000000000
  { delay := delay, phase := raw + 16777216 * roundDiv (target - raw) 16777216, sd := m.2.2.1, sp := m.2.2.2 }

/-- A window's estimate for a key is valid but for the range of its phase (06 R262). -/
def calKeyValid (s : State) (w : CalWindow) (ref k : Nat) (m : Int × Int × Nat × Nat) : Bool :=
  let a := k / 4
  let kr := 4 * ref + k % 4
  let quiet := fun (x : Nat) => decide (tget 0 w.duty x ≤ 64 * w.epochs)
  a != ref && !w.spoilt && !w.lost.testBit a && !w.lost.testBit ref && !w.off.contains k && !w.off.contains kr
    && w.slices.testBit (k % 4) && !w.notched.contains k && !w.notched.contains kr && quiet a && quiet ref
    && !s.cal.outOfRange.contains k && decide (m.2.2.1 ≤ 100) && decide (m.2.2.2 ≤ 28)

/-- A phase outside the entry field: an alarm, and no further valid estimate (06 R263). -/
def calOutOfRange (k : Nat) (s : State) : State :=
  postCal 6 5 (k / 4) (k % 4) s.epochMs [] { s with cal.outOfRange := s.cal.outOfRange ++ [k] }

/-- Form the estimate of one key; it joins the candidates unless the window is older than what starts them anew. -/
def calTake (w : CalWindow) (ref k : Nat) (s : State) : State :=
  let m := calMeasured w ref k
  if calKeyValid s w ref k m then
    let e := calEstimate s w ref k m
    if -(2 ^ 31 : Int) ≤ e.phase ∧ e.phase < 2 ^ 31 then
      { s with
        cal.ests := if w.old then s.cal.ests else tmod [] s.cal.ests k (fun l => (e :: l).take 60),
        cal.last := tset none s.cal.last k (some e), cal.invalid := s.cal.invalid.filter (· != k) }
    else calOutOfRange k s
  else s

/-- INJ of the slices that an aperture's correlator measured in a window, 0.25 dB below the noise density (06 R276). -/
def windowInjs (w : CalWindow) (a : Nat) : List Nat :=
  ((upto 4).filter (fun i => !(tget [] w.sums (4 * a + i)).isEmpty)).map (fun i => (Config.voileInj i (tget [] w.sums (4 * a + i))).toNat)

/-- The smallest of them. -/
def smallestOf : List Nat → Option Nat
  | [] => none
  | n :: t => some (t.foldl min n)

/-- The injection level of an aperture: an alarm after 10 consecutive windows in which some slice lies outside 20 dB to 30 dB, cleared after 10 with every
slice inside (06 R256, R280); what the last of them names is log 68. -/
def calInject (w : CalWindow) (a : Nat) (s : State) : State := match smallestOf (windowInjs w a) with
  | none => s
  | some n =>
    let x := tget CalInj.initial s.cal.inj a
    let weak := (windowInjs w a).any (fun v => decide (120 < v))
    let out := weak || decide (n < 80)
    let y : CalInj :=
      { inj := some n, outside := if out then x.outside + 1 else 0, inside := if out then 0 else x.inside + 1, alarm := x.alarm }
    let level := if x.alarm = 0 ∧ 10 ≤ y.outside then (if n < 80 then 2 else 1) else if 10 ≤ y.inside then 0 else x.alarm
    let s := { s with cal.inj := tset CalInj.initial s.cal.inj a { y with alarm := level } }
    if level = x.alarm then s else postCal 6 (if level = 0 then 3 else level) a 255 s.epochMs [] s

/-- The candidate of a key: the mean of the last AVG valid estimates (06 R266); its 1 sigma is divided by the square root of
AVG. -/
def calCandidate (s : State) (k : Nat) : Option CalValue :=
  let l := tget [] s.cal.ests k
  let n := s.cal.cfg.avg
  if l.length < n then none
  else
    let m := l.take n
    some { delay := roundDiv (m.foldl (fun z e => z + e.delay) 0) n, phase := roundDiv (m.foldl (fun z e => z + e.phase) 0) n,
           sd := isqrt (m.foldl (fun z e => z + e.sd * e.sd) 0) / n, sp := isqrt (m.foldl (fun z e => z + e.sp * e.sp) 0) / n }

/-- The keys that have a candidate. -/
def calCandidates (s : State) : List Nat := (upto 96).filter (fun k => (calCandidate s k).isSome)

/-- Decide a change: every aperture and slice that has a candidate takes it (06 R267). -/
def calDecide (cause : Nat) (temp : Int) (s : State) : State :=
  let vals := (calCandidates s).foldl (fun t k => tset none t k (calCandidate s k)) s.cal.table.values
  let temps := (calCandidates s).foldl (fun t k => tset (-32768) t (k / 4) temp) s.cal.table.temps
  let next : CalTable := { s.cal.table with values := vals, temps := temps }
  let ch : CalChange :=
    { cause := cause, next := next, epochs := 0, ran := bitsMask ((upto 24).filter (aprRunning s)), gone := 0, announced := false }
  { s with cal.change := some ch }

/-- Some candidate differs from the active entry by more than a threshold (06 R267). -/
def calBeyond (s : State) : Bool := (calCandidates s).any (fun k => match calCandidate s k with
  | some v =>
    let t := calValueZ s.cal.table (k / 4) (k % 4)
    decide (1024 * s.cal.cfg.delayThr < 1000 * (v.delay - t.delay).natAbs)
      || decide (16777216 * s.cal.cfg.phaseThr < 3600 * (v.phase - t.phase).natAbs)
  | none => false)

/-- The window record: one ROLE 2 entry per measured aperture (06 R280). -/
def calWindowReport (w : CalWindow) (keys : List Nat) (temp : Int) (s : State) : State :=
  let as := (upto 24).filter (fun a => w.ref != some a && (upto 4).any (fun i => !(tget [] w.sums (4 * a + i)).isEmpty))
  let t : CalTable :=
    { values := keys.foldl (fun t k => tset none t k (tget none s.cal.last k)) [],
      temps := as.foldl (fun t a => tset (-32768) t a temp) [], id := s.cal.table.id }
  postCal 1 0 255 255 w.label (as.map (fun a => calEntryBytes t a 2)) s

/-- The keys of which a window was to give estimates: those measured, and those of the slices that it covered and that are enabled. -/
def windowKeys (s : State) (w : CalWindow) : List Nat :=
  (upto 96).filter (fun k => w.ref != some (k / 4)
    && (!(tget [] w.sums k).isEmpty || (w.slices.testBit (k % 4) && (aprOf s (k / 4)).slicesOn.testBit (k % 4))))

/-- The estimates of a window: none where there was no reference. -/
def calTakes (w : CalWindow) (keys : List Nat) (s : State) : State := match w.ref with
  | some ref => foldS (calTake w ref) (keys.filter (fun k => !(tget [] w.sums k).isEmpty)) s
  | none => s

/-- VOILE_WINDOW_END (06 R261 to R267): estimates, injection alarms, the window record and, in mode 2, a change. -/
def voileWindowEnd (temp : Int) (s : State) : State := match s.cal.closed with
  | none => s
  | some w =>
    let keys := windowKeys s w
    let s := calTakes w keys { s with cal.closed := none, cal.invalid := keys }
    let s := if w.spoilt then s else foldS (calInject w) ((upto 24).filter (fun a => !w.lost.testBit a)) s
    let s := if w.report then calWindowReport w (keys.filter (fun k => !s.cal.invalid.contains k)) temp s else s
    let settled : Bool := match s.cal.epochAt with
      | some t => decide (t + 10000 ≤ s.ms)
      | none => true
    if s.cal.cfg.mode = 2 ∧ s.cal.change = none ∧ settled ∧ calBeyond s then calDecide 1 temp s else s

/-- CAL_TABLE_STORED (06 R271): the table's MRAM write completes or fails. -/
def calTableStored (ok : Bool) (s : State) : State :=
  if s.cal.writing then
    let s := { s with cal.writing := false }
    if ok then { s with cal.stored := some s.cal.table } else postCal 6 4 255 255 s.epochMs [] s
  else s

/-! ### Commands (06 R275 to R278) -/

/-- CAL_VOILE (06 R275): settings take effect at the next whole second. -/
def calVoileAct (p : Packet) (s : State) : CmdOut :=
  let b := p.params
  let mode := u8 b 0
  rejectIf (decide (2 < mode) || (decide (23 < u8 b 1) && u8 b 1 != 255) || decide (63 < u8 b 2) || decide (u8 b 3 < 1)
    || decide (60 < u8 b 3) || decide (u8 b 4 < 1) || decide (u8 b 5 < 1) || decide (180 < u8 b 5) || decide (15 < u8 b 6)
    || (mode != 0 && u8 b 6 == 0) || decide (1 < u8 b 7)) .badValue <|
  rejectIf (s.cal.change.isSome && mode != (s.cal.pendCfg.getD s.cal.cfg).mode) .badState <|
  let cfg : CalCfg :=
    { mode := mode, ref := u8 b 1, level := u8 b 2, avg := u8 b 3, delayThr := u8 b 4, phaseThr := u8 b 5, slices := u8 b 6,
      report := u8 b 7 == 1 }
  done { s with cal.pendCfg := some cfg }

def specCalVoile : OpSpec :=
  { plainOp 0x0601 false 8 calVoileAct with
    islands := fun b _ => if u8 b 0 = 1 ∨ u8 b 0 = 2 then [25] else [], reach := fun _ _ => [37] }

/-- A group of SLICE_EST (06 R276). -/
def calEstBytes (v : Option CalValue) : List Byte := match v with
  | some e =>
    leI 3 (roundDiv (e.delay * 1000) 1024) ++ le 2 ((e.phase % 16777216).toNat / 256) ++ le 1 (sat 255 e.sd) ++ le 1 (sat 255 e.sp)
  | none => zeros 7

/-- One 32-byte entry of CAL_STATUS (06 R276). -/
def calStatusEntry (s : State) (a : Nat) : List Byte :=
  let x := tget CalInj.initial s.cal.inj a
  let st := if s.cal.ref = some a then 2
    else if s.cal.cfg.mode ≠ 0 ∧ !voileSuspended s ∧ aprRunning s a then 1 else 0
  let keys := (upto 4).map (fun i => 4 * a + i)
  let flags := b2n (x.inj.any (fun n => decide (120 < n))) + 2 * b2n (x.inj.any (fun n => decide (n < 80))) + 4 * b2n (keys.any s.cal.invalid.contains)
    + 8 * b2n (keys.any (fun k => (calCandidate s k).isSome)) + 16 * b2n (keys.any s.cal.outOfRange.contains)
  le 1 a ++ le 1 st ++ le 1 flags ++ le 1 (x.inj.getD 0)
    ++ (if st = 1 then keys.flatMap (fun k => calEstBytes (tget none s.cal.last k)) else zeros 28)

/-- CAL_STATUS (06 R276). -/
def calStatusAct (_p : Packet) (s : State) : CmdOut :=
  let as := enabledApertures s
  let st := if s.cal.cfg.mode = 0 then 0 else if voileSuspended s then 3 else if s.cal.change.isSome then 2 else 1
  answer (le 1 s.cal.cfg.mode ++ le 1 (s.cal.ref.getD 255) ++ le 1 st ++ le 1 (b2n (s.cal.stored == some s.cal.table))
    ++ le 2 s.cal.table.id ++ le 1 as.length ++ zeros 1 ++ as.flatMap (calStatusEntry s)) s

def specCalStatus : OpSpec := plainOp 0x0602 false 0 calStatusAct

/-- The die temperature as a signed value. -/
def dieTempOf (p : Packet) : Int := p.obs.dieTemp.toInt

/-- CAL_COMMIT (06 R277). -/
def calCommitAct (p : Packet) (s : State) : CmdOut :=
  let b := p.params
  rejectIf (decide (1 < u8 b 0) || !zeroAt b 1 3) .badValue <|
  if u8 b 0 = 0 then
    rejectIf (s.cal.cfg.mode == 0 || (calCandidates s).isEmpty || s.cal.change.isSome) .badState <|
    done (calDecide 2 (dieTempOf p) s)
  else
    rejectIf s.cal.change.isNone .badState <|
    done { s with cal.abandonDue := true }

def specCalCommit : OpSpec := plainOp 0x0603 false 4 calCommitAct

/-- An entry of CAL_LOAD is in range (06 R278). -/
def calEntryOk (table : Nat) (e : List Byte) : Bool :=
  let t := i16 e 4
  decide (u8 e 0 ≤ 23) && decide (u8 e 1 ≤ 15) && u8 e 2 == 0 && zeroAt e 3 1
    && (decide (-400 ≤ t ∧ t ≤ 1250) || t == -32768) && zeroAt e 6 2 && zeroAt e 56 8
    && (upto 4).all (fun i =>
      let o := 8 + 12 * i
      decide ((i32 e o).natAbs ≤ 4096000) && ((u8 e 1).testBit i || zeroAt e o 12)
        && (table == 1 || zeroAt e (o + 8) 4))

/-- The table that the entries of CAL_LOAD give. -/
def calTableIn (id : Nat) (es : List (List Byte)) : CalTable :=
  { values := es.foldl (fun t e => (maskBits 4 (u8 e 1)).foldl (fun u i =>
      let o := 8 + 12 * i
      tset none u (4 * u8 e 0 + i) (some { delay := i32 e o, phase := i32 e (o + 4), sd := u16 e (o + 8), sp := u16 e (o + 10) })) t) [],
    temps := es.foldl (fun t e => tset (-32768) t (u8 e 0) (i16 e 4)) [], id := id }

/-- Two entries name one aperture. -/
def sameApr : List (List Byte) → Bool
  | [] => false
  | e :: t => t.any (fun f => u8 f 0 == u8 e 0) || sameApr t

/-- CAL_LOAD (06 R274, R278): TABLE 1 by the overlap sequence, TABLE 2 written to MRAM before the reply and applied from the
next window. -/
def calLoadAct (p : Packet) (s : State) : CmdOut :=
  let b := p.params
  let es := chunks 64 (u8 b 1) (b.drop 8)
  rejectIf (u8 b 0 == 0 || decide (2 < u8 b 0) || decide (24 < u8 b 1) || !zeroAt b 2 6
    || es.any (fun e => !calEntryOk (u8 b 0) e) || sameApr es) .badValue <|
  if u8 b 0 = 1 then
    rejectIf s.cal.change.isSome .badState <|
    let ch : CalChange :=
      { cause := 3, next := calTableIn s.cal.table.id es, epochs := 0, ran := bitsMask ((upto 24).filter (aprRunning s)),
        gone := 0, announced := false }
    done { s with cal.change := some ch }
  else
    rejectIf p.obs.mramFail .integrity <|
    done { s with
      cal.distNext := some (calTableIn 0 es), cal.storedDist := some (calTableIn 0 es), cal.ests := [], cal.win.old := true,
      cal.ending := s.cal.ending.map (fun w => { w with old := true }), cal.closed := s.cal.closed.map (fun w => { w with old := true }) }

def specCalLoad : OpSpec :=
  { plainOp 0x0604 false 8 calLoadAct with maxLen := 1544, form := fun b => some (8 + 64 * u8 b 1) }

/-! ### The rows -/

def execCalVoile (p : Packet) (s : State) : Host.Outcome State Fault Refusal := .next (runCmd specCalVoile p s)
def execCalStatus (p : Packet) (s : State) : Host.Outcome State Fault Refusal := .next (runCmd specCalStatus p s)
def execCalCommit (p : Packet) (s : State) : Host.Outcome State Fault Refusal := .next (runCmd specCalCommit p s)
def execCalLoad (p : Packet) (s : State) : Host.Outcome State Fault Refusal := .next (runCmd specCalLoad p s)
def execVoileWindowEnd (dieTemp : BitVec 16) (s : State) : Host.Outcome State Fault Refusal := .next (voileWindowEnd dieTemp.toInt s)
def execCalTableStored (ok : Bool) (s : State) : Host.Outcome State Fault Refusal := .next (calTableStored ok s)

end Sys2Proof.Machine
end

