-- ==== Sys2Proof/Machine/Measure.lean ====
section
/-! DEFINITION. Measurements, MSG_EPOCH, MSG_PVT, corrections and the Tulle solutions with their provisional and final rule (07). The
numerical solvers are functions of the configuration; what enters them, and what the rules decide about their results, is computed. -/
namespace Sys2Proof.Machine

/-! ### Rates (07 R281, R282) -/

/-- The epoch is a Tulle epoch. -/
def isTulEpoch (s : State) : Bool :=
  isMeasEpoch s && s.rates.tulDiv != 0 && s.epochMs % (1000 * s.rates.tulDiv / s.rates.rateHz) == 0
/-- The epoch is a PVT epoch. -/
def isPvtEpoch (s : State) : Bool :=
  isMeasEpoch s && s.rates.pvtDiv != 0 && s.epochMs % (1000 * s.rates.pvtDiv / s.rates.rateHz) == 0

/-- PVT_DIV fits a measurement rate (07 R295). -/
def pvtFits (rate div : Nat) : Bool := div == 0 || (rate % div == 0 && decide (rate ≤ 100 * div))

/-- The PVT_DIVs in force and waiting. -/
def pvtDivs (s : State) : List Nat := s.rates.pvtDiv :: (s.meas.pendNav.map (·.pvtDiv)).toList

/-- MEAS_RATE (07 R282; 12 R486). -/
def measRateAct (p : Packet) (s : State) : CmdOut :=
  let b := p.params
  let r := u16 b 0
  let d := u8 b 2
  rejectIf (r == 0 || 1000 % r != 0 || (d != 0 && r % d != 0) || !zeroAt b 3 1) .badValue <|
  rejectIf ((pvtDivs s).any (fun v => !pvtFits r v)) .badState <|
  rejectIf (decide (s.profile.env.measRate < r) || (d != 0 && (s.profile.env.tulGroups == 0 || decide (s.profile.env.tulRate * d < r)))
    || budgetBroken s { s with rates.rateHz := r, rates.tulDiv := d }) .profileLimit <|
  done { s with meas.pendRates := some (r, d) }

def specMeasRate : OpSpec := { plainOp 0x0701 false 4 measRateAct with islands := fun _ _ => [] }

/-- The rates that wait take effect at a whole-second epoch (07 R282). -/
def takeRates (s : State) : State := match s.meas.pendRates with
  | some (r, d) => if s.epochMs % 1000 = 0 then
      { s with rates.rateHz := r, rates.tulDiv := d, meas.pendRates := none } else s
  | none => s

/-! ### NAV_CONFIG and corrections (07 R295, R297, R298) -/

/-- NAV_CONFIG. -/
def navConfigAct (p : Packet) (s : State) : CmdOut :=
  let b := p.params
  let div := u8 b 0
  let cfg : NavCfg :=
    { pvtDiv := div, mode := u8 b 1, dyn := u8 b 2, elev := u8 b 3, cn0 := u8 b 4, systems := u8 b 5, point := u8 b 6,
      corrSrc := u8 b 7, corrNode := u8 b 8, ageLimit := u8 b 9 }
  let rates := s.rates.rateHz :: (s.meas.pendRates.map (·.1)).toList
  rejectIf (rates.any (fun r => !pvtFits r div) || decide (3 < cfg.mode) || (decide (2 ≤ cfg.mode) && cfg.corrSrc == 0)
    || decide (3 < cfg.dyn) || decide (60 < cfg.elev) || decide (cfg.cn0 < 10) || decide (45 < cfg.cn0) || cfg.systems == 0
    || decide (127 < cfg.systems) || (decide (23 < cfg.point) && cfg.point != 255) || decide (2 < cfg.corrSrc)
    || (if cfg.corrSrc = 2 then decide (63 < cfg.corrNode) else cfg.corrNode != 0) || cfg.ageLimit == 0
    || decide (60 < cfg.ageLimit) || !zeroAt b 10 6) .badValue <|
  rejectIf (budgetBroken s { s with rates.pvtDiv := div }) .profileLimit <|
  done { s with meas.pendNav := some cfg }

def specNavConfig : OpSpec := { plainOp 0x0706 false 16 navConfigAct with islands := fun _ _ => [] }

/-- Corrections without what a source has brought: another source starts afresh, and only the counts go on (07 R295). -/
def dropFrames (c : Corrections) : Corrections := { c with station := none, base := none, lastMs := none, frames := [] }

/-- The settings that wait take effect at the first PVT epoch; with PVT off, at the first of their own (07 R295). -/
def takeNav (s : State) : State := match s.meas.pendNav with
  | some n =>
    let due := if s.rates.pvtDiv = 0 then isPvtEpoch { s with rates.pvtDiv := max 1 n.pvtDiv } else isPvtEpoch s
    if due then
      let was := s.meas.nav
      let restart := was.mode != n.mode || was.systems != n.systems || was.point != n.point
      { s with meas.nav := n, meas.pendNav := none, rates.pvtDiv := n.pvtDiv,
               meas.navRestarts := if restart then s.meas.navRestarts + 1 else s.meas.navRestarts,
               meas.navMem := if restart then [] else s.meas.navMem,
               meas.corr := if was.corrSrc = n.corrSrc ∧ was.corrNode = n.corrNode then s.meas.corr else dropFrames s.meas.corr }
    else s
  | none => s

/-- The length field of the frame at the head of bytes. -/
def frameLen (bs : List Byte) : Nat := (u8 bs 1 * 256 + u8 bs 2) % 1024
/-- A complete frame stands at the head of bytes: its preamble, and all of its bytes. -/
def frameWhole (bs : List Byte) : Bool := u8 bs 0 == 0xD3 && decide (6 + frameLen bs ≤ bs.length)
/-- Its six reserved bits are zero and its CRC-24Q holds (07 R297). -/
def frameGood (bs : List Byte) : Bool :=
  let n := frameLen bs
  decide (u8 bs 1 < 4)
    && crcMsb 24 0x864CFB 0 (bs.take (3 + n)) == u8 bs (3 + n) * 65536 + u8 bs (4 + n) * 256 + u8 bs (5 + n)
/-- The message of the frame at the head of bytes. -/
def frameMsg (bs : List Byte) : List Byte := (bs.drop 3).take (frameLen bs)

/-- The complete RTCM frames that bytes hold; none where they are not a sequence of good frames (07 R297). `fuel` bounds their
number. -/
def rtcmFrames : Nat → List Byte → Option (List (List Byte))
  | 0, bs => if bs.isEmpty then some [] else none
  | fuel + 1, bs =>
    if bs.isEmpty then some []
    else if frameWhole bs && frameGood bs then (rtcmFrames fuel (bs.drop (6 + frameLen bs))).map (fun r => frameMsg bs :: r)
    else none

/-- The frames of the link correction stream, one by one: the message of each good one, and none for each failing one; behind bytes at which no
complete frame begins nothing can be told apart, and they count as one (07 R297). -/
def rtcmEach : Nat → List Byte → List (Option (List Byte))
  | 0, _ => []
  | fuel + 1, bs =>
    if bs.isEmpty then []
    else if frameWhole bs then (if frameGood bs then some (frameMsg bs) else none) :: rtcmEach fuel (bs.drop (6 + frameLen bs))
    else [none]

/-- A field of an RTCM message: `n` bits from bit `o`, most significant first (PRESUMED, log 42: RTCM 10403). -/
def rtcmField (m : List Byte) (o n : Nat) : Nat :=
  (((m.flatMap msbBits).drop o).take n).foldl (fun v b => 2 * v + b2n b) 0

/-- The message types that the device uses (07 R298). -/
def rtcmUsed (t : Nat) : Bool :=
  [1005, 1006, 1074, 1077, 1084, 1087, 1094, 1097, 1114, 1117, 1124, 1127, 1230, 1019, 1020, 1042, 1044, 1045, 1046].contains t

/-- The observation types. -/
def rtcmObs (t : Nat) : Bool := [1074, 1077, 1084, 1087, 1094, 1097, 1114, 1117, 1124, 1127].contains t

/-- The distance between two points in 0.1 mm exceeds 10 mm. -/
def movedBase (a b : Int × Int × Int) : Bool :=
  decide (10000 < ((a.1 - b.1) ^ 2 + (a.2.1 - b.2.1) ^ 2 + (a.2.2 - b.2.2) ^ 2).natAbs)

/-- Take one frame: counted; a new station or a moved reference point restarts RTK (07 R298). -/
def takeFrame (ms : Nat) (c : Corrections) (m : List Byte) : Corrections :=
  let t := rtcmField m 0 12
  if !rtcmUsed t then { c with ignored := (c.ignored + 1) % 2 ^ 32 }
  else
    let c := { c with used := (c.used + 1) % 2 ^ 32, frames := tset (0, []) c.frames t (ms, m) }
    let st := rtcmField m 12 12
    if t = 1005 ∨ t = 1006 then
      let p := (signExt 38 (rtcmField m 34 38), signExt 38 (rtcmField m 74 38), signExt 38 (rtcmField m 114 38))
      let moved : Bool := match c.base with
        | some q => movedBase p q
        | none => false
      { c with base := some p, restarts := if moved then c.restarts + 1 else c.restarts }
    else if rtcmObs t then
      if c.station = some st then { c with lastMs := some ms }
      else { c with station := some st, lastMs := some ms, restarts := if c.station.isSome then c.restarts + 1 else c.restarts }
    else c

/-- The ephemeris message types (07 R298). -/
def rtcmEphemeris (t : Nat) : Bool := [1019, 1020, 1042, 1044, 1045, 1046].contains t

/-- An ephemeris that a frame carries becomes the device's own (07 R298). -/
def frameOrbit (m : List Byte) (s : State) : State :=
  if rtcmEphemeris (rtcmField m 0 12) then
    match Config.rtcmOrbit m with
    | some r => holdOrbit { sv := r.1, almanac := false, refMs := r.2.1, fitMs := r.2.2.1, elems := r.2.2.2 } s
    | none => s
  else s

/-- Take frames: what they count and hold, and the ephemerides; a restart of RTK empties the position filter (07 R298). -/
def takeFrames (fs : List (List Byte)) (s : State) : State :=
  let c := fs.foldl (takeFrame s.ms) s.meas.corr
  let mem := if c.restarts = s.meas.corr.restarts then s.meas.navMem else []
  foldS frameOrbit fs { s with meas.corr := c, meas.navMem := mem }

/-- MEAS_CORRECTIONS (07 R297). -/
def measCorrectionsAct (p : Packet) (s : State) : CmdOut :=
  let b := p.params
  match rtcmFrames 4096 (b.drop 8) with
  | none => .reject .badValue
  | some fs =>
    rejectIf (u8 b 0 != 1 || !zeroAt b 1 1 || u16 b 2 == 0 || decide (4088 < u16 b 2) || !zeroAt b 4 4) .badValue <|
    rejectIf (s.meas.nav.corrSrc != 1) .badState <|
    done (takeFrames fs s)

def specMeasCorrections : OpSpec :=
  { plainOp 0x0705 false 8 measCorrectionsAct with
    maxLen := 4096, form := fun b => some (8 + u16 b 2), islands := fun _ _ => [] }

/-- Bytes of the link correction stream: its good frames are taken, and each failing one is dropped and counted (07 R297). -/
def linkCorrection (bs : List Byte) (s : State) : State :=
  let fs := rtcmEach 4096 bs
  let s := takeFrames (fs.filterMap id) s
  { s with meas.corr := { s.meas.corr with dropped := (s.meas.corr.dropped + (fs.filter (·.isNone)).length) % 2 ^ 32 } }

/-- The correction frames that the position engine uses: those not older than AGE_LIMIT; a reference point and an ephemeris are no corrections and
keep their use (07 R295, R298). -/
def freshFrames (s : State) : List (Nat × List Byte) :=
  (s.meas.corr.frames.filter (fun e => e.1 == 1005 || e.1 == 1006 || rtcmEphemeris e.1
    || decide (s.ms - e.2.1 ≤ 1000 * s.meas.nav.ageLimit))).map (fun e => (e.1, e.2.2))

/-! ### Dump records (01 R18, R32 to R37; 05 R206) -/

/-- The record of this epoch is in its bank. -/
def recordIn (s : State) (c a : Nat) : Bool := !(caOf s c a).dump.isEmpty && (caOf s c a).committed

/-- The stored record of a channel-aperture is poisoned: a granule of it is uncorrectable (01 R34); a granule of it is corrected. -/
def recPoisoned (y : ChanApr) : Bool := y.dumpErrs.any (fun n => decide (3 ≤ n))
def recCorrected (y : ChanApr) : Bool := y.dumpErrs.any (fun n => decide (1 ≤ n ∧ n ≤ 2))
/-- The CRC of the stored record fails (01 R32, stage 4). -/
def recCrcBad (y : ChanApr) : Bool := y.dump != withCrc (y.dump.take 60)

/-- The chain status bits that a record gives what is made from it (01 R36). -/
def recChain (y : ChanApr) : Nat :=
  128 * b2n (recPoisoned y) + 64 * b2n (recCrcBad y) + 32 * b2n (recFailed y.dump) + 8 * b2n (recCorrected y)

/-- The record is present and passed every check (01 R32, R37). -/
def recordGood (s : State) (c a : Nat) : Bool := recordIn s c a && recChain (caOf s c a) &&& 0xE0 == 0
/-- The record is present and failed a check. -/
def recordBad (s : State) (c a : Nat) : Bool := recordIn s c a && !recordGood s c a

/-- DUMP_RECORD_COMMIT (01 R18; 14 R555): the record is committed, with the errors that befall it, and delivered to the kernels that subscribe to
it. The entry is formed before the record's own CRC is verified (14 R557), so its CHAIN says nothing of DUMP_CRC (DESIGN CHOICE, log 76). -/
def dumpCommit (c a : Nat) (u : Upset) (s : State) : State :=
  if (caOf s c a).dump.isEmpty || (caOf s c a).committed then s
  else
    let s := modCa c a (fun x => { x with
      committed := true, dump := le 64 (uN 64 x.dump 0 ^^^ (u.flip % 2 ^ 512)), dumpErrs := u.errs.take 2 }) s
    deliverDump c a (recChain (caOf s c a) &&& 0xA8) (caOf s c a).dump s

/-! ### Raw measurements (07 R286 to R293) -/

/-- The epoch that the cutoffs serve is the last of a burst, after whose end they come (05 R247). -/
def lastOfBurst (s : State) : Bool := betweenBursts s && s.burst.heldMs == s.ms
/-- The aperture ran at the epoch that the cutoffs serve. -/
def aprRan (s : State) (a : Nat) : Bool := aprRunning s a || (lastOfBurst s && s.burst.gated.testBit a)
/-- The channel had correlators running at that epoch. -/
def chanRan (s : State) (c : Nat) : Bool :=
  (chanOf s c).state != .free && ((chanOf s c).state != .burstHold || lastOfBurst s)

/-- One aperture's measurement: PR in 0.1 mm, CP in 2^-16 cycle while valid, Doppler in 10^-5 Hz. -/
structure RawMeas where
  pr : Int
  cp : Option Int
  dopp : Int
deriving DecidableEq, Repr

/-- PR in 0.1 mm of a code delay in 1/1,024,000 ns. -/
def delayTo01mm (d : Int) : Int := roundDiv (d * lightSpeed) 102400000000

/-- The frequency of a channel's carrier in the complex samples of its slice, Hz from the centre. -/
def chanOffset (x : Channel) : Int := foldedOffset (chanSig x).slice (chanCarrier x)

/-- The replica's carrier phase at the latch (2^-16 cycle), with its sign turned so that it grows with range, and corrected for the slice's
filter, for the chain by a table and for the notches (07 R286; 03 R109, R120; 06 R259). -/
def replicaPhase (s : State) (t : CalTable) (c a : Nat) : Int :=
  let x := chanOf s c
  let i := (chanSig x).slice
  (-(roundDiv (x.latch.2.1 + (caOf s c a).latch.2.1) 65536) - theta (calValueZ t a i) (chanCarrier x) i
    - roundDiv (groupDelay i * sliceOffset i (chanOffset x)) 15625000000 - roundDiv (notchImposes s a i (chanOffset x)).2 65536)

/-- The prompt phase discriminator of a record, 2^-16 cycle, with its sign turned as well. -/
def phaseDisc (s : State) (c a : Nat) : Int := -roundDiv (promptPhase (chanOf s c) (chanOf s c).sign (caOf s c a).dump) 65536

/-- The pseudorange by a table and with a code discriminator, 0.1 mm: the latched code delay and LAG, less what the slice's filter, the table, the
declared delays and the notches account for (07 R286; 03 R109, R120; 06 R259; 08 R346). -/
def rangeWith (s : State) (t : CalTable) (c a : Nat) (disc : Int) : Int :=
  let x := chanOf s c
  let i := (chanSig x).slice
  delayTo01mm (x.latch.1 + (caOf s c a).latch.1 + disc - 1000 * (calValueZ t a i).delay
    - groupDelay i - 1024 * codeDelay s a i - roundDiv ((notchImposes s a i (chanOffset x)).1 * 125) 128)

/-- The code discriminator of a record, 1/1,024,000 ns (05 R200, R202). -/
def recordDisc (s : State) (c a : Nat) : Int :=
  codeOffsetAt (caOf s c a).dll (chanOf s c) (caOf s c a) (recJoined (caOf s c a).dump)

/-- The pseudorange of a record by a table. -/
def rangeBy (s : State) (t : CalTable) (c a : Nat) : Int := rangeWith s t c a (recordDisc s c a)
/-- The pseudorange of a record, 0.1 mm. -/
def rawRange (s : State) (c a : Nat) : Int := rangeBy s s.cal.table c a

/-- PR / lambda in 2^-16 cycle. -/
def rangeCycles (x : Channel) (pr : Int) : Int := roundDiv (pr * chanCarrier x * 65536) (lightSpeed * 10000)

/-- The milliseconds of transmit time modulo which a channel's PR is known before it has the week: the longest of its code, secondary-code and symbol
periods that it has synchronised to (07 R288). -/
def ambiguityMs (x : Channel) : Nat :=
  let i := chanSig x
  i.chips * 1000 / i.chipHz
    * (if x.sync then max 1 (max (Config.secondaryPeriods x.signal x.sv) (Config.symbolPeriods x.signal x.sv)) else 1)

/-- PR_REF: PR, or, while it is ambiguous, PR modulo c times that period (07 R288, R292). -/
def prRef (x : Channel) (pr : Int) : Int := if x.weekKnown then pr else pr % ((ambiguityMs x * 2997924580 : Nat) : Int)

/-- The range from which an entry's head is made: its first aperture's, by its record, or without one by the latched NCOs alone (07 R292; log 64). -/
def refRange (s : State) (c : Nat) : Int :=
  let a := (chanAprs s c).headD 0
  if recordIn s c a then rawRange s c a else rangeWith s s.cal.table c a 0

/-- What takes a channel's ranges into the range known: whole ambiguity periods, one number for all of its apertures. -/
def prShift (s : State) (c : Nat) : Int := prRef (chanOf s c) (refRange s c) - refRange s c

/-- A carrier phase starts: its integer part puts CP - PR / lambda into -0.5 to +0.5 cycle (07 R287). -/
def startPhase (c a : Nat) (s : State) : State :=
  if (caOf s c a).cpInt.isNone && (caOf s c a).state == 3 && recordGood s c a then
    let n := roundDiv (rangeCycles (chanOf s c) (rawRange s c a + prShift s c) - (replicaPhase s s.cal.table c a + phaseDisc s c a)) 65536
    modCa c a (fun y => { y with cpInt := some n }) s
  else s

/-- An engine reads a record for the first time: a failed dump CRC and a poisoned granule are logged (01 R32, R34), and the carrier phase may
start. -/
def readRecord (c a : Nat) (s : State) : State :=
  let y := caOf s c a
  if y.checked || !recordIn s c a then s
  else
    let s := modCa c a (fun x => { x with checked := true }) s
    let s := if recPoisoned y then logErr 0x0E 3 0x07 0 s else s
    startPhase c a (if recCrcBad y then logErr 0x42 3 0x07 0 s else s)

/-- The records that an engine takes at a cutoff: those then committed (07 R284). -/
def readRecords (s : State) : State :=
  foldS (fun c t => foldS (readRecord c) (chanAprs t c) t) ((upto 192).filter (chanRan s)) s

/-- Carrier phase from a record, by a table; while it is valid. -/
def carrierPhase (s : State) (t : CalTable) (c a : Nat) : Option Int :=
  (caOf s c a).cpInt.map (fun n => replicaPhase s t c a + phaseDisc s c a + 65536 * n)

/-- Doppler: the shared NCO frequency and the residual, 10^-5 Hz. -/
def rawDoppler (s : State) (c a : Nat) : Int := (chanOf s c).latch.2.2 + 1000 * (caOf s c a).latch.2.2

/-- The measurement of a channel-aperture; none where its record is absent. -/
def rawMeasOf (s : State) (c a : Nat) : Option RawMeas :=
  if recordIn s c a then
    some { pr := rawRange s c a, cp := carrierPhase s s.cal.table c a, dopp := rawDoppler s c a }
  else none

/-- A record that closed at the epoch is absent at the raw cutoff although its aperture runs (07 R284, R289); a channel-aperture that begins at the epoch
closes none there, and misses none. -/
def lateRecord (s : State) (c a : Nat) : Bool :=
  (caOf s c a).state != 0 && aprRan s a && !(caOf s c a).dump.isEmpty && !(caOf s c a).committed

/-- Half the width of a signal's spectral main lobe, Hz: its chip rate; with the subcarrier's for the BOC(1,1) signals and AltBOC, and the rate of
the multiplexed stream for the time-multiplexed ones (log 10). -/
def lobeHalf (x : Channel) : Nat :=
  let i := chanSig x
  if [0x02, 0x11, 0x22, 0x42].contains x.signal then 2 * i.chipHz
  else if x.signal = 0x14 then 25575000
  else if [0x03, 0x43, 0x45].contains x.signal then 2 * i.chipHz
  else i.chipHz

/-- The main lobe comes within five notch widths, 5 fs 2^-WIDTH / pi, of the centre of an engaged notch, as the complex samples hold both (03 R110,
R116, R120). -/
def nearNotch (s : State) (a : Nat) (x : Channel) : Bool :=
  let i := (chanSig x).slice
  (upto 4).any (fun n =>
    let y := notchOf s a i n
    y.engaged && decide ((offsetGap i (chanOffset x) (y.est / 65536) - lobeHalf x) * 314159265358979 * 2 ^ y.width
      ≤ 5 * sliceRate i * 100000000000000))

/-- FLAGS of an aperture record (07 R293). -/
def recordFlags (s : State) (c a : Nat) (m : Option RawMeas) : Nat :=
  let x := caOf s c a
  let noCp := match m with
    | some v => v.cp.isNone
    | none => true
  b2n x.slipSince + 2 * b2n (x.state == 3) + 4 * b2n ((chanOf s c).anchor == a) + 8 * b2n (aprOf s a).inFault
    + 16 * b2n (nearNotch s a (chanOf s c) || (aprOf s a).faults.testBit 1 || (aprOf s a).faults.testBit 4)
    + 32 * b2n (m.isSome && recFailed x.dump) + 64 * b2n (lateRecord s c a) + 128 * b2n (m.isSome && recBlanked x.dump)
    + 256 * b2n (x.lagLimit || x.resLimit) + 512 * b2n (calValue s.cal.table a (sliceOfSignal (chanOf s c).signal)).isSome
    + 1024 * b2n (x.state == 4) + 2048 * b2n noCp

/-- The 24-byte record of an aperture, relative to the head's reference values. -/
def recordBytes (s : State) (c a : Nat) (ref : RawMeas) : List Byte :=
  let x := caOf s c a
  let ch := chanOf s c
  let m := rawMeasOf s c a
  let d := match m with
    | some v => (v.pr - ref.pr, (match v.cp with | some p => p - ref.cp.getD 0 | none => 0), roundDiv (v.dopp - ref.dopp) 1000)
    | none => (0, 0, 0)
  let sds := match m with
    | some _ => Config.measSd ch.signal x.cn0 ch.cfg.resBw ch.cfg.dllBw
    | none => (0, 0)
  le 1 a ++ le 1 x.state ++ le 2 (recordFlags s c a m) ++ le 2 x.cn0 ++ le 2 (lockS s x) ++ leI 4 d.1 ++ leI 4 d.2.1
    ++ leI 2 d.2.2 ++ le 1 x.slips ++ le 1 (sliceOf s a (sliceOfSignal ch.signal)).ji ++ le 1 x.mpDelay ++ leI 1 x.mpValue
    ++ le 1 sds.1.toNat ++ le 1 sds.2.toNat

/-- The reference values of an entry: those of its first aperture, whichever the others are. Without its record they are those of the latched NCOs, with
no discriminator; without a valid carrier phase CP_REF has the integer that a carrier phase starting here would get (07 R287, R292; log 64). -/
def entryRef (s : State) (c : Nat) : RawMeas :=
  let a := (chanAprs s c).headD 0
  let pr := refRange s c
  let cp := replicaPhase s s.cal.table c a + (if recordIn s c a then phaseDisc s c a else 0)
  let n := (caOf s c a).cpInt.getD (roundDiv (rangeCycles (chanOf s c) (pr + prShift s c) - cp) 65536)
  { pr := pr, cp := some (cp + 65536 * n), dopp := rawDoppler s c a }

/-- A channel entry (07 R292); PR is ambiguous until the week is known (07 R288). -/
def entryBytesOf (s : State) (c : Nat) : List Byte :=
  let x := chanOf s c
  let as := chanAprs s c
  let ref := entryRef s c
  let flags := b2n x.provisional + 2 * b2n x.halfResolved + 4 * b2n x.commonNow + 8 * b2n x.corrChange + 16 * b2n x.anchorChanged
    + 32 * b2n x.sync + 64 * b2n (!x.weekKnown)
  le 1 c ++ le 1 x.signal ++ le 1 x.sv ++ le 1 x.anchor ++ le 2 flags ++ le 1 as.length ++ le 1 (chanCode x.state)
    ++ leI 8 (ref.pr + prShift s c) ++ leI 8 (ref.cp.getD 0) ++ leI 4 (roundDiv ref.dopp 100) ++ le 1 x.cohNow ++ le 1 (caOf s c x.anchor).dll.1
    ++ zeros 2 ++ as.flatMap (fun a => recordBytes s c a ref)

/-- The channels that have an entry. -/
def entryChannels (s : State) (prov : Bool) : List Nat :=
  (upto 192).filter (fun c => chanRan s c && (prov || !(chanOf s c).provisional))

/-- The chain status of what is made from the records of channels (01 R36). -/
def recordsChain (s : State) (cs : List Nat) : Nat :=
  cs.foldl (fun m c => (chanAprs s c).foldl (fun m a => if recordIn s c a then m ||| recChain (caOf s c a) else m) m) 0

/-- The MSG_EPOCH messages of an epoch, with or without provisional channels: group, chain status and payload (07 R291, R294). `residue` has a
bit for each group whose engine values fail their check (01 R32, stage 5). -/
def epochPayloads (s : State) (residue : BitVec 24) (prov : Bool) : List (Nat × Nat × List Byte) :=
  let cs := entryChannels s prov
  let gs := (upto 24).filter (fun g => cs.any (fun c => c / 8 == g))
  let gs := if gs.isEmpty then [0] else gs
  let base := b2n (s.cal.epochLabel == some s.epochMs) + 4 * b2n (timeBroken s) + 8 * b2n (isTulEpoch s) + 16 * b2n (timeUnset s)
  gs.map (fun g =>
    let here := cs.filter (fun c => c / 8 == g)
    let last := gs.getLastD 0 == g
    (g, recordsChain s here ||| 32 * b2n (residue.toNat.testBit g),
      le 8 s.epochMs ++ le 2 s.cal.table.id ++ le 1 (base + 2 * b2n last) ++ le 1 g ++ le 1 here.length ++ zeros 1
        ++ le 2 s.rates.rateHz ++ here.flatMap (entryBytesOf s)))

/-- Port `p` admits provisional measurement records (12 R489). -/
def provPort (s : State) (p : HostPort) : Bool := (tget 0 s.ecsol.filters (portIdx p)).testBit 0

/-- Note that a target has received the provisional entries of an epoch. -/
def noteProv (target : Nat) (cs : List Nat) (s : State) : State :=
  foldS (fun c t => { t with acq.provSent := tmod [] t.acq.provSent (32 * c + target) (· ++ [t.epochMs]) }) cs s

/-- Send one variant of the epoch's messages to the targets that it is for. -/
def sendEpoch (prov : Bool) (pl : List (Nat × Nat × List Byte)) (s : State) : State :=
  foldS (fun (x : Nat × Nat × List Byte) t =>
    let m : Msg := { msg2 t 0x81 0x07 x.1 x.2.2 with chain := x.2.1 }
    let ps := (routedPorts t m).filter (fun p => provPort t p == prov)
    let t := postToPorts m ps t
    let t := deliverMsg (fun r => r.kind == 2 && r.filter.testBit x.1) 0x81 0x07 x.1 x.2.1
      (fun f => if f.testBit 0 = prov then some x.2.2 else none) t
    if prov then
      let cs := (entryChannels t true).filter (fun c => c / 8 == x.1 && (chanOf t c).provisional)
      let t := foldS (fun p u => noteProv (portIdx p) cs u) ps t
      foldS (fun k u =>
        if (coreFilter u k).testBit 0 && corePlaced (coreOf u k)
            && (upto 4).any (fun n => (subRing (coreOf u k) n).kind == 2 && (subRing (coreOf u k) n).filter.testBit x.1) then
          noteProv (16 + k) cs u
        else u) (upto 16) t
    else t) pl s

/-- The cutoffs of a measurement epoch come once each, in their order: this one has not come yet (07 R284, R315). -/
def cutDue (s : State) (n : Nat) : Bool := isMeasEpoch s && decide (s.meas.cut < n)

/-- The marks of a channel that a raw cutoff ends: slips since the last measurement epoch (07 R293). -/
def clearSlips (x : Channel) : Channel := x.mapAprs (fun y => { y with slipSince := false })

/-- RAW_CUTOFF (07 R284, R289, R291, R294): the raw measurements of a measurement epoch leave. -/
def rawCutoff (residue : BitVec 24) (s : State) : State :=
  if !cutDue s 1 then s
  else
    let s := readRecords { s with meas.cut := 1 }
    let cs := entryChannels s true
    let late := cs.any (fun c => (chanAprs s c).any (lateRecord s c))
    let s := if late then logErr 0x43 2 0x07 0 s else s
    let full := epochPayloads s residue true
    let s := foldS (fun (m : Nat × Nat × List Byte) t => logChain (32 * b2n (residue.toNat.testBit m.1)) 0x07 m.1 t) full s
    let filtered := epochPayloads s residue false
    let s := foldS (fun c t => if (chanOf t c).provisional ∧ (chanOf t c).firstMs.isNone then
      modChan c (fun x => { x with firstMs := some t.epochMs }) t else t) cs s
    foldS (fun c t => modChan c clearSlips t) cs (sendEpoch false filtered (sendEpoch true full s))

/-! ### MSG_PVT (07 R290, R295, R296) -/

/-- The aperture whose position is solved; none = it does not run. -/
def pvtPoint (s : State) : Option Nat :=
  if s.meas.nav.point = 255 then (upto 24).find? (aprRan s)
  else if aprRan s s.meas.nav.point then some s.meas.nav.point else none

/-- A satellite is not below an elevation mask; one whose elevation is not known is not masked. -/
def aboveMask (s : State) (mask : Nat) (x : Channel) : Bool := match elevOf s x.signal x.sv with
  | some e => decide ((mask : Int) ≤ e)
  | none => true

/-- The channels whose measurements on aperture `p` the position engine takes, but for the state of their records (07 R288, R290). -/
def pvtWanted (s : State) (p : Nat) : List Nat :=
  let n := s.meas.nav
  (upto 192).filter (fun c =>
    let x := chanOf s c
    chanRan s c && !x.provisional && x.weekKnown && x.aprMask.testBit p && !(aprOf s p).inFault && n.systems.testBit (systemOf x.signal)
      && decide (10 * n.cn0 ≤ (caOf s c p).cn0) && aboveMask s n.elev x)

/-- The input that a channel gives. -/
def pvtInput (s : State) (p c : Nat) : PvtInput :=
  let x := chanOf s c
  { signal := x.signal, sv := x.sv, pr := rawRange s c p, dopp := rawDoppler s c p,
    cp := if (caOf s c p).state = 3 then carrierPhase s s.cal.table c p else none, cn0 := (caOf s c p).cn0 }

/-- The best FIX that a MODE reaches, with and without corrections in use (07 R295, R296). -/
def modeFix (mode : Nat) (corr : Bool) : Nat :=
  if mode = 0 then 1 else if mode = 1 then 2 else if !corr then 1 else if mode = 2 then 3 else 5

/-- The age of the corrections held, s; none = none are held for the source in force. -/
def corrAge (s : State) : Option Nat := if s.meas.nav.corrSrc = 0 then none else s.meas.corr.lastMs.map (fun t => (s.ms - t) / 1000)

/-- CLK_BIAS in 0.1 ns: the part of X that A has not yet removed (08 R325). -/
def clkBias (s : State) : Int := clampI (-2147483648) 2147483647 (roundDiv (s.nunar.x - s.nunar.a) 100)

/-- MSG_PVT at a PVT epoch; the position and velocity become the device's own (04 R157, 16 R613). Corrections older than AGE_LIMIT are not used. -/
def pvtCutoff (o : EngineObs) (s : State) : State :=
  if !isPvtEpoch s then s
  else
    let n := s.meas.nav
    let point := pvtPoint s
    let wanted := (point.map (pvtWanted s)).getD []
    let p := point.getD 0
    let used := wanted.filter (fun c => recordGood s c p)
    let excluded := wanted.any (fun c => recordBad s c p)
    let age := if n.mode < 2 then none else corrAge s
    let old := match age with
      | some a => decide (n.ageLimit < a)
      | none => false
    let corr := age.isSome && !old
    let orbits := s.nav.orbits.map (fun r => (r.sv, r.elems))
    let v := Config.pvtSolve n.mode n.dyn s.epochMs (used.map (pvtInput s p)) orbits (if corr then freshFrames s else [])
      s.meas.navMem
    let any := point.isSome && !used.isEmpty
    let fix := if any then min v.fix (modeFix n.mode corr) else 0
    let on := fix != 0
    let vel := any && v.velValid
    let time := any && v.timeValid
    let poisoned := o.poisoned.toNat.testBit 4
    let flags := b2n on + 2 * b2n vel + 4 * b2n time + 8 * b2n excluded + 16 * b2n (timeBroken s) + 32 * b2n old
    let show' := fun (b : Bool) (n : Nat) (bs : List Byte) => if b then bs else zeros n
    let t3 := fun (n : Nat) (v : Int × Int × Int) => leI n v.1 ++ leI n v.2.1 ++ leI n v.2.2
    let body := le 8 s.epochMs ++ le 1 fix ++ le 1 flags ++ le 1 (if any then v.nsv else 0) ++ le 1 (point.getD (min 255 n.point))
      ++ show' on 24 (t3 8 v.pos) ++ show' (on || vel) 12 (t3 4 v.vel) ++ show' (on || time) 4 (leI 4 (clkBias s))
      ++ show' (on || time) 4 (leI 4 v.clkDrift)
      ++ show' on 2 (le 2 (sat 65535 v.hSd)) ++ show' on 2 (le 2 (sat 65535 v.vSd)) ++ show' (on || time) 2 (le 2 (sat 65535 v.tSd))
      ++ show' on 1 (le 1 (sat 255 v.pdop)) ++ show' on 1 (le 1 (if corr then sat 254 (age.getD 0) else 255))
    let chain := used.foldl (fun m c => m ||| (recChain (caOf s c p) &&& 8)) 0 ||| 16 * b2n excluded ||| 128 * b2n poisoned
      ||| 8 * b2n (o.corrected.toNat.testBit 4) ||| 32 * b2n (o.residue.toNat.testBit 4)
    let s := logChain (32 * b2n (o.residue.toNat.testBit 4)) 0x07 0 s
    let s := subscribeMeas 0x83 0x07 chain body (post { msg2 s 0x83 0x07 0 body with chain := chain } s)
    let s := { s with meas.navMem := v.mem, meas.navPoison := s.meas.navPoison || poisoned }
    let g := Config.geodetic v.pos v.vel
    let own : Option Estimate := if on then some { value := g.1, sd := cdiv (max v.hSd v.vSd) 10 } else none
    { s with nav.own := own, nav.pos := own.orElse (fun _ => s.nav.pos), nav.vel := if vel then some { value := g.2, sd := v.velSd } else none }

/-- Poisoned registers of the position engine are cleared at the next epoch (01 R38). -/
def pvtEpoch (s : State) : State := if s.meas.navPoison then { s with meas.navMem := [], meas.navPoison := false } else s

/-! ### Aperture groups (07 R299 to R303, R310) -/

/-- A group. -/
def groupOf (s : State) (g : Nat) : TulGroup := tget TulGroup.none s.meas.groups g
/-- Change a group. -/
def modGroup (g : Nat) (f : TulGroup → TulGroup) (s : State) : State :=
  { s with meas.groups := tmod TulGroup.none s.meas.groups g f }
/-- The definition last accepted. -/
def latestDef (x : TulGroup) : Option TulDef := x.pendDef.getD x.defn

/-- A member entry. -/
def memberIn (e : List Byte) : TulMember :=
  { apr := u8 e 0, deformable := u8 e 1 == 1, defLimit := u16 e 2, arm := (i32 e 4, i32 e 8, i32 e 12) }

/-- The square of the distance between two lever arms. -/
def armDist2 (a b : TulMember) : Nat :=
  ((a.arm.1 - b.arm.1) ^ 2 + (a.arm.2.1 - b.arm.2.1) ^ 2 + (a.arm.2.2 - b.arm.2.2) ^ 2).natAbs

/-- The entry of a member is in range. -/
def memberOk (e : List Byte) : Bool :=
  decide (u8 e 0 ≤ 23) && (if u8 e 1 = 0 then u16 e 2 == 0 else u8 e 1 == 1 && decide (1 ≤ u16 e 2 ∧ u16 e 2 ≤ 10000))

/-- Members in ascending aperture order, the order of their entries (07 R321). -/
def byApr (ms : List TulMember) : List TulMember := (upto 24).filterMap (fun a => ms.find? (fun m => m.apr == a))

/-- TUL_GROUP (07 R299 to R301). -/
def tulGroupAct (p : Packet) (s : State) : CmdOut :=
  let b := p.params
  let g := u8 b 0
  let n := u8 b 2
  let es := chunks 16 n (b.drop 16)
  let ms := es.map memberIn
  let ref := ms.find? (fun m => m.apr == u8 b 3 && !m.deformable)
  let far := match ref with
    | some r => ms.any (fun m => decide (5000000 ^ 2 < armDist2 m r))
    | none => true
  let bad := if u8 b 1 = 1 then
      decide (n < 2) || decide (24 < n) || decide (u16 b 6 < 1) || decide (1000 < u16 b 6) || es.any (fun e => !memberOk e)
        || anyPair (fun x y => u8 x 0 == u8 y 0) es || far || decide (1 < u8 b 4)
    else u8 b 1 != 0 || n != 0 || u8 b 3 != 0 || u16 b 6 != 0 || decide (1 < u8 b 4)
  rejectIf (decide (3 < g) || bad || !zeroAt b 5 1 || !zeroAt b 8 8) .badValue <|
  rejectIf (decide (s.profile.env.tulGroups ≤ g) || ms.any (fun m => !s.profile.env.aprMask.testBit m.apr)) .profileLimit <|
  let d : Option TulDef :=
    if u8 b 1 = 0 then none else some { ref := u8 b 3, attitude := u8 b 4 == 1, rigidTol := u16 b 6, members := byApr ms }
  if u8 b 1 = 0 ∧ (latestDef (groupOf s g)).isNone then done s
  else done (modGroup g (fun x => { x with pendDef := some d, pendMode := none, pendReset := [] }) s)

def specTulGroup : OpSpec :=
  { plainOp 0x0702 false 16 tulGroupAct with
    maxLen := 400, form := fun b => some (16 + 16 * u8 b 2), islands := fun _ _ => [] }

/-- The groups that a GROUP field names. -/
def groupTargets (s : State) (g : Nat) : List Nat :=
  if g = 255 then (upto 4).filter (fun k => (latestDef (groupOf s k)).isSome) else [g]

/-- TUL_MODE (07 R303). -/
def tulModeAct (p : Packet) (s : State) : CmdOut :=
  let b := p.params
  let g := u8 b 0
  let m : TulMode :=
    { amb := u8 b 1, prov := u8 b 2 == 1, bw := u8 b 3, ratio := u8 b 4, elev := u8 b 5, systems := u8 b 6 }
  rejectIf ((decide (3 < g) && g != 255) || decide (2 < m.amb) || decide (1 < u8 b 2) || decide (100 < m.bw) || decide (m.ratio < 15)
    || decide (100 < m.ratio) || decide (60 < m.elev) || m.systems == 0 || decide (127 < m.systems) || !zeroAt b 7 1) .badValue <|
  rejectIf ((groupTargets s g).any (fun k => (latestDef (groupOf s k)).isNone)) .badState <|
  done (foldS (fun k t => modGroup k (fun x => { x with pendMode := some m }) t) (groupTargets s g) s)

def specTulMode : OpSpec := { plainOp 0x0703 false 8 tulModeAct with islands := fun _ _ => [] }

/-- The aperture is a member of the group's last accepted definition. -/
def isMember (x : TulGroup) (a : Nat) : Bool := match latestDef x with
  | some d => d.members.any (fun m => m.apr == a)
  | none => false

/-- TUL_RESET_AMB (07 R310). -/
def tulResetAct (p : Packet) (s : State) : CmdOut :=
  let b := p.params
  let g := u8 b 0
  let a := u8 b 1
  let gs := (groupTargets s g).filter (fun k => a == 255 || isMember (groupOf s k) a)
  rejectIf ((decide (3 < g) && g != 255) || (decide (23 < a) && a != 255) || !zeroAt b 2 2) .badValue <|
  rejectIf ((g != 255 && (latestDef (groupOf s g)).isNone) || (a != 255 && gs.isEmpty)) .badState <|
  done (foldS (fun k t => modGroup k (fun x => { x with pendReset := x.pendReset ++ [a] }) t) gs s)

def specTulResetAmb : OpSpec := { plainOp 0x0704 false 4 tulResetAct with islands := fun _ _ => [] }

/-! ### The Tulle epoch (07 R301, R303, R308, R309) -/

/-- The members of a group as a mask. -/
def memberMask (d : TulDef) : Nat := bitsMask (d.members.map (·.apr))

/-- A channel is the reference satellite of a member's double differences (07 R304): it has no ambiguity of its own. -/
def satRef (x : TulGroup) (m c : Nat) : Bool := x.forms.any (fun e => e.1 / 256 == m && e.2.dd && e.2.sat == c)

/-- The ambiguities of a member; those of them that are fixed. -/
def ambsOf (x : TulGroup) (m : Nat) : List TulAmb := tget [] x.ambs m
def fixesOf (x : TulGroup) (m : Nat) : List TulAmb := (ambsOf x m).filter (fun f => f.n.isSome && !satRef x m f.ch)

/-- Reset every ambiguity of a group. -/
def resetGroup (cause : Nat) (x : TulGroup) : TulGroup :=
  { x with ambs := [], forms := [], cands := [], resetCause := some cause, resetMask := (x.defn.map memberMask).getD 0 }

/-- The ambiguity state of a member among the channels it uses (07 R305). -/
def ambState (x : TulGroup) (m : Nat) (used : List Nat) : Nat :=
  if used.isEmpty then 0
  else if m = x.ref then 3
  else
    let own := used.filter (fun c => !satRef x m c)
    let n := (own.filter (fun c => (fixesOf x m).any (fun f => f.ch == c))).length
    if n = 0 then 1 else if n < own.length then 2 else 3

/-- The integer of an ambiguity less another; fixed only where both are. -/
def subInt (a b : Option Int) : Option Int := match a, b with
  | some x, some y => some (x - y)
  | _, _ => none

/-- The form of a member's ambiguities less another member's: in single differences where both are, else in double differences whose reference
satellite is yet to be chosen (07 R304, R309). -/
def joinForm (f g : TulForm) : TulForm := if f.dd || g.dd then { singleForm with dd := true } else singleForm

/-- The forms of a group relative to another reference. -/
def moveForms (new : Nat) (x : TulGroup) : Tab TulForm :=
  let signals := (sigTable.map (·.code))
  let ms := ((x.defn.map (·.members)).getD []).map (·.apr)
  ms.foldl (fun t m => if m = new then t else
    signals.foldl (fun t g => tset singleForm t (256 * m + g)
      (joinForm (if m = x.ref then singleForm else formOf x m g) (formOf x new g))) t) []

/-- Re-express the ambiguities of a group relative to another reference, by subtraction; every fixed value is kept (07 R309). A slip of the new reference
that no final has seen still counts, for every member. -/
def moveRef (new : Nat) (x : TulGroup) : TulGroup :=
  let base := ambsOf x new
  let sub := fun (f : TulAmb) => (base.find? (fun b => b.ch == f.ch)).map (fun b =>
    { f with float := f.float - b.float, n := subInt f.n b.n, refSlips := b.slips })
  let old : List TulAmb := base.map (fun b =>
    { b with float := -b.float, n := b.n.map (fun n => -n), slips := b.refSlips, refSlips := b.slips })
  let others := x.ambs.foldl (fun t e => if e.1 = new then t else tset [] t e.1 (e.2.filterMap sub)) []
  { x with ambs := tset [] others x.ref old, forms := moveForms new x, cands := [], ref := new, refChanged := true }

/-- The aperture gives a group nothing: it does not run or is in fault. -/
def aprOut (s : State) (a : Nat) : Bool := !aprRan s a || (aprOf s a).inFault

/-- The reference that takes over when the one in use is out: a running rigid member, a fixed one first (07 R309). -/
def standIn (s : State) (x : TulGroup) (d : TulDef) : Option Nat :=
  let run := (upto 24).filter (fun a => !aprOut s a && d.members.any (fun m => m.apr == a && !m.deformable))
  let inputs := fun (a : Nat) => (x.inputs.filter (fun i => i.1 == a)).map (·.2.1)
  (run.find? (fun a => ambState x a (inputs a) == 3)).orElse (fun _ => run.head?)

/-- A definition or deletion that waits takes effect (07 R301). -/
def takeDef (x : TulGroup) : TulGroup := match x.pendDef with
  | some (some d) =>
    let y := { x with defn := some d, pendDef := none, mode := TulMode.initial, ref := d.ref, inputs := [], noSolution := true,
                      fixedSince := none, fixedMs := none, vecs := [], mem := [] }
    if x.defn.isSome then resetGroup 2 y else { y with ambs := [], forms := [], cands := [] }
  | some none => { TulGroup.none with pendMode := none }
  | none => x

/-- Settings that wait take effect (07 R303). -/
def takeMode (x : TulGroup) : TulGroup := match x.defn, x.pendMode with
  | some _, some m =>
    let y := { x with mode := m, pendMode := none }
    if x.mode.amb ≠ m.amb ∨ x.mode.elev ≠ m.elev ∨ x.mode.systems ≠ m.systems then resetGroup 5 y else y
  | _, _ => x

/-- Resets that were commanded: of members, or of all; one of the reference is one of all, whose integers are relative to it (07 R308, R310). -/
def takeResets (x : TulGroup) : TulGroup :=
  if x.pendReset.isEmpty then x
  else
    let y := { x with pendReset := [] }
    if x.pendReset.contains 255 || x.pendReset.contains x.ref then resetGroup 1 y
    else
      { y with
        ambs := x.ambs.filter (fun e => !x.pendReset.contains e.1),
        forms := x.forms.filter (fun e => !x.pendReset.contains (e.1 / 256)), cands := x.cands.filter (fun e => !x.pendReset.contains e.1),
        resetCause := some 1, resetMask := bitsMask x.pendReset }

/-- Definitions, settings and resets take effect at a Tulle epoch, and the reference is looked at. -/
def groupEpoch (g : Nat) (s : State) : State :=
  let s := modGroup g (fun x =>
    let x := takeResets (takeMode (takeDef { x with resetCause := none, resetMask := 0, refChanged := false, prov := none, chosen := none }))
    let x := if x.poisonDue then resetGroup 3 { x with poisonDue := false, poisoned := false, mem := [] } else x
    if s.meas.breakDue && x.defn.isSome then resetGroup 4 x else x) s
  match (groupOf s g).defn with
  | some d =>
    if aprOut s (groupOf s g).ref then
      match standIn s (groupOf s g) d with
      | some a => modGroup g (moveRef a) s
      | none => s
    else s
  | none => s

/-- The groups' part of an epoch: a broken time continuity is remembered from any epoch to the next Tulle epoch, whose resets it makes (07 R308,
R320). -/
def tulEpoch (s : State) : State :=
  let s := { s with meas.breakDue := s.meas.breakDue || timeBroken s }
  if isTulEpoch s then
    let s := foldS groupEpoch (upto 4) s
    { s with meas.breakDue := false }
  else s

/-! ### Inputs of a solution (07 R290, R304, R312, R318) -/

/-- Channel `c` may enter the solutions of member `m`: verified, its apertures running, not in fault and phase-locked, above the elevation mask and
in the systems of the group. -/
def pairUsable (s : State) (x : TulGroup) (m c : Nat) : Bool :=
  let ch := chanOf s c
  let good := fun (a : Nat) => ch.aprMask.testBit a && !aprOut s a && (caOf s c a).state == 3
  chanRan s c && !ch.provisional && x.mode.systems.testBit (systemOf ch.signal) && aboveMask s x.mode.elev ch && good m && good x.ref

/-- Predicted phase stands in for an absent record: a final input at the previous Tulle epoch and no slip since (07 R312). -/
def predictable (s : State) (x : TulGroup) (c a : Nat) : Bool :=
  x.inputs.any (fun i => i.1 == a && i.2.1 == c && i.2.2 == (caOf s c a).slips)

/-- The members and channels that the solutions of an epoch choose from, as they stand now. -/
def choose (s : State) (x : TulGroup) : List (Nat × Nat) :=
  ((x.defn.map (·.members)).getD []).flatMap (fun m =>
    if m.apr = x.ref then [] else ((upto 192).filter (pairUsable s x m.apr)).map (fun c => (m.apr, c)))

/-- The channels that the engine would use for a member: one set for both solutions of an epoch, the provisional cutoff's (07 R317), and of it those whose
carrier phases have started. -/
def wanted (s : State) (x : TulGroup) (m : Nat) : List Nat :=
  let mine := ((x.chosen.getD (choose s x)).filter (fun e => e.1 == m)).map (·.2)
  mine.filter (fun c => (caOf s c m).cpInt.isSome && (caOf s c x.ref).cpInt.isSome)

/-- The provisional cutoff takes the set of the epoch (07 R317). -/
def groupChoose (g : Nat) (s : State) : State :=
  modGroup g (fun x => { x with chosen := if x.defn.isSome then some (choose s x) else none }) s

/-- The channels that a member uses at the final. -/
def usedFinal (s : State) (x : TulGroup) (m : Nat) : List Nat :=
  (wanted s x m).filter (fun c => recordGood s c m && recordGood s c x.ref)

/-- An input of a member was dropped after a failed check (01 R37). -/
def droppedInput (s : State) (x : TulGroup) (m : Nat) : Bool :=
  if m = x.ref then
    ((x.defn.map (·.members)).getD []).any (fun k => (wanted s x k.apr).any (fun c => recordBad s c x.ref))
  else (wanted s x m).any (fun c => recordBad s c m || recordBad s c x.ref)

/-- An ambiguity still stands: its channel still tracks the same signal-satellite, the member runs, and neither the member nor the reference has
slipped (07 R308). -/
def ambStands (s : State) (x : TulGroup) (m : Nat) (f : TulAmb) : Bool :=
  let ch := chanOf s f.ch
  ch.state != .free && ch.signal == f.signal && ch.sv == f.sv && (caOf s f.ch m).slips == f.slips
    && (caOf s f.ch x.ref).slips == f.refSlips && aprRan s m

/-- The channels that a member uses at the provisional; one whose ambiguity no longer stands is left out. -/
def usedProv (s : State) (x : TulGroup) (m : Nat) : List Nat :=
  let ok := fun (c a : Nat) => recordGood s c a || (!recordIn s c a && predictable s x c a)
  (wanted s x m).filter (fun c => ok c m && ok c x.ref && (ambsOf x m).all (fun f => f.ch != c || ambStands s x m f))

/-- Some record of an aperture is predicted among the channels used. -/
def predictsApr (s : State) (a : Nat) (cs : List Nat) : Bool := cs.any (fun c => !recordIn s c a)

/-- The satellites of channels. -/
def satsOf (s : State) (cs : List Nat) : List (Nat × Nat) :=
  cs.foldl (fun l c =>
    let k := (systemOf (chanOf s c).signal, (chanOf s c).sv)
    if l.contains k then l else l ++ [k]) []

/-- The union of lists of channels, each once. -/
def unionOf (ls : List (List Nat)) : List Nat := (upto 192).filter (fun c => ls.any (fun l => l.contains c))

/-- Corrected carrier phase of a channel-aperture by a table: measured, or the replica's where the record is absent (07 R312). -/
def phaseInput (s : State) (t : CalTable) (c a : Nat) : Int :=
  replicaPhase s t c a + 65536 * ((caOf s c a).cpInt.getD 0) + (if recordIn s c a then phaseDisc s c a else 0)

/-- Double differences: the entries of the member and the reference are not both valid for the signal's slice (07 R304). -/
def ddForm (t : CalTable) (m ref slice : Nat) : Bool := (calValue t m slice).isNone || (calValue t ref slice).isNone

/-! ### The form of the ambiguities (07 R304) -/

/-- Sums of ambiguities, absent where either is. -/
def addInt (a b : Option Int) : Option Int := subInt a (b.map (fun n => -n))

/-- A new ambiguity of a channel. -/
def newAmb (s : State) (x : TulGroup) (m c : Nat) : TulAmb :=
  { ch := c, signal := (chanOf s c).signal, sv := (chanOf s c).sv, float := 0, n := none, slips := (caOf s c m).slips,
    refSlips := (caOf s c x.ref).slips, bad := 0 }

/-- The reference satellite that a member takes for a signal: a channel whose ambiguity is fixed first, then the best C/N0 on the reference, then the
lowest number (log 65). -/
def pickSat (s : State) (x : TulGroup) (m : Nat) (cs : List Nat) : Nat :=
  let fixed := cs.filter (fun c => (fixesOf x m).any (fun f => f.ch == c))
  let cs := if fixed.isEmpty then cs else fixed
  cs.foldl (fun best c => if (caOf s best x.ref).cn0 < (caOf s c x.ref).cn0 then c else best) (cs.headD 255)

/-- The candidate integers of a signal, less those of another channel; `old` is the channel that was the reference satellite, whose own is 0. -/
def moveCands (s : State) (signal old r : Nat) (cs : List (Nat × Int)) : List (Nat × Int) :=
  let cs := if cs.any (fun e => e.1 == old) || old == 255 then cs else cs ++ [(old, 0)]
  match cs.find? (fun e => e.1 == r) with
  | some b => (cs.filter (fun e => e.1 != r)).map (fun e => if (chanOf s e.1).signal = signal then (e.1, e.2 - b.2) else e)
  | none => cs.filter (fun e => (chanOf s e.1).signal != signal)

/-- Double differences against satellite `r`: its ambiguity is subtracted from every other of the signal, and kept in the form. -/
def toDouble (s : State) (m signal r : Nat) (x : TulGroup) : TulGroup :=
  let f := formOf x m signal
  let as := ambsOf x m
  let as := if as.any (fun b => b.ch == r) then as else as ++ [newAmb s x m r]
  let b := (as.find? (fun b => b.ch == r)).getD (newAmb s x m r)
  let sub := fun (e : TulAmb) => if e.signal != signal then e
    else if e.ch = r then { e with n := some 0, float := 0, bad := 0 } else { e with n := subInt e.n b.n, float := e.float - b.float }
  let base := if f.dd then addInt f.base b.n else b.n
  { x with
    ambs := tset [] x.ambs m (as.map sub), cands := tset [] x.cands m (moveCands s signal (if f.dd then f.sat else 255) r (tget [] x.cands m)),
    forms := tset singleForm x.forms (256 * m + signal) { dd := true, sat := r, base := base, float := f.float + b.float } }

/-- Single differences again: the reference satellite's ambiguity is added to the others. One that is not known, although others of the signal are
fixed, is a free value (log 65). -/
def toSingle (s : State) (m signal : Nat) (x : TulGroup) : TulGroup :=
  let f := formOf x m signal
  let any := (fixesOf x m).any (fun e => e.signal == signal)
  let base := f.base.orElse (fun _ => if any then some (Config.tulBase s.epochMs m signal) else none)
  let add := fun (e : TulAmb) => if e.signal != signal then e
    else if e.ch = f.sat then { e with n := base, float := f.float } else { e with n := addInt e.n base, float := e.float + f.float }
  let cands := match base with
    | some b => (tget [] x.cands m).map (fun e => if (chanOf s e.1).signal = signal then (e.1, e.2 + b) else e)
    | none => (tget [] x.cands m).filter (fun e => (chanOf s e.1).signal != signal)
  { x with
    ambs := tset [] x.ambs m ((ambsOf x m).map add), cands := tset [] x.cands m cands,
    forms := tset singleForm x.forms (256 * m + signal) singleForm }

/-- The ambiguities of a member and a signal in the form that a table asks for, from the channels used; a reference satellite stays while it is among
them, and a change of it resets nothing (07 R304, R308). -/
def expressPair (s : State) (t : CalTable) (m signal : Nat) (used : List Nat) (x : TulGroup) : TulGroup :=
  let cs := used.filter (fun c => (chanOf s c).signal == signal)
  let f := formOf x m signal
  if cs.isEmpty then x
  else if !ddForm t m x.ref (sliceOfSignal signal) then (if f.dd then toSingle s m signal x else x)
  else if f.dd && cs.contains f.sat && (ambsOf x m).any (fun b => b.ch == f.sat) then x
  else toDouble s m signal (pickSat s x m cs) x

/-- The ambiguities of a group in the forms that a table asks for. -/
def express (s : State) (t : CalTable) (d : TulDef) (used : TulMember → List Nat) (x : TulGroup) : TulGroup :=
  d.members.foldl (fun x m =>
    let cs := used m
    ((cs.map (fun c => (chanOf s c).signal)).foldl (fun l g => if l.contains g then l else l ++ [g]) []).foldl
      (fun x g => expressPair s t m.apr g cs x) x) x

/-- Both records of a single difference are there. -/
def bothIn (s : State) (x : TulGroup) (m c : Nat) : Bool := recordIn s c m && recordIn s c x.ref
/-- The single differences of a member and a channel: carrier phase, and code (07 R304). -/
def singlePhase (s : State) (x : TulGroup) (t : CalTable) (m c : Nat) : Int := phaseInput s t c m - phaseInput s t c x.ref
def singleCode (s : State) (x : TulGroup) (t : CalTable) (m c : Nat) : Int := rangeBy s t c m - rangeBy s t c x.ref

/-- What a member and a channel give: their single difference, or, in double differences, that less the reference satellite's; with the code's where all
of their records are there (07 R304). -/
def tulInput (s : State) (x : TulGroup) (t : CalTable) (m c : Nat) : TulInput :=
  let ch := chanOf s c
  let f := formOf x m ch.signal
  let all := bothIn s x m c && (!f.dd || bothIn s x m f.sat)
  { apr := m, ch := c, signal := ch.signal, sv := ch.sv,
    cp := singlePhase s x t m c - (if f.dd then singlePhase s x t m f.sat else 0),
    code := if all then some (singleCode s x t m c - (if f.dd then singleCode s x t m f.sat else 0)) else none, predicted := !all,
    dd := f.dd, held := ((fixesOf x m).find? (fun g => g.ch == c)).bind (·.n) }

/-- What a group gives the engine, from the channels that each member uses, by a table. -/
def tulProblem (s : State) (x : TulGroup) (d : TulDef) (t : CalTable) (used : TulMember → List Nat) : TulProblem :=
  { label := s.epochMs, ref := x.ref, tol := d.rigidTol, bw := x.mode.bw,
    members := d.members.map (fun m => (m.apr, m.deformable, m.defLimit, m.arm.1, m.arm.2.1, m.arm.2.2)),
    inputs := d.members.flatMap (fun m => ((used m).filter (fun c => !satRef x m.apr c)).map (tulInput s x t m.apr)),
    floats := x.ambs.flatMap (fun e => (e.2.filter (fun f => !satRef x e.1 f.ch)).map (fun f => (e.1, f.ch, f.float))), mem := x.mem }

/-- The solution's part for a member. -/
def memberSol (z : TulSolution) (m : Nat) : Option TulMemberSol := z.members.find? (fun v => v.apr == m)

/-! ### Attitude and geometry (07 R302, R306, R311) -/

/-- The square of a vector's length. -/
def norm2 (v : Int × Int × Int) : Nat := (v.1 ^ 2 + v.2.1 ^ 2 + v.2.2 ^ 2).natAbs

/-- The lengths sqrt a and sqrt b differ by at most t. -/
def lengthsClose (a b t : Nat) : Bool := decide (a + b ≤ t * t) || decide ((a + b - t * t) ^ 2 ≤ 4 * a * b)

/-- A vector difference. -/
def sub3 (a b : Int × Int × Int) : Int × Int × Int := (a.1 - b.1, a.2.1 - b.2.1, a.2.2 - b.2.2)

/-- The cross product vanishes: three points are collinear. -/
def collinear (u v : Int × Int × Int) : Bool :=
  u.2.1 * v.2.2 == u.2.2 * v.2.1 && u.2.2 * v.1 == u.1 * v.2.2 && u.1 * v.2.1 == u.2.1 * v.1

/-- Two of the rigid members with input lie 1 m apart or more. -/
def headingOk (ms : List TulMember) : Bool := anyPair (fun a b => decide (10000 ^ 2 ≤ armDist2 a b)) ms

/-- Three of the rigid members with input are not collinear. -/
def rollOk (ms : List TulMember) : Bool :=
  match ms with
  | [] => false
  | r :: t => anyPair (fun a b => !collinear (sub3 a.arm r.arm) (sub3 b.arm r.arm)) t

/-- An angle of 10^-5 degree in 2^-32 cycle. -/
def angle32 (v : Int) : Int := roundDiv (v * 4294967296) 36000000

/-- A vector (east, north, up) in the body frame (forward, right, down): heading, then pitch, then roll (07 R302). -/
def toBody (heading pitch roll : Int) (v : Int × Int × Int) : Int × Int × Int :=
  let p := turn (-(angle32 heading)) (v.2.1, v.1)
  let q := turn (angle32 pitch) (p.1, -v.2.2)
  let r := turn (-(angle32 roll)) (p.2, q.2)
  (q.1, r.1, r.2)

/-- The deformation of a member in micrometres: its vector in the body frame less its lever arm relative to the reference (07 R311). -/
def deformation (d : TulDef) (ref : Nat) (z : TulSolution) (roll : Bool) (m : TulMember) (vec : Int × Int × Int) : Int × Int × Int :=
  let arm := match d.members.find? (fun k => k.apr == ref) with
    | some r => sub3 m.arm r.arm
    | none => m.arm
  sub3 (toBody z.heading z.pitch (if roll then z.roll else 0) vec) (100 * arm.1, 100 * arm.2.1, 100 * arm.2.2)

/-- Rule 4 of R306 for a rigid member: its vector's length is its lever arm's within the tolerance and three times its 1 sigma. -/
def rigidOk (d : TulDef) (x : TulGroup) (m : TulMember) (v : TulMemberSol) : Bool :=
  match d.members.find? (fun k => k.apr == x.ref) with
  | some r => lengthsClose (norm2 v.vec) (10000 * armDist2 m r) (100 * d.rigidTol + 3 * v.lenSd)
  | none => true

/-- Rule 5 of R306 for a deformable member. -/
def deformOk (m : TulMember) (defo : Int × Int × Int) : Bool := decide (norm2 defo ≤ (1000 * m.defLimit) ^ 2)

/-! ### Messages (07 R321) -/

/-- What one member's entry reports. -/
structure TulEntry where
  apr : Nat
  amb : Nat
  flags : Nat
  vec : Int × Int × Int
  defo : Int × Int × Int
  sd : Nat × Nat × Nat
  nfix : Nat
  nfloat : Nat
deriving DecidableEq, Repr

/-- Micrometres as 0.1 mm. -/
def to01mm (v : Int) : Int := roundDiv v 100

/-- The 40-byte entry of a member. -/
def tulEntryBytes (e : TulEntry) : List Byte :=
  le 1 e.apr ++ le 1 e.amb ++ le 2 e.flags ++ leI 4 (to01mm e.vec.1) ++ leI 4 (to01mm e.vec.2.1) ++ leI 4 (to01mm e.vec.2.2)
    ++ leI 4 (to01mm e.defo.1) ++ leI 4 (to01mm e.defo.2.1) ++ leI 4 (to01mm e.defo.2.2) ++ le 2 (sat 65535 e.sd.1)
    ++ le 2 (sat 65535 e.sd.2.1) ++ le 2 (sat 65535 e.sd.2.2) ++ le 1 e.nfix ++ le 1 e.nfloat ++ zeros 4

/-- What the header of a MSG_TULLE reports beside the group's own state. -/
structure TulHead where
  state : Nat
  flags : Nat
  bound : Nat
  dev : Nat
  predMask : Nat
  usedMask : Nat
  /-- The attitude, where it is valid, and whether roll is. -/
  att : Option TulSolution
  roll : Bool
  /-- The channels used. -/
  used : List Nat
  ratio : Nat
  age : Nat
deriving DecidableEq, Repr

/-- The header and entries of a MSG_TULLE. -/
def tulPayload (s : State) (g : Nat) (x : TulGroup) (h : TulHead) (es : List TulEntry) : List Byte :=
  let a3 := match h.att with
    | some o => le 4 (o.heading % 36000000) ++ leI 4 o.pitch ++ leI 4 (if h.roll then o.roll else 0) ++ le 2 (sat 65535 o.sdHpr.1)
        ++ le 2 (sat 65535 o.sdHpr.2.1) ++ le 2 (if h.roll then sat 65535 o.sdHpr.2.2 else 0)
    | none => zeros 18
  le 8 s.epochMs ++ le 1 h.state ++ le 1 g ++ le 2 h.flags ++ le 2 s.cal.table.id ++ le 1 x.ref ++ le 1 es.length ++ le 2 h.bound
    ++ le 2 (sat 65535 h.dev) ++ le 4 h.predMask ++ le 4 h.usedMask ++ a3 ++ le 1 (satsOf s h.used).length
    ++ le 1 (sat 255 h.used.length) ++ le 2 (sat 65535 h.ratio) ++ le 1 (x.resetCause.getD 0) ++ zeros 1
    ++ le 4 (sat 0xFFFFFFFF h.age) ++ es.flatMap tulEntryBytes

/-- Send a MSG_TULLE to its routes and to the kernels that subscribe to it (07 R313, R319; 12 R463); a failed residue of the engine is logged (01 R32). -/
def postTulle (g : Nat) (final : Bool) (chain : Nat) (body : List Byte) (s : State) : State :=
  let s := logChain chain 0x07 g s
  let m : Msg := { msg2 s 0x82 0x07 g body with class1 := final, chain := chain, provTulle := !final }
  deliverMsg (fun r => r.kind == 3 && r.filter.testBit g) 0x82 0x07 g chain
    (fun f => if final || f.testBit 1 then some body else none) (post m s)

/-- The FLAGS that both solutions carry: CAL_EPOCH, reset, REF_CHANGED and TIME_BROKEN. -/
def commonFlags (s : State) (x : TulGroup) : Nat :=
  4 * b2n (s.cal.epochLabel == some s.epochMs) + 32 * b2n x.resetCause.isSome + 512 * b2n x.refChanged + 1024 * b2n (timeBroken s)

/-- Milliseconds since the group became fixed. -/
def fixAge (s : State) (since : Option Nat) : Nat := match since with
  | some v => s.ms - v
  | none => 0

/-- Chain status of a solution: corrected records among its inputs, inputs excluded, and what befell the engine (01 R36 to R38). -/
def tulChain (s : State) (o : EngineObs) (g ref : Nat) (dropped poisoned : Bool) (used : List (Nat × Nat)) : Nat :=
  let ecc := used.any (fun e => (recordIn s e.2 e.1 && recCorrected (caOf s e.2 e.1)) || (recordIn s e.2 ref && recCorrected (caOf s e.2 ref)))
  16 * b2n dropped ||| 8 * b2n (ecc || o.corrected.toNat.testBit g) ||| 32 * b2n (o.residue.toNat.testBit g) ||| 128 * b2n poisoned

/-- The entry of a member that uses channels `used`; `vec` is its vector where it has one, `att` the attitude, `extra` further flags. -/
def tulEntry (s : State) (x : TulGroup) (d : TulDef) (m : TulMember) (z : TulSolution) (used : List Nat) (vec : Option (Int × Int × Int))
    (att roll excluded : Bool) (extra : Nat) : TulEntry :=
  let isRef := m.apr == x.ref
  let fixed := if isRef then 0 else (used.filter (fun c => (fixesOf x m.apr).any (fun f => f.ch == c))).length
  let vec := if isRef || excluded then none else vec
  let dd := !isRef && used.any (fun c => ddForm s.cal.table m.apr x.ref (chanSig (chanOf s c)).slice)
  { apr := m.apr, amb := ambState x m.apr used,
    flags := 2 * b2n excluded + 8 * b2n (!aprRan s m.apr) + 16 * b2n (x.resetMask.testBit m.apr) + 64 * b2n isRef + 512 * b2n dd + extra,
    vec := vec.getD (0, 0, 0),
    defo := match vec with
      | some v => if att && m.deformable then deformation d x.ref z roll m v else (0, 0, 0)
      | none => (0, 0, 0),
    sd := if vec.isSome then (((memberSol z m.apr).orElse (fun _ => memberSol z x.ref)).map (·.sd)).getD (0, 0, 0) else (0, 0, 0),
    nfix := fixed, nfloat := if isRef then 0 else used.length - fixed }

/-! ### The provisional solution (07 R312 to R314) -/

/-- OUT_FILTER admits a provisional of the group on some port or subscription (07 R313). -/
def provAdmitted (s : State) (g : Nat) : Bool :=
  (upto 5).any (fun p => (tget 0 s.ecsol.filters p).testBit 1)
    || (upto 16).any (fun k => corePlaced (coreOf s k) && (coreFilter s k).testBit 1
        && (upto 4).any (fun n => (subRing (coreOf s k) n).kind == 3 && (subRing (coreOf s k) n).filter.testBit g))

/-- B in micrometres: five times the largest 1 sigma, at least 0.2 mm (07 R314). -/
def provBound (pred : Bool) (sigma : Nat) : Nat := if pred then max 200 (5 * sigma) else 200

/-- The rigid members of a definition that have input, the reference among them. -/
def rigidWithInput (x : TulGroup) (d : TulDef) (used : TulMember → List Nat) : List TulMember :=
  d.members.filter (fun m => !m.deformable && (m.apr == x.ref || !(used m).isEmpty))

/-- Retained state that the engine reads poisoned: the output of the group that it belongs to carries POISON, and the ambiguities of every group are reset
at the next epoch (01 R38; 07 R308). -/
def markPoison (o : EngineObs) (s : State) : State :=
  let hit := (upto 4).filter (fun g => o.poisoned.toNat.testBit g && (groupOf s g).defn.isSome)
  if hit.isEmpty then s
  else
    foldS (fun g t => modGroup g (fun x => { x with poisonDue := x.defn.isSome, poisoned := x.poisoned || hit.contains g }) t) (upto 4) s

/-- The FLAGS of a member's entry that its solution gives: a deformation above DEF_LIMIT, or the rigid tolerance exceeded (07 R321). -/
def tolFlag (d : TulDef) (x : TulGroup) (z : TulSolution) (roll : Bool) (m : TulMember) : Nat := match memberSol z m.apr with
  | some w =>
    if m.apr = x.ref then 0
    else if m.deformable then 4 * b2n (!deformOk m (deformation d x.ref z roll m w.vec)) else 32 * b2n (!rigidOk d x m w)
  | none => 0

/-- The provisional of one group, unless an omission condition holds (07 R313). -/
def groupProvisional (o : EngineObs) (g : Nat) (s : State) : State :=
  let x := groupOf s g
  match x.defn with
  | some d =>
    let used := fun (m : TulMember) => usedProv s x m.apr
    let withIn := d.members.filter (fun m => m.apr != x.ref && !(used m).isEmpty)
    let all := unionOf (withIn.map used)
    let shown := fun (m : TulMember) => if m.apr = x.ref then all else used m
    let x := express s s.cal.table d used x
    let pred := fun (m : TulMember) => predictsApr s m.apr (shown m)
    let preds := d.members.filter pred
    let inputs := withIn.length + b2n (!withIn.isEmpty)
    let z := Config.tulSolve (tulProblem s x d s.cal.table used)
    if !x.mode.prov || !provAdmitted s g || x.noSolution || x.fixedSince.isNone || x.resetCause.isSome
        || decide (inputs < 2 * preds.length) || timeBroken s || o.late.toNat.testBit g || !z.solved || withIn.isEmpty then s
    else
      let rigid := rigidWithInput x d used
      let att := d.attitude && headingOk rigid
      let roll := rollOk rigid
      let fixed := withIn.all (fun m => ambState x m.apr (used m) == 3)
      let bound := provBound (!preds.isEmpty) z.sigma
      let vecs := withIn.filterMap (fun m => (memberSol z m.apr).map (fun v => (m.apr, v.vec)))
      let es := d.members.map (fun m =>
        let vec := (vecs.find? (fun e => e.1 == m.apr)).map (·.2)
        tulEntry s x d m z (shown m) vec att roll (droppedInput s x m.apr && (shown m).isEmpty)
          (b2n (pred m) + (if (shown m).isEmpty then 0 else tolFlag d x z roll m)))
      let dropped := d.members.any (fun m => droppedInput s x m.apr)
      let h : TulHead :=
        { state := 1, flags := commonFlags s x + 8 * b2n (!preds.isEmpty) + 16 * b2n (!fixed) + 128 * b2n att, bound := cdiv bound 100, dev := 0,
          predMask := bitsMask (preds.map (·.apr)), usedMask := bitsMask (withIn.map (·.apr) ++ [x.ref]),
          att := if att then some z else none, roll := roll, used := all, ratio := 0, age := if fixed then fixAge s x.fixedSince else 0 }
      let ch := tulChain s o g x.ref dropped x.poisoned (withIn.flatMap (fun m => (used m).map (fun c => (m.apr, c))))
      let ints := withIn.flatMap (fun m => ((used m).filter (fun c => !satRef x m.apr c)).map (fun c =>
        (m.apr, c, (fixesOf x m.apr).any (fun f => f.ch == c))))
      postTulle g false ch (tulPayload s g x h es)
        (modGroup g (fun _ => { x with prov := some { bound := bound, vecs := vecs, ints := ints } }) s)
  | none => s

/-- The apertures whose positions are known: the POINT aperture that is solved (07 R295), and those FIXED in a Tulle group that contains
it (08 R330). -/
def positionKnown (s : State) (point a : Nat) : Bool :=
  a == point || (upto 4).any (fun g =>
    let x := groupOf s g
    match x.defn with
    | some d =>
      d.members.any (fun m => m.apr == point) && d.members.any (fun m => m.apr == a)
        && ambState x a ((x.inputs.filter (fun i => i.1 == a)).map (·.2.1)) == 3
    | none => false)

/-- The time solution of an epoch (08 R330): one clock estimate per aperture whose position is known, or of POINT alone, from the measurements
that passed their checks under the masks of NAV_CONFIG (07 R290; 01 R37). -/
def timeFix (s : State) (point : Nat) : TimeFix :=
  let n := s.nunar
  let as := if n.average = 1 then (upto 24).filter (fun a => aprRan s a && positionKnown s point a) else [point]
  let good := fun (a : Nat) => (pvtWanted s a).filter (fun c => recordGood s c a)
  let orbits := s.nav.orbits.map (fun r => (r.sv, r.elems))
  let sol := fun (a : Nat) => Config.timeSolve n.scale s.epochMs ((attitudeVec s point a).getD (0, 0, 0)) ((good a).map (pvtInput s a)) orbits
  let bad := as.any (fun a => (pvtWanted s a).any (fun c => recordBad s c a))
  let ecc := as.any (fun a => (good a).any (fun c => recCorrected (caOf s c a)))
  let sats := satsOf s (good point)
  { label := s.epochMs, a := n.a, used := sats.length, chain := 16 * b2n bad + 8 * b2n ecc,
    clocks := (as.filter (fun a => !(good a).isEmpty)).map (fun a => (a, (sol a).err, (sol a).sd, (sol a).weights)),
    systems := (sol point).biases.map (fun b => (b.1, (sats.filter (fun k => k.1 == b.1)).length, b.2.1, b.2.2)) }

/-- The time engine takes the epoch's measurements with the position engine. -/
def timeCutoff (s : State) : State := match pvtPoint s with
  | some p => { s with nunar.fix := some (timeFix s p) }
  | none => s

/-- PROVISIONAL_CUTOFF (07 R284, R312): the provisional of every group, MSG_PVT, and the time solution. -/
def provisionalCutoff (o : EngineObs) (s : State) : State :=
  if !cutDue s 2 then s
  else
    let s := readRecords { s with meas.cut := 2 }
    let s := if isTulEpoch s then foldS (groupProvisional o) (upto 4) (markPoison o (foldS groupChoose (upto 4) s)) else s
    timeCutoff (pvtCutoff o s)

/-! ### The final solution (07 R305 to R309, R315, R316) -/

/-- Resets by slips, releases and members that leave running; they mark their members. A reference satellite among them is one no more. -/
def slipResets (s : State) (x : TulGroup) : TulGroup :=
  let lost := (x.ambs.filter (fun e => e.2.any (fun f => !ambStands s x e.1 f))).map (·.1)
  if lost.isEmpty then x
  else
    { x with
      ambs := x.ambs.foldl (fun t e => tset [] t e.1 (e.2.filter (ambStands s x e.1))) [],
      forms := x.forms.map (fun e =>
        if (ambsOf x (e.1 / 256)).any (fun f => f.ch == e.2.sat && !ambStands s x (e.1 / 256) f) then (e.1, { e.2 with sat := 255 }) else e),
      resetMask := x.resetMask ||| bitsMask lost, resetCause := some (x.resetCause.getD 0) }

/-- The geometry and ratio checks of R306 on the solution of a member. -/
def solutionOk (d : TulDef) (x : TulGroup) (z : TulSolution) (roll : Bool) (m : TulMember) (v : TulMemberSol) : Bool :=
  decide (10 * x.mode.ratio ≤ z.ratio)
    && (if m.deformable then deformOk m (deformation d x.ref z roll m v.vec) else rigidOk d x m v)

/-- The checks of R306 on the candidate of a member; `prev` holds the candidates of the group's previous final. -/
def accepts (s : State) (d : TulDef) (x : TulGroup) (z : TulSolution) (roll : Bool) (prev : Tab (List (Nat × Int))) (m : TulMember)
    (v : TulMemberSol) (used : List Nat) (cand : List (Nat × Int)) : Bool :=
  decide (1 ≤ x.mode.amb) && solutionOk d x z roll m v && !cand.isEmpty
    && (!(fixesOf x m.apr).isEmpty || decide (5 ≤ (satsOf s used).length)) && tget [] prev m.apr == cand

/-- One ambiguity at the final: its float state, and its residual where it is fixed and used; three large ones in a row free it in AMB_MODE 2, and
with fewer than four satellites every one of the member is freed (07 R307). -/
def ambFinal (amb : Nat) (few : Bool) (used : List Nat) (v : TulMemberSol) (f : TulAmb) : TulAmb :=
  if used.contains f.ch then
    let large := f.n.isSome && decide (400 < ((v.resid.find? (fun e => e.1 == f.ch)).map (·.2)).getD 0)
    let bad := if large then f.bad + 1 else 0
    let free := few || (amb == 2 && decide (3 ≤ bad))
    { f with
      float := ((v.floats.find? (fun e => e.1 == f.ch)).map (·.2)).getD f.float, bad := if free then 0 else bad,
      n := if free then none else f.n }
  else { f with n := if few then none else f.n, bad := 0 }

/-- One member at the final: integers kept, freed and newly fixed. Answers the group and whether the member has new fixes, and RESIDUAL. -/
def memberFinal (s : State) (d : TulDef) (z : TulSolution) (roll : Bool) (prev : Tab (List (Nat × Int))) (m : TulMember) (v : TulMemberSol)
    (used : List Nat) (x : TulGroup) : TulGroup × Bool × Bool :=
  let few := decide ((satsOf s used).length < 4)
  let cand := v.cand.filter (fun e => used.contains e.1 && !satRef x m.apr e.1)
  let ok := accepts s d x z roll prev m v used cand && !few
  let old := ambsOf x m.apr
  let all := old ++ (used.filter (fun c => !old.any (fun f => f.ch == c))).map (newAmb s x m.apr)
  let kept := all.map (fun f => if satRef x m.apr f.ch then f else ambFinal x.mode.amb few used v f)
  let residual := x.mode.amb == 1 && kept.any (fun f => f.n.isSome && decide (3 ≤ f.bad))
  let fixed := if ok then kept.map (fun f => { f with n := f.n.orElse (fun _ => (cand.find? (fun e => e.1 == f.ch)).map (·.2)) }) else kept
  let fresh := (kept.zip fixed).any (fun p => p.1.n.isNone && p.2.n.isSome)
  ({ x with ambs := tset [] x.ambs m.apr fixed, cands := tset [] x.cands m.apr cand }, fresh, residual)

/-- One member of which the final has no solution: with fewer than four satellites its fixed ambiguities are freed, and large residuals are no longer
consecutive (07 R307). -/
def memberIdle (s : State) (m : TulMember) (used : List Nat) (x : TulGroup) : TulGroup :=
  let few := decide ((satsOf s used).length < 4)
  { x with ambs := tmod [] x.ambs m.apr (·.map (fun f =>
      if satRef x m.apr f.ch then f else { f with n := if few then none else f.n, bad := 0 })) }

/-- The final fixed or dropped an integer that the provisional used: `was` is the group before the final's resets, `x` with its integers (07
R316). -/
def ambChanged (s : State) (was x : TulGroup) (p : TulProv) : Bool :=
  p.ints.any (fun e =>
    (fixesOf x e.1).any (fun f => f.ch == e.2.1) != e.2.2
      || (e.2.2 && (fixesOf was e.1).any (fun f => f.ch == e.2.1 && !ambStands s was e.1 f)))

/-- The square of DEV in square micrometres: the largest distance of a member's vectors in the two solutions (07 R316). -/
def devOf (p : TulProv) (vecs : List (Nat × (Int × Int × Int))) : Nat :=
  vecs.foldl (fun n e => match p.vecs.find? (fun q => q.1 == e.1) with
    | some q => max n (norm2 (sub3 e.2 q.2))
    | none => n) 0

/-- A length of which the square in square micrometres is given, in 0.1 mm, rounded up. -/
def up01mm (n : Nat) : Nat :=
  let r := isqrt n
  cdiv (if r * r = n then r else r + 1) 100

/-- The members of two solutions differ. -/
def membersDiffer (p : TulProv) (vecs : List (Nat × (Int × Int × Int))) : Bool :=
  p.vecs.any (fun q => !vecs.any (fun e => e.1 == q.1)) || vecs.any (fun e => !p.vecs.any (fun q => q.1 == e.1))

/-- The members of a group at a final: the group with its integers, the members with new fixes and those with RESIDUAL. The candidates of the previous
final serve here for the last time (07 R306). -/
def membersFinal (s : State) (d : TulDef) (z : TulSolution) (solved roll : Bool) (used : TulMember → List Nat) (x : TulGroup) :
    TulGroup × List Nat × List Nat :=
  (d.members.filter (fun m => m.apr != x.ref)).foldl (fun (acc : TulGroup × List Nat × List Nat) m =>
    match (if solved && !(used m).isEmpty then memberSol z m.apr else none) with
    | some v =>
      let r := memberFinal s d z roll x.cands m v (used m) acc.1
      (r.1, (if r.2.1 then m.apr :: acc.2.1 else acc.2.1), if r.2.2 then m.apr :: acc.2.2 else acc.2.2)
    | none => (memberIdle s m (used m) acc.1, acc.2)) ({ x with cands := [] }, [], [])

/-- The final of one defined group. -/
def groupFinal (o : EngineObs) (g : Nat) (s : State) : State :=
  match (groupOf s g).defn with
  | none => s
  | some d =>
    let was := groupOf s g
    let x := slipResets s was
    let used := fun (m : TulMember) => usedFinal s x m.apr
    let x := express s s.cal.table d used x
    let withIn := d.members.filter (fun m => m.apr != x.ref && !(used m).isEmpty)
    let rigid := rigidWithInput x d used
    let roll := rollOk rigid
    let z := Config.tulSolve (tulProblem s x d s.cal.table used)
    let solved := z.solved && !timeBroken s && !withIn.isEmpty
    let r := membersFinal s d z solved roll used x
    let x := r.1
    let fixedNow := solved && withIn.all (fun m => ambState x m.apr (used m) == 3)
    -- the declared reference returns at the first final at which it is fixed (07 R309)
    let back := x.ref != d.ref && solved && withIn.any (fun m => m.apr == d.ref && ambState x m.apr (used m) == 3)
    let all := unionOf (withIn.map used)
    let shown := fun (m : TulMember) => if m.apr = x.ref then all else used m
    let found := if solved then
        (x.ref, ((0 : Int), (0 : Int), (0 : Int))) :: withIn.filterMap (fun m => (memberSol z m.apr).map (fun v => (m.apr, v.vec)))
      else []
    let shift := if back then ((memberSol z d.ref).map (·.vec)).getD (0, 0, 0) else (0, 0, 0)
    let vecs := found.map (fun e => (e.1, sub3 e.2 shift))
    let y := if back then moveRef d.ref x else x
    let since := if fixedNow then some (x.fixedSince.getD s.ms) else none
    let att := solved && d.attitude && headingOk rigid
    let es := d.members.map (fun m =>
      let vec := (vecs.find? (fun e => e.1 == m.apr)).map (·.2)
      tulEntry s y d m z (shown m) vec att roll (droppedInput s x m.apr && (shown m).isEmpty)
        ((if solved && !(shown m).isEmpty then tolFlag d x z roll m else 0) + 128 * b2n (r.2.1.contains m.apr) + 256 * b2n (r.2.2.contains m.apr)))
    let own := found.filter (fun e => e.1 != x.ref)
    let dev := (x.prov.map (fun p => devOf p own)).getD 0
    let beyond := match x.prov with
      | some p => decide (p.bound ^ 2 < dev) || !solved || membersDiffer p own
      | none => false
    let h : TulHead :=
      { state := 2,
        flags := commonFlags s y + b2n (!solved) + 2 * b2n beyond + 16 * b2n (!fixedNow)
          + 64 * b2n (x.prov.any (ambChanged s was x)) + 128 * b2n att + 256 * b2n x.prov.isSome,
        bound := (x.prov.map (fun p => cdiv p.bound 100)).getD 0, dev := up01mm dev, predMask := 0,
        usedMask := if withIn.isEmpty then 0 else bitsMask (withIn.map (·.apr) ++ [x.ref]), att := if att then some z else none,
        roll := roll, used := all, ratio := if (x.cands.any (fun e => !e.2.isEmpty)) && x.mode.amb != 0 then z.ratio else 0, age := fixAge s since }
    let dropped := d.members.any (fun m => droppedInput s x m.apr)
    let ch := tulChain s o g x.ref dropped x.poisoned (withIn.flatMap (fun m => (used m).map (fun c => (m.apr, c))))
    let inputs := (withIn.flatMap (fun m => (used m).map (fun c => (m.apr, c, (caOf s c m.apr).slips))))
      ++ all.map (fun c => (x.ref, c, (caOf s c x.ref).slips))
    let s := modGroup g (fun _ =>
      { y with
        noSolution := !solved, fixedSince := since, inputs := inputs, prov := none,
        mem := if solved then z.mem else x.mem, fixedMs := if fixedNow then some s.ms else y.fixedMs,
        vecs := if fixedNow then vecs.foldl (fun t e => tset (0, 0, 0) t e.1 e.2) [] else y.vecs }) s
    postTulle g true ch (tulPayload s g y h es) s

/-! ### The shadow solution (06 R268, R269) -/

/-- A group that holds fixed ambiguities fails the validation under another table: a member with fixed ambiguities has no candidate that is those
same integers, or does not pass the checks of R306. -/
def shadowFails (s : State) (t : CalTable) (x : TulGroup) : Bool := match x.defn with
  | none => false
  | some d =>
    let x := slipResets s x
    let used := fun (m : TulMember) => usedFinal s x m.apr
    let x := express s t d used x
    let z := Config.tulSolve (tulProblem s x d t used)
    let roll := rollOk (rigidWithInput x d used)
    d.members.any (fun m =>
      let held := (fixesOf x m.apr).filter (fun f => (used m).contains f.ch)
      m.apr != x.ref && !held.isEmpty && (match memberSol z m.apr with
        | some v => !solutionOk d x z roll m v
            || held.any (fun f => (v.cand.find? (fun e => e.1 == f.ch)).map (·.2) != f.n)
        | none => true))

/-- The shadow solutions of an overlap epoch: some group fails. -/
def shadowFailed (s : State) : Bool := match s.cal.change with
  | some ch => ch.epochs != 0 && isTulEpoch s && (upto 4).any (fun g => shadowFails s ch.next (groupOf s g))
  | none => false

/-- FINAL_CUTOFF (07 R284, R315; 06 R269, R270): exactly one final of every defined group at a Tulle epoch, and the overlap's shadow
check. -/
def finalCutoff (o : EngineObs) (s : State) : State :=
  if !cutDue s 3 then s
  else
    let s := readRecords { s with meas.cut := 3 }
    let fail := shadowFailed s
    let s := if isTulEpoch s then foldS (groupFinal o) (upto 4) (markPoison o s) else s
    voileFinal fail s

/-! ### The rows -/

def execMeasRate (p : Packet) (s : State) : Host.Outcome State Fault Refusal := .next (runCmd specMeasRate p s)
def execTulGroup (p : Packet) (s : State) : Host.Outcome State Fault Refusal := .next (runCmd specTulGroup p s)
def execTulMode (p : Packet) (s : State) : Host.Outcome State Fault Refusal := .next (runCmd specTulMode p s)
def execTulResetAmb (p : Packet) (s : State) : Host.Outcome State Fault Refusal := .next (runCmd specTulResetAmb p s)
def execMeasCorrections (p : Packet) (s : State) : Host.Outcome State Fault Refusal := .next (runCmd specMeasCorrections p s)
def execNavConfig (p : Packet) (s : State) : Host.Outcome State Fault Refusal := .next (runCmd specNavConfig p s)
def execDumpRecordCommit (ch : Fin 192) (a : Fin 24) (u : Upset) (s : State) : Host.Outcome State Fault Refusal :=
  .next (dumpCommit ch a u s)
def execRawCutoff (residue : BitVec 24) (s : State) : Host.Outcome State Fault Refusal := .next (rawCutoff residue s)
def execProvisionalCutoff (o : EngineObs) (s : State) : Host.Outcome State Fault Refusal := .next (provisionalCutoff o s)
def execFinalCutoff (o : EngineObs) (s : State) : Host.Outcome State Fault Refusal := .next (finalCutoff o s)

end Sys2Proof.Machine
end

