-- ==== Sys2Proof/Machine/Nunar.lean ====
section
/-! DEFINITION. The Nunar time engine (08): the time count and the epoch grid, time sources, the state, returns, slews and
steps, and the commands that set them. -/
namespace Sys2Proof.Machine

/-! ### The time count and the grid (08 R322 to R325) -/

/-- One epoch of the filter by which A follows X: of the second order, both of its poles at the 100 s time constant, and driven by X - A in ps. Its registers
hold the rate of A in 10^-10 ps an epoch, and what of it has not yet made a whole ps (08 R325; log 69). -/
def timeFilter (err : Int) (mem : List Int) : Int × List Int :=
  let tau : Nat := 100000
  let rate := mem.getD 0 0 + err - roundDiv (2 * mem.getD 0 0) tau
  let sum := mem.getD 1 0 + rate
  (sum / (tau ^ 2 : Nat), [rate, sum % (tau ^ 2 : Nat)])

/-- A follows X through its filter: LOCKED with a valid source, and no slew or step in progress (08 R325). -/
def filterRuns (n : Nunar) : Bool := n.st == 1 && n.invalid == 0 && n.step.isNone && n.slew == 0

/-- The move of A over one epoch with the filter's registers after it: a slew, or the filter's move, never faster than RATE (08 R325, R341). While
the firmware is in retention the filter stands (01 R13). -/
def epochMove (asleep : Bool) (n : Nunar) : Int × List Int :=
  if n.slew ≠ 0 then (slewMove n, n.filt)
  else if filterRuns n ∧ !asleep then
    let z := timeFilter (n.x - n.a) n.filt
    (clampI (-(n.rate : Int)) n.rate z.1, z.2)
  else (0, n.filt)

/-- K of a step: D in whole milliseconds, ties towards zero; 0 below 0.5 ms (08 R342, R343). -/
def stepK (d : Int) : Int :=
  let k := (d.natAbs + 499999999) / 1000000000
  if 0 ≤ d then (k : Int) else -(k : Int)

/-- The millisecond that begins: its length is fixed, with what A moves in it (08 R323). The interval that a step closes is 1 ms less what of D is
no whole millisecond, and no part of it is steering (08 R324, R342, R343). -/
def planMs (s : State) : State :=
  let n := s.nunar
  match (if stepDue s then n.step else none) with
  | some p =>
    let len := msLen n - psToGrid n (p.d - 1000000000 * stepK p.d)
    takeJump { s with nunar := { n with plan := len, move := 0, cur := (nearestGrid (n.pos + len) - nearestGrid n.pos).toNat, ff := 0 } }
  | none =>
    let m := epochMove s.power.retention n
    let len := lenWith n m.1
    let cur := (nearestGrid (n.pos + len) - nearestGrid n.pos).toNat
    takeJump { s with nunar := { n with plan := len, move := m.1, filt := m.2, cur := cur, ff := (cur : Int) - 35200000 } }

/-- The interval that runs ends: the channels' NCOs come to the epoch, the shapes and sweeps of the clock outputs move on, and so do the grid and A (08 R323
to R325; 09 R382, R384). -/
def endMs (s : State) : State :=
  let s := clkTick (feedSearch s.nunar.ff (advanceChannels s))
  let n := s.nunar
  { s with nunar := { n with
    pos := n.pos + n.plan, len := n.cur, a := n.a + n.move, slew := if n.slew = 0 then 0 else n.slew - n.move } }

/-- Time is stepped: this epoch is the first at the new placement, and LOCKED starts (08 R342, R343); an alignment at its second is one at the first whole
second of the new placement (09 R387). The transmit times stay, so the code delays
move with the label and the placement. -/
def takeStep (p : TimeStep) (s : State) : State :=
  let k := stepK p.d
  let label := ((p.boundary : Int) + k).toNat
  let more := roundDiv (((s.nunar.len : Int) - 35200000) * msUnits) 35200000
  let moved := ((label : Int) - s.epochMs - 1) * msUnits - more
  let n := s.nunar
  let n' : Nunar := { n with
    st := 1, first := false, step := none, slew := 0, a := n.a + p.d, filt := [], fix := none, broken := true, stepMs := some p.due,
    brokenUntil := if k < 0 then some (p.boundary - 1) else none, secDue := label % 1000 == 0 }
  let t := stepOutputs p.d (shiftSearch more <| shiftCodes moved { s with epochMs := label, nunar := n' })
  { t with clk.align := t.clk.align.map (fun a => if a.second = p.boundary then { a with second := (label + 999) / 1000 * 1000 } else a) }

/-- An ordinary epoch: the next label. -/
def nextLabel (s : State) : State :=
  let n := s.nunar
  let label := s.epochMs + 1
  let back := match n.brokenUntil with
    | some b => decide (label ≤ b)
    | none => false
  let n' : Nunar := { n with
    broken := back, brokenUntil := if back then n.brokenUntil else none, secDue := n.secDue || label % 1000 == 0 }
  { s with epochMs := label, nunar := n' }

/-- A channel whose label and transmit time both move by `d` whole seconds, on to another scale's count: its code delay stays, and so does the
place of its generator in the secondary code and in the symbol (08 R326). -/
def relabelChan (d : Int) (x : Channel) : Channel :=
  let k := d * msUnits / periodUnits (chanSig x)
  let back := fun (at' n : Nat) => if n = 0 then at' else (((at' : Int) - k) % n).toNat
  { x with
    secAt := back x.secAt (Config.secondaryPeriods x.signal x.sv), symAt := back x.symAt (Config.symbolPeriods x.signal x.sv) }

/-- The place in MSG_OFFSETS of the system whose time a scale is (08 R327). -/
def scaleSystem (scale : Nat) : Nat := if scale = 4 then 6 else scale

/-- The broadcast offset of a system from the selected scale without whole seconds (08 R329). -/
def bcastOf (s : State) (i : Nat) : Option Int :=
  let b := fun (k : Nat) => if k = 0 then some 0 else tget none s.nunar.bcast k
  match b i, b (scaleSystem s.nunar.scale) with
  | some x, some y => some (x - y)
  | _, _ => none

/-- A system's time minus the selected scale without whole seconds, 0.01 ns: estimated from two or more satellites, else broadcast (08 R329). -/
def partOf (s : State) (i : Nat) : Option Int :=
  let est := (s.nunar.fix.bind (fun f => f.systems.find? (fun x => x.1 == i))).bind (fun v => if 2 ≤ v.2.1 then some v.2.2.1 else none)
  est.orElse (fun _ => bcastOf s i)

/-- The sub-second part of the difference between a scale and the selected one, ps: by it, TC is later on that scale; one that is not known shows in the
next estimate (08 R326). -/
def scalePart (s : State) (scale : Nat) : Int := 10 * (partOf s (scaleSystem scale)).getD 0

/-- A new SCALE takes effect (08 R326) at the coming whole second: epochs are relabelled, and the sub-second part enters X, as a return; while time is not
set, the count is no scale's, and what moves is X and the step that will set it. -/
def takeScale (scale : Nat) (s : State) : State :=
  let diff : Int := 1000 * ((scaleOrigin s.nunar.scale : Int) - scaleOrigin scale)
  let part := scalePart s scale
  let n : Nunar := { s.nunar with scale := scale, pendScale := none, fix := none }
  if n.first then
    let up := diff * 1000000000 + part
    { s with nunar := { n with
      x := n.x + up, cand := n.cand.map (· + up), step := n.step.map (fun p => { p with d := p.d + up }) } }
  else
    let t := foldS (fun c t => modChan c (relabelChan diff) t) (assignedChannels s) s
    { t with
      epochMs := ((s.epochMs : Int) + diff).toNat,
      clk.align := t.clk.align.map (fun a => { a with second := ((a.second : Int) + diff).toNat }),
      nunar := { n with
        x := n.x + part, cand := if part = 0 then n.cand else [], forced := n.forced || part != 0,
        step := n.step.map (fun p => { p with boundary := ((p.boundary : Int) + diff).toNat }) } }

/-- A SCALE that waits takes effect where the coming epoch is a whole second. -/
def scaleDue (s : State) : State := match s.nunar.pendScale with
  | some c => if (s.epochMs + 1) % 1000 = 0 then takeScale c s else s
  | none => s

/-- The first epoch after a reset, a wake or a relock (08 R335, R336): `elapsed` milliseconds that the bypass clock measured. -/
def firstEpoch (elapsed : Nat) (s : State) : State :=
  let n := s.nunar
  let label := if n.st = 5 then s.epochMs + elapsed else 0
  let n' : Nunar := { n with
    running := true, first := true, st := 0, pos := 0, len := 35200000, broken := n.st == 5, brokenUntil := none,
    secDue := label % 1000 == 0, invalid := 0, cand := [], src := none, forced := false, sync := none, filt := [], mem := [], fix := none }
  { s with epochMs := label, nunar := n', clk.bypassUs := 0 }

/-- Poisoned registers are cleared at the next epoch (01 R38). -/
def clearPoison (s : State) : State :=
  if s.nunar.poison then { s with nunar := { s.nunar with poison := false, filt := [], mem := [], cand := [] } } else s

/-- The epoch after `s`: its label and the state with the grid moved (08 R323, R335, R336, R342, R343), and the plan of the millisecond that
begins. -/
def nunarEpoch (elapsed : Nat) (s0 : State) : State :=
  if s0.nunar.running then
    let s := endMs (scaleDue s0)
    let s := match (if stepDue s then s.nunar.step else none) with
      | some p => takeStep p s
      | none => nextLabel s
    planMs (startSweeps (clearPoison s))
  else planMs (startSweeps (firstEpoch elapsed (clkTick s0)))

/-! ### Sources and the estimate (08 R330 to R332) -/

/-- The whole second that is judged: the last one. -/
def secondOf (s : State) : Nat := s.epochMs / 1000 * 1000

/-- The time solution of the second that has ended; missing where the engine's data are poisoned (08 R330; 01 R39). -/
def secondFix (s : State) (o : SecondObs) : Option TimeFix := match s.nunar.fix with
  | some f => if f.label ≤ secondOf s ∧ secondOf s < f.label + 1000 ∧ !o.poisoned then some f else none
  | none => none

/-- The weight that an aperture carries in the estimate. -/
def clockWeight (w : List (Nat × Nat)) : Nat := w.foldl (fun n e => n + e.2) 0

/-- X as the GNSS source gives it: the weighted mean of the apertures' estimates over A, with TYPE 6 added; none where the source is not valid
(08 R330, R346). -/
def gnssX (s : State) (o : SecondObs) : Option Int := match secondFix s o with
  | some f =>
    let w : Nat := f.clocks.foldl (fun (n : Nat) c => n + clockWeight c.2.2.2) 0
    let sd : Nat := f.clocks.foldl (fun (n : Nat) c => max n c.2.2.1) 0
    if f.used < 4 ∨ 100000 < sd ∨ w = 0 then none
    else some (f.a + roundDiv (f.clocks.foldl (fun (n : Int) c => n + (clockWeight c.2.2.2 : Int) * c.2.1) 0) w + timDelay s 6 0)
  | none => none

/-- X as the second's SYNC_IN edge gives it: an edge after the prediction means that the count is early (08 R331, R338). -/
def syncX (s : State) : Option Int := s.nunar.sync.map (fun d => s.nunar.a - d + timDelay s 6 0)

/-- The SYNC_IN edge lies within 1 us of the prediction (08 R331). -/
def syncInside (s : State) : Bool := match s.nunar.sync with
  | some d => decide (d.natAbs ≤ 1000000)
  | none => false

/-- The source that a second offers (08 R331, R332, R338): true = SYNC_IN, its X, and whether it is valid for the estimate; a SYNC_IN
edge outside the window counts for a return only, of SYNC_IN while that is the source. -/
def secondSource (o : SecondObs) (s : State) : Option (Bool × Int × Bool) :=
  let g := (gnssX s o).map (fun x => (false, x, true))
  let y := if syncInside s then (syncX s).map (fun x => (true, x, true)) else none
  let out := (syncX s).map (fun x => (true, x, false))
  match s.nunar.source with
  | 0 => g
  | 1 => g.orElse (fun _ => y.orElse (fun _ => out))
  | _ => y.orElse (fun _ => if s.nunar.src = some true then out.orElse (fun _ => g) else g.orElse (fun _ => out))

/-! ### Returns, slews and steps (08 R338 to R344) -/

/-- The first whole second of the scale at least 200 ms after now (08 R342). -/
def pulseBoundary (s : State) : Nat := (s.epochMs + 1199) / 1000 * 1000

/-- A slew starts, or replaces the remainder of one (08 R341, R344). -/
def startSlew (d : Int) (s : State) : State :=
  { s with nunar.slew := d, nunar.st := if d = 0 then 1 else 2 }

/-- A step is decided: a slew stops, and the state in force stays in force (08 R342). -/
def planStep (d : Int) (s : State) : State :=
  { s with nunar.slew := 0, nunar.step := some { boundary := pulseBoundary s, due := s.ms + (pulseBoundary s - s.epochMs), d := d } }

/-- A confirmed return is decided (08 R340), with the frequency correction of 09 R380, which the coming milliseconds take. -/
def decideReturn (d freq : Int) (s : State) : State :=
  let n := s.nunar
  let s := { s with nunar := { n with freq := freq, cand := [], forced := false } }
  if n.first ∨ (n.slewThr * 1000 < d.natAbs ∧ n.policy = 1) then planStep d s else startSlew d s

/-- The consistent seconds with a new one: earlier seconds of GNSS are moved by the frequency error that TC does not remove, and the offsets of SYNC_IN edges
stand as they are (08 R338). -/
def consistent (drift key : Int) (cand : List Int) : List Int :=
  key :: ((cand.map (· + drift)).takeWhile (fun k => decide ((k - key).natAbs ≤ 100000))).take 2

/-- COASTING is entered: a slew stops where it stands (08 R333, R344). -/
def enterCoasting (s : State) : State :=
  { s with nunar.st := 3, nunar.slew := 0, nunar.coastMs := s.ms }

/-- A whole second without a source (08 R333, R344). -/
def secondLost (s : State) : State :=
  let s := { s with nunar.cand := [], nunar.invalid := s.nunar.invalid + 1 }
  if 2 ≤ s.nunar.invalid ∧ (s.nunar.st = 1 ∨ s.nunar.st = 2) ∧ s.nunar.step.isNone then enterCoasting s else s

/-- The weights of a second's estimate (08 R347). -/
def weightsOf (s : State) (o : SecondObs) : Tab Nat := match secondFix s o with
  | some f => f.clocks.foldl (fun t c => c.2.2.2.foldl (fun u e => tmod 0 u (4 * c.1 + e.1) (· + e.2)) t) []
  | none => []

/-- A whole second with a source: the estimate, a change of source, and a return where one is due (08 R325, R330 to R332, R338). -/
def secondHeld (o : SecondObs) (src : Bool) (x : Int) (valid : Bool) (s : State) : State :=
  let n := s.nunar
  let changed := n.src.isSome && n.src != some src
  let e := Config.oscStep x n.a n.mem
  let freq := if valid then e.freq else n.freq
  let drift := (freqApplied n - freq) / 1000000
  let n1 : Nunar := { n with
    invalid := 0, src := some src, forced := n.forced || changed, cand := if changed then [] else n.cand,
    x := if valid then x else n.x, xSd := if valid then e.xSd else n.xSd, freqSd := if valid then e.freqSd else n.freqSd,
    mem := if valid then e.mem else n.mem, validMs := if valid then some s.ms else n.validMs,
    freq := if valid ∧ n.st = 1 ∧ n.step.isNone then e.freq else n.freq,
    weights := if valid ∧ !src then weightsOf s o else if valid then [] else n.weights }
  let due := !n1.cand.isEmpty || n1.first || n1.st == 3 || n1.st == 4 || n1.forced || !valid
    || decide (n1.slewThr * 1000 < (x - n1.a).natAbs)
  let osc : Estimate := { value := [roundDiv e.freq 1000000], sd := cdiv e.freqSd 1000000 }
  let s1 := { s with nunar := n1, nav.osc := if valid then some osc else s.nav.osc }
  if !due ∨ n1.step.isSome then s1
  else
    let c := if src then consistent 0 (x - n1.a) n1.cand else consistent drift x n1.cand
    if c.length < 3 then { s1 with nunar.cand := c } else decideReturn (x - n1.a) freq s1

/-! ### MSG_OFFSETS (08 R328, R329) -/

/-- GPS time of a label, ms since the GPS origin. -/
def gpsMs (s : State) (label : Nat) : Nat := label + 1000 * scaleOrigin s.nunar.scale

/-- LEAP in force at a label (08 R327, R328): an announced leap second counts from the second that follows it. -/
def leapAt (s : State) (label : Nat) : Option Nat := s.nav.utc.map (fun u =>
  if u.change = 0 ∨ gpsMs s label < u.endMs then u.leap else if u.change = 1 then u.leap + 1 else u.leap - 1)

/-- The change of LEAP that is still to come at a label (08 R328). -/
def leapPending (s : State) (label : Nat) : Nat := match s.nav.utc with
  | some u => if gpsMs s label < u.endMs then u.change else 0
  | none => 0

/-- The whole seconds by which a system's reading leads that of GPS time, `leap` being GPS time minus UTC (08 R327, R328; the systems' own are log
43). -/
def wholeLead (leap : Option Nat) : Nat → Option Int
  | 2 => some (-14)
  | 3 => leap.map (fun n => 10800 - (n : Int))
  | 6 => leap.map (fun n => -(n : Int))
  | _ => some 0

/-- A system's time minus the selected scale, whole seconds included, from what it is without them; none while LEAP is needed and unknown (08
R328). -/
def offsetOf (s : State) (i : Nat) (part : Int) : Option Int :=
  let l := leapAt s (secondOf s)
  let j := scaleSystem s.nunar.scale
  if i = j then some part
  else match wholeLead l i, wholeLead l j with
    | some a, some b => some (100000000000 * (a - b) + part)
    | _, _ => none

/-- One entry: estimated with two or more satellites, else broadcast, else unknown. -/
def offsetEntry (s : State) (f : Option TimeFix) (i : Nat) : List Byte :=
  let est := f.bind (fun f => f.systems.find? (fun x => x.1 == i))
  let nsv := (est.map (·.2.1)).getD 0
  let v := (if 2 ≤ nsv then est else none).bind (fun v => (offsetOf s i v.2.2.1).map (fun d => (d, v.2.2.2)))
  match v, (bcastOf s i).bind (offsetOf s i) with
  | some v, _ => le 1 i ++ [1] ++ le 1 nsv ++ [0] ++ leI 8 v.1 ++ le 2 (sat 65535 v.2) ++ zeros 2
  | none, some d => le 1 i ++ [2] ++ le 1 nsv ++ [0] ++ leI 8 d ++ zeros 4
  | none, none => le 1 i ++ [0] ++ le 1 nsv ++ zeros 13

/-- The payload of MSG_OFFSETS. -/
def offsetsBytes (s : State) (o : SecondObs) : List Byte :=
  le 8 (secondOf s) ++ le 1 ((leapAt s (secondOf s)).getD 255) ++ le 1 (leapPending s (secondOf s)) ++ [7] ++ zeros 5
    ++ (upto 7).flatMap (offsetEntry s (secondFix s o))

/-- The chain status of MSG_OFFSETS: inputs excluded from the solution, and what befell the engine (01 R36 to R38). -/
def offsetsChain (s : State) (o : SecondObs) : Nat :=
  ((secondFix s o).map (·.chain)).getD 0 ||| 128 * b2n o.poisoned ||| 32 * b2n o.residue ||| 8 * b2n o.corrected

/-- MSG_OFFSETS is committed after every whole second while the state is not UNSET (08 R328). -/
def postOffsets (o : SecondObs) (s : State) : State :=
  if s.nunar.st = 0 then s
  else
    let s := logChain (32 * b2n o.residue) 0x08 0 s
    post { msg2 s 0x8C 0x08 0 (offsetsBytes s o) with chain := offsetsChain s o } s

/-- While LOCKED, the 32.768 kHz count is loaded at every whole second (16 R599). -/
def loadTimeCount (s : State) : State :=
  if s.nunar.st = 1 ∧ s.power.wake.timekeep then
    { s with power.tcValid := true, power.tcGpsMs := gpsMs s s.epochMs, power.tcSinceMs := 0, power.tcSdUs := cdiv s.nunar.xSd 1000000 }
  else s

/-- The holdover limit has passed (08 R333). -/
def limitPassed (s : State) : Bool :=
  s.nunar.limitMin != 0 && decide (s.nunar.coastMs + 60000 * s.nunar.limitMin ≤ s.ms)

/-- A limit lowered below the time that COASTING has lasted expires at the whole second, unless a return is confirmed there (08 R337, R339). -/
def lowerLimit (s : State) : State :=
  let expire := s.nunar.lowered && s.nunar.st == 3 && s.nunar.step.isNone && limitPassed s
  { s with nunar.lowered := false, nunar.st := if expire then 4 else s.nunar.st }

/-- Nunar's part of a whole second of TC. -/
def nunarSecond (o : SecondObs) (s : State) : State :=
  let s := match secondSource o s with
    | some (src, x, valid) => secondHeld o src x valid s
    | none => secondLost s
  let s := { s with
    nunar.sync := none, nunar.poison := s.nunar.poison || o.poisoned }
  loadTimeCount (postOffsets o (lowerLimit s))

/-! ### Rows -/

/-- HOLDOVER_EXPIRY (08 R333, R339): the limit has passed, and the second at which it passes confirmed no return. -/
def holdoverExpiry (s : State) : State :=
  let n := s.nunar
  if n.st = 3 ∧ limitPassed s ∧ !n.lowered ∧ !n.secDue ∧ n.step.isNone then
    { s with nunar.st := 4 }
  else s

/-- SLEW_END (08 R341): D is exhausted. -/
def slewEnd (s : State) : State :=
  if s.nunar.st = 2 ∧ s.nunar.slew = 0 ∧ s.nunar.step.isNone then { s with nunar.st := 1 } else s

/-- The clock system switches to its bypass clock: BROKEN (08 R333, R335). -/
def nunarBypass (s : State) : State :=
  let n : Nunar := { s.nunar with
    st := 5, running := false, stepped := false, slew := 0, step := none, cand := [], src := none, forced := false, secDue := false, sync := none }
  takeJump { s with nunar := n }

/-! ### Commands -/

/-- TIM_SCALE (08 R326). -/
def timScaleAct (p : Packet) (s : State) : CmdOut :=
  let b := p.params
  rejectIf (decide (4 < u8 b 0) || decide (2 < u8 b 1) || decide (1 < u8 b 2) || !zeroAt b 3 1) .badValue <|
  rejectIf (u8 b 1 != 0 && !syncIs1pps s) .badState <|
  rejectIf (s.nunar.st != 0 && (s.nunar.st != 1 || s.nunar.slew != 0)) .badState <|
  done { s with nunar.pendScale := some (u8 b 0), nunar.source := u8 b 1, nunar.average := u8 b 2 }

def specTimScale : OpSpec := plainOp 0x0802 false 4 timScaleAct

/-- TIM_HOLDOVER (08 R337). -/
def timHoldoverAct (p : Packet) (s : State) : CmdOut :=
  let b := p.params
  let lim := u16 b 0
  let back := s.nunar.st == 4 && (lim == 0 || decide (s.ms < s.nunar.coastMs + 60000 * lim))
  rejectIf (decide (1 < u8 b 2) || !zeroAt b 3 1 || u32 b 4 == 0 || decide (4000000000 < u32 b 4)) .badValue <|
  done { s with
    nunar.limitMin := lim, nunar.action := u8 b 2, nunar.drift := u32 b 4, nunar.st := if back then 3 else s.nunar.st,
    nunar.lowered := s.nunar.st == 3 && lim != 0 && decide (s.nunar.coastMs + 60000 * lim ≤ s.ms) }

def specTimHoldover : OpSpec := plainOp 0x0803 true 8 timHoldoverAct

/-- TIM_STEP_POLICY (08 R345): a new RATE also applies to a slew in progress. -/
def timStepPolicyAct (p : Packet) (s : State) : CmdOut :=
  let b := p.params
  rejectIf (decide (1 < u8 b 0) || !zeroAt b 1 1 || decide (u16 b 2 < 10) || decide (10000 < u16 b 2) || u16 b 4 == 0
    || decide (1000 < u16 b 4) || !zeroAt b 6 2) .badValue <|
  done { s with nunar.policy := u8 b 0, nunar.slewThr := u16 b 2, nunar.rate := u16 b 4 }

def specTimStepPolicy : OpSpec := plainOp 0x0806 true 8 timStepPolicyAct

/-- The largest INDEX of a delay TYPE (08 R346). -/
def delayIndexMax : Nat → Nat
  | 1 => 3 | 2 => 23 | 3 => 1 | 4 => 7 | _ => 0

/-- A delay entry is in range (08 R346). -/
def delayOk (e : List Byte) : Bool :=
  let t := u8 e 0
  decide (1 ≤ t ∧ t ≤ 6 ∧ u8 e 1 ≤ delayIndexMax t) && zeroAt e 2 2
    && (if t = 6 then decide (-1000000 ≤ i32 e 4 ∧ i32 e 4 ≤ 1000000) else decide (0 ≤ i32 e 4 ∧ i32 e 4 ≤ 10000000))

/-- How a change of the delays moves X: TYPE 6 by its change, TYPE 1 and 2 by what they change in the estimate (08 R347). -/
def delayMove (s t : State) : Int :=
  let w : Nat := s.nunar.weights.foldl (fun (n : Nat) e => n + e.2) 0
  let d := s.nunar.weights.foldl (fun (n : Int) e =>
    n + (e.2 : Int) * (codeDelay t (e.1 / 4) (e.1 % 4) - codeDelay s (e.1 / 4) (e.1 % 4))) 0
  timDelay t 6 0 - timDelay s 6 0 + (if w = 0 then 0 else roundDiv d w)

/-- TIM_DELAYS (08 R346, R347): every change of X is a return. -/
def timDelaysAct (p : Packet) (s : State) : CmdOut :=
  let b := p.params
  let es := chunks 8 (u8 b 0) (b.drop 8)
  rejectIf (decide (24 < u8 b 0) || decide (1 < u8 b 1) || !zeroAt b 2 6 || es.any (fun e => !delayOk e)
    || anyPair (fun x y => u8 x 0 == u8 y 0 && u8 x 1 == u8 y 1) es) .badValue <|
  let base := if u8 b 1 = 0 then [] else s.nunar.delays
  let t := { s with nunar.delays := es.foldl (fun m e => tset 0 m (32 * u8 e 0 + u8 e 1) (i32 e 4)) base }
  let m := delayMove s t
  let live := s.nunar.st != 0 && s.nunar.st != 5
  done { t with nunar.x := s.nunar.x + m, nunar.forced := s.nunar.forced || (live && m != 0) }

def specTimDelays : OpSpec :=
  { plainOp 0x0804 false 8 timDelaysAct with maxLen := 200, form := fun b => some (8 + 8 * u8 b 0) }

/-! ### The rows -/

def execTimScale (p : Packet) (s : State) : Host.Outcome State Fault Refusal := .next (runCmd specTimScale p s)
def execTimHoldover (p : Packet) (s : State) : Host.Outcome State Fault Refusal := .next (runCmd specTimHoldover p s)
def execTimStepPolicy (p : Packet) (s : State) : Host.Outcome State Fault Refusal := .next (runCmd specTimStepPolicy p s)
def execTimDelays (p : Packet) (s : State) : Host.Outcome State Fault Refusal := .next (runCmd specTimDelays p s)
def execHoldoverExpiry (s : State) : Host.Outcome State Fault Refusal := .next (holdoverExpiry s)
def execSlewEnd (s : State) : Host.Outcome State Fault Refusal := .next (slewEnd s)

end Sys2Proof.Machine
end

