-- ==== Sys2Proof/Machine/Timecode.lean ====
section
/-! DEFINITION. The IRIG-B frame that TP1 carries (08 R354, R355). The places of the frame's elements and of the IEEE 1344
control functions are those of the standards the spec names (PRESUMED, log 43). -/
namespace Sys2Proof.Machine

/-- The days of a year. -/
def yearDays (y : Nat) : Nat := if y % 4 = 0 ∧ (y % 100 ≠ 0 ∨ y % 400 = 0) then 366 else 365

/-- The year and the day of the year (from 1) of a day counted from the first of January of `y`. -/
def yearOf : Nat → Nat → Nat → Nat × Nat
  | 0, y, d => (y, d + 1)
  | fuel + 1, y, d => if d < yearDays y then (y, d + 1) else yearOf fuel (y + 1) (d - yearDays y)

/-- The seconds between 1980-01-06 and the scale's own origin, on its own calendar (08 R327). -/
def calendarOrigin : Nat → Nat
  | 1 => 619315200 | 2 => 820108800 | 3 => 504489600 | _ => 0

/-- The second at `label` is an inserted one. -/
def inLeap (s : State) (label : Nat) : Bool := match s.nav.utc with
  | some u => u.change == 1 && decide (u.endMs ≤ gpsMs s label + 1000) && decide (gpsMs s label < u.endMs)
  | none => false

/-- The second before `label` was a leap second (08 R353 FLAGS bit 4). -/
def afterLeap (s : State) (label : Nat) : Bool := match s.nav.utc with
  | some u => u.change == 1 && u.endMs == gpsMs s label
  | none => false

/-- The frame labels a scale that knows leap seconds: UTC, or GLONASS time, not one of SCALE 0 to 2 (08 R327, R354). -/
def frameLeaps (s : State) : Bool := !s.nunar.timecode.flags.testBit 1 || decide (3 ≤ s.nunar.scale)
/-- The second at `label` is one that the frame labels 60. -/
def frameLeap (s : State) (label : Nat) : Bool := frameLeaps s && inLeap s label

/-- Seconds since 1980-01-06 of the frame's label, on UTC or on the selected scale, with the local offset (08 R354); none while LEAP
is needed and unknown. -/
def frameSeconds (s : State) (label : Nat) : Option Nat :=
  let n := s.nunar
  let l := if frameLeap s label then label - 1000 else label
  let base := if n.timecode.flags.testBit 1 ∧ n.scale ≠ 4 then some (l / 1000 + calendarOrigin n.scale)
    else (leapAt s l).map (fun k => l / 1000 + scaleOrigin n.scale - k)
  base.map (fun b => ((b : Int) + 900 * n.timecode.offset).toNat)

/-- `n` binary elements of `v`, least significant first. -/
def irigBits (n v : Nat) : List Nat := (upto n).map (fun i => b2n (v.testBit i))

/-- The time-quality code of the IEEE 1344 extension: the decade of ERR_BOUND from 1 ns, 0 while it is 0. -/
def irigQuality (errNs : Nat) : Nat :=
  if errNs = 0 then 0 else 1 + ((upto 11).filter (fun k => decide (10 ^ k < errNs))).length

/-- The 9 elements between markers: control functions 1 to 27 with the IEEE 1344 extension, or zeros. -/
def irigControl (s : State) (label errNs year : Nat) (useYear useCf : Bool) : List Nat :=
  let t := s.nunar.timecode
  let ext := t.flags.testBit 0
  let yy := year % 100
  let y := if useYear || (useCf && ext) then irigBits 4 (yy % 10) ++ [0] ++ irigBits 4 (yy / 10) else List.replicate 9 0
  let pend := leapPending s label
  let soon := pend != 0 && leapPending s (label + 60000) == 0
  let quarter := t.offset.natAbs
  let c2 := if useCf && ext then
      [b2n soon, b2n (pend == 2), 0, 0, b2n (decide (t.offset < 0))] ++ irigBits 4 (quarter / 4)
    else List.replicate 9 0
  let c3a := b2n (decide (2 ≤ quarter % 4)) :: irigBits 4 (irigQuality errNs)
  let c3 := if useCf && ext then c3a ++ [0, 0, 0, 0] else List.replicate 9 0
  y ++ [2] ++ c2 ++ [2] ++ c3

/-- The 100 elements of the frame that labels the second beginning at `label`: 0, 1, or 2 for a marker (08 R354, R355). -/
def irigFrame (s : State) (label errNs secs : Nat) : List Nat :=
  let f := s.nunar.timecode.format
  let useYear := decide (4 ≤ f)
  let useCf := [0, 1, 4, 5].contains f
  let useSbs := [0, 3, 4, 7].contains f
  let tod := secs % 86400
  let yd := yearOf 400 1980 (secs / 86400 + 5)
  let sec := if frameLeap s label then 60 else tod % 60
  let mn := tod / 60 % 60
  let hr := tod / 3600
  let dd := yd.2
  let sbs := if useSbs then tod else 0
  [2] ++ irigBits 4 (sec % 10) ++ [0] ++ irigBits 3 (sec / 10) ++ [2]
    ++ irigBits 4 (mn % 10) ++ [0] ++ irigBits 3 (mn / 10) ++ [0, 2]
    ++ irigBits 4 (hr % 10) ++ [0] ++ irigBits 2 (hr / 10) ++ [0, 0, 2]
    ++ irigBits 4 (dd % 10) ++ [0] ++ irigBits 4 (dd / 10 % 10) ++ [2]
    ++ irigBits 2 (dd / 100) ++ List.replicate 7 0 ++ [2]
    ++ irigControl s label errNs yd.1 useYear useCf ++ [2]
    ++ irigBits 9 (sbs % 512) ++ [2] ++ irigBits 8 (sbs / 512) ++ [0, 2]

end Sys2Proof.Machine
end

