-- ==== Sys2Proof/Machine/Pulses.lean ====
section
/-! DEFINITION. Pulse outputs, notices, the timecode, event tags, and what a loss of the clock does to them (08 R348 to
R361). -/
namespace Sys2Proof.Machine

/-- A pulse output. -/
def tpOf (s : State) (o : Nat) : TpOut := tget TpOut.initial s.nunar.tp o
/-- Change a pulse output. -/
def modTp (o : Nat) (f : TpOut → TpOut) (s : State) : State :=
  { s with nunar.tp := tmod TpOut.initial s.nunar.tp o f }

/-- ERR_BOUND in ns, `ahead` ms from now, in every state but LOCKED, where it is 0 (08 R334, R353, R358). -/
def errBound (s : State) (ahead : Nat) : Nat :=
  let n := s.nunar
  if n.st = 1 then 0
  else match n.validMs with
    | some v =>
      let t := s.ms + ahead - v
      cdiv (3 * n.xSd * 1000000 * 2000000 + 3 * n.freqSd * t * 2000 + n.drift * t * t) (2000000 * 1000000000)
    | none => Config.boundUnset (s.ms + ahead)

/-! ### Placement (08 R349, R350) -/

/-- The timecode runs on this output. -/
def tpTimecode (s : State) (o : Nat) : Bool := o == 1 && timecodeOn s
/-- The output's period in force; none = no edges. -/
def tpPeriod (s : State) (o : Nat) : Option Nat :=
  if tpTimecode s o then some 1000 else if (tpOf s o).mode = 1 then some (tpOf s o).period else none

/-- The millisecond `i` ms from the last epoch: its label, and whether it lies on the placement of a step to come (08 R342,
R343). -/
def labelAhead (s : State) (i : Nat) : Nat × Bool := match s.nunar.step with
  | some p =>
    if p.boundary ≤ s.epochMs + i then (((s.epochMs + i : Nat) + stepK p.d).toNat, true) else (s.epochMs + i, false)
  | none => (s.epochMs + i, false)

/-- Pulses are emitted at such a millisecond (08 R333, R342). -/
def pulsesAllowed (s : State) (new : Bool) : Bool :=
  s.nunar.running && (new || s.nunar.st == 1 || s.nunar.st == 2 || s.nunar.st == 3 || (s.nunar.st == 4 && s.nunar.action == 0))

/-- The edge at `label` has a notice (08 R351). -/
def tpNoticed (s : State) (o label : Nat) : Bool :=
  (tpOf s o).notice && (decide (100 ≤ (tpPeriod s o).getD 1000) || label % 1000 == 0)

/-- An edge of the output falls `i` ms ahead, of the kind asked for, and is not yet announced. -/
def edgeAt (s : State) (o : Nat) (noticed : Bool) (i : Nat) : Bool :=
  let l := labelAhead s i
  match tpPeriod s o with
  | some per =>
    l.1 % per == 0 && pulsesAllowed s l.2 && tpNoticed s o l.1 == noticed
      && !(tpOf s o).announced.any (fun e => e.due == s.ms + i)
      && (!tpTimecode s o || (frameSeconds s l.1).isSome)
  | none => false

/-- The first edge to announce between `lo` and `hi` ms ahead. -/
def nextEdge (s : State) (o : Nat) (noticed : Bool) (lo hi : Nat) : Option Nat :=
  ((upto (hi + 1)).filter (fun i => decide (lo ≤ i))).find? (edgeAt s o noticed)

/-- The length of the millisecond in progress as A realises it, in 2^-32 grid units; in the interval that a step closes, by the old A (08 R323,
R362). -/
def msNow (s : State) : Int := if stepDue s then msLen s.nunar else s.nunar.plan

/-- The ideal place of the millisecond `i` ahead, in 2^-32 grid units: after the millisecond in progress, A moves on along a slew, and by the
step (08 R349). -/
def idealAhead (s : State) (i : Nat) : Int :=
  let n := s.nunar
  let l := labelAhead s i
  let more := i - 1
  let r : Int := n.rate
  let rest := if n.slew = 0 then 0 else n.slew - n.move
  let moved := clampI (-(r * more)) (r * more) rest
  let step : Int := if l.2 then (n.step.map (fun p => p.d - 1000000000 * stepK p.d)).getD 0 else 0
  n.pos + (if i = 0 then 0 else msNow s) + (more : Int) * msLen n - psToGrid n (moved + step)

/-- STEP of the edges at the first label of a step's placement (08 R342, R353). -/
def stepAt (s : State) (i : Nat) : Option Int := match s.nunar.step with
  | some p => if s.epochMs + i = p.boundary then some (-p.d) else none
  | none => none

/-- The edge `i` ms ahead as it is announced (08 R349). -/
def placeEdge (s : State) (o i : Nat) (noticed : Bool) : PulseEdge :=
  let n := s.nunar
  let x := tpOf s o
  let frame := tpTimecode s o
  let ideal := idealAhead s i + psToGrid n (x.offset - timDelay s 3 o)
  let pos := nearestGrid ideal
  let width := if frame then 8000 else x.width
  { label := (labelAhead s i).1, due := s.ms + i, pos := pos,
    off := nearestGrid (pos * gridOne + psToGrid n (1000000 * width)),
    qerr := clampI (-1421) 1421 (roundDiv ((pos * gridOne - ideal) * 100000000000) (msLen n).toNat),
    notice := noticed, step := stepAt s i, falling := !frame && x.polarity == 1, frame := frame }

/-- FLAGS of MSG_TIMEPULSE (08 R353). -/
def pulseFlags (s : State) (e : PulseEdge) : Nat :=
  let n := s.nunar
  b2n e.step.isSome + 2 * b2n (n.st == 2) + 4 * b2n (n.st == 4) + 8 * b2n e.frame + 16 * b2n (afterLeap s e.label)
    + 32 * b2n (n.src == some true)

/-- The 32-byte payload of MSG_TIMEPULSE (08 R353). -/
def pulseBytes (s : State) (o kind : Nat) (e : PulseEdge) : List Byte :=
  le 1 o ++ le 1 kind ++ le 1 s.nunar.st ++ le 1 (pulseFlags s e) ++ le 8 e.label ++ leI 4 e.qerr ++ leI 8 (e.step.getD 0)
    ++ le 4 (sat 0xFFFFFFFF (errBound s (e.due - s.ms))) ++ le 2 (sat 65535 ((s.nunar.xSd + 50) / 100)) ++ zeros 2

/-- Commit a MSG_TIMEPULSE: class 1 (12 R463). -/
def postPulse (o kind : Nat) (e : PulseEdge) (s : State) : State :=
  post { msg2 s 0x84 0x08 o (pulseBytes s o kind e) with class1 := true } s

/-- A trailing edge later than 1 us before `pos` moves there (08 R349). -/
def clipTrail (n : Nunar) (pos off : Int) : Int :=
  let lim := nearestGrid (pos * gridOne - psToGrid n 1000000)
  if lim < off then lim else off

/-- A step moves the placement between two instants (of `ms`), the first before the second: one that is planned, or the last one (08 R349). -/
def stepBetween (n : Nunar) (d e : Nat) : Bool :=
  let inside := fun (t : Nat) => decide (d < t ∧ t ≤ e)
  (n.step.map (fun p => inside p.due)).getD false || (n.stepMs.map inside).getD false

/-- An edge is announced: its placement is final. Where a step lies between a pulse and it, that pulse is shortened if the two would merge; no other
announcement moves a trailing edge (08 R349, R350). -/
def announce (o i : Nat) (noticed : Bool) (s : State) : State :=
  let e := placeEdge s o i noticed
  let clip := fun (due : Nat) (off : Int) => if stepBetween s.nunar due e.due then clipTrail s.nunar e.pos off else off
  let s := modTp o (fun x => { x with
    announced := x.announced.map (fun y => { y with off := clip y.due y.off }) ++ [e],
    trail := x.trail.map (fun t => (clip x.pulseMs t.1, t.2)) }) s
  if noticed then postPulse o 1 e s else s

/-- How many ms ahead edges get their notices: 150 outside bursts; in a burst only those that fall before 50 ms after its end, and after its end all up
to 50 ms after the end of the next (08 R351). -/
def noticeReach (s : State) : Nat :=
  let b := s.burst
  let past := (s.epochMs + 1000 - (b.phaseMs + b.burstMs) % 1000) % 1000
  if !b.on then 150
  else if b.active then min 150 ((1000 - past) % 1000 + 49)
  else 1050 - past

/-- PULSE_NOTICE (08 R351): between 150 ms and 50 ms ahead of the edge; in Burst, at the end of a burst for every edge up to the end of the next;
nothing while the firmware is in retention (01 R13). -/
def pulseNotice (o : Nat) (s : State) : State := match nextEdge s o true 50 (noticeReach s) with
  | some i => if s.power.retention then s else announce o i true s
  | none => s

/-- EDGE_ANNOUNCE (08 R350): 50 ms ahead of an edge without a notice. Between bursts, while the firmware is in retention, A moves by no filter, and the edge
is placed from where the burst left it (08 R351; log 71). -/
def edgeAnnounce (o : Nat) (s : State) : State := match nextEdge s o false 50 51 with
  | some i => announce o i false s
  | none => s

/-- The inactive level of a polarity: high where the falling edge is on time. -/
def inactive (falling : Bool) : Bool := falling

/-- The announced edge that comes first. -/
def firstEdge (l : List PulseEdge) : Option PulseEdge := match l with
  | [] => none
  | e :: t => match firstEdge t with
    | none => some e
    | some f => if f.due < e.due then some f else some e

/-- PULSE_EDGE (08 R349): the first announced edge is emitted where it was placed. -/
def pulseEdge (o : Nat) (s : State) : State := match firstEdge (tpOf s o).announced with
  | some e =>
    if e.due ≤ s.ms + 1 then
      let frame := if e.frame then
          (match frameSeconds s e.label with
            | some secs => irigFrame s e.label (errBound s 0) secs
            | none => [])
        else []
      modTp o (fun x => { x with
        announced := x.announced.filter (fun y => y.due != e.due), level := !inactive e.falling,
        trail := some (e.off, inactive e.falling), pulseMs := e.due, frame := frame }) s
    else s
  | none => s

/-- The level between pulses: that of the next announced edge, or of the settings in force (08 R348). -/
def restLevel (x : TpOut) : Bool := match firstEdge x.announced with
  | some e => inactive e.falling
  | none => inactive (x.polarity == 1)

/-- PULSE_TRAILING_EDGE (08 R348, R349). -/
def pulseTrailing (o : Nat) (s : State) : State := match (tpOf s o).trail with
  | some _ => modTp o (fun x => { x with level := restLevel x, trail := none }) s
  | none => s

/-- The clock switches to its bypass clock: announced edges are withdrawn, and an active pulse ends (08 R352). -/
def pulsesBypass (s : State) : State :=
  foldS (fun o t =>
    let es := ((tpOf t o).announced.filter (·.notice))
    let t := modTp o (fun x => { x with
      announced := [], trail := none, frame := [], level := match x.trail with
        | some l => l.2
        | none => x.level }) t
    foldS (fun e u => postPulse o 2 e u) es t) (upto 2) s

/-- The values of PERIOD_MS (08 R348). -/
def pulsePeriods : List Nat :=
  [1, 2, 4, 5, 8, 10, 20, 25, 40, 50, 100, 125, 200, 250, 500, 1000, 2000, 3000, 4000, 5000, 6000, 10000, 12000, 15000, 20000,
    30000, 60000]

/-- TIM_PULSE (08 R348). -/
def timPulseAct (p : Packet) (s : State) : CmdOut :=
  let b := p.params
  let o := u8 b 0
  rejectIf (decide (1 < o) || decide (1 < u8 b 1) || decide (1 < u8 b 2) || decide (1 < u8 b 3) || !pulsePeriods.contains (u32 b 4)
    || u32 b 8 == 0 || decide (1000 * u32 b 4 - 1 < u32 b 8) || decide (1000000 < u32 b 8) || decide (500000000 < (i32 b 12).natAbs))
    .badValue <|
  rejectIf (o == 1 && u8 b 1 == 1 && timecodeOn s) .badState <|
  done (modTp o (fun x =>
    let y := { x with mode := u8 b 1, polarity := u8 b 2, notice := u8 b 3 == 1, period := u32 b 4, width := u32 b 8, offset := i32 b 12 }
    if y.announced.isEmpty ∧ y.trail.isNone then { y with level := restLevel y } else y) s)

def specTimPulse : OpSpec := plainOp 0x0801 false 16 timPulseAct

/-- TIM_TIMECODE (08 R354; 01 R46 for an empty kernel mask). -/
def timTimecodeAct (p : Packet) (s : State) : CmdOut :=
  let b := p.params
  let on := u8 b 0 == 1
  let k := (upto 16).find? (fun k => coreAllowed s k && (upto 16).all (fun j => decide (j ≤ k) || !coreAllowed s j))
  rejectIf (decide (1 < u8 b 0) || decide (7 < u8 b 1) || (!on && u8 b 1 != 0) || decide (3 < u8 b 2) || !zeroAt b 3 1
    || decide (i8 b 4 < -48) || decide (56 < i8 b 4) || !zeroAt b 5 3) .badValue <|
  rejectIf (on && ((tpOf s 1).mode == 1 || (match k with
    | some k => (coreOf s k).gen != 0
    | none => false))) .badState <|
  rejectIf (on && k.isNone) .profileLimit <|
  done { s with nunar.timecode := { on := on, format := u8 b 1, flags := u8 b 2, offset := i8 b 4 } }

def specTimTimecode : OpSpec := plainOp 0x0807 false 8 timTimecodeAct

/-! ### Event tags (08 R356 to R361) -/

/-- An event input. -/
def evtOf (s : State) (n : Nat) : EvtIn := tget EvtIn.initial s.nunar.events n
/-- Change an event input. -/
def modEvt (n : Nat) (f : EvtIn → EvtIn) (s : State) : State :=
  { s with nunar.events := tmod EvtIn.initial s.nunar.events n f }

/-- An overflow: counted, carried by the next stored tag, and logged once (08 R356, R358). -/
def evtOverflow (n : Nat) (s : State) : State :=
  let first := !(evtOf s n).logged
  let s := modEvt n (fun x => { x with ovf := sat 255 (x.ovf + 1), ovfMsg := sat 65535 (x.ovfMsg + 1), lostFull := true, logged := true }) s
  if first then logErr 0x4A 1 0x08 n s else s

/-- The interval in progress is the one that a step epoch closes, or continuity is broken (08 R358, R362). -/
def evtBroken (s : State) : Bool := stepDue s || s.nunar.broken

/-- The instant of grid place `g` on the selected scale, in ps, as A realises it, ties of the rounding upwards: an edge on the grid point of an epoch is at the
epoch (08 R357). In the interval that a step closes A is the old one (08 R362). -/
def gridInstant (s : State) (g : Int) : Int :=
  let after := g - nearestGrid s.nunar.pos
  let len := if stepDue s then (msLen s.nunar).toNat else s.nunar.cur * 2 ^ 32
  (s.epochMs : Int) * 1000000000 + (2 * after * gridOne * 1000000000 + len) / (2 * len : Nat)

/-- A tag (08 R358). -/
def tagBytes (s : State) (n : Nat) (rising : Bool) (x : EvtIn) (g : Int) : List Byte :=
  let st := s.nunar.st
  let t := (gridInstant s g - timDelay s 4 n).toNat
  let flags := b2n (st == 0) + 2 * b2n (st == 3 || st == 4) + 4 * b2n x.lostFull + 8 * b2n (evtBroken s) + 16 * b2n x.lostBypass
    + 32 * b2n (st == 2)
  le 1 n ++ le 1 (if rising then 1 else 2) ++ le 2 flags ++ le 4 x.seq ++ le 8 (t / 1000000000) ++ le 4 (t % 1000000000)
    ++ le 2 (sat 65535 (errBound s 0)) ++ zeros 2

/-- EVENT_EDGE (08 R356 to R358): `g` grid units after the last epoch. -/
def eventEdge (n : Nat) (rising : Bool) (g : Nat) (s : State) : State :=
  let x := evtOf s n
  if !x.edge.testBit (if rising then 0 else 1) then s
  else
    let s := modEvt n (fun x => { x with seq := (x.seq + 1) % 2 ^ 32 }) s
    if clockBypass s || !s.nunar.running then modEvt n (fun x => { x with lostBypass := true }) s
    else
      let p := nearestGrid s.nunar.pos + g
      let near := match x.last with
        | some l => decide (p - l < 352000)
        | none => false
      if near then evtOverflow n s
      else
        let s := modEvt n (fun x => { x with last := some p }) s
        if 256 ≤ x.fifo.length then evtOverflow n s
        else modEvt n (fun x => { x with
          fifo := x.fifo ++ [tagBytes s n rising x p], lostFull := false, lostBypass := false }) s

/-- A message of an input is committed somewhere: on a routed port, or to a subscribed kernel core (08 R360). -/
def eventLeaves (n : Nat) (s : State) : Bool :=
  (s.power.fwReady && !(routedPorts s (msg2 s 0x85 0x08 n [])).isEmpty)
    || !(subscribers s (fun r => r.kind == 4 && r.filter.testBit n)).isEmpty

/-- One MSG_EVENT of at most 64 tags, which leave the FIFO with it; they stay while nothing takes the message (08 R360). -/
def sendEvents (n : Nat) (s : State) : State :=
  if !eventLeaves n s then s
  else
  let x := evtOf s n
  let tags := x.fifo.take 64
  let rest := x.fifo.drop 64
  let pl := le 1 n ++ le 1 tags.length ++ le 2 x.ovfMsg ++ le 2 rest.length ++ zeros 2 ++ tags.flatten
  let s := modEvt n (fun x => { x with fifo := rest, ovfMsg := 0 }) s
  let s := post (msg2 s 0x85 0x08 n pl) s
  deliverMsg (fun r => r.kind == 4 && r.filter.testBit n) 0x85 0x08 n 0 (fun _ => some pl) s

/-- The pending tags of the inputs with DELIVERY 1 leave at every epoch (08 R360, R361). -/
def deliverEvents (s : State) : State :=
  foldS (fun n t =>
    let msgs := if (evtOf t n).delivery = 1 then cdiv (evtOf t n).fifo.length 64 else 0
    foldS (fun _ u => sendEvents n u) (upto msgs) t) (upto 8) s

/-- TIM_EVENT (08 R359). -/
def timEventAct (p : Packet) (s : State) : CmdOut :=
  let b := p.params
  let n := u8 b 0
  let drain := u8 b 1 == 0
  let x := evtOf s n
  let c := u16 b 4
  rejectIf (decide (7 < n) || decide (1 < u8 b 1) || decide (3 < u8 b 2) || decide (1 < u8 b 3) || !zeroAt b 6 2
    || (drain && (u8 b 2 != 0 || u8 b 3 != 0 || decide (128 < c))) || (!drain && c != 0)) .badValue <|
  rejectIf (drain && x.delivery == 1) .badState <|
  if drain then
    let tags := x.fifo.take c
    let rest := x.fifo.drop c
    answer (le 2 rest.length ++ le 1 tags.length ++ le 1 x.ovf ++ tags.flatten)
      (if c = 0 then s else modEvt n (fun x => { x with fifo := rest, ovf := 0, logged := false }) s)
  else
    answer (zeros 4) (modEvt n (fun _ => { EvtIn.initial with edge := u8 b 2, delivery := u8 b 3 }) s)

def specTimEvent : OpSpec := plainOp 0x0805 false 8 timEventAct

/-! ### The rows -/

def execTimPulse (p : Packet) (s : State) : Host.Outcome State Fault Refusal := .next (runCmd specTimPulse p s)
def execTimTimecode (p : Packet) (s : State) : Host.Outcome State Fault Refusal := .next (runCmd specTimTimecode p s)
def execTimEvent (p : Packet) (s : State) : Host.Outcome State Fault Refusal := .next (runCmd specTimEvent p s)
def execPulseNotice (out : Fin 2) (s : State) : Host.Outcome State Fault Refusal := .next (pulseNotice out s)
def execEdgeAnnounce (out : Fin 2) (s : State) : Host.Outcome State Fault Refusal := .next (edgeAnnounce out s)
def execPulseEdge (out : Fin 2) (s : State) : Host.Outcome State Fault Refusal := .next (pulseEdge out s)
def execPulseTrailingEdge (out : Fin 2) (s : State) : Host.Outcome State Fault Refusal := .next (pulseTrailing out s)
def execEventEdge (n : Fin 8) (rising : Bool) (g : Nat) (s : State) : Host.Outcome State Fault Refusal :=
  .next (if mainRuns s then eventEdge n rising g s else s)

end Sys2Proof.Machine
end

