-- ==== Sys2Proof/Machine/LinkRadio.lean ====
section
/-! DEFINITION. The correction link's radio: channel table, synthesiser, transmissions gated on lock, PA and LNA control (10),
and the frames that its slots carry (11 R442 to R450). -/
namespace Sys2Proof.Machine

/-! ### The schedule, nodes and queue -/

/-- The link island is ready. -/
def linkUp (s : State) : Bool := islandReady s 42
/-- A channel of the table. -/
def linkChOf (s : State) (i : Nat) : Option LinkCh := tget none s.link.channels i
/-- The width of a channel of the table. -/
def linkWidth (s : State) (i : Nat) : Nat := ((linkChOf s i).map (·.width)).getD 0
/-- A synthesiser entry. -/
def synthEntry (s : State) (i : Nat) : SynthEntry := tget SynthEntry.invalid s.link.entries i
/-- Change a synthesiser entry. -/
def modEntry (i : Nat) (f : SynthEntry → SynthEntry) (s : State) : State :=
  { s with link.entries := tmod SynthEntry.invalid s.link.entries i f }
/-- The indices of the channel table. -/
def linkIndices (s : State) : List Nat := (upto 64).filter (fun i => (linkChOf s i).isSome)

/-- The role in force: what LNK_ROLE has set waits for its superframe (11 R452). -/
def linkRole (s : State) : Nat := s.link.inForce.role
/-- A rover in UNSET does not use its own count; after UNSET, it follows TC from the next superframe (11 R446). -/
def roverFree (s : State) : Bool := linkRole s == 2 && (s.nunar.st == 0 || s.link.aligned)
/-- A rover that no beacon has aligned. -/
def unaligned (s : State) : Bool := roverFree s && !s.link.aligned

/-- Number `a` is at or before `b`, modulo 2^32 (11 R442). -/
def sfReached (a b : Nat) : Bool := decide ((a + 2 ^ 32 - b) % 2 ^ 32 = 0 ∨ 2 ^ 31 < (a + 2 ^ 32 - b) % 2 ^ 32)
/-- The number of the current superframe (11 R442). -/
def currentSf (s : State) : Nat := if roverFree s then s.link.sf else (s.epochMs / 100) % 2 ^ 32

/-- A slot of a schedule. -/
def slotIn (c : Option LinkSched) (n : Nat) : Option LinkSlot := c.bind (fun d => d.slots.find? (fun x => x.slot == n))
/-- A slot of the schedule in force. -/
def linkSlot (s : State) (n : Nat) : Option LinkSlot := slotIn s.link.sched n
/-- The schedule that will be in force in superframe `sf`. -/
def schedAt (s : State) (sf : Nat) : Option LinkSched := match s.link.pendSched with
  | some (d, from') => if sfReached from' sf then some d else s.link.sched
  | none => s.link.sched

/-- A node of the node table. -/
def nodeOf (s : State) (n : Nat) : Option LinkNode := tget none s.link.nodes n
/-- The node table gives a node another generation (11 R447). -/
def genReplaced (s : State) (node gen : Nat) : Bool := match nodeOf s node with
  | some n => n.gen != gen
  | none => false
/-- The own node's generation has been replaced: the own slots stay silent (11 R447). -/
def ownSilent (s : State) : Bool := genReplaced s s.link.inForce.node s.link.inForce.gen

/-- The counts of the superframe change. -/
def countLink (f : LinkCounts → LinkCounts) (s : State) : State := { s with link.counts := f s.link.counts }
/-- A count that saturates at 65,535 (11 R458). -/
def up16 (n : Nat) : Nat := sat 65535 (n + 1)

/-- Keep the queued frames that `keep` selects; the others are discarded and counted (11 R447, R449). -/
def discardFrames (keep : TxFrame → Bool) (s : State) : State :=
  let gone := (s.link.queue.filter (fun f => !keep f)).length
  countLink (fun c => { c with discards := sat 65535 (c.discards + gone) }) { s with link.queue := s.link.queue.filter keep }

/-! ### Beacons and reports (11 R445, R457) -/

/-- The payload of the own beacon: as many timing entries as the slot's MAXSYM carries (11 R445, log 46). -/
def beaconPayload (s : State) (x : LinkSlot) : List Byte :=
  let ok := fun n => match nodeOf s n, tget none s.link.heard n with
    | some d, some h => d.flags.testBit 0 && decide ((currentSf s + 2 ^ 32 - h.2) % 2 ^ 32 ≤ 10)
    | _, _ => false
  let fits := fun n => decide (airSym x.rate (linkWidth s x.ch) (8 + 4 * n) ≤ x.maxSym)
  let nodes := if linkRole s = 3 then (upto 64).filter ok else []
  let n := ((upto 63).filter (fun n => decide (n ≤ nodes.length) && fits n)).getLastD 0
  let entry := fun m => le 1 m ++ leI 3 (clampI (-8388608) 8388607 (roundDiv ((tget none s.link.heard m).getD (0, 0)).1 10))
  le 4 (currentSf s) ++ le 2 ((s.link.sched.map (·.id)).getD 0)
    ++ le 1 (b2n (s.nunar.st == 0) + 2 * b2n (s.nunar.st == 3 || s.nunar.st == 4)) ++ le 1 n ++ (nodes.take n).flatMap entry

/-- The frame that a transmit slot is to carry in this superframe, and whether it comes from the queue (11 R445, R449). -/
def frameFor (s : State) (x : LinkSlot) : Option (TxFrame × Bool) :=
  if linkRole s = 0 ∨ x.node ≠ s.link.inForce.node ∨ ownSilent s ∨ unaligned s then none
  else if x.beacon then
    if linkRole s = 1 ∨ linkRole s = 3 then
      some ({ slot := x.slot, type := 2, gen := s.link.inForce.gen, sf := currentSf s, payload := beaconPayload s x }, false)
    else none
  else (s.link.queue.find? (fun f => f.slot == x.slot && sfReached f.sf (currentSf s))).map (fun f => (f, true))

/-- The 40-byte header of KIND 1 and KIND 2 (11 R457); `air` is in ps on the selected scale. -/
def linkFrameHead (kind status port snr flags length sf ch : Nat) (h : LinkHdr) (rssi cfo : Int) (air : Int) (timing : Int) : List Byte :=
  le 1 kind ++ le 1 status ++ le 1 h.type ++ le 1 h.node ++ le 1 h.gen ++ le 1 h.slot ++ le 1 ch ++ le 1 h.rate ++ le 1 port ++ le 1 snr
    ++ le 2 flags ++ le 2 length ++ leI 2 rssi ++ le 4 sf ++ leI 2 cfo ++ zeros 2 ++ le 8 (air.toNat / 1000000000)
    ++ le 4 (air.toNat % 1000000000) ++ leI 4 timing

/-- The scheduled air start of a slot of this superframe, ps on the selected scale. -/
def slotAir (s : State) (x : LinkSlot) : Int := s.link.sfStart + (x.offset : Int) * 10000000

/-- The header that the own frame carries (11 R427). -/
def ownHdr (s : State) (x : LinkSlot) (f : TxFrame) : LinkHdr :=
  { rate := x.rate, length := f.payload.length, node := s.link.inForce.node, gen := s.link.inForce.gen, type := f.type, slot := x.slot }

/-- A KIND 2 record (11 R457). -/
def reportTx (status : Nat) (x : LinkSlot) (f : TxFrame) (s : State) : State :=
  post (msg2 s 0x88 0x0B s.link.inForce.node
    (linkFrameHead 2 status 255 0 0 f.payload.length (currentSf s) x.ch (ownHdr s x f) 0 0 (slotAir s x) 0)) s

/-! ### The synthesiser (10 R401 to R408) -/

/-- The synthesiser is locked on a channel; on the bypass clock no lock can be confirmed (10 R409, R417). -/
def lockedOn (s : State) (ch : Nat) : Bool := !clockBypass s && s.link.synth.locked && s.link.synth.ch == some ch

/-- A self-test slice holds the synthesiser (17 R620). -/
def synthTested (s : State) : Bool := match s.bst.active with
  | some r => r.block == 54
  | none => false

/-- The synthesiser is free: no hop, calibration or transmission, and the PA driver is off (10 R400). -/
def synthFree (s : State) : Bool :=
  linkUp s && (s.link.synth.op == 1 || s.link.synth.op == 3) && s.link.tx.isNone && !s.link.driver && !synthTested s

/-- The correction y_F is taken (10 R399). -/
def takeCorr (s : State) : State := { s with link.corr := clkYF s, link.corrOn := s.nunar.st != 0 }

/-- The word for a channel (10 R398, R399): the VCO runs at four times the channel's raster frequency, corrected by y_F, from 275 MHz. -/
def synthWord (s : State) (ch : Nat) : Nat :=
  let f := ((linkChOf s ch).map (·.freqHz)).getD 0
  (roundDiv (4 * f * 2 ^ 24 * ((10 ^ 18 : Nat) + s.link.corr)) (275000000 * 10 ^ 18)).toNat

/-- An evaluation of the lock detector, RF cycles and the grid units that they took, lies within 40 kHz of the frequency that the word commands (10
R398, R404; log 74). -/
def evalInside (s : State) (e : Nat × Nat) : Bool :=
  e.2 != 0 && decide (((e.1 * 35200000000 * 2 ^ 26 : Nat) - (s.link.synth.word * 275000000 * e.2 : Nat) : Int).natAbs ≤ 40000 * 2 ^ 26 * e.2)

/-- Lock has been continuous for 2 us: the evaluations of the last 2 us, one every 250 ns (10 R404). -/
def lockContinuous (s : State) (evals : List (Nat × Nat)) : Bool := decide (8 ≤ evals.length) && (evals.drop (evals.length - 8)).all (evalInside s)

/-- A full calibration starts. An immediate calibration of another channel goes on waiting (10 R417). -/
def startCal (ch : Nat) (s : State) : State :=
  let s := takeCorr s
  let y := s.link.synth
  modEntry ch (fun e => { e with queued := false })
    { s with link.synth := { y with
        op := 4, ch := some ch, locked := false, calOk := false, word := synthWord s ch,
        waiting := y.waiting.filter (· != ch) } }

/-- A hop starts: it loads the entry's codes and the word (10 R403). -/
def startHop (ch : Nat) (s : State) : State :=
  let s := takeCorr s
  let e := synthEntry s ch
  { s with link.synth := { s.link.synth with
      op := 2, ch := some ch, locked := false, word := synthWord s ch, band := e.band, cap := e.cap, pa := e.pa } }

/-- The transmit slot `n`, while it may transmit. -/
def txSlot (s : State) (n : Nat) : Option LinkSlot :=
  (linkSlot s n).bind (fun x => if linkRole s != 0 && x.node == s.link.inForce.node then some x else none)

/-- SYNTH_CAL_START (10 R405): at T_R - 250 us. A synthesiser that is locked on the slot's channel starts no operation. -/
def synthCalStart (n : Nat) (s : State) : State := match txSlot s n with
  | some x => if synthFree s && (synthEntry s x.ch).st != 1 && !lockedOn s x.ch then startCal x.ch s else s
  | none => s

/-- SYNTH_HOP_START (10 R405): at T_R - 30 us. The driver stays off throughout a hop: one that finds the down-ramp of the slot before in progress
waits for its end (10 R400; log 75). -/
def synthHopStart (n : Nat) (s : State) : State := match txSlot s n with
  | some x =>
    if linkUp s && !synthTested s && s.link.synth.op != 4 && (synthEntry s x.ch).st != 0 && !lockedOn s x.ch then
      if s.link.driver then { s with link.hopDue := some x.ch } else startHop x.ch s
    else s
  | none => s

/-- How far an entry's temperature lies from the present one, 0.1 degree C. -/
def entryDiff (s : State) (i : Nat) : Nat := (s.link.temp - 5 * (synthEntry s i).temp).natAbs

/-- The time in us, `us` after the last epoch. -/
def nowUs (us : Nat) (s : State) : Nat := 1000 * nowMs s + us

/-- An entry failed less than 10 ms ago (10 R406). -/
def failedLately (us : Nat) (s : State) (i : Nat) : Bool := match (synthEntry s i).failUs with
  | some t => decide (nowUs us s < t + 10000)
  | none => false

/-- The stale entry with the largest temperature difference, the lower index among equals (10 R406). -/
def stalest (s : State) : List Nat → Option Nat
  | [] => none
  | i :: t => match stalest s t with
    | none => some i
    | some j => if entryDiff s i < entryDiff s j then some j else some i

/-- The entry that a background calibration takes (10 R406). -/
def backgroundNext (us : Nat) (s : State) : Option Nat :=
  let is := (linkIndices s).filter (fun i => !failedLately us s i)
  (is.find? (fun i => (synthEntry s i).st == 0)).orElse (fun _ =>
    (stalest s (is.filter (fun i => (synthEntry s i).st == 2))).orElse (fun _ => is.find? (fun i => (synthEntry s i).queued)))

/-- Microseconds into the superframe, `us` after the last epoch. -/
def sfPos (us : Nat) (s : State) : Nat :=
  if roverFree s then ((((s.epochMs : Int) * 1000 + us) * 1000000 - s.link.sfStart) / 1000000).toNat else s.epochMs % 100 * 1000 + us

/-- A slot that `which` names starts, `lead` us before its OFFSET, within the next `span` us, as the schedule in force stands (10 R406). -/
def slotStarts (us span lead : Nat) (which : LinkSlot → Bool) (s : State) : Bool :=
  let pos := sfPos us s
  ((s.link.sched.map (·.slots)).getD []).any (fun x =>
    let at' := 10 * x.offset - lead
    which x && ((!s.link.rampDone.contains x.slot && decide (pos ≤ at' ∧ at' ≤ pos + span)) || decide (at' + 100000 ≤ pos + span)))

/-- A T_R lies within the next `span` us, or a transmission is in progress (10 R406). -/
def rampWithin (us span : Nat) (s : State) : Bool :=
  s.link.tx.isSome || s.link.lpa || slotStarts us span s.link.rampUs (fun x => x.node == s.link.inForce.node) s

/-- A T_R lies within the next 430 us, or a transmission is in progress (10 R406, R417). -/
def rampNear (us : Nat) (s : State) : Bool := rampWithin us 430 s

/-- An immediate calibration that waited for a transmission starts, in the order of the commands (10 R417); one whose index has left the table has none. -/
def startWaiting (s : State) : State :=
  let s := { s with link.synth := { s.link.synth with waiting := s.link.synth.waiting.filter (fun ch => (linkChOf s ch).isSome) } }
  match s.link.synth.waiting with
  | ch :: _ => if synthFree s && !s.link.lpa then startCal ch s else s
  | [] => s

/-- BACKGROUND_CAL_START (10 R406, R408), `us` after the last epoch. An immediate calibration that waits for a slot that is no longer near comes first
(10 R417; log 75). -/
def backgroundCalStart (us : Nat) (s : State) : State :=
  if !s.link.synth.waiting.isEmpty && !rampNear us s then startWaiting s
  else if synthFree s && !rampNear us s then
    match backgroundNext us s with
    | some i => startCal i s
    | none => s
  else s

/-- SYNTH_LOCK_REPORT (10 R403, R404, R412): lock has been continuous for 2 us after a hop, within a calibration slot, or again on the channel on which
it was lost. -/
def synthLockReport (c : SynthCodes) (s : State) : State :=
  if !linkUp s || clockBypass s || s.link.synth.locked || !lockContinuous s c.evals then s
  else match s.link.synth.ch with
    | some ch =>
      if s.link.synth.op = 4 then
        if s.link.synth.calOk then { s with link.synth := { s.link.synth with locked := true } }
        else
          let s := modEntry ch (fun e => { e with
            st := 1, band := c.band.val, cap := c.cap.toNat, pa := c.pa.val, temp := roundDiv s.link.temp 5, failUs := none }) s
          { s with link.synth := { s.link.synth with
              locked := true, calOk := true, band := c.band.val, cap := c.cap.toNat, pa := c.pa.val } }
      else if s.link.synth.op ≤ 2 then { s with link.synth := { s.link.synth with op := 3, locked := true } }
      else s
    | none => s

/-- The calibration slot ends (10 R403, R407), `us` after the last epoch; one whose channel LNK_CHANNELS has changed since leaves no entry. -/
def calSlotEnd (us : Nat) (s : State) : State := match s.link.synth.ch with
  | some ch =>
    if s.link.synth.op = 4 then
      let s := { s with link.fullCals := (s.link.fullCals + 1) % 65536 }
      if s.link.synth.calOk then { s with link.synth := { s.link.synth with op := if s.link.synth.locked then 3 else 1 } }
      else
        let s := modEntry ch (fun e => { e with st := 0, failUs := some (nowUs us s) }) s
        let s := { s with
          link.synth := { s.link.synth with op := 1, ch := none }, link.calFails := sat 65535 (s.link.calFails + 1) }
        logErr 0x46 1 0x0A 0 s
    else s
  | none =>
    if s.link.synth.op = 4 then
      { s with link.synth := { s.link.synth with op := 1 }, link.fullCals := (s.link.fullCals + 1) % 65536 }
    else s

/-- LINK_TEMP_CHECK (10 R402): every 10 ms. -/
def linkTempCheck (temp : Int) (s : State) : State :=
  if linkUp s then
    let s := { s with link.temp := temp }
    foldS (fun i t => modEntry i (fun e => if e.st = 1 ∧ 100 < entryDiff t i then { e with st := 2 } else e) t) (linkIndices s) s
  else s

/-! ### Transmissions (10 R405 to R416) -/

/-- The receiver gives up a reception for an own transmission (10 R416, 11 R451). -/
def cutReception (s : State) : State :=
  if s.link.recv.isSome then countLink (fun c => { c with cutByTx := up16 c.cutByTx }) { s with link.recv := none } else s

/-- LPA_EN_ASSERT (10 R413, R414): steps 1 and 2 of a transmission. -/
def lpaAssert (n : Nat) (s : State) : State := match txSlot s n with
  | some x =>
    let working := (s.link.synth.op == 2 || s.link.synth.op == 4) && s.link.synth.ch == some x.ch
    if linkUp s && (frameFor s x).isSome && !s.link.rampDone.contains n && (lockedOn s x.ch || working) then
      cutReception { s with link.lpa := true, link.llna := false, link.txWindow := true }
    else s
  | none => s

/-- Settings of LNK_TXPOWER apply from a T_R (10 R420). -/
def takePower (s : State) : State := match s.link.pendPower with
  | some (p, r, l) => { s with link.power := p, link.rampUs := r, link.lead := l, link.pendPower := none }
  | none => s

/-- The power on a channel: the lesser of POWER and its PWR_CAP (10 R420). -/
def txPower (s : State) (ch : Nat) : Int := match linkChOf s ch with
  | some c => min s.link.power c.cap
  | none => s.link.power

/-- A slot is skipped at its T_R: LPA_EN goes inactive (10 R414), a hop that has not locked is over, so that the next slot is prepared as any other
(10 R410), and what waited for the slot starts. -/
def slotSkipped (s : State) : State :=
  startWaiting { s with
    link.lpa := false, link.hopDue := none,
    link.synth := { s.link.synth with op := if s.link.synth.op = 2 then 1 else s.link.synth.op } }

/-- SLOT_RAMP_START (10 R409, R410, R417; 01 R39): T_R of a transmit slot; `errs` are the wrong bits of each granule of the frame, which more than
two poison. The driver stays off throughout a full calibration, locked or not (10 R400). -/
def slotRampStart (n : Nat) (errs : List Nat) (s : State) : State := match txSlot s n with
  | some x =>
    if !linkUp s || s.link.rampDone.contains n || s.link.tx.isSome then s
    else
      let s := takePower { s with link.rampDone := s.link.rampDone ++ [n] }
      match frameFor s x with
      | none => startWaiting s
      | some (f, queued) =>
        let s := if queued then { s with link.queue := s.link.queue.erase f } else s
        if errs.any (fun e => decide (2 < e)) then
          slotSkipped (if queued then reportTx 0x0E x f s else s)
        else if !lockedOn s x.ch || s.link.synth.op == 4 then
          let s := { s with link.lateSlots := (s.link.lateSlots + 1) % 65536 }
          slotSkipped (if queued then reportTx 0x0B x f s else s)
        else
          let symbols := airFrame (linkWidth s x.ch) s.link.inForce.network (ownHdr s x f) f.payload
          let air : AirFrame :=
            { frame := f, slot := x, report := queued, symbols := symbols, wave := airWave (linkWidth s x.ch) s.link.rampUs x.rate symbols,
              power := txPower s x.ch }
          { s with link.tx := some air, link.driver := true, link.synth := { s.link.synth with op := 5 } }
  | none => s

/-- Idle discards the schedule and the queue (11 R452). -/
def linkToIdle (s : State) : State := { s with link.sched := none, link.pendSched := none, link.queue := [], link.rxSlot := none }

/-- TX_FRAME_END (10 R413): T_E; the frame was sent in full. -/
def txFrameEnd (s : State) : State := match s.link.tx with
  | some a =>
    let s := { s with
      link.tx := none, link.txFrames := (s.link.txFrames + 1) % 2 ^ 32,
      link.synth := { s.link.synth with op := if s.link.synth.locked then 3 else 1 } }
    let s := if a.report then reportTx 0 a.slot a.frame s else s
    if s.link.role = 0 then linkToIdle s else s
  | none => s

/-- A hop that waited for the end of a down-ramp starts (10 R400, R405). -/
def startDue (s : State) : State := match s.link.hopDue with
  | some ch =>
    let s := { s with link.hopDue := none }
    if linkUp s && !synthTested s && s.link.synth.op != 4 && (synthEntry s ch).st != 0 && !lockedOn s ch then startHop ch s else s
  | none => s

/-- LPA_EN_RELEASE (10 R413 to R415): the down-ramp has ended and the driver is off. -/
def lpaRelease (s : State) : State :=
  if s.link.tx.isNone then startWaiting (startDue { s with link.lpa := false, link.driver := false }) else s

/-- LLNA_EN_RESTORE (10 R413): steps 8 and 9. -/
def llnaRestore (s : State) : State :=
  if s.link.tx.isNone && !s.link.lpa && s.link.txWindow then
    { s with link.llna := s.link.lnaCtrl == 0, link.txWindow := false }
  else s

/-- The frame in progress is truncated (10 R411). -/
def txTruncate (s : State) : State := match s.link.tx with
  | some _ =>
    let s := { s with
      link.tx := none, link.txAborts := sat 65535 (s.link.txAborts + 1),
      link.synth := { s.link.synth with op := 1, locked := false } }
    let s := if s.link.role = 0 then linkToIdle s else s
    logErr 0x47 2 0x0A 0 s
  | none => s

/-- TX_ABORT (10 R404, R411): the lock detector reports an evaluation outside 40 kHz of the commanded frequency: lock ends. -/
def txAbort (eval : Nat × Nat) (s : State) : State :=
  if evalInside s eval then s
  else
    let s := txTruncate s
    { s with link.synth := { s.link.synth with locked := false, op := if s.link.synth.op = 3 then 1 else s.link.synth.op } }

/-- The level of LPA_EN: POLARITY bit 0 makes it active low (10 R413, R421). -/
def lpaPin (s : State) : Bool := s.link.lpa != s.link.polarity.testBit 0
/-- The level of LLNA_EN: POLARITY bit 1 makes it active low (10 R413, R421). -/
def llnaPin (s : State) : Bool := s.link.llna != s.link.polarity.testBit 1

/-- The channel streams end. -/
def dropStreams (s : State) : State :=
  { s with link.portA := { s.link.portA with mem := [], stream := [] }, link.portB := { s.link.portB with mem := [], stream := [] } }

/-- The bypass clock (10 R411, R417; 01 R15): a transmission is truncated, lock is lost, receive stops. -/
def linkBypass (s : State) : State :=
  let s := dropStreams (txTruncate s)
  { s with
    link.recv := none,
    link.synth := { s.link.synth with locked := false, op := if s.link.synth.op = 4 then 4 else 1 } }

/-- The link island loses its state (01 R24, 10 R408): the channel table, the node table and the counters stand in the control
cluster. -/
def linkOff (s : State) : State :=
  let l := s.link
  { s with
    link := { Link.initial with
      channels := l.channels, nodes := l.nodes, txFrames := l.txFrames, lateSlots := l.lateSlots, txAborts := l.txAborts,
      fullCals := l.fullCals, calFails := l.calFails, lastPort := l.lastPort, temp := l.temp } }

/-- The link island is ready: LLNA_EN follows LNA_CTRL (10 R413). -/
def linkReadyStep (s : State) : State := { s with link.llna := s.link.lnaCtrl == 0 }

/-! ### Commands of the radio -/

/-- The half width of a channel in Hz. -/
def halfWidth (w : Nat) : Nat := 200000 <<< w

/-- A channel entry is in range (10 R418). -/
def linkChOk (e : List Byte) : Bool :=
  let tx := (u8 e 2).testBit 0
  let f := u32 e 4
  let h := halfWidth (u8 e 1)
  decide (u8 e 0 ≤ 63) && decide (u8 e 1 ≤ 2) && decide (1 ≤ u8 e 2 ∧ u8 e 2 ≤ 3)
    && (if tx then decide (-88 ≤ i8 e 3 ∧ i8 e 3 ≤ 32) else u8 e 3 == 0) && f % 12500 == 0
    && decide ((863000000 + h ≤ f ∧ f + h ≤ 870000000) ∨ (902000000 + h ≤ f ∧ f + h ≤ 928000000))

/-- The synthesiser is on no channel of the table any more: the entry of the one it was on is gone (10 R418). -/
def offChannel (s : State) : State :=
  let y := s.link.synth
  { s with link.synth := { y with ch := none, locked := false, op := if y.op = 4 ∨ y.op = 5 then y.op else min y.op 1 } }

/-- LNK_CHANNELS (10 R418). -/
def lnkChannelsAct (p : Packet) (s : State) : CmdOut :=
  let b := p.params
  let es := chunks 8 (u8 b 0) (b.drop 8)
  rejectIf (decide (64 < u8 b 0) || decide (1 < u8 b 1) || !zeroAt b 2 6 || es.any (fun e => !linkChOk e)
    || anyPair (fun x y => u8 x 0 == u8 y 0) es) .badValue <|
  rejectIf (s.link.role != 0) .badState <|
  let base := if u8 b 1 = 0 then { s with link.channels := [], link.entries := [] } else s
  let base := if u8 b 1 = 0 ∨ es.any (fun e => s.link.synth.ch == some (u8 e 0)) then offChannel base else base
  let base := { base with link.tuned := none }
  done (foldS (fun e t =>
    let c : LinkCh := { width := u8 e 1, flags := u8 e 2, cap := i8 e 3, freqHz := u32 e 4 }
    modEntry (u8 e 0) (fun _ => SynthEntry.invalid)
      { t with link.channels := tset none t.link.channels (u8 e 0) (some c) }) es base)

def specLnkChannels : OpSpec :=
  { plainOp 0x0A01 true 8 lnkChannelsAct with
    maxLen := 520, form := fun b => some (8 + 8 * u8 b 0), islands := fun _ _ => [42], reach := fun _ _ => [54] }

/-- SYNTH_CAL_END (10 R403, R407, R417): the calibration slot ends; an immediate calibration whose slot is over by then starts. -/
def synthCalEnd (us : Nat) (s : State) : State :=
  let was := s.link.synth.op
  let s := calSlotEnd us s
  if was = 4 ∧ !rampNear us s then startWaiting s else s

/-- LNK_CAL (10 R419). -/
def lnkCalAct (p : Packet) (s : State) : CmdOut :=
  let b := p.params
  let i := u8 b 0
  let is := if i = 255 then linkIndices s else [i]
  rejectIf ((decide (63 < i) && i != 255) || decide (2 < u8 b 1) || (i == 255 && u8 b 1 == 1) || !zeroAt b 2 2) .badValue <|
  rejectIf ((i != 255 && (linkChOf s i).isNone) || (u8 b 1 == 1 && s.link.synth.op == 4)) .badState <|
  if u8 b 1 = 0 then done (foldS (fun j t => modEntry j (fun e => { e with queued := true }) t) is s)
  else if u8 b 1 = 1 then
    if rampNear p.obs.subUs s ∨ s.link.synth.op = 2 then
      done { s with link.synth := { s.link.synth with waiting := s.link.synth.waiting.filter (· != i) ++ [i] } }
    else done (startCal i s)
  else done (foldS (fun j t => modEntry j (fun e => { e with st := 0 }) t) is s)

def specLnkCal : OpSpec :=
  { plainOp 0x0A02 false 4 lnkCalAct with islands := fun _ _ => [42], reach := fun _ _ => [54] }

/-- LNK_TXPOWER (10 R420). -/
def lnkTxpowerAct (p : Packet) (s : State) : CmdOut :=
  let b := p.params
  rejectIf (decide (i8 b 0 < -88) || decide (32 < i8 b 0) || decide (u8 b 1 < 2) || decide (16 < u8 b 1) || u8 b 2 == 0
    || decide (50 < u8 b 2) || !zeroAt b 3 1) .badValue <|
  done { s with link.pendPower := some (i8 b 0, u8 b 1, u8 b 2) }

def specLnkTxpower : OpSpec :=
  { plainOp 0x0A03 true 4 lnkTxpowerAct with islands := fun _ _ => [42], reach := fun _ _ => [54] }

/-- LNK_DIVERSITY (10 R421). -/
def lnkDiversityAct (p : Packet) (s : State) : CmdOut :=
  let b := p.params
  rejectIf (decide (2 < u8 b 0) || decide (3 < u8 b 1) || decide (1 < u8 b 2) || !zeroAt b 3 1) .badValue <|
  rejectIf ((u8 b 1 != s.link.polarity || u8 b 2 != s.link.lnaCtrl) && s.link.role != 0) .badState <|
  done { s with
    link.divMode := u8 b 0, link.polarity := u8 b 1, link.lnaCtrl := u8 b 2, link.llna := !s.link.txWindow && u8 b 2 == 0 }

def specLnkDiversity : OpSpec :=
  { plainOp 0x0A04 false 4 lnkDiversityAct with islands := fun _ _ => [42], reach := fun _ _ => [55] }

/-- The 48-byte payload of LNK_STATUS (10 R422). -/
def lnkStatusBytes (s : State) : List Byte :=
  let l := s.link
  let on := islandOn s 42
  let pend := (linkIndices s).any (fun i => (synthEntry s i).st != 1 || (synthEntry s i).queued)
  let head := le 1 (if on then l.synth.op else 0) ++ le 1 (if on then l.synth.ch.getD 255 else 255) ++ leI 1 (clampI (-128) 127 (roundDiv l.temp 10))
    ++ le 1 (b2n l.corrOn + 2 * b2n l.lpa + 4 * b2n l.llna + 8 * b2n (clockBypass s) + 16 * b2n pend)
  if on then
    head ++ le 8 (bitsMask ((upto 64).filter (fun i => (synthEntry s i).st != 0)))
      ++ le 8 (bitsMask ((upto 64).filter (fun i => (synthEntry s i).st == 2)))
      ++ le 4 l.txFrames ++ le 2 l.lateSlots ++ le 2 l.txAborts ++ le 2 l.fullCals ++ le 2 l.calFails ++ leI 1 l.power ++ le 1 l.rampUs
      ++ le 1 l.divMode ++ le 1 l.lastPort ++ le 1 l.portA.rms ++ le 1 l.portB.rms ++ le 1 l.portA.atten ++ le 1 l.portB.atten
      ++ le 2 (sat 65535 l.portA.clips) ++ le 2 (sat 65535 l.portB.clips)
      ++ leI 2 (clampI (-32768) 32767 (roundDiv l.corr 1000000000)) ++ zeros 2
  else head ++ zeros 44

/-- LNK_STATUS (10 R422). -/
def lnkStatusAct (_ : Packet) (s : State) : CmdOut := answer (lnkStatusBytes s) s

def specLnkStatus : OpSpec := plainOp 0x0A05 false 0 lnkStatusAct

/-! ### The rows -/

def execLnkChannels (p : Packet) (s : State) : Host.Outcome State Fault Refusal := .next (runCmd specLnkChannels p s)
def execLnkCal (p : Packet) (s : State) : Host.Outcome State Fault Refusal := .next (runCmd specLnkCal p s)
def execLnkTxpower (p : Packet) (s : State) : Host.Outcome State Fault Refusal := .next (runCmd specLnkTxpower p s)
def execLnkDiversity (p : Packet) (s : State) : Host.Outcome State Fault Refusal := .next (runCmd specLnkDiversity p s)
def execLnkStatus (p : Packet) (s : State) : Host.Outcome State Fault Refusal := .next (runCmd specLnkStatus p s)
def execLinkTempCheck (temp : Int) (s : State) : Host.Outcome State Fault Refusal := .next (linkTempCheck temp s)
def execSynthCalStart (slot : Fin 64) (s : State) : Host.Outcome State Fault Refusal := .next (synthCalStart slot s)
def execSynthHopStart (slot : Fin 64) (s : State) : Host.Outcome State Fault Refusal := .next (synthHopStart slot s)
def execBackgroundCalStart (us : Fin 1000) (s : State) : Host.Outcome State Fault Refusal := .next (backgroundCalStart us s)
def execSlotRampStart (slot : Fin 64) (errs : List Nat) (s : State) : Host.Outcome State Fault Refusal :=
  .next (slotRampStart slot errs s)
def execTxFrameEnd (s : State) : Host.Outcome State Fault Refusal := .next (txFrameEnd s)
def execLpaEnRelease (s : State) : Host.Outcome State Fault Refusal := .next (lpaRelease s)
def execTxAbort (eval : Nat × Nat) (s : State) : Host.Outcome State Fault Refusal := .next (txAbort eval s)

end Sys2Proof.Machine
end

