-- ==== Sys2Proof/Machine/LinkModem.lean ====
section
/-! DEFINITION. The correction link's modem: superframes, reception, and the commands of its schedule, nodes and frames (11). -/
namespace Sys2Proof.Machine

/-! ### Reception (11 R432 to R441) -/

/-- A receive slot: its owner is another node (11 R443). -/
def rxSlots (s : State) : List LinkSlot := match s.link.sched with
  | some d => d.slots.filter (fun x => x.node != s.link.inForce.node)
  | none => []

/-- The slot with the least offset. -/
def earliest : List LinkSlot → Option LinkSlot
  | [] => none
  | x :: t => match earliest t with
    | none => some x
    | some y => if y.offset < x.offset then some y else some x

/-- The next receive slot after an offset, in this superframe or the next (11 R443). -/
def nextRxSlot (s : State) (offset : Nat) : Option Nat :=
  ((earliest ((rxSlots s).filter (fun x => decide (offset < x.offset)))).orElse (fun _ => earliest (rxSlots s))).map (·.slot)

/-- The beacon slot of the schedule. -/
def beaconSlot (s : State) : Option LinkSlot := s.link.sched.bind (fun d => d.slots.find? (·.beacon))

/-- The slot whose channel the ports are tuned to: an unaligned rover listens on the beacon slot's channel (11 R443, R446). -/
def tunedSlot (s : State) : Option LinkSlot :=
  if unaligned s then beaconSlot s else s.link.rxSlot.bind (linkSlot s)

/-- A self-test slice holds the modem, which takes no input (17 R618). -/
def modemTested (s : State) : Bool := match s.bst.active with
  | some r => r.block == 55
  | none => false

/-- The receiver works: a role in force, no own transmission, no bypass clock (11 R444, 10 R416). -/
def receiving (s : State) : Bool :=
  linkUp s && linkRole s != 0 && !s.link.txWindow && !clockBypass s && (tunedSlot s).isSome && !modemTested s

/-- The width that the ports receive. -/
def rxWidth (s : State) : Nat := ((tunedSlot s).map (fun x => linkWidth s x.ch)).getD 0

/-! ### The receive path (10 R395, R397, R399; 11 R433, R438) -/

/-- The mixer frequency of a channel after the fold of the second Nyquist zone, corrected by y_F, in 2^-16 Hz (10 R395, R399). -/
def rxFreqOf (s : State) (ch : Nat) : Int :=
  let f : Int := ((linkChOf s ch).map (·.freqHz)).getD 0
  1100000000 * 65536 - roundDiv (f * 65536 * ((10 ^ 18 : Nat) + s.link.corr)) (10 ^ 18)

/-- Both ports are tuned to the channel that the schedule names (10 R397, 11 R443); a reception on another one is over. On one channel the mixers follow
the correction that each hop and calibration takes (10 R399). -/
def retune (s : State) : State :=
  let ch := (tunedSlot s).map (·.ch)
  if ch = s.link.tuned then { s with link.rxFreq := (ch.map (rxFreqOf s)).getD 0 }
  else { dropStreams s with link.tuned := ch, link.rxFreq := (ch.map (rxFreqOf s)).getD 0, link.rxAcc := 0, link.recv := none }

/-- One ADC sample through a port's decimator (10 R397): registers, resampler phase, and the channel samples so far, newest first. -/
def rxStep (w att : Nat) (freq : Int) (z : List Int × Nat × List LinkSample) (b : BitVec 8) : List Int × Nat × List LinkSample :=
  let m := Config.linkStep w freq b.toInt z.1
  let a := z.2.1 + 2 ^ w
  if a < 2750 then (m, a, z.2.2)
  else
    let v := Config.linkOut w (a - 2750) m
    (m, a - 2750, { i := v.1, q := v.2, att := att } :: z.2.2)

/-- The ADC's level and clipping (10 R422, 11 R433); samples of an own transmission's window are not `used` for the level (10 R416). -/
def portLevels (used : Bool) (adc : List (BitVec 8)) (x : LinkPort) : LinkPort :=
  { x with
    sq := if used then adc.foldl (fun n b => n + b.toInt.natAbs * b.toInt.natAbs) x.sq else x.sq, n := if used then x.n + adc.length else x.n,
    clipNow := x.clipNow + (adc.filter (fun b => b == 127 || b == 128)).length }

/-- A port takes ADC samples; of its stream the last `keep` samples stay. -/
def portTake (w acc keep : Nat) (freq : Int) (adc : List (BitVec 8)) (x : LinkPort) : LinkPort :=
  let z := adc.foldl (rxStep w x.atten freq) (x.mem, acc, [])
  { x with mem := z.1, stream := lastOf keep (x.stream ++ z.2.2.reverse) }

/-- Samples that a stream keeps: 8 symbol periods, and what a reception has taken since before its detection (11 R438). -/
def streamKeep (s : State) (new : Nat) : Nat :=
  let w := rxWidth s
  max (288 <<< w) ((s.link.recv.map (fun r => s.link.rxN + new - r.start + 2 * airFft w)).getD 0)

/-- ADC samples of both ports arrive (10 R397, R416). -/
def linkFeed (x : LinkAdc) (s : State) : State :=
  if !linkUp s || clockBypass s then s
  else
    let s := { s with 
      link.portA := portLevels (!s.link.txWindow) x.a s.link.portA, link.portB := portLevels (!s.link.txWindow) x.b s.link.portB }
    if !receiving s then dropStreams s
    else
      let s := retune s
      let w := rxWidth s
      let acc := s.link.rxAcc + x.a.length * 2 ^ w
      let keep := streamKeep s (acc / 2750)
      { s with
        link.portA := portTake w s.link.rxAcc keep s.link.rxFreq x.a s.link.portA,
        link.portB := portTake w s.link.rxAcc keep s.link.rxFreq x.b s.link.portB,
        link.rxAcc := acc % 2750, link.rxN := s.link.rxN + acc / 2750, link.rxEnd := nearestGrid s.nunar.pos + x.g }

/-- A port: 0 = LRX_A, 1 = LRX_B. -/
def rxPortOf (s : State) (p : Nat) : LinkPort := if p = 1 then s.link.portB else s.link.portA

/-- Channel samples as numbers. -/
def samplesOf (l : List LinkSample) : List (Int × Int) := l.map (fun x => (x.i.toInt, x.q.toInt))

/-- The samples of a port from number `a` to `b` as `rxN` counts. -/
def streamPart (s : State) (p a b : Nat) : List LinkSample :=
  let l := (rxPortOf s p).stream
  let first := s.link.rxN - l.length
  (l.drop (a - first)).take (b - max a first)

/-- Channel power of samples, referred to the pin by adding their attenuation, in 0.25 dBm (11 R434, R436, R438): full scale is -11.5 dBm at 0 dB. -/
def pinLevel (l : List LinkSample) : Int :=
  roundLog 40 (powerOf (samplesOf l)) (l.length * 2 ^ 30) (-600) 0 - 46 + 4 * (((l.getLast?).map (·.att)).getD 0 : Nat)

/-- One power at the pin exceeds another: attenuations are in steps of 2 dB (11 R434). -/
def pinLess (a b : List LinkSample) : Bool :=
  let e := fun (l : List LinkSample) => powerOf (samplesOf l) ^ 5 * 10 ^ (((l.getLast?).map (·.att)).getD 0 / 2)
  decide (e a < e b)

/-- A header that nothing has decoded. -/
def noHdr : LinkHdr := { rate := 0, length := 0, node := 0, gen := 0, type := 0, slot := 0 }

/-- A reception at its detection in sample `at'`; `restarted`: on buffered samples, with the AGC frozen (11 R441). -/
def newReception (s : State) (restarted : Bool) (at' : Nat) : Reception :=
  { phase := 0, start := at', ninth := 0, port := s.link.divMode, steps := if restarted then 3 else 0, restarted := restarted, watch := [],
    hdr := noHdr, unsched := false, rssi := 0, snr := 0, cfo := 0, air := 0, timing := 0, sf := 0 }

/-- Change the reception in progress. -/
def modRecv (f : Reception → Reception) (s : State) : State := { s with link.recv := s.link.recv.map f }

/-- The ports on which the detector declares a detection now (11 R432). -/
def portsDetecting (s : State) : List Nat :=
  [0, 1].filter (fun p => detects (rxWidth s) s.link.rx.detThr (samplesOf (lastOf (3 * (airFft (rxWidth s) / 4)) (rxPortOf s p).stream)))

/-- PREAMBLE_DETECTION (11 R432): the detector declares a detection on a port. -/
def preambleDetection (x : LinkAdc) (s : State) : State :=
  let s := linkFeed x s
  if receiving s && s.link.recv.isNone && !(portsDetecting s).isEmpty then
    { s with link.recv := some (newReception s false s.link.rxN) }
  else s

/-- The port of a reception: the stronger from 60 us to 80 us after the detection, or the fixed one (11 R434). -/
def choosePort (s : State) (r : Reception) : Nat :=
  let w := rxWidth s
  let part := fun p => streamPart s p (r.start + (24 <<< w)) (r.start + (32 <<< w))
  if r.port = 2 then (if pinLess (part 0) (part 1) then 1 else 0) else r.port

/-- STF_NINTH_PERIOD (11 R432, R434), `n` samples after the detection: the negated period between 80 us and 200 us after it fixes the timing;
before that, or without it at 200 us, the reception is abandoned. -/
def stfNinth (x : LinkAdc) (n : Nat) (s : State) : State :=
  let s := linkFeed x s
  match s.link.recv with
  | some r =>
    let w := rxWidth s
    let p := choosePort s r
    let found := ninthNegated w (samplesOf (streamPart s p (r.start + n - 3 * (airFft w / 4)) (r.start + n)))
    if r.phase ≠ 0 ∨ s.link.rxN < r.start + n then s
    else if found ∧ 32 <<< w ≤ n ∧ n ≤ 80 <<< w then modRecv (fun z => { z with phase := 1, port := p, ninth := r.start + n }) s
    else if found ∨ 80 <<< w ≤ n then { s with link.recv := none }
    else s
  | none => s

/-- The attenuation after an interval (11 R433): above -20 dBFS it rises, in 2 dB steps, to bring the RMS to -24 dBFS or less; below -30 dBFS it
falls by 2 dB. -/
def agcStep (sq n att : Nat) : Nat :=
  let fs := adcFull * n
  let sq := 8 * sq
  if fs < 100 * sq then
    let m := ((upto 16).find? (fun m => decide (sq ^ 5 * 10 ^ 12 ≤ fs ^ 5 * 10 ^ m))).getD 15
    min 30 (att + 2 * m)
  else if 1000 * sq < fs then att - 2
  else att

/-- A port at the end of an interval: its RMS, and, where the AGC is free, its attenuator. -/
def portInterval (free : Bool) (x : LinkPort) : LinkPort :=
  { x with
    rms := (roundLog 40 (adcFull * x.n) (8 * x.sq) 0 255).toNat, atten := if free then agcStep x.sq x.n x.atten else x.atten, sq := 0, n := 0 }

/-- LINK_AGC_UPDATE (11 R433): every 20 us between receptions, and three times after a detection. -/
def linkAgcUpdate (x : LinkAdc) (s : State) : State :=
  if !linkUp s || clockBypass s || linkRole s == 0 then s
  else
    let s := linkFeed x s
    let free := match s.link.recv with
      | some r => decide (r.steps < 3)
      | none => !s.link.txWindow
    let s := { s with link.portA := portInterval free s.link.portA, link.portB := portInterval free s.link.portB }
    if free then modRecv (fun r => { r with steps := r.steps + 1 }) s else s

/-- Clipped samples of the millisecond that ends (10 R422). -/
def linkEpoch (s : State) : State :=
  let f := fun (x : LinkPort) => { x with clips := x.clipNow, clipNow := 0 }
  if linkUp s then { s with link.portA := f s.link.portA, link.portB := f s.link.portB } else s

/-! ### Reception -/

/-- Reception restarts on the buffered samples from a watched preamble, with the attenuations of those samples; what was watched later is held for
it (11 R439 to R441). -/
def restartReception (at' : Nat) (later : List (Nat × Int)) (s : State) : State :=
  let att := fun p => (((streamPart s p (at' - 1) at').head?).map (·.att)).getD (rxPortOf s p).atten
  countLink (fun c => { c with restarts := up16 c.restarts })
    { s with
      link.portA := { s.link.portA with atten := att 0 }, link.portB := { s.link.portB with atten := att 1 },
      link.recv := some { newReception s true at' with watch := later } }

/-- A KIND 1 record on its routes and to the kernels that subscribe to the node (11 R450, R457; 14 R555). -/
def postFrame (status chain : Nat) (payload : List Byte) (r : Reception) (s : State) : State :=
  let ch := s.link.tuned.getD 0
  let flags := b2n r.unsched + 2 * b2n r.restarted + 4 * b2n (s.nunar.st == 0)
  let delay : Int := ((nodeOf s r.hdr.node).map (·.delay)).getD 0
  let air := r.air - 100 * delay
  let pl := linkFrameHead 1 status r.port r.snr flags r.hdr.length r.sf ch r.hdr r.rssi r.cfo air r.timing ++ payload
  let s := post { msg2 s 0x88 0x0B r.hdr.node pl with chain := chain } s
  deliverMsg (fun q => q.kind == 5 && (q.filter % 128 == 0 || q.filter % 128 == r.hdr.node + 1)) 0x88 0x0B r.hdr.node chain
    (fun _ => some pl) s

/-- The current frame ends with status PREEMPTED, and reception restarts at the preamble that was watched (11 R440, R457). -/
def preempt (at' : Nat) (later : List (Nat × Int)) (r : Reception) (s : State) : State :=
  let s := countLink (fun c => { c with preempted := up16 c.preempted }) s
  restartReception at' later (postFrame 0x14 0 [] r s)

/-- The power of a watched preamble: of the 40 us that the detector has seen, on the stronger of the ports that detect it (11 R438). -/
def watchPower (s : State) (ps : List Nat) : Int :=
  let n := airFft (rxWidth s) / 2
  (ps.map (fun p => pinLevel (lastOf n (rxPortOf s p).stream))).foldl max (-10000)

/-- Watch detections that are ignored (11 R440). -/
def watchIgnored (n : Nat) (s : State) : State := countLink (fun c => { c with watchIgnored := sat 65535 (c.watchIgnored + n) }) s

/-- WATCH_DETECTION (11 R438, R440): the watch correlator detects a preamble, not that of the current frame; held until the header is decided, and
compared with RSSI during the payload. -/
def watchDetection (x : LinkAdc) (s : State) : State :=
  let s := linkFeed x s
  let ps := portsDetecting s
  match s.link.recv with
  | some r =>
    if ps.isEmpty ∨ r.phase = 0 then s
    else
      let power := watchPower s ps
      if r.phase = 2 then
        if r.rssi + 24 ≤ power then preempt s.link.rxN [] r s
        else watchIgnored 1 s
      else modRecv (fun z => { z with watch := z.watch ++ [(s.link.rxN, power)] }) s
  | none => s

/-- The strongest of the watched detections, the earlier of equals. -/
def strongestWatch : List (Nat × Int) → Option (Nat × Int)
  | [] => none
  | w :: t => match strongestWatch t with
    | none => some w
    | some v => if w.2 < v.2 then some v else some w

/-- A header fails, in sample `now`: reception restarts at the strongest preamble watched in the last 180 us (11 R439). -/
def headerFails (now : Nat) (r : Reception) (s : State) : State :=
  let s := countLink (fun c => { c with hdrFails := up16 c.hdrFails }) s
  match strongestWatch (r.watch.filter (fun v => decide (now ≤ v.1 + (72 <<< rxWidth s)))) with
  | some v => restartReception v.1 (r.watch.filter (fun u => decide (v.1 < u.1))) s
  | none => { s with link.recv := none }

/-- The samples that a reception's decoding works on: from 80 us before the end of the ninth period. -/
def recvSamples (s : State) (r : Reception) : List LinkSample := streamPart s r.port (r.ninth - airFft (rxWidth s)) s.link.rxN

/-- The first sample after symbol `n` of SIGNAL and payload, with room for the timing search. -/
def symbolsEnd (w n : Nat) (r : Reception) : Nat := r.ninth + airFft w / 4 + 2 * airFft w + n * (airFft w + airFft w / 8) + airFft w / 8

/-- What the modem reads from a frame's training and SIGNAL symbols (11 R435 to R437): the header's bits, RSSI (0.25 dBm), SNR (0.25 dB), carrier
offset (Hz) and the air start on the selected scale (ps). -/
structure HeaderRead where
  bits : Nat
  rssi : Int
  snr : Nat
  cfo : Int
  air : Int
deriving DecidableEq, Repr

/-- The grid place of the first sample of a frame's short training, at the pin. -/
def airPlace (s : State) (w len : Nat) (y : AirSync) : Int :=
  let back : Int := (len : Int) - y.start + 5 * (airFft w / 2)
  s.link.rxEnd - back * ((88000 >>> w : Nat) : Int) + roundDiv (tapDelay y * 2816000) (2 ^ 32) - Config.linkDelay w

/-- A frame's training and SIGNAL symbols are read. -/
def readHeader (s : State) (r : Reception) : HeaderRead :=
  let w := rxWidth s
  let n := airFft w
  let l := recvSamples s r
  let xs := samplesOf l
  let y := airSync w n xs
  let ys := derotate w y.per80 xs
  { bits := decodeHeader w y ys, rssi := pinLevel ((l.drop (y.start + 2 * n + n / 8)).take n), snr := ltfSnr w y ys,
    cfo := roundDiv (y.per80 * 12500) (2 ^ 32), air := gridInstant s (airPlace s w l.length y) }

/-- A rover that its first beacon aligns: its superframe starts at the beacon's air start less the slot's OFFSET (11 R446). -/
def alignRover (air : Int) (x : LinkSlot) (s : State) : State :=
  { s with link.aligned := true, link.sfStart := air - (x.offset : Int) * 10000000, link.sfMs := some s.ms }

/-- A frame against the nearest occurrence of its slot: how many superframes that lies from the one in progress, and by how many ps its
air start, less its node's DELAY, comes after the scheduled one (11 R437, R443, R455, R457). -/
def lateBy (s : State) (air delay : Int) : Option LinkSlot → Int × Int
  | none => (0, 0)
  | some x =>
    let t := air - s.link.sfStart - (x.offset : Int) * 10000000 - 100 * delay
    let k := (t + 50000000000) / 100000000000
    (k, t - k * 100000000000)

/-- A header is decided, in sample `now` (11 R437, R439, R440, R446, R447). -/
def headerDecided (now : Nat) (h : HeaderRead) (r : Reception) (s : State) : State :=
  if !hdrOk h.bits then headerFails now r s
  else
    let d := hdrOf h.bits
    let slot := (linkSlot s d.slot).filter (fun x => x.node != s.link.inForce.node)
    let delay : Int := ((nodeOf s d.node).map (·.delay)).getD 0
    let late := lateBy s h.air delay slot
    let first := unaligned s && d.type == 2 && (match slot with | some x => x.beacon | none => false)
    let inTime := first || decide (late.2.natAbs ≤ 1000000 * s.link.rx.windowUs)
    let unsched := slot.isNone || !inTime
    let stale := match slot with
      | some x => x.node != d.node || (match nodeOf s d.node with | some n => n.gen != d.gen | none => true)
      | none => false
    let s := if unsched then countLink (fun c => { c with unsched := up16 c.unsched }) s else s
    let s := if stale then
        logErr 0x15 1 0x0B d.node (countLink (fun c => { c with stale := up16 c.stale }) s)
      else s
    if stale || (unsched && !s.link.rx.flags.testBit 1) then { s with link.recv := none }
    else
      let r' : Reception := { r with
        phase := 2, hdr := d, unsched := unsched, rssi := h.rssi, snr := h.snr, cfo := h.cfo, air := h.air,
        timing := if first then 0 - delay else roundDiv late.2 100, watch := [],
        sf := if first then currentSf s else (((currentSf s : Int) + late.1) % (2 ^ 32 : Nat)).toNat }
      let s := match (if first then slot else none) with
        | some x => alignRover h.air x s
        | none => s
      match strongestWatch (r.watch.filter (fun v => decide (h.rssi + 24 ≤ v.2))) with
      | some v => preempt v.1 (r.watch.filter (fun u => decide (v.1 < u.1))) r'
          (watchIgnored (r.watch.filter (fun u => decide (u.1 < v.1 ∧ u.2 < h.rssi + 24))).length s)
      | none => watchIgnored r.watch.length { s with link.recv := some r' }

/-- HEADER_DECODED (11 R435 to R437): the SIGNAL symbols are complete. -/
def headerDecoded (x : LinkAdc) (s : State) : State :=
  let s := linkFeed x s
  match s.link.recv with
  | some r =>
    let now := symbolsEnd (rxWidth s) (airSig (rxWidth s)) r
    if r.phase ≠ 1 ∨ s.link.rxN < now then s else headerDecided now (readHeader s r) r s
  | none => s

/-- The payload of a reception and the CRC-32C that came with it (11 R428, R435). -/
def readPayload (s : State) (r : Reception) : List Byte × Nat :=
  let w := rxWidth s
  let xs := samplesOf (recvSamples s r)
  let y := airSync w (airFft w) xs
  if r.hdr.length = 0 then ([], crc32c []) else decodePayload w s.link.inForce.network r.hdr y (derotate w y.per80 xs)

/-- The chain status of a record that crosses P9 under ECC (11 R450; 01 R36). -/
def eccChain (errs : List Nat) : Nat :=
  if errs.any (fun e => decide (2 < e)) then 0x80 else if errs.any (· != 0) then 0x08 else 0

/-- A hub uses the timing of a node for its beacon (11 R445). -/
def timingUsed (s : State) (node : Nat) : Bool := linkRole s == 3 && ((nodeOf s node).map (fun n => n.flags.testBit 0)).getD false

/-- A kept frame ends with its payload (11 R437, R445, R446, R450, R457; 07 R297): the record's CRC is formed over the decoded payload before the air
CRC is verified. -/
def frameEnded (f : List Byte × Nat) (errs : List Nat) (r : Reception) (s : State) : State :=
  let pl := f.1
  let s := { s with link.recv := none }
  if f.2 ≠ crc32c pl then countLink (fun c => { c with payFails := up16 c.payFails }) s
  else
    let beacon := roverFree s ∧ r.hdr.type = 2 ∧ 4 ≤ pl.length
    let corr := r.hdr.type = 1 ∧ s.meas.nav.corrSrc = 2 ∧ r.hdr.node = s.meas.nav.corrNode
    let used := s.link.rx.types.testBit r.hdr.type || decide (beacon ∨ corr) || timingUsed s r.hdr.node
    let s := { s with link.lastPort := r.port, link.heard := tset none s.link.heard r.hdr.node (some (r.timing, r.sf)) }
    let s := if used then countLink (fun c => { c with rxOk := up16 c.rxOk }) s else s
    let s := if beacon then { s with link.sf := u32 pl 0 } else s
    let s := if corr then linkCorrection pl s else s
    if s.link.rx.types.testBit r.hdr.type then postFrame 0 (eccChain errs) pl r s else s

/-- FRAME_RECEIVED (11 R437, R457): T_E of a kept frame. -/
def frameReceived (x : LinkAdc) (errs : List Nat) (s : State) : State :=
  let s := linkFeed x s
  match s.link.recv with
  | some r =>
    let w := rxWidth s
    if r.phase ≠ 2 ∨ s.link.rxN < symbolsEnd w (airSig w + airSym r.hdr.rate w r.hdr.length) r then s
    else frameEnded (readPayload s r) errs r s
  | none => s

/-- SLOT_END (11 R443; 10 R397): the ports retune at the sample. -/
def slotEnd (n : Nat) (x : LinkAdc) (s : State) : State :=
  let s := linkFeed x s
  match linkSlot s n with
  | some y => { s with link.rxSlot := nextRxSlot s y.offset }
  | none => s

/-! ### Superframes (11 R442, R449, R452, R453, R456, R458) -/

/-- The KIND 3 payload (11 R458). -/
def summaryBytes (s : State) : List Byte :=
  let c := s.link.counts
  le 1 3 ++ zeros 3 ++ le 4 s.link.sf ++ le 2 c.rxOk ++ le 2 c.hdrFails ++ le 2 c.payFails ++ le 2 c.preempted ++ le 2 c.restarts
    ++ le 2 c.stale ++ le 2 c.unsched ++ le 2 c.cutByTx ++ le 2 c.watchIgnored ++ le 2 c.discards

/-- The summary of the superframe that ends. -/
def postSummary (s : State) : State :=
  if s.link.rx.flags.testBit 0 && linkRole s != 0 && s.link.sfMs.isSome then
    post (msg2 s 0x88 0x0B s.link.inForce.node (summaryBytes s)) s
  else s

/-- A queued frame fits a schedule: its slot is there and carries its N_SYM (11 R449). -/
def frameFits (s : State) (d : LinkSched) (f : TxFrame) : Bool := match slotIn (some d) f.slot with
  | some x => decide (airSym x.rate (linkWidth s x.ch) f.payload.length ≤ x.maxSym)
  | none => false

/-- A schedule takes effect (11 R449). -/
def takeSched (s : State) : State := match s.link.pendSched with
  | some (d, from') =>
    if sfReached from' s.link.sf then
      let s := discardFrames (frameFits s d) { s with link.sched := some d, link.pendSched := none }
      { s with link.rxSlot := (earliest (rxSlots s)).map (·.slot) }
    else s
  | none => s

/-- SUPERFRAME_START (11 R442, R446): TC reads a multiple of 100 ms, or, for a rover that an earlier beacon has aligned while UNSET, 100
ms have passed on that alignment. While BROKEN, none runs. -/
def superframeStart (s : State) : State :=
  let follows := !(linkRole s == 2 && s.nunar.st == 0)
  let next := s.link.sfStart + 100000000000
  if !linkUp s || !s.nunar.running || s.link.sfMs == some s.ms || (follows && s.epochMs % 100 != 0)
    || (!follows && (!s.link.aligned || decide (((s.epochMs : Int) + 1) * 1000000000 ≤ next))) then s
  else
    let s := postSummary s
    let s := { s with
      link.sf := if follows then (s.epochMs / 100) % 2 ^ 32 else (s.link.sf + 1) % 2 ^ 32,
      link.sfStart := if follows then (s.epochMs : Int) * 1000000000 else next, link.sfMs := some s.ms, link.counts := LinkCounts.zero, link.rampDone := [],
      link.rx := s.link.pendRx.getD s.link.rx, link.pendRx := none, link.aligned := if follows then false else s.link.aligned }
    let s := match s.link.pendRole with
      | some from' => 
        if sfReached from' s.link.sf then
          { s with link.pendRole := none,
                   link.inForce := { role := s.link.role, node := s.link.nodeId, gen := s.link.gen, network := s.link.network } }
        else s
      | none => s
    takeSched s

/-! ### Commands of the modem -/

/-- The first superframe that starts at least 10 ms from now (11 R452, R453). -/
def soonSf (p : Packet) (s : State) : Nat :=
  (currentSf s + (if sfPos p.obs.subUs s + 10000 ≤ 100000 then 1 else 2)) % 2 ^ 32

/-- LNK_ROLE (11 R452; 01 R45). -/
def lnkRoleAct (p : Packet) (s : State) : CmdOut :=
  let b := p.params
  let r := u8 b 0
  rejectIf (decide (3 < r) || decide (63 < u8 b 1) || decide (15 < u8 b 2) || (r == 0 && (u8 b 1 != 0 || u8 b 2 != 0))
    || decide (126 < u8 b 3) || !zeroAt b 4 4) .badValue <|
  rejectIf (r != 0 && s.link.role != 0 && r != s.link.role) .badState <|
  rejectIf (r != 0 && !s.profile.env.link) .profileLimit <|
  let t := { s with link.role := r, link.nodeId := u8 b 1, link.gen := u8 b 2, link.network := u8 b 3 }
  if r = 0 then
    let t := { t with link.pendRole := none, link.inForce := LinkRole.idle, link.aligned := false, link.recv := none }
    done (if t.link.tx.isSome then t else linkToIdle t)
  else done { t with link.pendRole := some (soonSf p s) }

def specLnkRole : OpSpec :=
  { plainOp 0x0B01 true 8 lnkRoleAct with islands := fun _ _ => [42], reach := fun _ _ => [55] }

/-- A slot from its entry (11 R453). -/
def slotOfEntry (e : List Byte) : LinkSlot :=
  { slot := u8 e 0, ch := u8 e 1, node := u8 e 2, rate := u8 e 3, offset := u16 e 4, maxSym := u16 e 6 % 32768,
    beacon := (u16 e 6).testBit 15 }

/-- The end of a slot in us (11 R443). -/
def slotEndUs (s : State) (x : LinkSlot) : Nat := 10 * x.offset + airUs (linkWidth s x.ch) x.maxSym

/-- The fields of a slot are in range, and its channel permits what the slot does (11 R453). -/
def slotOk (s : State) (x : LinkSlot) : Bool :=
  decide (x.slot ≤ 63) && decide (x.node ≤ 63) && decide (x.rate ≤ 8) && decide (x.offset ≤ 9999) && decide (x.maxSym ≤ 1100)
    && (match linkChOf s x.ch with
      | some c => c.flags.testBit (if x.node = s.link.nodeId then 0 else 1)
      | none => false)
    && decide (60 ≤ 10 * x.offset ∧ slotEndUs s x + 60 ≤ 100000)

/-- Two slots come closer than 60 us (11 R453). -/
def slotsClash (s : State) (x y : LinkSlot) : Bool :=
  decide (10 * x.offset < slotEndUs s y + 60 ∧ 10 * y.offset < slotEndUs s x + 60)

/-- LNK_SCHEDULE (11 R453). -/
def lnkScheduleAct (p : Packet) (s : State) : CmdOut :=
  let b := p.params
  let es := (chunks 8 (u8 b 0) (b.drop 8)).map slotOfEntry
  let base := if u8 b 1 = 0 then [] else ((s.link.sched.map (·.slots)).getD []).filter (fun x => !es.any (fun e => e.slot == x.slot))
  let slots := base ++ es
  let named := u32 b 4
  let ahead := (named + 2 ^ 32 - currentSf s) % 2 ^ 32
  let late := named != 0 && (ahead == 0 || decide (2 ^ 31 < ahead) || decide (ahead * 100000 < sfPos p.obs.subUs s + 10000))
  rejectIf (decide (64 < u8 b 0) || decide (1 < u8 b 1) || u16 b 2 == 0 || anyPair (fun x y => x.slot == y.slot) es
    || slots.any (fun x => !slotOk s x) || decide (1 < (slots.filter (·.beacon)).length) || anyPair (slotsClash s) slots) .badValue <|
  rejectIf (s.link.role == 0 || (s.link.role == 2 && slots.any (fun x => x.beacon && x.node == s.link.nodeId))) .badState <|
  rejectIf late .late <|
  let d : LinkSched := { id := u16 b 2, slots := slots }
  done { s with link.pendSched := some (d, if named = 0 then soonSf p s else named) }

def specLnkSchedule : OpSpec :=
  { plainOp 0x0B02 false 8 lnkScheduleAct with
    maxLen := 520, form := fun b => some (8 + 8 * u8 b 0), islands := fun _ _ => [42], reach := fun _ _ => [55] }

/-- An occurrence is eligible now: it lies ahead by 50 us before its T_R or more, and the role is in force there (11 R449). -/
def occurrenceAhead (p : Packet) (s : State) (sf : Nat) (x : LinkSlot) : Bool :=
  let roleOn := match s.link.pendRole with
    | some f => sfReached f sf
    | none => true
  roleOn && (if sf = currentSf s then
      decide (sfPos p.obs.subUs s + 50 + s.link.rampUs ≤ 10 * x.offset) && !s.link.rampDone.contains x.slot
    else sfReached (currentSf s) sf)

/-- The transmit slot `n` of the schedule that will be in force in `sf`. -/
def txSlotAt (s : State) (n sf : Nat) : Option LinkSlot := (slotIn (schedAt s sf) n).filter (fun x => x.node == s.link.nodeId)

/-- The superframes in which an occurrence is looked for: from the named one, or the current one, upwards; and from a schedule or a role to come.
The queue holds 32 frames at most, so 40 superframes hold a free one. -/
def occurrences (s : State) (named : Nat) : List Nat :=
  let start := if named = 0 then currentSf s else named
  let near := (upto 40).map (fun i => (start + i) % 2 ^ 32)
  let from' := fun (o : Option Nat) => match o with
    | some f => if sfReached start f then (upto 40).map (fun i => (f + i) % 2 ^ 32) else []
    | none => []
  near ++ from' (s.link.pendSched.map (·.2)) ++ from' s.link.pendRole

/-- The occurrence assigned to a frame: the first that is eligible and carries none (11 R449, R454). -/
def assignSf (p : Packet) (s : State) (n named : Nat) : Option Nat :=
  (occurrences s named).find? (fun sf => match txSlotAt s n sf with
    | some x => occurrenceAhead p s sf x && !s.link.queue.any (fun f => f.slot == n && f.sf == sf)
    | none => false)

/-- A full calibration occupies the synthesiser and has not locked (10 R412). -/
def calPending (s : State) : Bool := s.link.synth.op == 4 && !s.link.synth.calOk

/-- LNK_SEND (11 R454, 10 R412). -/
def lnkSendAct (p : Packet) (s : State) : CmdOut :=
  let b := p.params
  let n := u8 b 0
  let named := u32 b 4
  let pl := b.drop 8
  rejectIf (decide (63 < n) || decide (1 < u8 b 1) || decide (15 < u8 b 2) || !zeroAt b 3 1) .badValue <|
  if calPending s && !s.link.holdFailed then .hold .linkCal
  else
    let ahead := (named + 2 ^ 32 - currentSf s) % 2 ^ 32
    let passed := named != 0 && decide (2 ^ 31 < ahead)
    let at' := if passed then some named else (assignSf p s n named).orElse (fun _ => if named = 0 then none else some named)
    let x := at'.bind (txSlotAt s n)
    let late := named != 0 && (passed || (match txSlotAt s n named with
      | some y => !occurrenceAhead p s named y
      | none => false))
    let bad := s.link.role == 0 || (named != 0 && unaligned s) || (u8 b 1 == 1 && s.link.role != 1) || (match x with
      | some y => y.beacon || decide (y.maxSym < airSym y.rate (linkWidth s y.ch) pl.length)
      | none => true)
    rejectIf bad .badState <|
    rejectIf (u8 b 2 != s.link.gen || genReplaced s s.link.nodeId (u8 b 2))
      .staleGeneration <|
    rejectIf (decide (32 ≤ s.link.queue.length)) .noResource <|
    rejectIf s.link.holdFailed .synthNotLocked <|
    rejectIf late .late <|
    let sf := at'.getD 0
    answer (le 4 sf)
      { s with link.queue := s.link.queue ++ [{ slot := n, type := u8 b 1, gen := u8 b 2, sf := sf, payload := pl }] }

def specLnkSend : OpSpec :=
  { plainOp 0x0B03 false 8 lnkSendAct with maxLen := 2056, islands := fun _ _ => [42], reach := fun _ _ => [54, 55] }

/-- A node entry is in range (11 R455). -/
def nodeOk (e : List Byte) : Bool :=
  decide (u8 e 0 ≤ 63) && decide (u8 e 1 ≤ 15) && decide (u8 e 2 ≤ 1) && zeroAt e 3 1 && decide ((i32 e 4).natAbs ≤ 10000000)
    && zeroAt e 8 4

/-- LNK_NODES (11 R447, R455). -/
def lnkNodesAct (p : Packet) (s : State) : CmdOut :=
  let b := p.params
  let es := chunks 12 (u8 b 0) (b.drop 8)
  rejectIf (decide (64 < u8 b 0) || decide (1 < u8 b 1) || !zeroAt b 2 6 || es.any (fun e => !nodeOk e)
    || anyPair (fun x y => u8 x 0 == u8 y 0) es) .badValue <|
  let base := if u8 b 1 = 0 then [] else s.link.nodes
  let put := fun (t : Tab (Option LinkNode)) (e : List Byte) =>
    let n : LinkNode := { gen := u8 e 1, flags := u8 e 2, delay := i32 e 4 }
    tset none t (u8 e 0) (some n)
  let t := { s with link.nodes := es.foldl put base }
  done (if s.link.role ≠ 0 ∧ genReplaced t s.link.nodeId s.link.gen ∧ !genReplaced s s.link.nodeId s.link.gen
    then discardFrames (fun _ => false) t else t)

def specLnkNodes : OpSpec :=
  { plainOp 0x0B04 false 8 lnkNodesAct with maxLen := 776, form := fun b => some (8 + 12 * u8 b 0), islands := fun _ _ => [42] }

/-- LNK_RXCFG (11 R456). -/
def lnkRxcfgAct (p : Packet) (s : State) : CmdOut :=
  let b := p.params
  rejectIf (decide (u8 b 0 < 16) || decide (60 < u8 b 0) || decide (3 < u8 b 1) || decide (7 < u8 b 2) || !zeroAt b 3 1 || u16 b 4 == 0
    || decide (1000 < u16 b 4) || !zeroAt b 6 2) .badValue <|
  done { s with link.pendRx := some { detThr := u8 b 0, flags := u8 b 1, types := u8 b 2, windowUs := u16 b 4 } }

def specLnkRxcfg : OpSpec :=
  { plainOp 0x0B05 false 8 lnkRxcfgAct with islands := fun _ _ => [42], reach := fun _ _ => [55] }

/-! ### The rows -/

def execLnkRole (p : Packet) (s : State) : Host.Outcome State Fault Refusal := .next (runCmd specLnkRole p s)
def execLnkSchedule (p : Packet) (s : State) : Host.Outcome State Fault Refusal := .next (runCmd specLnkSchedule p s)
def execLnkSend (p : Packet) (s : State) : Host.Outcome State Fault Refusal := .next (runCmd specLnkSend p s)
def execLnkNodes (p : Packet) (s : State) : Host.Outcome State Fault Refusal := .next (runCmd specLnkNodes p s)
def execLnkRxcfg (p : Packet) (s : State) : Host.Outcome State Fault Refusal := .next (runCmd specLnkRxcfg p s)
def execLpaEnAssert (slot : Fin 64) (x : LinkAdc) (s : State) : Host.Outcome State Fault Refusal := .next (lpaAssert slot (linkFeed x s))
def execLlnaEnRestore (x : LinkAdc) (s : State) : Host.Outcome State Fault Refusal := .next (llnaRestore (linkFeed x s))
def execPreambleDetection (x : LinkAdc) (s : State) : Host.Outcome State Fault Refusal := .next (preambleDetection x s)
def execStfNinthPeriod (x : LinkAdc) (n : Nat) (s : State) : Host.Outcome State Fault Refusal := .next (stfNinth x n s)
def execLinkAgcUpdate (x : LinkAdc) (s : State) : Host.Outcome State Fault Refusal := .next (linkAgcUpdate x s)
def execWatchDetection (x : LinkAdc) (s : State) : Host.Outcome State Fault Refusal := .next (watchDetection x s)
def execHeaderDecoded (x : LinkAdc) (s : State) : Host.Outcome State Fault Refusal := .next (headerDecoded x s)
def execFrameReceived (x : LinkAdc) (errs : List Nat) (s : State) : Host.Outcome State Fault Refusal :=
  .next (frameReceived x errs s)
def execSlotEnd (slot : Fin 64) (x : LinkAdc) (s : State) : Host.Outcome State Fault Refusal := .next (slotEnd slot x s)
def execSuperframeStart (x : LinkAdc) (s : State) : Host.Outcome State Fault Refusal := .next (superframeStart (linkFeed x s))

end Sys2Proof.Machine
end

