-- ==== Sys2Proof/Machine/Clock.lean ====
section
/-! DEFINITION. Clock synthesis (09): reference, MDLL lock, bypass, clock outputs, sweeps, SYNC_IN and alignment. -/
namespace Sys2Proof.Machine

/-! ### Reference and lock (09 R364 to R373) -/

/-- A nominal reference frequency in kHz (09 R364). -/
def refKhz : Nat → Nat
  | 1 => 10000 | 2 => 20000 | _ => 25000
/-- The multiplier N (09 R364). -/
def refMul : Nat → Nat
  | 1 => 110 | 2 => 55 | _ => 44

/-- A measurement within 12 % of a nominal frequency (09 R365). -/
def refNear (khz f : Nat) : Bool := decide (88 * refKhz f ≤ 100 * khz ∧ 100 * khz ≤ 112 * refKhz f)

/-- The frequency in use: the setting, or the detected one (09 R365, R392). -/
def refInUse (s : State) : Nat := if s.clk.freq ≠ 0 then s.clk.freq else if s.clk.refPresent then s.clk.refFreq else 0

/-- The expected count; 0 before detection (09 R364, R392). -/
def clkExpected (s : State) : Nat := if refInUse s = 0 then 0 else 1024 * refMul (refInUse s)

/-- The frequency that a window measures as: the selected one, the one in use, or, before detection, the nearest (09 R365); none
where it lies outside. -/
def windowFreq (s : State) (khz : Nat) : Option Nat :=
  let cands := if s.clk.freq ≠ 0 then [s.clk.freq] else if s.clk.refPresent then [s.clk.refFreq] else [1, 2, 3]
  cands.find? (refNear khz)

/-- The lock sequence starts (09 R366, R392). -/
def startLock (s : State) : State :=
  { s with clk.st := 3, clk.seq := LockSeq.start, clk.searches := sat 65535 (s.clk.searches + 1) }

/-- Armed alignments are cancelled, with their events (09 R386, R393). -/
def cancelAlign (s : State) : State := match s.clk.align with
  | some al => foldS (fun o t => clkEvent 6 (some o) 0 0 t) (maskBits 4 al.outputs) { s with clk.align := none }
  | none => s

/-- The switch to the bypass clock (09 R370, R371, R378, R386, R392): DETAIL 1 = lock counter, 2 = reference absent, 3 = CLK_REF; the
clock's next state is `st`. -/
def bypassSwitch (detail st : Nat) (s : State) : State :=
  let s := { s with clk.st := st, clk.losses := sat 65535 (s.clk.losses + 1) }
  let s := clkEvent 2 none detail s.clk.lockCount s
  let s := foldS (fun o t => modClkOut o (fun x => { x with aligned := false, next := none, onStep := false, byNext := 0, byEdge := 0 }) t) (upto 4) s
  let s := cancelAlign s
  let s := pulsesBypass (nunarBypass s)
  let s := { s with nunar.events := s.nunar.events.map (fun e => (e.1, { e.2 with last := none })) }
  linkBypass (voileStop 4 (aprClock true s))

/-- The reference is found absent (09 R365, R369, R373, R387). -/
def refAbsent (s : State) : State :=
  let locked := s.clk.st == 0
  let s := { s with clk.refPresent := false, clk.goodWindows := 0, clk.refFreq := 0 }
  let s := clkEvent 3 none 0 0 s
  if locked then bypassSwitch 2 1 s else { s with clk.st := 1 }

/-- The reference is found present: the hold-off applies where a reference has been present before under these settings (09 R365,
R373). -/
def refFound (f : Nat) (s : State) : State :=
  let was := s.clk.wasPresent
  let s := { s with clk.refPresent := true, clk.refFreq := f, clk.wasPresent := true }
  let s := clkEvent 4 none 0 0 s
  if was then { s with clk.st := 2 } else startLock s

/-- The monitor's windows measure the time while no epochs run: 10 us each (09 R365, R371; log 73). -/
def monitorTime (s : State) : State := if s.nunar.running then s else { s with clk.bypassUs := s.clk.bypassUs + 10 }

/-- REF_MONITOR_WINDOW (09 R365): a 10 us window that measured `khz`. -/
def refMonitor (khz : Nat) (s : State) : State := match windowFreq s khz with
  | some f =>
    if s.clk.refPresent then s
    else
      let same := s.clk.goodWindows != 0 && s.clk.refFreq == f
      if same then refFound f { s with clk.goodWindows := 2 } else { s with clk.goodWindows := 1, clk.refFreq := f }
  | none => if s.clk.refPresent then refAbsent s else { s with clk.goodWindows := 0, clk.refFreq := 0 }

/-- The distance of a count from the expected one. -/
def countErr (s : State) (count : Nat) : Nat := ((count : Int) - clkExpected s).natAbs

/-- Lock is declared (09 R366, R373, R378, R393). -/
def declareLock (s : State) : State :=
  let s := { s with clk.st := 0, clk.band := some s.clk.seq.band }
  clkEvent 1 none s.clk.seq.band 0 s

/-- The sequence fails: the neighbouring band nearer the expected count is tried once; then the clock stays on its bypass clock and an
entry is logged (09 R366, R368). -/
def lockFails (s : State) : State :=
  let q := s.clk.seq
  let low := match q.best with
    | some (_, _, low) => low
    | none => false
  if !q.retry then
    let band := if low then min 15 (q.band + 1) else q.band - 1
    { s with clk.seq := { q with step := 2, windows := 0, band := band, retry := true, good := 0 } }
  else
    let s := { s with clk.st := 4 }
    clkEvent 8 none 0 s.clk.lockCount (logErr 0x45 3 0x09 0 s)

/-- The band kept after the last window of the search: the nearest that was counted; or band 0, which the four halvings narrow the interval to without
counting it, where the steps of the counts of bands 2 and 1 put it nearer (09 R366; log 72). -/
def keptBand (s : State) (band count last : Nat) (best : Nat × Nat × Bool) : Nat × Nat × Bool :=
  let zero : Int := 2 * (count : Int) - last
  let err := (zero - clkExpected s).natAbs
  if band = 1 ∧ clkExpected s < count ∧ err < best.2.1 then (0, err, decide (zero < clkExpected s)) else best

/-- A window of the band search (09 R366 step 1): the nearest band so far is kept, and the interval halves. -/
def searchWindow (count : Nat) (s : State) : State :=
  let q := s.clk.seq
  let err := countErr s count
  let low := decide (count < clkExpected s)
  let best := match q.best with
    | some (b, e, l) => if err < e then (q.band, err, low) else (b, e, l)
    | none => (q.band, err, low)
  let half := 4 >>> q.windows
  let next := if low then q.band + half else q.band - half
  if q.windows + 1 = 4 then
    let kept := keptBand s q.band count q.last best
    { s with clk.seq := { q with step := 2, windows := 0, band := kept.1, best := some kept, good := 0 } }
  else { s with clk.seq := { q with windows := q.windows + 1, band := next, best := some best, last := count } }

/-- A window of steps 2 and 3 (09 R366): the delay line is calibrated for 100 us, in whole lock windows; then two consecutive windows
within 1 declare lock. -/
def declareWindow (count : Nat) (s : State) : State :=
  let q := s.clk.seq
  if q.step = 2 then
    let need := if refInUse s = 1 then 1 else if refInUse s = 2 then 2 else 3
    if need ≤ q.windows + 1 then { s with clk.seq := { q with step := 3, windows := 0, good := 0 } }
    else { s with clk.seq := { q with windows := q.windows + 1 } }
  else if countErr s count ≤ 1 then
    if 1 ≤ q.good then declareLock s else { s with clk.seq := { q with good := 1 } }
  else lockFails s

/-- LOCK_WINDOW (09 R366, R369, R373): 1024 reference cycles end with a count. -/
def lockWindow (count : Nat) (s : State) : State :=
  if s.clk.st = 0 then
    let s := { s with clk.lockCount := count }
    if 2 < countErr s count then bypassSwitch 1 (if s.clk.refPresent then 2 else 1) s else s
  else if s.clk.st = 3 then
    let s := { s with clk.lockCount := count }
    if s.clk.seq.step = 1 then searchWindow count s else declareWindow count s
  else s

/-- HOLDOFF_EXPIRY (09 R373): the reference has stayed present for 10 ms. -/
def holdoffExpiry (s : State) : State := if s.clk.st = 2 then startLock s else s

/-- LOCK_RETRY (09 R368). -/
def lockRetry (s : State) : State := if s.clk.st = 4 then startLock s else s

/-! ### Outputs (09 R374 to R384) -/

/-- The highest nominal frequency of a FORMAT, MHz (09 R374). -/
def formatLimit : Nat → Nat
  | 1 => 200 | 3 => 250 | _ => 550

/-- A shape of one output alone starts (09 R384, R387). -/
def ownShape (host : Bool) (dy : Int) (s : State) (x : ClkOut) : ClkOut :=
  if dy = 0 then x else { x with own := x.own ++ [(host, { dy := dy, segs := s.clk.shape, t := 0 })] }

/-- The bypass clock is the internal oscillator (09 R370). -/
def bypassInternal (s : State) : Bool := clockBypass s && (s.clk.bypass == 1 || !s.clk.refPresent)

/-- The output runs on the bypass clock: RUN_ON_BYPASS, and a divider of at least 2 (09 R378). -/
def runsOnBypass (s : State) (x : ClkOut) : Bool :=
  let fb := if bypassInternal s then 200000 else refKhz (refInUse s)
  x.flags.testBit 1 && decide (2 * 2 ^ 32 * 1100000 ≤ x.div * fb)

/-- On the bypass clock an output that does not run on it is held in its inactive state: low, or high where the falling edge is on time; its level is
none elsewhere (09 R378). -/
def heldLevel (s : State) (x : ClkOut) : Option Bool :=
  if clkOutOn x && clockBypass s && !runsOnBypass s x then some (x.flags.testBit 2) else none

/-- The period on the bypass clock in 2^-32 of its cycles: D x f_b / 1.1 GHz (09 R378). -/
def bypassPeriod (s : State) (x : ClkOut) : Nat :=
  x.div * (if bypassInternal s then 200000 else refKhz (refInUse s)) / 1100000

/-- A FORMAT and a D that wait take effect (09 R376). -/
def takeFormat (x : ClkOut) : ClkOut := match x.pend with
  | some (f, d) => { x with format := f, div := d, pend := none, aligned := false, carry := 0 }
  | none => x

/-- CLK_OUT (09 R374, R376, R387, R389). -/
def clkOutAct (p : Packet) (s : State) : CmdOut :=
  let b := p.params
  let o := u8 b 0
  let f := u8 b 1
  let fl := u8 b 2
  let div := u32 b 4 * 2 ^ 32 + u32 b 8
  rejectIf (decide (3 < o) || decide (4 < f) || decide (7 < fl) || !zeroAt b 3 1
    || (if f = 0 then u32 b 4 != 0 || u32 b 8 != 0
        else decide (u32 b 4 < 2) || decide (16777215 < u32 b 4) || decide (formatLimit f * div < 1100 * 2 ^ 32))) .badValue <|
  let x := clkOutOf s o
  let y : ClkOut :=
    if f = 0 then { ClkOut.initial with flags := fl }
    else if x.format = 0 then { ClkOut.initial with format := f, flags := fl, div := div }
    else
      let change := f != x.format || div != x.div
      let follow := fl.testBit 0 != clkFollow x
      let x := if follow then ownShape false (if fl.testBit 0 then shapedYF s 0 else -(shapedYF s 0)) s x else x
      let y : ClkOut := { x with flags := fl, pend := if change then some (f, div) else none, aligned := x.aligned && !change && !follow }
      if clockBypass s && !runsOnBypass s x then takeFormat y else y
  done (modClkOut o (fun _ => y) s)

def specClkOut : OpSpec := plainOp 0x0902 false 12 clkOutAct

/-- The milliseconds to the epoch at which a sweep starts: the next one, or the next whole second of TC, by the labels that a step to come will give (09
R390). -/
def sweepAhead (s : State) (whole : Bool) : Nat :=
  if whole then ((upto 2001).find? (fun i => i != 0 && (labelAhead s i).1 % 1000 == 0)).getD 1000 else 1

/-- y_H that the output will have `k` ms ahead, 10^-15. -/
def yHAt (s : State) (o k : Nat) : Int := yHOf ((upto k).foldl (fun x _ => sweepTick x) (clkOutOf s o))

/-- The sweep's y_H at each segment end stays within 100 ppm (09 R384, R390). -/
def sweepInside : Int → List (Int × Nat) → Bool
  | y, [] => decide (y.natAbs ≤ 100000000000)
  | y, (r, d) :: rest => decide ((y + r * d).natAbs ≤ 100000000000) && sweepInside (y + r * d) rest

/-- CLK_RAMP (09 R382, R384, R390). -/
def clkRampAct (p : Packet) (s : State) : CmdOut :=
  let b := p.params
  let k := u8 b 0
  let o := u8 b 1
  let n := u8 b 2
  let es := chunks 8 n (b.drop 8)
  let segs := es.map (fun e => (u32 e 0, u32 e 4))
  let sweep := es.map (fun e => (i32 e 0, u32 e 4))
  let okDur := es.all (fun e => decide (1 ≤ u32 e 4 ∧ u32 e 4 ≤ 60000))
  let bad1 := k == 1 && (o != 255 || n == 0 || decide (16 < n) || u8 b 3 != 0 || segs.any (fun e => decide (16777216 < e.1)) || !okDur
    || segs.foldl (fun (m : Nat) e => m + e.1 * e.2) 0 != 2 ^ 24 || decide (60000 < shapeLen segs))
  let bad2 := k == 2 && (decide (3 < o) || n == 0 || decide (16 < n) || decide (1 < u8 b 3)
    || sweep.any (fun e => decide (2000000000 < e.1.natAbs)) || !okDur)
  let bad3 := k == 3 && (decide (3 < o) || n != 0 || u8 b 3 != 0)
  rejectIf (k == 0 || decide (3 < k) || !zeroAt b 4 4 || bad1 || bad2 || bad3) .badValue <|
  if k = 1 then done { s with clk.shape := segs }
  else
    rejectIf (!clkOutOn (clkOutOf s o)) .badState <|
    if k = 2 then
      rejectIf (!sweepInside (yHAt s o (sweepAhead s (u8 b 3 == 1))) sweep) .badState <|
      done (modClkOut o (fun x => { x with nextSweep := some (sweep, u8 b 3 == 1) }) s)
    else done (modClkOut o (fun x => ownShape true (-(1000 * x.yH)) s { x with yH := 0, sweep := none, nextSweep := none }) s)

def specClkRamp : OpSpec := { plainOp 0x0903 false 8 clkRampAct with maxLen := 136, form := fun b => some (8 + 8 * u8 b 2) }

/-- HOST_SWEEP_COMPLETE (09 R384, R393): the last segment has ended. -/
def hostSweepComplete (o : Nat) (s : State) : State := match (clkOutOf s o).sweep with
  | some w => if w.isEmpty then clkEvent 7 (some o) 0 0 (modClkOut o (fun x => { x with sweep := none }) s) else s
  | none => s

/-- CORRECTION_SHAPE_COMPLETE (09 R383): shapes that have run to their ends. -/
def shapeComplete (s : State) : State :=
  let s := { s with clk.shapes := s.clk.shapes.filter (fun z => !shapeDone z) }
  foldS (fun o t => modClkOut o (fun x => { x with own := x.own.filter (fun z => !shapeDone z.2) }) t) (upto 4) s

/-! ### SYNC_IN and alignment (09 R385, R386, R391) -/

/-- How far an instant of the scale (ps) lies after the whole second nearest to it (08 R331). -/
def afterSecond (t : Int) : Int :=
  let r := t % 1000000000000
  if r < 500000000000 then r else r - 1000000000000

/-- SYNC_IN_EDGE (09 R385, R386, R392; 08 R331; 04 R162): an edge `g` grid units after the last epoch; its instant is the tagged one less the
TYPE 5 delay. -/
def syncInEdge (rising : Bool) (g : Nat) (s : State) : State :=
  if (s.clk.edge == 0) != rising then s
  else
    let s := { s with clk.syncEdges := (s.clk.syncEdges + 1) % 2 ^ 32 }
    let p := nearestGrid s.nunar.pos + g
    let at' := p * gridOne - psToGrid s.nunar (timDelay s 5 0)
    let s := if s.clk.fn = 0 ∨ clockBypass s ∨ !s.nunar.running then s else
      { s with clk.align := s.clk.align.map (fun a =>
          if a.src = 0 ∧ a.seen.isNone then { a with seen := some at' } else a) }
    if s.clk.fn ≠ 2 ∨ clockBypass s ∨ !s.nunar.running then s
    else
      let d := afterSecond (gridInstant s p - timDelay s 5 0)
      let keep := match s.nunar.sync with
        | some e => decide (e.natAbs ≤ d.natAbs)
        | none => false
      let s := if keep then s else { s with nunar.sync := some d }
      match s.acq.aid.timeWaits with
      | some w =>
        let ns := (gridInstant s p - timDelay s 5 0) / 1000 - (s.epochMs : Int) * 1000000
        if timeLate s then s else { s with acq.aid.time := some (w.1 - ns, w.2.1, s.ms), acq.aid.timeWaits := none }
      | none => s

/-- CLK_SYNC (09 R386, R387, R391). -/
def clkSyncAct (p : Packet) (s : State) : CmdOut :=
  let b := p.params
  let fn := u8 b 0
  let m := u8 b 2
  rejectIf (decide (2 < fn) || decide (1 < u8 b 1) || decide (15 < m) || decide (1 < u8 b 3) || (m == 0 && u8 b 3 != 0)) .badValue <|
  rejectIf ((s.clk.fn == 2 && fn != 2 && s.nunar.source != 0) || (m != 0 && u8 b 3 == 0 && fn == 0)
    || (u8 b 3 == 1 && s.nunar.st == 5) || (maskBits 4 m).any (fun o => !clkOutOn (clkOutOf s o))) .badState <|
  let second := cdiv (1000 * s.epochMs + p.obs.subUs + 200000) 1000000 * 1000
  let al : Align := { outputs := m, src := u8 b 3, second := second, seen := none, armedMs := nowMs s }
  let s := if s.clk.fn = 2 ∧ fn ≠ 2 then lapseTime 3 s else s
  done { s with
    clk.syncEdges := 0, clk.fn := fn, clk.edge := u8 b 1,
    clk.align := if m = 0 then none else some al }

def specClkSync : OpSpec := plainOp 0x0904 false 4 clkSyncAct

/-- ALIGNMENT_EXPIRY (09 R386): 2 s without an edge. -/
def alignmentExpiry (s : State) : State := match s.clk.align with
  | some a => if a.src = 0 ∧ a.seen.isNone ∧ instantReached (a.armedMs + 2000) s then cancelAlign s else s
  | none => s

/-- The place of the whole second labelled `w`, in 2^-32 grid units. -/
def secondPlace (s : State) (w : Nat) : Int :=
  if s.epochMs ≤ w then idealAhead s (w - s.epochMs) else s.nunar.pos - ((s.epochMs - w : Nat) : Int) * msLen s.nunar

/-- The phase move that an armed alignment makes in the cycle that starts at `e` and would last `period`, in 2^-32 grid units (09 R386): after a
SYNC_IN edge, in the first cycle that starts at least 2 us later; for a whole second, in the cycle that would end last before it. A step at that
second comes first: where its first epoch is that second, the cycle ends on the second as the step places it, and else it waits for the step (09 R387); what has
not been aligned at its second is aligned to it afterwards. -/
def alignMove (s : State) (o : Nat) (e period : Int) : Option Int := match s.clk.align with
  | some a =>
    if !a.outputs.testBit o then none
    else if a.src = 0 then match a.seen with
      | some t => if t + psToGrid s.nunar 2000000 ≤ e then some ((t - e) % period) else none
      | none => none
    else
      let w := secondPlace s a.second
      let waits := match s.nunar.step with
        | some p => decide (p.boundary < a.second) || (p.boundary == a.second && stepK p.d != 0)
        | none => false
      if waits then none
      else if a.second ≤ s.epochMs then some ((w - e) % period)
      else if e + period ≤ w ∧ w < e + 2 * period then some (w - e - period)
      else none
  | none => none

/-- A phase move in ps, from 2^-32 grid units: 28.409 ps to the grid unit (09 R393). -/
def movePs (d : Int) : Int := roundDiv (d * 10000) (352 * 2 ^ 32)

/-- An on-time edge at its place, where a waiting FORMAT and D take effect, and the high phase that goes with it: the nominal half period, of the
cycle that begins with a rising edge or of the one that ends with a falling edge (09 R375, R376, R389). -/
def placeOut (e : Int) (x : ClkOut) : ClkOut :=
  let p := nearestGrid e
  let y := takeFormat x
  if x.flags.testBit 2 then { y with placed := p, rise := p - halfPeriod x.div, fall := p }
  else { y with placed := p, rise := p, fall := p + halfPeriod y.div }

/-- An output's on-time edge at the ideal instant `e`, and the ideal instant of the next (09 R375 to R377, R386). -/
def outEdgeAt (o : Nat) (e : Int) (s : State) : State :=
  let s := modClkOut o (placeOut e) s
  let us := ((e - s.nunar.pos) * 1000 / s.nunar.plan).toNat
  let sp := outSpacing (outOffset s o us) (clkOutOf s o)
  let go := fun (m : Int) => modClkOut o (fun x => { x with next := some (e + sp.1 + m), carry := sp.2 })
  match alignMove s o e sp.1 with
  | some m =>
    let steps := (s.nunar.step.map (·.boundary)).isSome && (s.nunar.step.map (·.boundary)) == (s.clk.align.map (·.second))
    let s := go m (modClkOut o (fun x => { x with aligned := true, onStep := steps }) s)
    let rest := fun (a : Align) => setBit a.outputs o false
    let s := { s with clk.align := s.clk.align.bind (fun a =>
      if rest a = 0 then none else some { a with outputs := rest a }) }
    clkEvent 5 (some o) 0 (movePs m) s
  | none => go 0 s

/-- An on-time edge on the bypass clock, on the cycle nearest its ideal place, and the ideal place of the next (09 R378). -/
def bypassEdge (s : State) (x : ClkOut) : ClkOut :=
  let y := takeFormat x
  { y with byEdge := (x.byNext + 2 ^ 31 - 1) / 2 ^ 32, byNext := x.byNext + bypassPeriod s y }

/-- CLKOUT_ON_TIME_EDGE (09 R375 to R378, R386): the output's next on-time edge, where it lies in the millisecond in progress; an output that
starts does so `g` grid units after the last epoch (R389). On the bypass clock edges lie on its cycles. -/
def clkOutEdge (o g : Nat) (s : State) : State :=
  let x := clkOutOf s o
  if !clkOutOn x then s
  else if clockBypass s then (if runsOnBypass s x then modClkOut o (bypassEdge s) s else s)
  else if !s.nunar.running then s
  else
    let e := x.next.getD ((nearestGrid s.nunar.pos + g) * gridOne)
    if e < s.nunar.pos + s.nunar.plan then outEdgeAt o e s else s

/-! ### CLK_REF and CLK_STATUS (09 R388, R392) -/

/-- CLK_REF (09 R387, R388): a change of FREQ or INPUT forces a relock. -/
def clkRefAct (p : Packet) (s : State) : CmdOut :=
  let b := p.params
  rejectIf (decide (3 < u8 b 0) || decide (1 < u8 b 1) || decide (1 < u8 b 2) || !zeroAt b 3 1) .badValue <|
  let relock := u8 b 0 != s.clk.freq || u8 b 2 != s.clk.input
  let was := s.clk.st
  let t := { s with clk.freq := u8 b 0, clk.bypass := u8 b 1, clk.input := u8 b 2 }
  if relock then
    let t := { t with clk.refPresent := false, clk.refFreq := 0, clk.goodWindows := 0, clk.wasPresent := false }
    done (if was = 0 then bypassSwitch 3 1 t else { t with clk.st := 1 })
  else done t

def specClkRef : OpSpec := plainOp 0x0901 true 4 clkRefAct

/-- OUT_STATE of one output (09 R392). -/
def outState (s : State) (o : Nat) : Nat :=
  let x := clkOutOf s o
  let on := clkOutOn x
  let by' := on && clockBypass s
  let armed := match s.clk.align with
    | some a => a.outputs.testBit o
    | none => false
  b2n on + 2 * b2n (clkFollow x) + 4 * b2n x.aligned + 8 * b2n (shapesRun s o) + 16 * b2n x.sweep.isSome
    + 32 * b2n (by' && !runsOnBypass s x) + 64 * b2n (by' && runsOnBypass s x) + 128 * b2n armed

/-- CLK_STATUS (09 R392). -/
def clkStatusAct (_ : Packet) (s : State) : CmdOut :=
  let c := s.clk
  let flags := b2n c.refPresent + 2 * b2n (clockBypass s) + 4 * b2n (bypassInternal s) + 8 * b2n (c.freq == 0)
  answer (le 1 c.st ++ le 1 (refInUse s) ++ le 1 (c.band.getD 255) ++ le 1 flags ++ le 4 c.lockCount ++ le 4 (clkExpected s)
    ++ le 2 c.losses ++ le 2 c.searches ++ (upto 4).flatMap (fun o => le 1 (outState s o)) ++ leI 4 (clkLag s) ++ le 1 c.fn
    ++ le 1 c.edge ++ zeros 2 ++ le 4 c.syncEdges) s

def specClkStatus : OpSpec := plainOp 0x0905 false 0 clkStatusAct

/-! ### The rows -/

def execClkRef (p : Packet) (s : State) : Host.Outcome State Fault Refusal := .next (runCmd specClkRef p s)
def execClkOut (p : Packet) (s : State) : Host.Outcome State Fault Refusal := .next (runCmd specClkOut p s)
def execClkRamp (p : Packet) (s : State) : Host.Outcome State Fault Refusal := .next (runCmd specClkRamp p s)
def execClkSync (p : Packet) (s : State) : Host.Outcome State Fault Refusal := .next (runCmd specClkSync p s)
def execClkStatus (p : Packet) (s : State) : Host.Outcome State Fault Refusal := .next (runCmd specClkStatus p s)
def execSyncInEdge (rising : Bool) (g : Nat) (s : State) : Host.Outcome State Fault Refusal :=
  .next (if mainRuns s then syncInEdge rising g s else s)
def execRefMonitorWindow (khz : Nat) (s : State) : Host.Outcome State Fault Refusal :=
  .next (if mainRuns s then refMonitor khz (monitorTime s) else s)
def execLockWindow (count : Nat) (s : State) : Host.Outcome State Fault Refusal :=
  .next (if mainRuns s then lockWindow count s else s)
def execHoldoffExpiry (s : State) : Host.Outcome State Fault Refusal := .next (if mainRuns s then holdoffExpiry s else s)
def execLockRetry (s : State) : Host.Outcome State Fault Refusal := .next (if mainRuns s then lockRetry s else s)
def execHostSweepComplete (out : Fin 4) (s : State) : Host.Outcome State Fault Refusal :=
  .next (if mainRuns s then hostSweepComplete out s else s)
def execAlignmentExpiry (s : State) : Host.Outcome State Fault Refusal := .next (if mainRuns s then alignmentExpiry s else s)
def execClkoutOnTimeEdge (out : Fin 4) (g : Nat) (s : State) : Host.Outcome State Fault Refusal :=
  .next (if mainRuns s then clkOutEdge out g s else s)
def execCorrectionShapeComplete (s : State) : Host.Outcome State Fault Refusal := .next (shapeComplete s)

end Sys2Proof.Machine
end

