-- ==== Sys2Proof/Machine/Profile.lean ====
section
/-! DEFINITION. Operating profiles and gated islands (01 R21 to R31, R42 to R49). -/
namespace Sys2Proof.Machine

/-! ### Envelopes (01 R42, R47) -/

/-- A profile's column with its default masks, in the layout of PRF_CUSTOM: Fabric, Sentinel, Survey, Wide Search, Burst. -/
def column (n : Nat) : Envelope :=
  match n with
  | 0 => { base := 0, link := true, channels := 192, aprMask := 0xFFFFFF, measRate := 1000, tulRate := 1000, tulGroups := 4,
           duty := 25, krnMask := 0xFFFF, bankMask := 0xFFFF, iqSlices := 12, outBudget := 12000 }
  | 1 => { base := 1, link := true, channels := 192, aprMask := 0xFFFFFF, measRate := 100, tulRate := 100, tulGroups := 1,
           duty := 20, krnMask := 0xF, bankMask := 0xFFF, iqSlices := 4, outBudget := 4000 }
  | 3 => { base := 3, link := true, channels := 64, aprMask := 0xFFFFFF, measRate := 10, tulRate := 10, tulGroups := 1,
           duty := 100, krnMask := 0xF, bankMask := 0xFF, iqSlices := 12, outBudget := 12000 }
  | 4 => { base := 4, link := false, channels := 48, aprMask := 0xFFFFFF, measRate := 50, tulRate := 0, tulGroups := 0,
           duty := 25, krnMask := 0, bankMask := 0x3, iqSlices := 0, outBudget := 200 }
  | _ => Envelope.survey

/-- The envelope fits its base profile's column (01 R48); an APR_MASK without a bit fits, though the column counts from one (DESIGN CHOICE, log 76). -/
def insideColumn (e : Envelope) : Bool :=
  let c := column e.base
  (!e.link || c.link) && decide (e.channels ≤ c.channels) && decide (popcount 24 e.aprMask ≤ columnApertures e.base)
    && decide (e.measRate ≤ c.measRate) && decide (e.tulRate ≤ c.tulRate) && decide (e.tulGroups ≤ c.tulGroups)
    && decide (e.duty ≤ c.duty) && decide (popcount 16 e.krnMask ≤ popcount 16 c.krnMask)
    && decide (popcount 16 e.bankMask ≤ popcount 16 c.bankMask) && decide (e.iqSlices ≤ c.iqSlices)
    && decide (e.outBudget ≤ c.outBudget)

/-- The envelope as 24 bytes (01 R48). -/
def envBytes (e : Envelope) : List Byte :=
  le 1 e.base ++ le 1 (b2n e.link) ++ le 2 e.channels ++ le 4 e.aprMask ++ le 2 e.measRate ++ le 2 e.tulRate ++ le 1 e.tulGroups
    ++ le 1 e.duty ++ le 2 e.krnMask ++ le 2 e.bankMask ++ le 1 e.iqSlices ++ [0] ++ le 4 e.outBudget

/-- The envelope that PRF_CUSTOM's parameters spell. -/
def envIn (b : List Byte) : Envelope :=
  { base := u8 b 0, link := u8 b 1 == 1, channels := u16 b 2, aprMask := u32 b 4, measRate := u16 b 8, tulRate := u16 b 10,
    tulGroups := u8 b 12, duty := u8 b 13, krnMask := u16 b 14, bankMask := u16 b 16, iqSlices := u8 b 18, outBudget := u32 b 20 }

/-- PRF_CUSTOM's parameters lie in the Range column (01 R48). -/
def customOk (b : List Byte) : Bool :=
  let e := envIn b
  decide (e.base ≤ 4) && decide (u8 b 1 ≤ 1) && decide (e.channels ≤ 192) && decide (e.aprMask < 2 ^ 24)
    && e.measRate != 0 && 1000 % e.measRate == 0 && (e.tulRate == 0 || e.measRate % e.tulRate == 0)
    && decide (e.tulGroups ≤ 4) && ((e.tulGroups == 0) == (e.tulRate == 0)) && decide (e.duty ≤ 100) && e.bankMask != 0
    && decide (e.iqSlices ≤ 12) && zeroAt b 19 1 && decide (1 ≤ e.outBudget ∧ e.outBudget ≤ 12000)

/-! ### Current work (01 R25, R44, R46) -/

/-- A core holds active work: a running kernel, a failover in progress, or a place in the spare pool (01 R25, 14 R563). -/
def coreWorks (s : State) (k : Nat) : Bool := coreActive (coreOf s k) || coreTaken (coreOf s k) k || coreSpare s k

/-- The measurement rates in force and waiting fit (01 R44). -/
def ratesFit (e : Envelope) (r d : Nat) : Bool :=
  decide (r ≤ e.measRate) && (d == 0 || (e.tulGroups != 0 && decide (r ≤ e.tulRate * d)))

/-- The highest core of a mask: the one that the timecode reserves (01 R46). -/
def topCore (m : Nat) : Option Nat := (maskBits 16 m).getLast?

/-- A Tulle group that is defined fits the envelope (01 R44). -/
def groupFits (s : State) (e : Envelope) (g : Nat) : Bool := match latestDef (groupOf s g) with
  | some d => decide (g < e.tulGroups) && d.members.all (fun m => e.aprMask.testBit m.apr)
  | none => true

/-- All current work fits inside a new envelope, but for the routed rates (01 R44, 04 R151). -/
def workFits (s : State) (e : Envelope) : Bool :=
  let on := (upto 24).filter (fun a => aprEnabledNext (aprOf s a))
  let cs := assignedChannels s
  decide (on.length ≤ aprCount e) && on.all (fun a => e.aprMask.testBit a)
    && decide (cs.length ≤ e.channels)
    && cs.all (fun c => (chanAprs s c).all (fun a => e.aprMask.testBit a) && ((chanCfgNext (chanOf s c)).dllMode != 3 || e.base == 2))
    && ratesFit e s.rates.rateHz s.rates.tulDiv
    && (match s.meas.pendRates with | some (r, d) => ratesFit e r d | none => true)
    && (upto 4).all (groupFits s e)
    && (upto 16).all (fun k => !coreWorks s k || e.krnMask.testBit k)
    && (!timecodeOn s || (match topCore e.krnMask with | some k => !coreWorks s k | none => false))
    && (upto 16).all (fun b => !(bankOf s b).powered || bankIdle s b || e.bankMask.testBit b)
    && (linkIdle s || e.link)
    && decide ((iqStreams s).length ≤ e.iqSlices)
    && (!acqActive s || e.duty != 0)

/-- The island is busy: it holds active work (01 R25). An aperture whose disable has been accepted and waits for its epoch holds none (log 53). -/
def islandBusy (s : State) (i : Nat) : Bool :=
  if i < 24 then aprEnabledNext (aprOf s i)
  else if i = 24 then acqActive s
  else if i = 25 then !(assignedChannels s).isEmpty
  else if i < 42 then coreWorks s (i - 26)
  else !linkIdle s

/-- The island's own mask admits it (01 R26); Damask and the tracking array lie inside every envelope. -/
def islandAllowed (e : Envelope) (i : Nat) : Bool :=
  if i < 24 then e.aprMask.testBit i
  else if i < 26 then true
  else if i < 42 then e.krnMask.testBit (i - 26)
  else e.link

/-! ### Power of islands (01 R24, R29) -/

/-- A core's island loses its state; the image store and the records stand in the control cluster (14 R551). A core without an image, which 01 R29 calls
halted, is idle in STATE (DESIGN CHOICE, log 76). -/
def coreOff (c : Core) : Core :=
  { c with
    phase := if c.phase = .quarantined then .quarantined else .idle, prog := [], dmem := [], segs := [], regs := [], accs := [],
    pc := 0, cyc := 0, ie := false, rep := none, slot := none, stalled := none, posted := [], stopDue := false, irqPend := 0,
    irqEn := 0, ivec := 0, ipc := 0, emitAddr := 0, emitLen := 0, emitStat := 0, emitGen := 0, rings := [], inbox := [],
    outbox := [], outboxN := 0 }

/-- What the blocks of an island lose as it goes off (01 R24). -/
def dropIsland (i : Nat) (s : State) : State :=
  if i < 24 then { s with apertures := tset Aperture.initial s.apertures i Aperture.initial }
  else if i = 24 then
    { s with acq.segs := [], acq.endedSegs := [], acq.used := 0, acq.windowAt := none, acq.windowLen := 0, acq.allow := 0 }
  else if i = 25 then
    let t := voileStop 5 (burstLeave s)
    { t with burst := { Burst.initial with gated := t.burst.gated } }
  else if i < 42 then modCore (i - 26) coreOff s
  else linkOff s

/-- Power an island off, which may be gated between bursts; a slice on one of its blocks is aborted (01 R24, R30; 05 R246; 17 R621). -/
def islandOff (i : Nat) (s : State) : State :=
  if countsOn s i then
    let s := match s.bst.active with
      | some r => if blockIsland r.block = i then abortSlice s else s
      | none => s
    let s := dropIsland i s
    { s with
      burst.gated := setBit s.burst.gated i false,
      islands := { powered := setBit s.islands.powered i false, ready := setBit s.islands.ready i false } }
  else s

/-- Power an island on: READY follows with ISLAND_READY (01 R29). -/
def islandPowerOn (i : Nat) (s : State) : State := { s with islands.powered := setBit s.islands.powered i true }

/-- ISLAND_READY (01 R29): an aperture's ADC calibration may have failed, and it has no clock on the bypass clock (03 R134, R135). An island
that was gated between bursts is written back (03 R133; 05 R247). -/
def islandReadyStep (i : Nat) (calFail : Bool) (s : State) : State :=
  if islandOn s i && !s.islands.ready.testBit i then
    let gated := s.burst.gated.testBit i
    let s := { s with islands.ready := setBit s.islands.ready i true, burst.gated := setBit s.burst.gated i false }
    if i < 24 then
      let s := if gated then aprRestore i s else s
      let s := if calFail then aprRaise i 2 s else s
      if clockBypass s then aprRaise i 3 s else s
    else if i = 42 then linkReadyStep s
    else s
  else s

/-! ### PRF_SELECT, PRF_CUSTOM (01 R44, R47, R48) -/

/-- The apertures islands to power off so that at most `n` stay on: idle ones, highest-numbered first. -/
def surplusApertures (s : State) (n : Nat) : List Nat :=
  let on := (upto 24).filter (countsOn s)
  ((on.filter (fun a => !islandBusy s a)).reverse).take (on.length - n)

/-- A new envelope takes effect: burst tracking ends with the selection of another profile, Voile falls silent in Burst, idle islands and banks
outside are powered off, banks of the mask are powered on (01 R31, R44; 05 R245; 06 R255). -/
def takeProfile (sel : Nat) (custom : Bool) (e : Envelope) (s : State) : State :=
  let s := if sel ≠ s.profile.sel ∧ s.burst.on then burstLeave s else s
  let s := if sel = 4 ∧ s.profile.sel ≠ 4 then voileStop 5 s else s
  let s := { s with
    profile := { sel := sel, custom := custom, env := e },
    burst.pend := if sel = 4 then s.burst.pend else none }
  let s := foldS islandOff ((upto 43).filter (fun i => countsOn s i && !islandAllowed e i && !islandBusy s i)) s
  let s := foldS islandOff (surplusApertures s (aprCount e)) s
  powerBanks e.bankMask s

/-- Accept a new envelope when all current work fits (01 R44; 12 R486). -/
def tryProfile (sel : Nat) (custom : Bool) (e : Envelope) (s : State) : CmdOut :=
  let p : Profile := { sel := sel, custom := custom, env := e }
  rejectIf (!e.bankMask.testBit 0 || !workFits s e || budgetBroken s { s with profile := p }) .profileLimit <|
  done (takeProfile sel custom e s)

/-- PRF_SELECT (01 R47). -/
def prfSelectAct (p : Packet) (s : State) : CmdOut :=
  let b := p.params
  rejectIf (decide (4 < u8 b 0) || !zeroAt b 1 3) .badValue (tryProfile (u8 b 0) false (column (u8 b 0)) s)

def specPrfSelect : OpSpec := plainOp 0x0201 false 4 prfSelectAct

/-- PRF_CUSTOM (01 R48). -/
def prfCustomAct (p : Packet) (s : State) : CmdOut :=
  let e := envIn p.params
  rejectIf (!customOk p.params) .badValue <|
  rejectIf (!insideColumn e) .profileLimit (tryProfile e.base true e s)

def specPrfCustom : OpSpec := plainOp 0x0202 false 24 prfCustomAct

/-- The number of channel-apertures assigned. -/
def channelApertures (s : State) : Nat := (assignedChannels s).foldl (fun n c => n + (chanAprs s c).length) 0

/-- POWER_MW: the unit figures of 01 applied to the present configuration. -/
def powerMw (s : State) : Nat :=
  160 * ((upto 24).filter (islandOn s)).length
    + (if islandOn s 25 then 96 + (channelApertures s + 2) / 4 else 0)
    + (if islandOn s 24 then 100 + 20 * (if s.acq.running then s.profile.env.duty else 0) else 0)
    + 80 * ((upto 16).filter (fun k => coreActive (coreOf s k))).length
    + 500 + (if s.pcie.link.isSome && s.profile.sel != 4 then 300 else 0) + 300
    + 20 * ((upto 16).filter (fun b => (bankOf s b).powered)).length
    + (if islandOn s 42 then 212 else 0)

/-- PRF_QUERY (01 R49). -/
def prfQueryAct (_p : Packet) (s : State) : CmdOut :=
  answer (le 1 s.profile.sel ++ le 1 (b2n s.profile.custom) ++ le 2 (sat 65535 (powerMw s)) ++ envBytes s.profile.env) s

def specPrfQuery : OpSpec := plainOp 0x0203 false 0 prfQueryAct

/-! ### PWR_ISLANDS (01 R25, R26, R30) -/

/-- The reply of PWR_ISLANDS. -/
def islandsReply (s : State) : List Byte := le 8 s.islands.powered ++ le 8 s.islands.ready

/-- PWR_ISLANDS. -/
def pwrIslandsAct (p : Packet) (s : State) : CmdOut :=
  let b := p.params
  let m := u64 b 0
  let act := u8 b 8
  let named := maskBits 43 m
  let new := named.filter (fun i => !countsOn s i)
  let aprs := ((upto 24).filter (countsOn s)).length + (new.filter (fun i => decide (i < 24))).length
  rejectIf (decide (2 ^ 43 ≤ m) || decide (2 < act) || (act == 2 && m != 0) || !zeroAt b 9 3) .badValue <|
  if act = 0 then
    rejectIf (named.any (fun i => countsOn s i && islandBusy s i)) .badState <|
    let t := foldS islandOff named s
    answer (islandsReply t) t
  else if act = 1 then
    rejectIf (new.any (fun i => !islandAllowed s.profile.env i)
      || (new.any (fun i => decide (i < 24)) && decide (aprCount s.profile.env < aprs))) .profileLimit <|
    let t := foldS islandPowerOn new s
    answer (islandsReply t) t
  else answer (islandsReply s) s

/-- The blocks under test that a power-off reaches (17 R621). -/
def islandsReach (b : List Byte) (s : State) : List Nat :=
  if u8 b 8 = 0 then (upto 57).filter (fun k => blockIsland k != 43 && islandOn s (blockIsland k) && (u64 b 0).testBit (blockIsland k))
  else []

def specPwrIslands : OpSpec := { plainOp 0x0206 false 12 pwrIslandsAct with reach := islandsReach }

def execPrfSelect (p : Packet) (s : State) : Host.Outcome State Fault Refusal := .next (runCmd specPrfSelect p s)
def execPrfCustom (p : Packet) (s : State) : Host.Outcome State Fault Refusal := .next (runCmd specPrfCustom p s)
def execPrfQuery (p : Packet) (s : State) : Host.Outcome State Fault Refusal := .next (runCmd specPrfQuery p s)
def execPwrIslands (p : Packet) (s : State) : Host.Outcome State Fault Refusal := .next (runCmd specPwrIslands p s)
def execIslandReady (i : Fin 43) (calFail : Bool) (s : State) : Host.Outcome State Fault Refusal :=
  .next (islandReadyStep i calFail s)

end Sys2Proof.Machine
end

