-- ==== Sys2Proof/Machine/Security.lean ====
section
/-! DEFINITION. Keys and the life cycle (17 R629 to R638, 02 R100). -/
namespace Sys2Proof.Machine

/-- The code of a life-cycle state (02 R103). -/
def lifeCode : LifeCycle → Nat
  | .blank => 0 | .manufacture => 1 | .provisioned => 2 | .deployed => 3 | .returned => 4

/-- The state of a code. -/
def lifeOf : Nat → Option LifeCycle
  | 0 => some .blank | 1 => some .manufacture | 2 => some .provisioned | 3 => some .deployed | 4 => some .returned
  | _ => none

/-- The active key slots. -/
def activeSlots (s : State) : List Nat := (upto 4).filter (fun k => (slotOf s k).state == 1)

/-- SEC_KEY_INSTALL (17 R634, 02 R86). -/
def secKeyInstallAct (p : Packet) (s : State) : CmdOut :=
  let b := p.params
  let k := u8 b 0
  let key := field b 4 32
  let kcv := (hmac key [0x41, 0x45, 0x4C, 0x45, 0x54, 0x4F, 0x53, 0x4B]).take 4
  rejectIf (decide (3 < k) || !zeroAt b 1 3 || field b 36 4 != kcv || !zeroAt b 40 8) .badValue <|
  rejectIf ((slotOf s k).state == 1) .badState <|
  done (postStatus 0x0F k (secEvent s 1 k 0)
    (reloadKeys (modSlot k (fun x => { x with state := 1, key := key, highWater := 0, failures := 0 }) s)))

def specSecKeyInstall : OpSpec := { plainOp 0x0F01 true 48 secKeyInstallAct with mram := true }

/-- SEC_KEY_RETIRE (17 R635): the high-water mark is kept. -/
def secKeyRetireAct (p : Packet) (s : State) : CmdOut :=
  let b := p.params
  let k := u8 b 0
  rejectIf (decide (3 < k) || !zeroAt b 1 3) .badValue <|
  rejectIf ((slotOf s k).state != 1 || (authNeeded s.security.life && (activeSlots s).length == 1)) .badState <|
  done (postStatus 0x0F k (secEvent s 2 k 0) (reloadKeys (modSlot k (fun x => { x with state := 2, key := [] }) s)))

def specSecKeyRetire : OpSpec := plainOp 0x0F02 true 4 secKeyRetireAct

/-- LOCK_MS: milliseconds of lock remaining, 0 to 1000 (02 R100). -/
def lockMs (s : State) (x : KeySlot) : Nat := match x.lockUntil with
  | some t => sat 1000 (t - nowMs s)
  | none => 0

/-- SEC_COUNTER_QUERY (02 R100). -/
def secCounterQueryAct (p : Packet) (s : State) : CmdOut :=
  let b := p.params
  let x := slotOf s (u8 b 0)
  rejectIf (decide (3 < u8 b 0) || !zeroAt b 1 3) .badValue <|
  answer (le 1 x.state ++ le 1 x.failures ++ le 2 (lockMs s x) ++ le 8 x.highWater) s

def specSecCounterQuery : OpSpec := plainOp 0x0F03 false 4 secCounterQueryAct

/-- SEC_LIFECYCLE (17 R631, R632): the sequence begins with the reply. -/
def secLifecycleAct (p : Packet) (s : State) : CmdOut :=
  let b := p.params
  let t := u8 b 0
  rejectIf (t == 0 || decide (4 < t) || !zeroAt b 1 1 || u16 b 2 != 0xC35A) .badValue <|
  rejectIf (t != lifeCode s.security.life + 1) .lifecycle <|
  rejectIf (t == 2 && (activeSlots s).isEmpty) .badState <|
  done { s with
    ecsol.window := .security,
    security.op := some { zeroize := false, erase := t == 4, scope := 0, burn := lifeOf t, erased := false, doneMs := none } }

def specSecLifecycle : OpSpec := plainOp 0x0F04 true 4 secLifecycleAct

/-- SEC_ZEROIZE (17 R636). -/
def secZeroizeAct (p : Packet) (s : State) : CmdOut :=
  let b := p.params
  rejectIf (decide (1 < u8 b 0) || !zeroAt b 1 1 || u16 b 2 != 0xC35A) .badValue <|
  done { s with
    ecsol.window := .security,
    security.op := some { zeroize := true, erase := true, scope := u8 b 0,
                          burn := if authNeeded s.security.life then some .returned else none, erased := false, doneMs := none } }

def specSecZeroize : OpSpec := plainOp 0x0F05 true 4 secZeroizeAct

/-- Every slot becomes empty with high-water mark 0; SCOPE bit 0 also erases the calibration and parked-aiding regions. In
BLANK a zeroise erases only what SCOPE names (17 R632, R636). -/
def eraseKeys (o : SecOp) (s : State) : State :=
  let s := if s.security.life = .blank then s else
    reloadKeys (foldS (fun k t => modSlot k (fun x => { x with state := 0, key := [], highWater := 0 }) t) (upto 4) s)
  if o.scope.testBit 0 then eraseRegions s else s

/-- Commit step 4 of the sequence: event 3 for SEC_ZEROIZE, event 4 for SEC_LIFECYCLE (17 R632, R636, R638). -/
def secStep4 (o : SecOp) (s : State) : State :=
  let s := { s with security.op := some { o with doneMs := some (nowMs s) } }
  if o.zeroize then postStatus 0x0F 0 (secEvent s 3 255 o.scope) s
  else postStatus 0x0F 0 (secEvent s 4 255 (lifeCode s.security.life)) s

/-- KEY_ERASURE_DONE (17 R632 step 2, R636). -/
def keyErasureDone (s : State) : State := match s.security.op with
  | some o =>
    if o.erase ∧ !o.erased then
      let o' := { o with erased := true }
      let t := { eraseKeys o s with security.op := some o' }
      if o.burn.isNone then secStep4 o' t else t
    else s
  | none => s

/-- FUSE_BURN_DONE (17 R632 steps 3 and 4). -/
def fuseBurnDone (s : State) : State := match s.security.op with
  | some o => match o.burn with
    | some l => if (o.erase && !o.erased) || o.doneMs.isSome then s else secStep4 o { s with security.life := l }
    | none => s
  | none => s

/-- An interrupted sequence is completed at the next start, before FW_READY (17 R629, R637). -/
def completeSecOp (s : State) : State := match s.security.op with
  | some o =>
    let s := if o.erase && !o.erased then eraseKeys o s else s
    let s := match o.burn with
      | some l => if o.doneMs.isSome then s else { s with security.life := l }
      | none => s
    { s with security.op := none }
  | none => s

def execSecKeyInstall (p : Packet) (s : State) : Host.Outcome State Fault Refusal := .next (runCmd specSecKeyInstall p s)
def execSecKeyRetire (p : Packet) (s : State) : Host.Outcome State Fault Refusal := .next (runCmd specSecKeyRetire p s)
def execSecCounterQuery (p : Packet) (s : State) : Host.Outcome State Fault Refusal := .next (runCmd specSecCounterQuery p s)
def execSecLifecycle (p : Packet) (s : State) : Host.Outcome State Fault Refusal := .next (runCmd specSecLifecycle p s)
def execSecZeroize (p : Packet) (s : State) : Host.Outcome State Fault Refusal := .next (runCmd specSecZeroize p s)
def execFuseBurnDone (s : State) : Host.Outcome State Fault Refusal := .next (fuseBurnDone s)
def execKeyErasureDone (s : State) : Host.Outcome State Fault Refusal := .next (keyErasureDone s)

end Sys2Proof.Machine
end

