-- ==== Sys2Proof/Machine/System.lean ====
section
/-! DEFINITION. Identification, status, the error log's commands, and the routes and filters of messages (02 R103; 17 R643
to R646; 12 R487, R489). -/
namespace Sys2Proof.Machine

/-- SYS_IDENTIFY (02 R103). -/
def sysIdentifyAct (_p : Packet) (s : State) : CmdOut :=
  answer ([0x59, 0x24, 0x0C] ++ le 1 (lifeCode s.security.life) ++ le 4 Config.fwVersion.toNat ++ le 8 Config.uniqueId.toNat
    ++ le 2 0x0100 ++ le 2 4096 ++ zeros 4) s

def specSysIdentify : OpSpec := plainOp 0x0101 false 0 sysIdentifyAct

/-- The DROPS of every port, PCIe's being those of its rings (17 R646). -/
def portDrops (s : State) : Nat :=
  ([HostPort.spi, .u0, .u1, .muslin].foldl (fun n p => n + (portOf s p).drops) 0)
    + (upto 4).foldl (fun n r => n + (ringOf s r).drops) 0

/-- The POWERED and READY masks of PWR_ISLANDS (01 R30). -/
def islandMasks (s : State) : List Byte := le 8 s.islands.powered ++ le 8 (s.islands.ready &&& s.islands.powered)

/-- SYS_STATUS (17 R646). -/
def sysStatusAct (p : Packet) (s : State) : CmdOut :=
  let flags := b2n (faultAsserted s) + 2 * b2n s.bst.enable + 4 * b2n s.bst.active.isSome
    + 8 * b2n ((upto 4).any (fun k => (slotOf s k).lockUntil.isSome)) + 16 * b2n s.security.op.isSome
  let failed := (upto 57).filter (fun b => (bstOf s b).result == 2)
  let untested := (upto 57).filter (fun b => (bstOf s b).result == 0)
  answer (le 1 (lifeCode s.security.life) ++ le 1 s.profile.sel ++ le 1 (nunarCode s) ++ le 1 (clockCode s) ++ le 1 flags
    ++ le 1 (logHeld s.errlog).length ++ le 1 (logMaxSev s.errlog) ++ le 1 (bitsMask (activeSlots s))
    ++ le 8 (nowMs s - s.power.readyMs) ++ le 2 p.obs.dieTemp.toNat ++ le 1 failed.length ++ le 1 untested.length
    ++ le 8 (bitsMask failed) ++ islandMasks s ++ le 4 s.bst.slices ++ le 4 s.bst.aborted
    ++ le 4 (sat 0xFFFFFFFF (portDrops s)) ++ le 2 s.errlog.dropped ++ le 2 s.errlog.displaced ++ zeros 4) s

def specSysStatus : OpSpec := plainOp 0x0102 false 0 sysStatusAct

/-- Insert an entry behind those whose FIRST_MS is not later: the order of SYS_ERRLOG_READ (17 R644). -/
def insertByFirst (e : LogEntry) : List LogEntry → List LogEntry
  | [] => [e]
  | h :: t => if e.first < h.first then e :: h :: t else h :: insertByFirst e t

/-- Entries by FIRST_MS, then creation, LOG_OVERFLOW last (17 R644). -/
def logOrdered (l : ErrLog) : List LogEntry := l.entries.foldl (fun acc e => insertByFirst e acc) [] ++ l.overflow.toList

/-- SYS_ERRLOG_READ (17 R644). -/
def sysErrlogReadAct (p : Packet) (s : State) : CmdOut :=
  let b := p.params
  let es := ((logOrdered s.errlog).drop (u8 b 0)).take (u8 b 1)
  rejectIf (decide (127 < u8 b 0) || decide (128 < u8 b 1) || !zeroAt b 2 2) .badValue <|
  answer (le 1 es.length ++ le 1 (logHeld s.errlog).length ++ le 2 s.errlog.dropped ++ le 2 s.errlog.displaced
    ++ le 1 (logMaxSev s.errlog) ++ le 1 (b2n s.errlog.kept) ++ es.flatMap logBytes) s

def specSysErrlogRead : OpSpec := plainOp 0x0104 false 4 sysErrlogReadAct

/-- Re-arm the first class 1 discard entry of every port (12 R463, 17 R645). -/
def armDrops (s : State) : State := foldS (fun p t => modPort p (fun x => { x with dropArmed := true }) t) allPorts s

/-- SYS_ERRLOG_CLEAR (17 R645). -/
def sysErrlogClearAct (_p : Packet) (s : State) : CmdOut := done (armDrops { s with errlog := ErrLog.initial })

def specSysErrlogClear : OpSpec := plainOp 0x0105 false 0 sysErrlogClearAct

/-- ERRLOG_COALESCED_REPORT (17 R643): a coalesced entry is reported with its current COUNT, at most once a second. -/
def coalescedReport (code cls inst : Nat) (s : State) : State :=
  let due := fun (e : LogEntry) => match e.sentMs with
    | some t => instantReached (t + 1000) s
    | none => true
  match (logHeld s.errlog).find? (fun e => sameKind code cls inst e && e.unreported && due e) with
  | some e =>
    let clear := fun (x : LogEntry) => if sameKind code cls inst x then { x with unreported := false, sentMs := some (nowMs s) } else x
    post (errMsg s e) { s with errlog.entries := s.errlog.entries.map clear, errlog.overflow := s.errlog.overflow.map clear }
  | none => s

/-- OUT_ROUTE (12 R487): the route replaces the earlier one for messages committed after the reply. -/
def outRouteAct (p : Packet) (s : State) : CmdOut :=
  let b := p.params
  let id := u8 b 0
  let ports := u8 b 1
  let r : Route := { ports := ports, ring := u8 b 2, decim := u8 b 3, instMask := u32 b 4 }
  let t := { s with ecsol.routes := tset Route.off s.ecsol.routes id r }
  rejectIf (decide (id < 0x81) || decide (0x8F < id) || decide (31 < ports) || (id == 0x8D && ports != 0b01000)
    || (if ports.testBit 3 then decide (3 < u8 b 2) else u8 b 2 != 0)
    || (if id == 0x81 || id == 0x82 || id == 0x83 then u8 b 3 == 0 else u8 b 3 != 1)
    || (ports == 0) != (u32 b 4 == 0)) .badValue <|
  rejectIf (budgetBroken s t) .profileLimit <|
  done t

def specOutRoute : OpSpec := plainOp 0x1001 false 8 outRouteAct

/-- OUT_FILTER (12 R489): applies from the next epoch. -/
def outFilterAct (p : Packet) (s : State) : CmdOut :=
  let b := p.params
  let t := u8 b 0
  rejectIf (!(decide (t ≤ 4) || decide (16 ≤ t ∧ t ≤ 31)) || decide (3 < u8 b 1) || !zeroAt b 2 6) .badValue <|
  done { s with ecsol.filtersNext := tset none s.ecsol.filtersNext t (some (u8 b 1)) }

def specOutFilter : OpSpec := plainOp 0x1002 false 8 outFilterAct

/-- OUT_FILTER settings take effect at an epoch. -/
def applyFilters (s : State) : State :=
  { s with
    ecsol.filters := s.ecsol.filtersNext.foldl (fun (t : Tab Nat) (x : Nat × Option Nat) => tset 0 t x.1 (x.2.getD 0)) s.ecsol.filters,
    ecsol.filtersNext := [] }

def execSysIdentify (p : Packet) (s : State) : Host.Outcome State Fault Refusal := .next (runCmd specSysIdentify p s)
def execSysStatus (p : Packet) (s : State) : Host.Outcome State Fault Refusal := .next (runCmd specSysStatus p s)
def execSysErrlogRead (p : Packet) (s : State) : Host.Outcome State Fault Refusal := .next (runCmd specSysErrlogRead p s)
def execSysErrlogClear (p : Packet) (s : State) : Host.Outcome State Fault Refusal := .next (runCmd specSysErrlogClear p s)
def execOutRoute (p : Packet) (s : State) : Host.Outcome State Fault Refusal := .next (runCmd specOutRoute p s)
def execOutFilter (p : Packet) (s : State) : Host.Outcome State Fault Refusal := .next (runCmd specOutFilter p s)
def execErrlogCoalescedReport (code cls inst : Byte) (s : State) : Host.Outcome State Fault Refusal :=
  .next (coalescedReport code.toNat cls.toNat inst.toNat s)

end Sys2Proof.Machine
end

