-- ==== Sys2Proof/Machine/Epoch.lean ====
section
/-! DEFINITION. The epoch, the whole second and the step: what every engine does at the instants of the epoch grid (01 R18; 08
R322 to R325, R342). -/
namespace Sys2Proof.Machine

/-- Epochs occur: the main domain runs, on the sample clock (07 R282, 09 R370). -/
def epochsRun (s : State) : Bool := mainRuns s && !clockBypass s

/-- The time that passes with an epoch, and the counts that follow it (16 R599, R600). -/
def passMs (n : Nat) (s : State) : State :=
  { s with
    ms := s.ms + n, power.tcGpsMs := s.power.tcGpsMs + n,
    power.tcSinceMs := s.power.tcSinceMs + n }

/-- What the navigation messages decoded in the millisecond bring (08 R328, R329; 16 R613); authentication data that they carry openly leave to the
host as they are (00 R1). -/
def takeHoldings (o : Option NavObs) (s : State) : State := match o with
  | some v =>
    let s := foldS holdOrbit (v.orbits.map (fun x =>
      { sv := x.1, almanac := x.2.1, refMs := x.2.2.1, fitMs := x.2.2.2.1, elems := x.2.2.2.2 })) s
    let s := { s with nunar.bcast := v.offsets.foldl (fun t (x : Fin 7 × Int) => tset none t x.1.val (some x.2)) s.nunar.bcast }
    let s := { s with meas.authOut := v.auth }
    match v.utc with
    | some u => { s with nav.utc := some { leap := u.1.toNat, change := u.2.1.val, endMs := u.2.2 } }
    | none => s
  | none => { s with meas.authOut := [] }

/-- The phase of the accumulators moves with the sample clock cycles from one epoch to the next (03 R108). -/
def mixEpoch (before after : Int) (s : State) : State :=
  let n := (after / 32 - before / 32).toNat
  { s with front.mix := (upto 4).foldl (fun t i => tset 0 t i (mixPhase s.front i n)) [] }

/-- The epoch at its instant: the grid and the accumulators move on. -/
def gridEpoch (elapsed : Nat) (s : State) : State :=
  let t := nunarEpoch elapsed s
  if s.nunar.running then mixEpoch (nearestGrid s.nunar.pos) (nearestGrid t.nunar.pos) t else t

/-- The instant of the epoch: the grid moves, unless TIME_STEP has already made this epoch (08 R323, R342). -/
def epochInstant (o : EpochObs) (s : State) : State :=
  let passed := if s.nunar.running then 1 else if s.nunar.st = 5 then o.elapsed else max 1 (bypassMs s)
  let s := passMs passed s
  if s.nunar.stepped ∧ s.nunar.running then { s with nunar.stepped := false } else gridEpoch o.elapsed s

/-- Settings that take effect at an epoch (07 R282, R295; 12 R489), and the label of a measurement epoch, whose three cutoffs are to come (07
R281, R284). -/
def epochSettings (s : State) : State :=
  let s := takeNav (takeRates (applyFilters s))
  let due := measDue s
  { s with
    measMs := if due then s.epochMs else s.measMs, meas.cut := if due then 0 else 3,
    power.muted := s.power.muted && s.power.seq.isSome }

/-- The firmware's engines, which stand while it is in retention (01 R13). -/
def firmware (f : State → State) (s : State) : State := if s.power.retention then s else f s

/-- The firmware goes into retention between bursts, unless a command is held, the burst wakes it or a burst setting waits for its second (01
R13, R14). -/
def retain (s : State) : State :=
  if betweenBursts s ∧ !s.burst.awake ∧ s.burst.pend.isNone ∧ s.ecsol.held.isEmpty then
    { s with power.retention := true }
  else s

/-- The engines at an epoch. -/
def epochEngines (o : EpochObs) (s : State) : State :=
  let s := aprClock false (acqFinish (voileMark (linkEpoch s)))
  let s := if betweenBursts s then s else aprEpoch s
  let s := firmware (fun t => tulEpoch (pvtEpoch t)) s
  let s := acqStep (unitsEpoch (trkEpoch o.upsets s))
  let s := firmware (fun t => provisionalEpoch (voileEpoch o.tableBad o.distBad t)) s
  let s := if isMeasEpoch s then kernelEpoch s else s
  if betweenBursts s then retain s else deliverEvents s

/-- EPOCH. -/
def epoch (o : EpochObs) (s : State) : State :=
  if epochsRun s then epochEngines o (epochSettings (takeHoldings o.nav (epochInstant o s))) else s

/-- A self-test slice on the Voile correlators makes the window invalid for every aperture (17 R620). -/
def spoilWindow (s : State) : State := match s.bst.active with
  | some r => if r.block = 37 then { s with cal.win := { s.cal.win with spoilt := true } } else s
  | none => s

/-- WHOLE_SECOND: a whole second of the time count has come, whose work is still to be done; in retention it waits (01 R13). -/
def wholeSecond (o : SecondObs) (s : State) : State :=
  if epochsRun s ∧ s.nunar.running ∧ s.nunar.secDue ∧ !s.power.retention then
    let s := nunarSecond o { s with nunar.secDue := false }
    burstTakeEffect (spoilWindow (voileSliceStart (voileSecond s)))
  else s

/-- TIME_STEP (08 R342, R343): the coming epoch is the pulse boundary of a step that waits, and is made at the new placement; its
EPOCH brings what the engines do there. -/
def timeStep (s : State) : State :=
  if epochsRun s ∧ stepDue s ∧ !s.nunar.stepped then
    let t := gridEpoch 0 s
    { t with nunar.stepped := true }
  else s

def execEpoch (o : EpochObs) (s : State) : Host.Outcome State Fault Refusal := .next (epoch o s)
def execWholeSecond (o : SecondObs) (s : State) : Host.Outcome State Fault Refusal := .next (wholeSecond o s)
def execTimeStep (s : State) : Host.Outcome State Fault Refusal := .next (timeStep s)

end Sys2Proof.Machine
end

