-- ==== Sys2Proof/Machine/KernelRows.lean ====
section
/-! DEFINITION. The row of every kernel instruction (13 R508): core `k` issues it where it is the instruction at its PC. Register
operands are the numbers of the encoding's fields. -/
namespace Sys2Proof.Machine

def execKNop (k : Fin 16) (s : State) : Host.Outcome State Fault Refusal := .next (kRow k (.ctl .nop) s)
def execKHalt (k : Fin 16) (s : State) : Host.Outcome State Fault Refusal := .next (kRow k (.ctl .halt) s)
def execKRet (k : Fin 16) (s : State) : Host.Outcome State Fault Refusal := .next (kRow k (.ctl .ret) s)
def execKReti (k : Fin 16) (s : State) : Host.Outcome State Fault Refusal := .next (kRow k (.ctl .reti) s)
def execKFence (k : Fin 16) (waited : Nat) (s : State) : Host.Outcome State Fault Refusal :=
  .next (kRowWith k (.ctl .fence) waited s)
def execKWait (k : Fin 16) (s : State) : Host.Outcome State Fault Refusal := .next (kRow k (.ctl .wait) s)
def execKEi (k : Fin 16) (s : State) : Host.Outcome State Fault Refusal := .next (kRow k (.ctl .ei) s)
def execKDi (k : Fin 16) (s : State) : Host.Outcome State Fault Refusal := .next (kRow k (.ctl .di) s)
def execKJr (k : Fin 16) (p : Fin 8) (s : State) : Host.Outcome State Fault Refusal := .next (kRow k (.jr p) s)
def execKCallr (k : Fin 16) (p : Fin 8) (s : State) : Host.Outcome State Fault Refusal := .next (kRow k (.callr p) s)
def execKRepr (k : Fin 16) (d : Fin 8) (s : State) : Host.Outcome State Fault Refusal := .next (kRow k (.repr d) s)
def execKJ (k : Fin 16) (t : BitVec 14) (s : State) : Host.Outcome State Fault Refusal :=
  .next (kRow k (.j t.toNat) s)
def execKCall (k : Fin 16) (t : BitVec 14) (s : State) : Host.Outcome State Fault Refusal :=
  .next (kRow k (.call t.toNat) s)
def execKRep (k : Fin 16) (n : BitVec 12) (s : State) : Host.Outcome State Fault Refusal :=
  .next (kRow k (.rep n.toNat) s)
def execKLoop (k : Fin 16) (n : LoopCount) (e : BitVec 14) (s : State) : Host.Outcome State Fault Refusal :=
  .next (kRow k (match n with | .imm v => .loopImm v.toNat e.toNat | .reg d => .loopReg d e.toNat) s)
def execKBr (k : Fin 16) (c : KCond) (a b : Fin 16) (off : BitVec 8) (s : State) : Host.Outcome State Fault Refusal :=
  .next (kRow k (.br c a b off.toNat) s)
def execKBri (k : Fin 16) (c : KCond) (a : Fin 16) (i : BitVec 12) (t : BitVec 14) (s : State) : Host.Outcome State Fault Refusal :=
  .next (kRow k (.bri c a i.toNat t.toNat) s)
def execKBra (k : Fin 16) (c : KCond) (a : Fin 4) (off : BitVec 8) (s : State) : Host.Outcome State Fault Refusal :=
  .next (kRow k (.bra c a off.toNat) s)
def execKAdd (k : Fin 16) (d a b : Fin 8) (s : State) : Host.Outcome State Fault Refusal :=
  .next (kRow k (.alu .add d a b) s)
def execKSub (k : Fin 16) (d a b : Fin 8) (s : State) : Host.Outcome State Fault Refusal :=
  .next (kRow k (.alu .sub d a b) s)
def execKAdds (k : Fin 16) (d a b : Fin 8) (s : State) : Host.Outcome State Fault Refusal :=
  .next (kRow k (.alu .adds d a b) s)
def execKSubs (k : Fin 16) (d a b : Fin 8) (s : State) : Host.Outcome State Fault Refusal :=
  .next (kRow k (.alu .subs d a b) s)
def execKAnd (k : Fin 16) (d a b : Fin 8) (s : State) : Host.Outcome State Fault Refusal :=
  .next (kRow k (.alu .and d a b) s)
def execKOr (k : Fin 16) (d a b : Fin 8) (s : State) : Host.Outcome State Fault Refusal :=
  .next (kRow k (.alu .or d a b) s)
def execKXor (k : Fin 16) (d a b : Fin 8) (s : State) : Host.Outcome State Fault Refusal :=
  .next (kRow k (.alu .xor d a b) s)
def execKMul (k : Fin 16) (d a b : Fin 8) (s : State) : Host.Outcome State Fault Refusal :=
  .next (kRow k (.alu .mul d a b) s)
def execKMulh (k : Fin 16) (d a b : Fin 8) (s : State) : Host.Outcome State Fault Refusal :=
  .next (kRow k (.alu .mulh d a b) s)
def execKMin (k : Fin 16) (d a b : Fin 8) (s : State) : Host.Outcome State Fault Refusal :=
  .next (kRow k (.alu .min d a b) s)
def execKMax (k : Fin 16) (d a b : Fin 8) (s : State) : Host.Outcome State Fault Refusal :=
  .next (kRow k (.alu .max d a b) s)
def execKMinu (k : Fin 16) (d a b : Fin 8) (s : State) : Host.Outcome State Fault Refusal :=
  .next (kRow k (.alu .minu d a b) s)
def execKMaxu (k : Fin 16) (d a b : Fin 8) (s : State) : Host.Outcome State Fault Refusal :=
  .next (kRow k (.alu .maxu d a b) s)
def execKNeg (k : Fin 16) (d a : Fin 8) (s : State) : Host.Outcome State Fault Refusal :=
  .next (kRow k (.una .neg d a) s)
def execKNegs (k : Fin 16) (d a : Fin 8) (s : State) : Host.Outcome State Fault Refusal :=
  .next (kRow k (.una .negs d a) s)
def execKAbs (k : Fin 16) (d a : Fin 8) (s : State) : Host.Outcome State Fault Refusal :=
  .next (kRow k (.una .abs d a) s)
def execKAbss (k : Fin 16) (d a : Fin 8) (s : State) : Host.Outcome State Fault Refusal :=
  .next (kRow k (.una .abss d a) s)
def execKNot (k : Fin 16) (d a : Fin 8) (s : State) : Host.Outcome State Fault Refusal :=
  .next (kRow k (.una .not d a) s)
def execKCls (k : Fin 16) (d a : Fin 8) (s : State) : Host.Outcome State Fault Refusal :=
  .next (kRow k (.una .cls d a) s)
def execKClz (k : Fin 16) (d a : Fin 8) (s : State) : Host.Outcome State Fault Refusal :=
  .next (kRow k (.una .clz d a) s)
def execKAddbcd (k : Fin 16) (d a b : Fin 8) (s : State) : Host.Outcome State Fault Refusal :=
  .next (kRow k (.alu .addbcd d a b) s)
def execKSubbcd (k : Fin 16) (d a b : Fin 8) (s : State) : Host.Outcome State Fault Refusal :=
  .next (kRow k (.alu .subbcd d a b) s)
def execKDadj (k : Fin 16) (d a : Fin 8) (s : State) : Host.Outcome State Fault Refusal :=
  .next (kRow k (.una .dadj d a) s)
def execKDbin (k : Fin 16) (d a : Fin 8) (s : State) : Host.Outcome State Fault Refusal :=
  .next (kRow k (.una .dbin d a) s)
def execKLsl (k : Fin 16) (d a b : Fin 8) (s : State) : Host.Outcome State Fault Refusal :=
  .next (kRow k (.alu .lsl d a b) s)
def execKLsr (k : Fin 16) (d a b : Fin 8) (s : State) : Host.Outcome State Fault Refusal :=
  .next (kRow k (.alu .lsr d a b) s)
def execKAsr (k : Fin 16) (d a b : Fin 8) (s : State) : Host.Outcome State Fault Refusal :=
  .next (kRow k (.alu .asr d a b) s)
def execKAsls (k : Fin 16) (d a b : Fin 8) (s : State) : Host.Outcome State Fault Refusal :=
  .next (kRow k (.alu .asls d a b) s)
def execKLslImm (k : Fin 16) (d a : Fin 8) (amt : BitVec 7) (s : State) : Host.Outcome State Fault Refusal :=
  .next (kRow k (.shi .lsl d a amt.toNat) s)
def execKLsrImm (k : Fin 16) (d a : Fin 8) (amt : BitVec 7) (s : State) : Host.Outcome State Fault Refusal :=
  .next (kRow k (.shi .lsr d a amt.toNat) s)
def execKAsrImm (k : Fin 16) (d a : Fin 8) (amt : BitVec 7) (s : State) : Host.Outcome State Fault Refusal :=
  .next (kRow k (.shi .asr d a amt.toNat) s)
def execKAslsImm (k : Fin 16) (d a : Fin 8) (amt : BitVec 7) (s : State) : Host.Outcome State Fault Refusal :=
  .next (kRow k (.shi .asls d a amt.toNat) s)
def execKDiv (k : Fin 16) (d : Fin 4) (a b : Fin 8) (s : State) : Host.Outcome State Fault Refusal :=
  .next (kRow k (.div true (2 * d) a b) s)
def execKDivu (k : Fin 16) (d : Fin 4) (a b : Fin 8) (s : State) : Host.Outcome State Fault Refusal :=
  .next (kRow k (.div false (2 * d) a b) s)
def execKAddi (k : Fin 16) (d a : Fin 8) (i : BitVec 13) (s : State) : Host.Outcome State Fault Refusal :=
  .next (kRow k (.addi d a i.toNat) s)
def execKAddpi (k : Fin 16) (d a : Fin 8) (i : BitVec 13) (s : State) : Host.Outcome State Fault Refusal :=
  .next (kRow k (.addpi d a i.toNat) s)
def execKMovi (k : Fin 16) (d : Fin 8) (i : BitVec 16) (s : State) : Host.Outcome State Fault Refusal :=
  .next (kRow k (.movi d i.toNat) s)
def execKMovr (k : Fin 16) (rd rs : Fin 64) (s : State) : Host.Outcome State Fault Refusal :=
  .next (kRow k (.movr rd rs) s)
def execKMovil (k : Fin 16) (rd : Fin 64) (i : BitVec 24) (s : State) : Host.Outcome State Fault Refusal :=
  .next (kRow k (.movil rd i.toNat) s)
def execKLd (k : Fin 16) (d p : Fin 8) (m : Fin 5) (i : BitVec 10) (s : State) : Host.Outcome State Fault Refusal :=
  .next (kRow k (.ld d p m i.toNat) s)
def execKLdr (k : Fin 16) (r : Fin 64) (p : Fin 8) (m : Fin 5) (i : BitVec 7) (s : State) : Host.Outcome State Fault Refusal :=
  .next (kRow k (.ldr r p m i.toNat) s)
def execKSt (k : Fin 16) (d p : Fin 8) (m : Fin 5) (i : BitVec 10) (s : State) : Host.Outcome State Fault Refusal :=
  .next (kRow k (.st d p m i.toNat) s)
def execKStr (k : Fin 16) (r : Fin 64) (p : Fin 8) (m : Fin 5) (i : BitVec 7) (s : State) : Host.Outcome State Fault Refusal :=
  .next (kRow k (.str r p m i.toNat) s)
def execKLdx (k : Fin 16) (d p : Fin 8) (q : Fin 10) (i : BitVec 9) (s : State) : Host.Outcome State Fault Refusal :=
  .next (kRow k (.ldx d p q i.toNat) s)
def execKStx (k : Fin 16) (d p : Fin 8) (q : Fin 6) (i : BitVec 9) (s : State) : Host.Outcome State Fault Refusal :=
  .next (kRow k (.stx d p q i.toNat) s)
def execKLdc (k : Fin 16) (d p : Fin 8) (m : Fin 2) (i : BitVec 10) (s : State) : Host.Outcome State Fault Refusal :=
  .next (kRow k (.ldc d p m i.toNat) s)
def execKExtu (k : Fin 16) (d a : Fin 8) (pos w : Fin 24) (s : State) : Host.Outcome State Fault Refusal :=
  .next (kRow k (.ext .extu d a pos w) s)
def execKExts (k : Fin 16) (d a : Fin 8) (pos w : Fin 24) (s : State) : Host.Outcome State Fault Refusal :=
  .next (kRow k (.ext .exts d a pos w) s)
def execKIns (k : Fin 16) (d a : Fin 8) (pos w : Fin 24) (s : State) : Host.Outcome State Fault Refusal :=
  .next (kRow k (.ext .ins d a pos w) s)
def execKMpy (k : Fin 16) (c : Fin 4) (a b : Fin 8) (s : State) : Host.Outcome State Fault Refusal :=
  .next (kRow k (.mul .mpy c a b) s)
def execKMac (k : Fin 16) (c : Fin 4) (a b : Fin 8) (s : State) : Host.Outcome State Fault Refusal :=
  .next (kRow k (.mul .mac c a b) s)
def execKMsu (k : Fin 16) (c : Fin 4) (a b : Fin 8) (s : State) : Host.Outcome State Fault Refusal :=
  .next (kRow k (.mul .msu c a b) s)
def execKMpyi (k : Fin 16) (c : Fin 4) (a b : Fin 8) (s : State) : Host.Outcome State Fault Refusal :=
  .next (kRow k (.mul .mpyi c a b) s)
def execKMaci (k : Fin 16) (c : Fin 4) (a b : Fin 8) (s : State) : Host.Outcome State Fault Refusal :=
  .next (kRow k (.mul .maci c a b) s)
def execKMsui (k : Fin 16) (c : Fin 4) (a b : Fin 8) (s : State) : Host.Outcome State Fault Refusal :=
  .next (kRow k (.mul .msui c a b) s)
def execKClra (k : Fin 16) (c : Fin 4) (s : State) : Host.Outcome State Fault Refusal :=
  .next (kRow k (.acu .clra c) s)
def execKMova (k : Fin 16) (c a : Fin 4) (s : State) : Host.Outcome State Fault Refusal :=
  .next (kRow k (.acb .mova c a) s)
def execKAdda (k : Fin 16) (c a : Fin 4) (s : State) : Host.Outcome State Fault Refusal :=
  .next (kRow k (.acb .adda c a) s)
def execKSuba (k : Fin 16) (c a : Fin 4) (s : State) : Host.Outcome State Fault Refusal :=
  .next (kRow k (.acb .suba c a) s)
def execKNega (k : Fin 16) (c : Fin 4) (s : State) : Host.Outcome State Fault Refusal :=
  .next (kRow k (.acu .nega c) s)
def execKNegas (k : Fin 16) (c : Fin 4) (s : State) : Host.Outcome State Fault Refusal :=
  .next (kRow k (.acu .negas c) s)
def execKAbsa (k : Fin 16) (c : Fin 4) (s : State) : Host.Outcome State Fault Refusal :=
  .next (kRow k (.acu .absa c) s)
def execKAbsas (k : Fin 16) (c : Fin 4) (s : State) : Host.Outcome State Fault Refusal :=
  .next (kRow k (.acu .absas c) s)
def execKAsha (k : Fin 16) (c : Fin 4) (amt : BitVec 7) (s : State) : Host.Outcome State Fault Refusal :=
  .next (kRow k (.asha false c amt.toNat) s)
def execKAshas (k : Fin 16) (c : Fin 4) (amt : BitVec 7) (s : State) : Host.Outcome State Fault Refusal :=
  .next (kRow k (.asha true c amt.toNat) s)
def execKAshar (k : Fin 16) (c : Fin 4) (a : Fin 8) (s : State) : Host.Outcome State Fault Refusal :=
  .next (kRow k (.ashar false c a) s)
def execKAshasr (k : Fin 16) (c : Fin 4) (a : Fin 8) (s : State) : Host.Outcome State Fault Refusal :=
  .next (kRow k (.ashar true c a) s)
def execKRnda (k : Fin 16) (c : Fin 4) (s : State) : Host.Outcome State Fault Refusal :=
  .next (kRow k (.acu .rnda c) s)
def execKSata (k : Fin 16) (c : Fin 4) (s : State) : Host.Outcome State Fault Refusal :=
  .next (kRow k (.acu .sata c) s)
def execKFtap (k : Fin 16) (c : Fin 4) (pc ps : Fin 8) (s : State) : Host.Outcome State Fault Refusal :=
  .next (kRow k (.ftap c pc ps) s)

end Sys2Proof.Machine
end

