-- ==== Sys2Proof/Machine/Power.lean ====
section
/-! DEFINITION. Power states, wake, resets, start-up and parked aiding (16). -/
namespace Sys2Proof.Machine

/-! ### Parked aiding (16 R613, R614) -/

/-- GPS time in ms, as well as the device knows it: by its aiding, else by the label of the epoch (04 R157; 08 R327). -/
def parkTime (s : State) : Int := ((gpsNow s).map (·.1)).getD (labelGps s) / 1000000

/-- What a park stores: the ephemerides usable under 04 R158, almanacs no older than 30 days, UTC parameters, position, oscillator
estimate. -/
def parkContent (s : State) : AidStore :=
  { s.nav with orbits := s.nav.orbits.filter (fun o => (orbitSd (parkTime s) o).isSome), own := none, vel := none, rest := none }

/-- The device holds no ephemeris, no almanac, no position and no oscillator estimate (16 R614). -/
def nothingToPark (s : State) : Bool := s.nav.orbits.isEmpty && s.nav.pos.isNone && s.nav.osc.isNone

/-- Write the content into the older copy, with a sequence number one greater than the newer one's (16 R613). -/
def writePark (s : State) : State :=
  let p0 := s.power.parked0
  let p1 := s.power.parked1
  let next := max (if p0.valid then p0.seqNo else 0) (if p1.valid then p1.seqNo else 0) + 1
  let c : Parked := { valid := true, seqNo := next, gpsMs := (gpsNow s).map (·.1 / 1000000), content := parkContent s }
  let older0 := !p0.valid || (p1.valid && decide (p0.seqNo ≤ p1.seqNo))
  if older0 then { s with power.parked0 := c } else { s with power.parked1 := c }

/-- The valid copy with the greater sequence number. -/
def bestParked (s : State) : Option Parked :=
  let p0 := s.power.parked0
  let p1 := s.power.parked1
  if p0.valid && (!p1.valid || decide (p1.seqNo ≤ p0.seqNo)) then some p0 else if p1.valid then some p1 else none

/-- SYS_PARK (16 R614). -/
def sysParkAct (p : Packet) (s : State) : CmdOut :=
  let b := p.params
  let c := parkContent s
  let inval := fun (x : Parked) => { x with valid := false }
  rejectIf (decide (1 < u8 b 0) || !zeroAt b 1 3) .badValue <|
  if u8 b 0 = 1 then
    answer (zeros 4) { s with power.parked0 := inval s.power.parked0, power.parked1 := inval s.power.parked1 }
  else
    rejectIf (nothingToPark s) .badState <|
    answer (le 1 (sat 255 (c.orbits.filter (fun o => !o.almanac)).length) ++ le 1 (sat 255 (c.orbits.filter (·.almanac)).length)
      ++ le 1 (b2n c.pos.isSome + 2 * b2n c.osc.isSome + 4 * b2n c.utc.isSome) ++ [0]) (writePark s)

def specSysPark : OpSpec := { plainOp 0x0106 false 4 sysParkAct with mram := true }

/-! ### MSG_WAKE (16 R610) -/

/-- The 24-byte payload of MSG_WAKE; `started` tells KIND 1 from KIND 2. -/
def wakeBytes (s : State) (started : Bool) (sources : Nat) (replyOk : Bool) : List Byte :=
  let w := s.power
  let flags := b2n (!started && replyOk) + 2 * b2n w.tcValid + 4 * b2n w.restored + 8 * b2n w.parkedInvalid
    + 16 * b2n s.errlog.kept
  le 1 (if started then 1 else 2) ++ le 1 (if started then w.cause else 0) ++ le 1 (if started then w.detail else 0)
    ++ le 1 sources ++ le 1 flags ++ [0] ++ le 2 w.resets ++ le 8 (if w.tcValid then tcNow s else 0)
    ++ le 4 (if w.tcValid then sat 0xFFFFFFFF (tUnc s) else 0)
    ++ le 4 (if started && w.cause == 2 && w.tcValid then w.stopS else 0)

/-- Commit MSG_WAKE: class 1 (12 R463). -/
def postWake (started : Bool) (sources : Nat) (replyOk : Bool) (s : State) : State :=
  post { msg2 s 0x8F 0x02 0 (wakeBytes s started sources replyOk) with class1 := true } s

/-! ### Stop and restart sequences (16 R601 to R605, R615) -/

/-- An MRAM write is pending (16 R601). -/
def mramBusy (s : State) : Bool := s.power.parkPending || s.security.op.isSome || calWritePending s

/-- Queued messages whose first byte has not left are discarded at D; replies and packets in progress stay (16 R602). -/
def discardQueued (s : State) : State :=
  let keep := fun (q : List QItem) => q.filter (fun it => it.cls == 0 || it.sent != 0)
  let s := foldS (fun p t => modPort p (fun x => { x with outq := keep x.outq }) t) allPorts s
  foldS (fun n t => modRing n (fun x => { x with outq := keep x.outq }) t) (upto 4) s

/-- From D on: the sequence window, and the park of step 5. -/
def enterSequence (restart park : Bool) (p : Packet) (s : State) : State :=
  let t := discardQueued s
  { t with
    ecsol.window := if restart then .restart else .stop,
    power.seq := some { restart := restart, reply := if cmdReply p then some (p.port, p.seq.toNat) else none, atMs := nowMs s },
    power.parkPending := park && !nothingToPark s, power.muted := true }

/-- PWR_STOP (16 R601 to R603). -/
def pwrStopAct (p : Packet) (s : State) : CmdOut :=
  let b := p.params
  let seen := p.obs.wakeSeen.toNat &&& s.power.wake.sources
  rejectIf (decide (1 < u8 b 0) || !zeroAt b 1 3) .badValue <|
  rejectIf (s.power.wake.sources == 0 || mramBusy s || s.power.seq.isSome) .badState <|
  if seen ≠ 0 then .rejectNote .stopAbortedWake (postWake false seen false s)
  else
    let t := enterSequence false (u8 b 0 == 1) p s
    done { t with power.armed := true, power.latched := 0 }

def specPwrStop : OpSpec := plainOp 0x0204 false 4 pwrStopAct

/-- SYS_RESTART (16 R615). -/
def sysRestartAct (p : Packet) (s : State) : CmdOut :=
  let b := p.params
  rejectIf (decide (1 < u8 b 0) || !zeroAt b 1 3) .badValue <|
  rejectIf (mramBusy s || s.power.seq.isSome) .badState <|
  done (enterSequence true (u8 b 0 == 1) p s)

def specSysRestart : OpSpec := plainOp 0x0103 true 4 sysRestartAct

/-- PWR_WAKE_CFG (16 R595, R599). -/
def pwrWakeCfgAct (p : Packet) (s : State) : CmdOut :=
  let b := p.params
  let src := u8 b 1
  rejectIf (decide (u8 b 0 < 0x08) || decide (0x77 < u8 b 0) || decide (7 < src) || decide (1 < u8 b 2)
    || u8 b 3 == 0 || decide (200 < u8 b 3) || (src.testBit 2 != (u32 b 4 != 0)) || (src.testBit 2 && u8 b 2 == 0)) .badValue <|
  done { s with
    power.wake := { addr := u8 b 0, sources := src, timekeep := u8 b 2 == 1, rtcPpm := u8 b 3, alarmS := u32 b 4 },
    power.tcValid := s.power.tcValid && u8 b 2 == 1 }

def specPwrWakeCfg : OpSpec := plainOp 0x0205 false 8 pwrWakeCfgAct

/-- A wake latched after D and before PWR_EN falls abandons the stop (16 R604). -/
def abandonStop (s : State) : State := match s.power.seq with
  | some q =>
    if q.restart then s
    else
      let src := s.power.latched
      let t := { s with
        ecsol.window := .none, power.seq := none, power.armed := false, power.latched := 0 }
      postWake false src true t
  | none => s

/-- The armed latch sees a wake event of source `bit` (16 R597). -/
def latchWake (bit : Nat) (s : State) : State :=
  if s.power.armed ∧ s.power.wake.sources.testBit bit then
    abandonStop { s with power.latched := setBit s.power.latched bit true }
  else s

/-- ADDRESS_MATCH (16 R597, R598): a read that finds the Muslin queue non-empty during a stop sequence is an ordinary
read. -/
def addressMatch (addr : BitVec 7) (read : Bool) (s : State) : State :=
  let ordinary := read && s.power.seq.isSome && !(portOf s .muslin).outq.isEmpty
  if addr.toNat = s.power.wake.addr ∧ !ordinary then latchWake 1 s else s

/-- PWR_EN has fallen and FW_READY has not come: the alarm counts, and what it latches is recorded (16 R597). -/
def alarmCounts (s : State) : Bool := s.power.armed && s.power.seq.isNone

/-- The alarm, while the time count runs (16 R597). -/
def timerAlarm (s : State) : State := if alarmCounts s ∧ s.power.wake.timekeep then latchWake 2 s else s

/-- X32_LOSS (16 R597, R599): the time count becomes invalid; an alarm that is counting is raised at once. -/
def x32Loss (s : State) : State :=
  let t := { s with power.tcValid := false }
  if alarmCounts s then latchWake 2 t else t

/-- PARK_WRITE_DONE (16 R602 step 5). -/
def parkWriteDone (s : State) : State :=
  if s.power.parkPending then { writePark s with power.parkPending := false } else s

/-! ### Resets (16 R606, R611) -/

/-- What a main-domain reset keeps and loses: everything takes its defaults but the life cycle, the key slots, MRAM, the wake
configuration, the time count, and, where `keepLog`, the error log (16 R611). -/
def resetMain (keepLog : Bool) (s : State) : State :=
  let r := State.reset
  let slots := s.security.slots.foldl (fun t x =>
    tset KeySlot.empty t x.1 { x.2 with failures := 0, lockUntil := none }) []
  let t := { r with
    pending := s.pending, kernels := { r.kernels with draws := s.kernels.draws },
    security := { s.security with slots := slots },
    errlog := if keepLog then { s.errlog with
        entries := s.errlog.entries.map (fun e => { e with unreported := false, sentMs := none }),
        overflow := s.errlog.overflow.map (fun e => { e with unreported := false, sentMs := none }),
        kept := !(logHeld s.errlog).isEmpty } else ErrLog.initial,
    power := { s.power with
      fwReady := false, retention := false, seq := none, armed := false, latched := 0, inReset := true,
      muslinAddr := s.power.wake.addr, restored := false, parkedInvalid := true, parkPending := false, muted := false,
      tcGpsMs := tcNow s, tcSinceMs := tcSince s, readyMs := 0, stopS := 0 } }
  let t := if keepLog then foldS (fun p u => modPort p (fun x => { x with dropArmed := (portOf s p).dropArmed }) u) allPorts t else t
  keepMram s t

/-- A reset in Run: RESETS counts it, and MSG_WAKE will carry its cause (16 R606, R610). -/
def resetWith (cause detail : Nat) (keepLog : Bool) (s : State) : State :=
  let t := resetMain keepLog s
  { t with power.cause := cause, power.detail := detail, power.resets := (s.power.resets + 1) % 65536 }

/-- VBAT_POWER_ON (16 R593, R606): the Muslin domain takes its defaults and the device starts in Run. -/
def vbatPowerOn (s : State) : State :=
  if s.power.mode = .off then
    let t := resetMain false s
    { t with power := { Power.initial with
        inReset := true, parked0 := s.power.parked0, parked1 := s.power.parked1 } }
  else s

/-- VBAT_LOSS (16 R592): Off; nothing is powered. -/
def vbatLoss (s : State) : State :=
  let t := resetMain false s
  { t with power.mode := .off, power.pwrEn := false, power.tcValid := false }

/-- Step 6 of a sequence may come (16 R602): the park has ended, and the reply's last byte has left its port or 10 ms have passed since
D. -/
def sequenceRipe (q : StopSeq) (s : State) : Bool :=
  let waits := match q.reply with
    | some (p, n) =>
      let out := if p = .pcie then (ringOf s 0).outq else (portOf s p).outq
      out.any (fun it => it.cls == 0 && u16 it.bytes 4 == (if q.restart then 0x0103 else 0x0204) && u16 it.bytes 6 == n)
    | none => false
  !s.power.parkPending && (!waits || instantReached (q.atMs + 10) s)

/-- PWR_EN_FALL (16 R602 step 6): no wake is latched; the device enters Stop. -/
def pwrEnFall (s : State) : State := match s.power.seq with
  | some q =>
    if q.restart || !sequenceRipe q s || s.power.latched != 0 then s
    else
      let t := resetMain false s
      { t with power.mode := .stop, power.pwrEn := false, power.armed := true }
  | none => s

/-- PWR_EN_RISE (16 R605): a latched wake is served, 1 ms after the fall at the earliest; the time count has gone on through Stop (16 R599,
R610). -/
def pwrEnRise (stopMs : Nat) (s : State) : State :=
  if s.power.mode = .stop ∧ s.power.latched ≠ 0 ∧ 1 ≤ stopMs then
    { s with
      power.mode := .run, power.pwrEn := true, power.inReset := true, power.cause := 2, power.detail := 0,
      power.resets := (s.power.resets + 1) % 65536, power.stopS := stopMs / 1000,
      power.tcGpsMs := s.power.tcGpsMs + stopMs, power.tcSinceMs := s.power.tcSinceMs + stopMs }
  else s

/-- RESET_N low, or a main rail out of range, in Run (16 R606, R607). -/
def pinReset (detail : Nat) (s : State) : State := if s.power.mode = .run then resetWith 3 detail true s else s

/-- RESET_RELEASE (16 R608 step 5), `heldMs` after the reset or the rise of PWR_EN: the time count has gone on (16 R599, R611). -/
def resetRelease (heldMs : Nat) (s : State) : State :=
  if s.power.mode = .run ∧ s.power.inReset then
    { s with
      power.inReset := false, power.tcGpsMs := s.power.tcGpsMs + heldMs, power.tcSinceMs := s.power.tcSinceMs + heldMs }
  else s

/-- FW_WATCHDOG (16 R606). -/
def fwWatchdog (proc : Nat) (s : State) : State :=
  if s.power.mode = .run ∧ !s.power.inReset then resetWith 5 proc true s else s

/-- SECURITY_RESET (16 R606, 17 R632 step 5): the end of an accepted SEC_LIFECYCLE or SEC_ZEROIZE, 10 ms after its step 4. -/
def securityReset (s : State) : State := match s.security.op with
  | some o =>
    match o.doneMs with
    | some t =>
      if instantReached (t + 10) s then resetWith 6 (if o.zeroize then 2 else 1) false { s with security.op := none } else s
    | none => s
  | none => s

/-- SYS_RESTART_RESET (16 R615): step 6 of a restart. -/
def sysRestartReset (s : State) : State := match s.power.seq with
  | some q => if q.restart && sequenceRipe q s then resetWith 4 0 true s else s
  | none => s

/-- The parked copy is taken up at a start (16 R613): the position only with a valid time count, its 1 sigma grown by 30 m/s
x STOP_S (in cm); the oscillator's F_UNC, in 0.001 ppb, grown by 1 ppb for each day since parking, at least 2 ppb, or 1 ppm where the time
count does not tell it. -/
def restoreParked (s : State) : State := match bestParked s with
  | some c =>
    let osc := c.content.osc.map (fun e => { e with sd := match c.gpsMs with
      | some t => if s.power.tcValid then max 2000 (e.sd + cdiv (((tcNow s : Int) - t).toNat * 1000) 86400000) else 1000000
      | none => 1000000 })
    let pos := if s.power.tcValid then c.content.pos.map (fun e => { e with sd := e.sd + 3000 * s.power.stopS }) else none
    { s with nav := { c.content with osc := osc, pos := pos, rest := pos }, power.restored := true, power.parkedInvalid := false }
  | none => { s with power.restored := false, power.parkedInvalid := true }

/-- FW_READY (16 R608 step 8): interrupted sequences are completed first; FAULT_N is released; MSG_WAKE KIND 1 is committed,
carrying the wake events latched; then a watchdog start is logged (17 R640). -/
def fwReadyStep (s : State) : State :=
  if s.power.mode = .run ∧ !s.power.inReset ∧ !s.power.fwReady then
    let s := restoreParked (completeSecOp s)
    let src := if s.power.cause = 2 then s.power.latched else 0
    let s := { s with power.fwReady := true, power.armed := false, power.latched := 0, power.readyMs := nowMs s }
    let s := postWake true src false s
    if s.power.cause = 5 then logErr 0x4C 4 0x01 s.power.detail s else s
  else s

def execSysRestart (p : Packet) (s : State) : Host.Outcome State Fault Refusal := .next (runCmd specSysRestart p s)
def execSysPark (p : Packet) (s : State) : Host.Outcome State Fault Refusal := .next (runCmd specSysPark p s)
def execPwrStop (p : Packet) (s : State) : Host.Outcome State Fault Refusal := .next (runCmd specPwrStop p s)
def execPwrWakeCfg (p : Packet) (s : State) : Host.Outcome State Fault Refusal := .next (runCmd specPwrWakeCfg p s)
def execVbatPowerOn (s : State) : Host.Outcome State Fault Refusal := .next (vbatPowerOn s)
def execVbatLoss (s : State) : Host.Outcome State Fault Refusal := .next (vbatLoss s)
/-- WAKE_N_LOW (16 R597): low for 100 ns or more while the latch is armed. -/
def execWakeNLow (s : State) : Host.Outcome State Fault Refusal := .next (latchWake 0 s)
def execAddressMatch (addr : BitVec 7) (read : Bool) (s : State) : Host.Outcome State Fault Refusal :=
  .next (addressMatch addr read s)
def execTimerAlarm (s : State) : Host.Outcome State Fault Refusal := .next (timerAlarm s)
def execX32Loss (s : State) : Host.Outcome State Fault Refusal := .next (x32Loss s)
def execParkWriteDone (s : State) : Host.Outcome State Fault Refusal := .next (parkWriteDone s)
def execPwrEnFall (s : State) : Host.Outcome State Fault Refusal := .next (pwrEnFall s)
def execPwrEnRise (stopMs : Nat) (s : State) : Host.Outcome State Fault Refusal := .next (pwrEnRise stopMs s)
def execResetNLow (s : State) : Host.Outcome State Fault Refusal := .next (pinReset 0 s)
def execRailOutOfRange (s : State) : Host.Outcome State Fault Refusal := .next (pinReset 1 s)
def execResetRelease (heldMs : Nat) (s : State) : Host.Outcome State Fault Refusal := .next (resetRelease heldMs s)
def execFwWatchdog (proc : Fin 4) (s : State) : Host.Outcome State Fault Refusal := .next (fwWatchdog proc s)
def execSecurityReset (s : State) : Host.Outcome State Fault Refusal := .next (securityReset s)
def execFwReady (s : State) : Host.Outcome State Fault Refusal := .next (fwReadyStep s)
def execSysRestartReset (s : State) : Host.Outcome State Fault Refusal := .next (sysRestartReset s)

end Sys2Proof.Machine
end

