-- ==== Sys2Proof/Machine/Commands.lean ====
section
/-! DEFINITION. The master opcode index: every opcode's description in one list, the execution of a packet by its opcode (02
R101), and the events that let held commands go on. -/
namespace Sys2Proof.Machine

/-- Groups 0x01 to 0x06 of the index. -/
def opSpecsLow : List OpSpec :=
  [specSysIdentify, specSysStatus, specSysRestart, specSysErrlogRead, specSysErrlogClear, specSysPark, specPrfSelect,
   specPrfCustom, specPrfQuery, specPwrStop, specPwrWakeCfg, specPwrIslands, specAprEnable, specAprConfig, specAprNotch,
   specAprBlank, specAprStatus, specAprStream, specAcqPlan, specAcqAid, specAcqStart, specAcqAbort, specAcqResults,
   specTrkAssign, specTrkRelease, specTrkLoops, specTrkCorr, specTrkBurst, specTrkStatus, specTrkAnchor, specCalVoile,
   specCalStatus, specCalCommit, specCalLoad]

/-- Groups 0x07 to 0x0B. -/
def opSpecsMid : List OpSpec :=
  [specMeasRate, specTulGroup, specTulMode, specTulResetAmb, specMeasCorrections, specNavConfig, specTimPulse, specTimScale,
   specTimHoldover, specTimDelays, specTimEvent, specTimStepPolicy, specTimTimecode, specClkRef, specClkOut, specClkRamp,
   specClkSync, specClkStatus, specLnkChannels, specLnkCal, specLnkTxpower, specLnkDiversity, specLnkStatus, specLnkRole,
   specLnkSchedule, specLnkSend, specLnkNodes, specLnkRxcfg]

/-- Groups 0x0C to 0x10. -/
def opSpecsHigh : List OpSpec :=
  [specKrnLoad, specKrnStart, specKrnStop, specKrnStatus, specKrnSpares, specKrnMailbox, specMemOwner, specMemScrub,
   specMemStatus, specBstSchedule, specBstRunNow, specBstResults, specSecKeyInstall, specSecKeyRetire,
   specSecCounterQuery, specSecLifecycle, specSecZeroize, specOutRoute, specOutFilter]

/-- The descriptions of every opcode (02 R101). -/
def opSpecs : List OpSpec := opSpecsLow ++ opSpecsMid ++ opSpecsHigh

/-- The description of an opcode, if the index has it. -/
def opSpecOf (op : Nat) : Option OpSpec := opSpecs.find? (fun x => x.opcode == op)

/-- Run a packet by the opcode it carries. -/
def dispatchCmd (op : Nat) (p : Packet) (s : State) : State := match opSpecOf op with
  | some sp => runCmd sp p s
  | none => runUnknown op p s

/-- The later steps of a packet by the opcode it carries. -/
def checkOp (op : Nat) (p : Packet) (s : State) : State := match opSpecOf op with
  | some sp => checkCmd sp p s
  | none => checkUnknown op p s

/-- The commands that waited behind a held one are processed in the order of receipt, until one is held itself (02 R68); a retransmission of
one that has been answered meanwhile gets its reply (02 R76; log 37). -/
def drainHeld : Nat → State → State
  | 0, s => s
  | n + 1, s => match s.ecsol.held with
    | h :: t =>
      if h.why = .behind then
        drainHeld n (muteReply h.mute (fromCache h.opcode h.pkt (windowStep h.opcode h.pkt (checkOp h.opcode h.pkt)))
          { s with ecsol.held := t })
      else s
    | [] => s

/-- The reason for which the first command of the queue is held has ended: it goes on, and those behind it follow (17 R621, 10
R412). -/
def releaseHeld (why : HoldReason) (s : State) : State := match s.ecsol.held with
  | h :: t =>
    if h.why = why then
      let u := muteReply h.mute (fun u => match opSpecOf h.opcode with
        | some sp => resumeCmd sp h.pkt u
        | none => u) { s with ecsol.held := t }
      drainHeld t.length { u with link.holdFailed := false }
    else s
  | [] => s

/-- UNKNOWN_OPCODE (02 R63 step 5): the packet of an opcode that the index does not hold; a packet whose opcode it holds is that
opcode's own row. -/
def unknownOpcode (op : Nat) (p : Packet) (s : State) : State := match opSpecOf op with
  | some _ => s
  | none => runUnknown op p s

/-- SELFTEST_SLICE_END (17 R617, R621): the slice ends, a quarantined core that has passed leaves quarantine unless its result is FAIL (14 R550;
17 R624), and the requests that the slice held go on. -/
def selftestSliceEnd (pass : Bool) (vector : Nat) (s : State) : State := match s.bst.active with
  | some r =>
    let s := sliceEnd pass vector s
    let s := if pass ∧ 38 ≤ r.block ∧ r.block ≤ 53 ∧ (bstOf s r.block).result ≠ 2 then quarantineEnd (r.block - 38) s else s
    let s := assignWaiting s
    releaseHeld (.selfTest r.block) s
  | none => match s.ecsol.held.head? with          -- the slice was aborted meanwhile
    | some h => match h.why with
      | .selfTest b => releaseHeld (.selfTest b) s
      | _ => s
    | none => s

/-- A LNK_SEND that a full calibration held goes on when the calibration locks or fails; a failure rejects that command alone (10 R412). -/
def calReleases (before : State) (s : State) : State :=
  if calPending before ∧ !calPending s then
    let t := releaseHeld .linkCal { s with link.holdFailed := !s.link.synth.calOk }
    { t with link.holdFailed := false }
  else s

/-- A synthesiser slice fits: a window of 10 R406 for BUDGET_US + 20 us more (17 R620). -/
def synthWindow (us : Nat) (s : State) : Bool := synthFree s && !rampWithin us (430 + blockBudget s 54 + 20) s

/-- A modem slice fits: no reception in progress, no own transmission, and no slot starting within BUDGET_US + 50 us (17 R620). -/
def modemQuiet (us : Nat) (s : State) : Bool :=
  s.link.recv.isNone && s.link.tx.isNone && !slotStarts us (blockBudget s 55 + 50) s.link.rampUs (fun _ => true) s

/-- SELFTEST_SLOT (17 R619, R620), `us` after the last epoch. -/
def execSelftestSlot (us : Fin 1000) (s : State) : Host.Outcome State Fault Refusal :=
  .next (selftestSlot us (synthWindow us s) (modemQuiet us s) s)
def execUnknownOpcode (opcode : BitVec 16) (p : Packet) (s : State) : Host.Outcome State Fault Refusal :=
  .next (unknownOpcode opcode.toNat p s)
def execSelftestSliceEnd (pass : Bool) (vector : Nat) (s : State) : Host.Outcome State Fault Refusal :=
  .next (selftestSliceEnd pass vector s)
/-- SYNTH_LOCK_REPORT (10 R403, R404, R412). -/
def execSynthLockReport (c : SynthCodes) (s : State) : Host.Outcome State Fault Refusal :=
  .next (calReleases s (synthLockReport c s))
/-- SYNTH_CAL_END (10 R403, R407, R412). -/
def execSynthCalEnd (us : Fin 1000) (s : State) : Host.Outcome State Fault Refusal := .next (calReleases s (synthCalEnd us s))

end Sys2Proof.Machine
end

