-- ==== Sys2Proof/Machine/HostPorts.lean ====
section
/-! DEFINITION. The byte-stream ports: the packet hunt (02 R59 to R62), quad SPI, the UARTs and Muslin in Run (12 R465 to
R474). -/
namespace Sys2Proof.Machine

/-- Input buffer sizes: 8 KiB on SPI and the UARTs, 4 KiB on Muslin (12 R466, R472, R474). -/
def inputCap : HostPort → Nat
  | .muslin => 4096
  | _ => 8192

/-- The whole size of the packet whose header starts a byte string (02 R51). -/
def packetSize (bs : List Byte) : Nat := (if (u8 bs 1).testBit 0 then 36 else 12) + u16 bs 2

/-- A complete packet's fields (02 R51). -/
def parsePacket (port : HostPort) (bs : List Byte) (obs : CmdObs) : Packet :=
  let l := u16 bs 2
  let auth := (u8 bs 1).testBit 0
  { port := port, flags := bs.getD 1 0, seq := BitVec.ofNat 16 (u16 bs 6), params := field bs 8 l,
    counter := if auth then BitVec.ofNat 64 (u64 bs (8 + l)) else 0,
    tag := if auth then BitVec.ofNat 128 (uN 16 bs (16 + l)) else 0,
    crc := BitVec.ofNat 32 (u32 bs (packetSize bs - 4)), obs := obs }

/-- The bytes that a port's input buffer holds: what has been received while the port takes no command (12 R463, R466, R472, R474). -/
def inputHeld (port : HostPort) (s : State) : Nat :=
  if portBlocked s port then (portOf s port).asm.countP Option.isSome else 0

/-- The bytes before the first idle gap. -/
def beforeGap : List (Option Byte) → List Byte
  | some b :: t => b :: beforeGap t
  | _ => []

/-- One move of the hunt over what has been received, bytes and idle gaps of 1 ms in order; none when it waits for more bytes, or
holds a complete packet and the port takes no command (02 R59 to R62). A candidate that a gap cuts short is discarded and counted,
and the hunt resumes at the byte after its sync byte. -/
def huntStep (port : HostPort) (obs : CmdObs) (s : State) : Option State :=
  let ps := portOf s port
  match ps.asm with
  | [] => none
  | none :: t => some (modPort port (fun x => { x with asm := t, fresh := true }) s)
  | some h :: t =>
    let a := beforeGap ps.asm
    let cut := decide (a.length < ps.asm.length)
    let skip := modPort port (fun x => { x with asm := t, fresh := false }) s
    if h ≠ 0xA7 then some skip
    else if (8 ≤ a.length ∧ 4096 < u16 a 2) ∨ (cut ∧ (a.length < 8 ∨ a.length < packetSize a)) then some (countFraming port skip)
    else if a.length < 8 ∨ a.length < packetSize a ∨ portBlocked s port then none
    else
      let pk := a.take (packetSize a)
      let p := parsePacket port pk obs
      if p.crc.toNat = crc32c (pk.take (pk.length - 4)) then
        some (dispatchCmd (u16 a 4) p (modPort port (fun x => { x with asm := x.asm.drop pk.length, fresh := true }) s))
      else if ps.fresh then some (finish (u16 a 4) p .crcFail 0 [] none skip)
      else some (countFraming port skip)

/-- The hunt runs until it waits. -/
def hunt (port : HostPort) (obs : CmdObs) : Nat → State → State
  | 0, s => s
  | n + 1, s => match huntStep port obs s with
    | some t => hunt port obs n t
    | none => s

/-- Everything received is scanned at most once as a candidate's first byte. -/
def huntAll (port : HostPort) (obs : CmdObs) (s : State) : State := hunt port obs ((portOf s port).asm.length + 1) s

/-- A byte, or an idle gap of at least 1 ms, enters what the hunt scans (02 R59, R60). -/
def takeInput (port : HostPort) (obs : CmdObs) (x : Option Byte) (s : State) : State :=
  huntAll port obs (modPort port (fun y => { y with asm := y.asm ++ [x] }) s)

/-- One received byte; a byte that finds the input buffer full is discarded and counted (12 R468, R472). -/
def receiveByte (port : HostPort) (obs : CmdObs) (b : Byte) (s : State) : State :=
  if inputHeld port s < inputCap port then takeInput port obs (some b) s else countFraming port s

/-- No byte has come for 1 ms: an idle gap, which ends a packet in progress (02 R60, R62). -/
def byteTimeout (port : HostPort) (obs : CmdObs) (s : State) : State := if hostUp s then takeInput port obs none s else s

/-- Bytes of one transaction enter a port; before FW_READY they are discarded and not counted (16 R608). -/
def receiveBytes (port : HostPort) (bs : List Byte) (idle : Bool) (obs : CmdObs) (s : State) : State :=
  if hostUp s then
    let s := if idle then byteTimeout port obs s else s
    foldS (receiveByte port obs) bs s
  else s

/-- Take one byte of the output queue: the packet in progress goes on, or the next begins (02 R74). -/
def queueByte : List QItem → Option (Byte × List QItem)
  | [] => none
  | it :: t =>
    let b := it.bytes.getD it.sent 0
    if it.sent + 1 < it.bytes.length then some (b, { it with sent := it.sent + 1 } :: t) else some (b, t)

/-- Take `n` bytes; 0x00 once the queue is empty (12 R467, R474). -/
def queueBytes : Nat → List QItem → List Byte × List QItem
  | 0, q => ([], q)
  | n + 1, q => match queueByte q with
    | some (b, q') =>
      let x := queueBytes n q'
      (b :: x.1, x.2)
    | none => (zeros (n + 1), [])

/-- What a read drives to the host. -/
def drive (bs : List Byte) (s : State) : State := { s with ecsol.bus := bs }

/-- A READ of `n` bytes of a port's output queue, after which waiting input is looked at again. -/
def readPort (port : HostPort) (lead : List Byte) (n : Nat) (obs : CmdObs) (s : State) : State :=
  let x := queueBytes (n - lead.length) (portOf s port).outq
  huntAll port obs (drive ((lead ++ x.1).take n) (modPort port (fun y => { y with outq := x.2 }) s))

/-- IRQ_N is asserted while the SPI or Muslin output queue holds bytes (12 R490). -/
def irqAsserted (s : State) : Bool := !(portOf s .spi).outq.isEmpty || !(portOf s .muslin).outq.isEmpty

/-- The SPI STATUS word (12 R466). -/
def spiStatusWord (s : State) : List Byte :=
  le 2 (sat 65535 (queueUsed (portOf s .spi).outq)) ++ le 2 (8192 - inputHeld .spi s)

/-! ### UARTs -/

/-- The supported rates in baud (12 R469). -/
def uartRates : List Nat :=
  [115200, 230400, 460800, 921600, 1000000, 2000000, 3000000, 4000000, 6000000, 8000000, 12000000]

/-- The rate whose bit time lies within 3 % of a low pulse of `ps` picoseconds (12 R470). -/
def detectRate (ps : Nat) : Option Nat :=
  uartRates.find? (fun r =>
    decide (97 * 1000000000000 ≤ 100 * (ps * r)) && decide (100 * (ps * r) ≤ 103 * 1000000000000))

/-- A UART's number among the ports. -/
def uartIdx (u : Uart) : Nat := portIdx (uartPort u)

/-- An undetected UART measures the first low pulse of a byte; a rate lower than before the break is logged (12 R470,
R471). -/
def uartDetect (u : Uart) (lowPs : Nat) (s : State) : State :=
  match tget none s.ecsol.uartRate (uartIdx u) with
  | some _ => s
  | none => match detectRate lowPs with
    | none => s
    | some r =>
      let s' := { s with ecsol.uartRate := tset none s.ecsol.uartRate (uartIdx u) (some r) }
      match tget none s.ecsol.uartFormer (uartIdx u) with
      | some f => if r < f then logErr 0x49 2 0x10 (uartIdx u) s' else s'
      | none => s'

/-- UART_BYTE_RECEIVED (12 R469, R470, R472). -/
def uartReceive (u : Uart) (b : Byte) (stopOk : Bool) (lowPs : Nat) (idle : Bool) (obs : CmdObs) (s : State) : State :=
  if !hostUp s then s
  else
    let s := uartDetect u lowPs s
    match tget none s.ecsol.uartRate (uartIdx u) with
    | none => s
    | some _ =>
      if stopOk then receiveBytes (uartPort u) [b] idle obs s
      else countFraming (uartPort u) (if idle then byteTimeout (uartPort u) obs s else s)

/-- UART_BREAK (12 R470): undetected again; the line has been low for 2 ms, so a partial packet is discarded and counted as after
any idle gap, and the bytes after its sync byte are scanned again (02 R61). -/
def uartBreak (u : Uart) (obs : CmdObs) (s : State) : State :=
  if !mainRuns s then s
  else
    let i := uartIdx u
    let s := match tget none s.ecsol.uartRate i with
      | some r => { s with ecsol.uartRate := tset none s.ecsol.uartRate i none,
                           ecsol.uartFormer := tset none s.ecsol.uartFormer i (some r) }
      | none => s
    byteTimeout (uartPort u) obs s

/-- UART_BYTE_TRANSMITTED (12 R461, R471): a detected UART sends the next byte of its queue. -/
def uartTransmit (u : Uart) (obs : CmdObs) (s : State) : State :=
  match tget none s.ecsol.uartRate (uartIdx u), (portOf s (uartPort u)).outq with
  | some _, _ :: _ => readPort (uartPort u) [] 1 obs s
  | _, _ => s

/-! ### Muslin in Run -/

/-- The Muslin port answers to an address in Run (12 R473). -/
def muslinHears (addr : BitVec 7) (s : State) : Bool := hostUp s && addr.toNat == s.power.muslinAddr

/-- MUSLIN_WRITE bytes one after another, up to the first that finds the input buffer full, which is not acknowledged; answers how
many were taken (12 R474). -/
def muslinTake (obs : CmdObs) : List Byte → State → Nat × State
  | [], s => (0, s)
  | b :: t, s =>
    if inputHeld .muslin s < inputCap .muslin then
      let x := muslinTake obs t (takeInput .muslin obs (some b) s)
      (x.1 + 1, x.2)
    else (0, s)

/-- MUSLIN_WRITE (12 R474). -/
def muslinWrite (addr : BitVec 7) (bs : List Byte) (idle : Bool) (obs : CmdObs) (s : State) : State :=
  if muslinHears addr s then
    let x := muslinTake obs bs (if idle then byteTimeout .muslin obs s else s)
    { x.2 with ecsol.acked := x.1 }
  else s

/-- MUSLIN_READ (12 R474): a 2-byte count, the queued bytes, then 0x00. -/
def muslinRead (addr : BitVec 7) (n : Nat) (obs : CmdObs) (s : State) : State :=
  if muslinHears addr s then
    readPort .muslin (le 2 (sat 65535 (queueUsed (portOf s .muslin).outq))) n obs s
  else s

/-- MUSLIN_ADDR_APPLY (16 R595): the new address takes effect once the output queue is empty. -/
def muslinAddrApply (s : State) : State :=
  if (portOf s .muslin).outq.isEmpty then { s with power.muslinAddr := s.power.wake.addr } else s

/-! ### The rows -/

/-- AUTH_LOCK_EXPIRY (02 R97): a lock of 1 s ends, and counting resumes from 0. -/
def authLockExpiry (k : Nat) (s : State) : State := match (slotOf s k).lockUntil with
  | some t => if instantReached t s then modSlot k (fun x => { x with lockUntil := none, failures := 0 }) s else s
  | none => s

def execAuthLockExpiry (slot : Fin 4) (s : State) : Host.Outcome State Fault Refusal := .next (authLockExpiry slot s)
/-- PACKET_BYTE_TIMEOUT (02 R60): a packet in progress, whose next byte has not come for 1 ms. -/
def execPacketByteTimeout (port : HostPort) (obs : CmdObs) (s : State) : Host.Outcome State Fault Refusal :=
  .next (if (portOf s port).asm.isEmpty then s else byteTimeout port obs s)
def execUartByteReceived (u : Uart) (b : Byte) (stopOk : Bool) (lowPs : Nat) (idle : Bool) (obs : CmdObs) (s : State) :
    Host.Outcome State Fault Refusal := .next (uartReceive u b stopOk lowPs idle obs s)
def execUartBreak (u : Uart) (obs : CmdObs) (s : State) : Host.Outcome State Fault Refusal := .next (uartBreak u obs s)
/-- SPI_WRITE (12 R465): bytes on HIO0. -/
def execSpiWrite (bs : List Byte) (idle : Bool) (obs : CmdObs) (s : State) : Host.Outcome State Fault Refusal :=
  .next (receiveBytes .spi bs idle obs s)
/-- SPI_QUAD_WRITE (12 R465): bytes on HIO0 to HIO3, bits 7:4 first. -/
def execSpiQuadWrite (bs : List Byte) (idle : Bool) (obs : CmdObs) (s : State) : Host.Outcome State Fault Refusal :=
  .next (receiveBytes .spi bs idle obs s)
/-- SPI_READ (12 R467): queued bytes on HIO1, then fill bytes. -/
def execSpiRead (n : Nat) (obs : CmdObs) (s : State) : Host.Outcome State Fault Refusal :=
  .next (if mainRuns s then readPort .spi [] n obs s else s)
/-- SPI_QUAD_READ (12 R467): queued bytes on HIO0 to HIO3, then fill bytes. -/
def execSpiQuadRead (n : Nat) (obs : CmdObs) (s : State) : Host.Outcome State Fault Refusal :=
  .next (if mainRuns s then readPort .spi [] n obs s else s)
/-- SPI_STATUS (12 R465, R466): the status word, then 0x00. -/
def execSpiStatus (n : Nat) (s : State) : Host.Outcome State Fault Refusal :=
  .next (if mainRuns s then drive ((spiStatusWord s ++ zeros n).take n) s else s)
/-- SPI_UNKNOWN_INSTRUCTION (12 R465): ignored and counted. -/
def execSpiUnknownInstruction (code : Byte) (s : State) : Host.Outcome State Fault Refusal :=
  .next (if mainRuns s && !([0x02, 0x32, 0x03, 0x6B, 0x05] : List Byte).contains code then countFraming .spi s else s)
def execMuslinWrite (addr : BitVec 7) (bs : List Byte) (idle : Bool) (obs : CmdObs) (s : State) :
    Host.Outcome State Fault Refusal := .next (muslinWrite addr bs idle obs s)
def execMuslinRead (addr : BitVec 7) (n : Nat) (obs : CmdObs) (s : State) : Host.Outcome State Fault Refusal :=
  .next (muslinRead addr n obs s)
def execMuslinAddrApply (s : State) : Host.Outcome State Fault Refusal := .next (muslinAddrApply s)
def execUartByteTransmitted (u : Uart) (obs : CmdObs) (s : State) : Host.Outcome State Fault Refusal :=
  .next (uartTransmit u obs s)

end Sys2Proof.Machine
end

