-- ==== Sys2Proof/Machine/PcieRegs.lean ====
section
/-! DEFINITION. The PCI Express endpoint's registers, command ring and output rings (12 R475 to R484). -/
namespace Sys2Proof.Machine

/-- What the function says of itself (12 R475): class code, vendor ID, device ID, revision ID, and the Device Serial Number, which is UNIQUE_ID. -/
def pcieIdentity : Nat × Nat × Nat × Nat × Nat := (0x118000, 0x1F9C, 0x0024, 0x0C, Config.uniqueId.toNat)

/-- Bytes of one command slot (12 R476). -/
def slotBytes : Nat := 0x1800

/-- TAIL of CMD_IDX minus HEAD, modulo 16: the packets that wait (12 R478). -/
def slotsWaiting (s : State) : Nat := (s.pcie.tail + 16 - s.pcie.head) % 16

/-- HEAD advances, which sets CMD_SLOT (12 R477, R478). -/
def advanceHead (s : State) : State := raiseIrq 0 { s with pcie.head := (s.pcie.head + 1) % 16 }

/-- Take the packet of the slot at HEAD (12 R478): a slot whose start is no packet is discarded and counted, and a CRC
mismatch always draws a CRC_FAIL reply. -/
def takeSlot (obs : CmdObs) (s : State) : State :=
  let base := slotBytes * (s.pcie.head % 8)
  let h := tgetMany 0 s.pcie.slots base 8
  let s' := advanceHead s
  if h.headD 0 ≠ 0xA7 ∨ 4096 < u16 h 2 then countFraming .pcie s'
  else
    let bs := tgetMany 0 s.pcie.slots base (packetSize h)
    let p := parsePacket .pcie bs obs
    if p.crc.toNat = crc32c (bs.take (bs.length - 4)) then dispatchCmd (u16 h 4) p s'
    else finish (u16 h 4) p .crcFail 0 [] none s'

/-- Take waiting packets while the port takes commands. -/
def takeSlots (obs : CmdObs) : Nat → State → State
  | 0, s => s
  | n + 1, s =>
    if slotsWaiting s = 0 ∨ portBlocked s .pcie ∨ !hostUp s then s else takeSlots obs n (takeSlot obs s)

/-- At most eight packets wait. -/
def takeAll (obs : CmdObs) (s : State) : State := takeSlots obs 8 s

/-- A write of TAIL (12 R478); before FW_READY what arrives is discarded (16 R608). -/
def tailWrite (tail : Nat) (obs : CmdObs) (s : State) : State :=
  if !hostUp s then s
  else if 8 < (tail + 16 - s.pcie.head) % 16 then countFraming .pcie s
  else takeAll obs { s with pcie.tail := tail % 16 }

/-- A write of CTRL CMD_EN (12 R477). -/
def cmdEnWrite (on : Bool) (s : State) : State := { s with pcie.cmdEn := on }

/-- A write of CTRL RING_EN (12 R477, R479): a ring that is enabled again after a DMA error runs. -/
def ringEnWrite (en : Nat) (s : State) : State :=
  foldS (fun n t =>
      if en.testBit n && !s.pcie.ringEn.testBit n then modRing n (fun r => { r with fault := false }) t else t)
    (upto 4) { s with pcie.ringEn := en }

/-- A write of 1 to CTRL RESET_RINGS (12 R477). -/
def resetRings (s : State) : State :=
  if s.pcie.cmdEn || s.pcie.ringEn != 0 then s
  else foldS (fun n t => modRing n (fun r => { r with wr := 0, rd := 0 }) t) (upto 4)
    { s with pcie.head := 0, pcie.tail := 0 }

/-- A whole write of CTRL. -/
def ctrlWrite (v : Nat) (obs : CmdObs) (s : State) : State :=
  let s := if v.testBit 1 then resetRings s else s
  takeAll obs (ringEnWrite (bitsOf v 7 4) (cmdEnWrite (v.testBit 0) s))

/-- The ring size in bytes (12 R477). -/
def ringSize (r : Ring) : Nat := 2 ^ (16 + r.size)

/-- A write of a RINGn register at offset `o` of its block (12 R477). -/
def ringRegWrite (n o v : Nat) (s : State) : State :=
  let off := !s.pcie.ringEn.testBit n
  match o with
  | 0x00 => if off then modRing n (fun r => { r with baseLo := v / 4096 * 4096 }) s else s
  | 0x04 => if off then modRing n (fun r => { r with baseHi := v }) s else s
  | 0x08 =>
    if off && decide (bitsOf v 27 24 ≤ 10) then
      modRing n (fun r => { r with size := bitsOf v 27 24, modUs := bitsOf v 23 16, modBytes := bitsOf v 15 0 }) s
    else s
  | 0x10 => modRing n (fun r => { r with rd := v / 64 * 64 }) s
  | _ => s

/-- A write into the MSI-X table; a vector that is unmasked while pending is sent (12 R480). -/
def msixWrite (o v : Nat) (s : State) : State :=
  let s := { s with pcie.msixTable := tsetMany 0 s.pcie.msixTable o (le 4 v) }
  let n := o / 16
  if o % 16 = 12 && !v.testBit 0 && s.pcie.msixPending.testBit n then
    sendVector n { s with pcie.msixPending := setBit s.pcie.msixPending n false }
  else s

/-- A DWORD write to BAR0 (12 R476, R477); reserved and read-only offsets ignore it. -/
def bar0Write (off v : Nat) (obs : CmdObs) (s : State) : State :=
  if off % 4 ≠ 0 then s
  else if off = 0x0000 then ctrlWrite v obs s
  else if off = 0x0008 then tailWrite (v % 16) obs s
  else if off = 0x000C then setIrq (s.pcie.irqStatus &&& (1023 - v % 1024)) s.pcie.irqMask s
  else if off = 0x0010 then setIrq s.pcie.irqStatus (v % 1024) s
  else if 0x0100 ≤ off ∧ off < 0x0180 then ringRegWrite ((off - 0x100) / 0x20) (off % 0x20) v s
  else if 0x1000 ≤ off ∧ off < 0x1040 then ownerWrite ((off - 0x1000) / 4) v s
  else if 0x2000 ≤ off ∧ off < 0x2200 then msixWrite (off - 0x2000) v s
  else if 0x4000 ≤ off ∧ off < 0x10000 then
    { s with pcie.slots := tsetMany 0 s.pcie.slots (off - 0x4000) (le 4 v) }
  else s

/-- A ring signals data: RING_DATA is set and the moderation starts again (12 R480). -/
def signalRing (n : Nat) (s : State) : State :=
  raiseIrq (2 + n) (modRing n (fun r => { r with unsignalled := 0, waiting := false }) s)

/-- Bytes of an entry, padded to a multiple of 64 (12 R479). -/
def padded (n : Nat) : Nat := (n + 63) / 64 * 64

/-- The bytes free in a ring: WR equal to RD means that it is empty (12 R479). -/
def ringFree (r : Ring) : Nat := ringSize r - (r.wr + ringSize r - r.rd % ringSize r) % ringSize r

/-- An entry of `n` padded bytes does not fit before the end of the ring (12 R479). -/
def ringWraps (r : Ring) (n : Nat) : Bool := decide (ringSize r < r.wr + n)

/-- What an entry takes of the ring: itself, and the abandoned end where it wraps. -/
def entryTakes (r : Ring) (n : Nat) : Nat := if ringWraps r n then ringSize r - r.wr + n else n

/-- The host address of offset `o` of a ring. -/
def ringAddr (r : Ring) (o : Nat) : Nat := 2 ^ 32 * r.baseHi + r.baseLo + o

/-- The DMA writes of a packet (12 R479): at WR, or, where it would cross the end, at offset 0, followed by the wrap marker at the abandoned offset, of
whose 64 bytes the first is 0x00 and the others are not said. -/
def entryWrites (r : Ring) (bs : List Byte) : List (Nat × List Byte) :=
  let whole := bs ++ zeros (padded bs.length - bs.length)
  if ringWraps r whole.length then [(ringAddr r 0, whole), (ringAddr r r.wr, [0x00])] else [(ringAddr r r.wr, whole)]

/-- The write of the entry at the front of a ring's queue completes (12 R479, R480); the ring keeps at least 64 bytes
free. -/
def entryWritten (n : Nat) (s : State) : State :=
  let r := ringOf s n
  match r.outq with
  | [] => s
  | it :: rest =>
    let len := padded it.bytes.length
    if r.fault || !s.pcie.ringEn.testBit n || s.pcie.link.isNone || decide (ringFree r < entryTakes r len + 64) then s
    else
      let wr := if ringWraps r len then len else (r.wr + len) % ringSize r
      let seen := r.unsignalled + len
      let s := modRing n (fun x => { x with outq := rest, wr := wr, unsignalled := seen, waiting := true })
        { s with pcie.dma := entryWrites r it.bytes }
      if it.cls = 0 ∨ r.modBytes = 0 ∨ 64 * r.modBytes ≤ seen then signalRing n s else s

/-- A DMA write of a ring fails (12 R479): the ring stops and its messages are discarded, which is logged where a class 1 message is the first to be (12
R463); a reply waits (12 R493). -/
def dmaError (n : Nat) (s : State) : State :=
  let r := ringOf s n
  if r.fault || !s.pcie.ringEn.testBit n || r.outq.isEmpty then s
  else
    let keep := r.outq.filter (fun it => it.cls == 0)
    let s := raiseIrq (6 + n) (modRing n (fun x =>
      { x with fault := true, outq := keep, drops := sat 0xFFFFFFFF (x.drops + (x.outq.length - keep.length)) }) s)
    if r.outq.any (fun it => it.cls == 1) && (portOf s .pcie).dropArmed then
      logErr 0x49 2 0x10 3 (modPort .pcie (fun x => { x with dropArmed := false }) s)
    else s

/-- A reset of the PCIe function (12 R482); a link down leaves no link. -/
def functionReset (kind : PcieResetKind) (s : State) : State :=
  let s := { s with pcie.cmdEn := false, pcie.ringEn := 0, pcie.head := 0, pcie.tail := 0, pcie.rings := [],
                    ecsol.held := s.ecsol.held.map (fun h => if h.pkt.port == .pcie then { h with mute := true } else h) }
  match kind with
  | .linkDown => { s with pcie.link := none }
  | _ => s

/-! ### What a read of BAR0 shows (12 R476, R477) -/

/-- The STATUS register. -/
def statusReg (s : State) : Nat :=
  let bits := fun (f : Ring → Bool) => (upto 4).foldl (fun (v : Nat) n => setBit v n (f (ringOf s n))) 0
  4096 * bits (·.fault) + 256 * bits (·.full) + 4 * b2n s.power.fwReady + 2 * b2n (s.profile.sel == 4)

/-- A read of a DWORD of BAR0; FRAMING and RINGn_DROPS are also cleared, by their rows. -/
def bar0Read (off : Nat) (s : State) : Nat :=
  if off = 0x0000 then 16 * s.pcie.ringEn + b2n s.pcie.cmdEn
  else if off = 0x0004 then statusReg s
  else if off = 0x0008 then 65536 * s.pcie.head + s.pcie.tail
  else if off = 0x000C then s.pcie.irqStatus
  else if off = 0x0010 then s.pcie.irqMask
  else if off = 0x0014 then s.pcie.framing
  else if 0x0100 ≤ off ∧ off < 0x0180 then
    let r := ringOf s ((off - 0x100) / 0x20)
    match off % 0x20 with
    | 0x00 => r.baseLo
    | 0x04 => r.baseHi
    | 0x08 => 2 ^ 24 * r.size + 65536 * r.modUs + r.modBytes
    | 0x0C => r.wr
    | 0x10 => r.rd
    | 0x14 => r.drops
    | _ => 0
  else if 0x1000 ≤ off ∧ off < 0x1040 then ownerReg s ((off - 0x1000) / 4)
  else if 0x2000 ≤ off ∧ off < 0x2200 then ofLe (tgetMany 0 s.pcie.msixTable (off - 0x2000) 4)
  else if off = 0x3000 then s.pcie.msixPending
  else if 0x4000 ≤ off ∧ off < 0x10000 then ofLe (tgetMany 0 s.pcie.slots (off - 0x4000) 4)
  else 0

/-! ### The rows -/

/-- CMD_EN (12 R477, R478): the command ring is enabled or disabled; waiting slots are taken. -/
def execCmdEn (on : Bool) (obs : CmdObs) (s : State) : Host.Outcome State Fault Refusal :=
  .next (if pcieUp s then takeAll obs (cmdEnWrite on s) else s)
/-- RING_EN (12 R477 to R479). -/
def execRingEn (rings : BitVec 4) (obs : CmdObs) (s : State) : Host.Outcome State Fault Refusal :=
  .next (if pcieUp s then takeAll obs (ringEnWrite rings.toNat s) else s)
def execResetRings (s : State) : Host.Outcome State Fault Refusal := .next (if pcieUp s then resetRings s else s)
def execCmdTailWrite (tail : Fin 16) (obs : CmdObs) (s : State) : Host.Outcome State Fault Refusal :=
  .next (if pcieUp s then tailWrite tail obs s else s)
/-- IRQ_STATUS_CLEAR (12 R477): W1C. -/
def execIrqStatusClear (bits : BitVec 32) (s : State) : Host.Outcome State Fault Refusal :=
  .next (if pcieUp s then setIrq (s.pcie.irqStatus &&& (1023 - bits.toNat % 1024)) s.pcie.irqMask s else s)
/-- FRAMING_READ (12 R477): the counter is returned and cleared. -/
def execFramingRead (s : State) : Host.Outcome State Fault Refusal :=
  .next (if pcieUp s then { drive (le 4 s.pcie.framing) s with pcie.framing := 0 } else s)
/-- RING_DROPS_READ (12 R477): the counter is returned and cleared. -/
def execRingDropsRead (n : Fin 4) (s : State) : Host.Outcome State Fault Refusal :=
  .next (if pcieUp s then modRing n (fun r => { r with drops := 0 }) (drive (le 4 (ringOf s n).drops) s) else s)
def execRegisterWrite (off : BitVec 16) (v : BitVec 32) (obs : CmdObs) (s : State) : Host.Outcome State Fault Refusal :=
  .next (if pcieUp s then bar0Write off.toNat v.toNat obs s else s)
/-- RING_DATA_MODERATION (12 R480): MOD_US has passed since the oldest entry not yet signalled. -/
def execRingDataModeration (n : Fin 4) (s : State) : Host.Outcome State Fault Refusal :=
  .next (if (ringOf s n).waiting then signalRing n s else s)
def execDmaError (n : Fin 4) (s : State) : Host.Outcome State Fault Refusal := .next (if pcieUp s then dmaError n s else s)
def execPcieFunctionReset (kind : PcieResetKind) (s : State) : Host.Outcome State Fault Refusal :=
  .next (if mainRuns s then functionReset kind s else s)
/-- PCIE_LINK_TRAINED (12 R484): the budget follows the link. -/
def execPcieLinkTrained (link : PcieLink) (s : State) : Host.Outcome State Fault Refusal :=
  .next (if mainRuns s then { s with pcie.link := some link } else s)
/-- RING_ENTRY_WRITTEN (12 R479): the queue's room may let the port take commands again. -/
def execRingEntryWritten (n : Fin 4) (obs : CmdObs) (s : State) : Host.Outcome State Fault Refusal :=
  .next (if pcieUp s then takeAll obs (entryWritten n s) else s)

end Sys2Proof.Machine
end

