-- ==== Sys2Proof/Machine/SlicePath.lean ====
section
/-! DEFINITION. The path of a slice: what crosses the slice bus reaches the tracking array, Damask and the Voile correlator (03 R112). -/
namespace Sys2Proof.Machine

/-- SLICE_TRANSFER_UNIT (03 R111, R112): a unit of 32 samples that crosses is taken by every consumer. -/
def sliceTransfer (a i : Nat) (u : TransferUnit) (s : State) : State :=
  let x := sliceUnit a i u s
  if x.2 then modSlice a i (fun y => { y with unitPos := y.unitPos + 32 }) (voileUnit a i (damaskUnit a i (trackUnit a i x.1))) else x.1

def execSliceTransferUnit (a : Fin 24) (i : Fin 4) (u : TransferUnit) (s : State) : Host.Outcome State Fault Refusal :=
  .next (sliceTransfer a i u s)

end Sys2Proof.Machine
end

