-- ==== Sys2Proof/Machine/Dispatch.lean ====
section
/-! DEFINITION. The effect of each command: one arm per constructor, each one call of its meaning. -/
namespace Sys2Proof.Machine

/-- The effect of a command on everything but the queue. -/
def exec (i : Instr) (s : State) : Host.Outcome State Fault Refusal :=
  match i with
  | .sysIdentify p => Sys2Proof.Machine.execSysIdentify p s
  | .sysStatus p => Sys2Proof.Machine.execSysStatus p s
  | .sysRestart p => Sys2Proof.Machine.execSysRestart p s
  | .sysErrlogRead p => Sys2Proof.Machine.execSysErrlogRead p s
  | .sysErrlogClear p => Sys2Proof.Machine.execSysErrlogClear p s
  | .sysPark p => Sys2Proof.Machine.execSysPark p s
  | .prfSelect p => Sys2Proof.Machine.execPrfSelect p s
  | .prfCustom p => Sys2Proof.Machine.execPrfCustom p s
  | .prfQuery p => Sys2Proof.Machine.execPrfQuery p s
  | .pwrStop p => Sys2Proof.Machine.execPwrStop p s
  | .pwrWakeCfg p => Sys2Proof.Machine.execPwrWakeCfg p s
  | .pwrIslands p => Sys2Proof.Machine.execPwrIslands p s
  | .aprEnable p => Sys2Proof.Machine.execAprEnable p s
  | .aprConfig p => Sys2Proof.Machine.execAprConfig p s
  | .aprNotch p => Sys2Proof.Machine.execAprNotch p s
  | .aprBlank p => Sys2Proof.Machine.execAprBlank p s
  | .aprStatus p => Sys2Proof.Machine.execAprStatus p s
  | .aprStream p => Sys2Proof.Machine.execAprStream p s
  | .acqPlan p => Sys2Proof.Machine.execAcqPlan p s
  | .acqAid p => Sys2Proof.Machine.execAcqAid p s
  | .acqStart p => Sys2Proof.Machine.execAcqStart p s
  | .acqAbort p => Sys2Proof.Machine.execAcqAbort p s
  | .acqResults p => Sys2Proof.Machine.execAcqResults p s
  | .trkAssign p => Sys2Proof.Machine.execTrkAssign p s
  | .trkRelease p => Sys2Proof.Machine.execTrkRelease p s
  | .trkLoops p => Sys2Proof.Machine.execTrkLoops p s
  | .trkCorr p => Sys2Proof.Machine.execTrkCorr p s
  | .trkBurst p => Sys2Proof.Machine.execTrkBurst p s
  | .trkStatus p => Sys2Proof.Machine.execTrkStatus p s
  | .trkAnchor p => Sys2Proof.Machine.execTrkAnchor p s
  | .calVoile p => Sys2Proof.Machine.execCalVoile p s
  | .calStatus p => Sys2Proof.Machine.execCalStatus p s
  | .calCommit p => Sys2Proof.Machine.execCalCommit p s
  | .calLoad p => Sys2Proof.Machine.execCalLoad p s
  | .measRate p => Sys2Proof.Machine.execMeasRate p s
  | .tulGroup p => Sys2Proof.Machine.execTulGroup p s
  | .tulMode p => Sys2Proof.Machine.execTulMode p s
  | .tulResetAmb p => Sys2Proof.Machine.execTulResetAmb p s
  | .measCorrections p => Sys2Proof.Machine.execMeasCorrections p s
  | .navConfig p => Sys2Proof.Machine.execNavConfig p s
  | .timPulse p => Sys2Proof.Machine.execTimPulse p s
  | .timScale p => Sys2Proof.Machine.execTimScale p s
  | .timHoldover p => Sys2Proof.Machine.execTimHoldover p s
  | .timDelays p => Sys2Proof.Machine.execTimDelays p s
  | .timEvent p => Sys2Proof.Machine.execTimEvent p s
  | .timStepPolicy p => Sys2Proof.Machine.execTimStepPolicy p s
  | .timTimecode p => Sys2Proof.Machine.execTimTimecode p s
  | .clkRef p => Sys2Proof.Machine.execClkRef p s
  | .clkOut p => Sys2Proof.Machine.execClkOut p s
  | .clkRamp p => Sys2Proof.Machine.execClkRamp p s
  | .clkSync p => Sys2Proof.Machine.execClkSync p s
  | .clkStatus p => Sys2Proof.Machine.execClkStatus p s
  | .lnkChannels p => Sys2Proof.Machine.execLnkChannels p s
  | .lnkCal p => Sys2Proof.Machine.execLnkCal p s
  | .lnkTxpower p => Sys2Proof.Machine.execLnkTxpower p s
  | .lnkDiversity p => Sys2Proof.Machine.execLnkDiversity p s
  | .lnkStatus p => Sys2Proof.Machine.execLnkStatus p s
  | .lnkRole p => Sys2Proof.Machine.execLnkRole p s
  | .lnkSchedule p => Sys2Proof.Machine.execLnkSchedule p s
  | .lnkSend p => Sys2Proof.Machine.execLnkSend p s
  | .lnkNodes p => Sys2Proof.Machine.execLnkNodes p s
  | .lnkRxcfg p => Sys2Proof.Machine.execLnkRxcfg p s
  | .krnLoad p => Sys2Proof.Machine.execKrnLoad p s
  | .krnStart p => Sys2Proof.Machine.execKrnStart p s
  | .krnStop p => Sys2Proof.Machine.execKrnStop p s
  | .krnStatus p => Sys2Proof.Machine.execKrnStatus p s
  | .krnSpares p => Sys2Proof.Machine.execKrnSpares p s
  | .krnMailbox p => Sys2Proof.Machine.execKrnMailbox p s
  | .memOwner p => Sys2Proof.Machine.execMemOwner p s
  | .memScrub p => Sys2Proof.Machine.execMemScrub p s
  | .memStatus p => Sys2Proof.Machine.execMemStatus p s
  | .bstSchedule p => Sys2Proof.Machine.execBstSchedule p s
  | .bstRunNow p => Sys2Proof.Machine.execBstRunNow p s
  | .bstResults p => Sys2Proof.Machine.execBstResults p s
  | .secKeyInstall p => Sys2Proof.Machine.execSecKeyInstall p s
  | .secKeyRetire p => Sys2Proof.Machine.execSecKeyRetire p s
  | .secCounterQuery p => Sys2Proof.Machine.execSecCounterQuery p s
  | .secLifecycle p => Sys2Proof.Machine.execSecLifecycle p s
  | .secZeroize p => Sys2Proof.Machine.execSecZeroize p s
  | .outRoute p => Sys2Proof.Machine.execOutRoute p s
  | .outFilter p => Sys2Proof.Machine.execOutFilter p s
  | .unknownOpcode opcode p => Sys2Proof.Machine.execUnknownOpcode opcode p s
  | .authLockExpiry slot => Sys2Proof.Machine.execAuthLockExpiry slot s
  | .packetByteTimeout port obs => Sys2Proof.Machine.execPacketByteTimeout port obs s
  | .uartByteReceived u b stopOk lowPs idle obs => Sys2Proof.Machine.execUartByteReceived u b stopOk lowPs idle obs s
  | .uartBreak u obs => Sys2Proof.Machine.execUartBreak u obs s
  | .spiWrite bs idle obs => Sys2Proof.Machine.execSpiWrite bs idle obs s
  | .spiQuadWrite bs idle obs => Sys2Proof.Machine.execSpiQuadWrite bs idle obs s
  | .spiRead n obs => Sys2Proof.Machine.execSpiRead n obs s
  | .spiQuadRead n obs => Sys2Proof.Machine.execSpiQuadRead n obs s
  | .spiStatus n => Sys2Proof.Machine.execSpiStatus n s
  | .spiUnknownInstruction code => Sys2Proof.Machine.execSpiUnknownInstruction code s
  | .muslinWrite addr bs idle obs => Sys2Proof.Machine.execMuslinWrite addr bs idle obs s
  | .muslinRead addr n obs => Sys2Proof.Machine.execMuslinRead addr n obs s
  | .muslinAddrApply => Sys2Proof.Machine.execMuslinAddrApply s
  | .cmdEn on obs => Sys2Proof.Machine.execCmdEn on obs s
  | .ringEn rings obs => Sys2Proof.Machine.execRingEn rings obs s
  | .resetRings => Sys2Proof.Machine.execResetRings s
  | .cmdTailWrite tail obs => Sys2Proof.Machine.execCmdTailWrite tail obs s
  | .irqStatusClear bits => Sys2Proof.Machine.execIrqStatusClear bits s
  | .framingRead => Sys2Proof.Machine.execFramingRead s
  | .ringDropsRead n => Sys2Proof.Machine.execRingDropsRead n s
  | .ownerWrite b v => Sys2Proof.Machine.execOwnerWrite b v s
  | .registerWrite off v obs => Sys2Proof.Machine.execRegisterWrite off v obs s
  | .bar2Read off n errs => Sys2Proof.Machine.execBar2Read off n errs s
  | .bar2Write off bs fullEnables errs => Sys2Proof.Machine.execBar2Write off bs fullEnables errs s
  | .ringDataModeration n => Sys2Proof.Machine.execRingDataModeration n s
  | .dmaError n => Sys2Proof.Machine.execDmaError n s
  | .pcieFunctionReset kind => Sys2Proof.Machine.execPcieFunctionReset kind s
  | .pcieLinkTrained link => Sys2Proof.Machine.execPcieLinkTrained link s
  | .islandReady n0 calFail => Sys2Proof.Machine.execIslandReady n0 calFail s
  | .bankReady b => Sys2Proof.Machine.execBankReady b s
  | .epoch o => Sys2Proof.Machine.execEpoch o s
  | .dumpRecordCommit ch a u => Sys2Proof.Machine.execDumpRecordCommit ch a u s
  | .rawCutoff residue => Sys2Proof.Machine.execRawCutoff residue s
  | .provisionalCutoff o => Sys2Proof.Machine.execProvisionalCutoff o s
  | .finalCutoff o => Sys2Proof.Machine.execFinalCutoff o s
  | .sliceTransferUnit a n0 u => Sys2Proof.Machine.execSliceTransferUnit a n0 u s
  | .notchRelease a n0 n => Sys2Proof.Machine.execNotchRelease a n0 n s
  | .agcUpdate a n0 => Sys2Proof.Machine.execAgcUpdate a n0 s
  | .agcTcSwitch a => Sys2Proof.Machine.execAgcTcSwitch a s
  | .apertureRunning a => Sys2Proof.Machine.execApertureRunning a s
  | .noiseRefLearnt a n0 => Sys2Proof.Machine.execNoiseRefLearnt a n0 s
  | .jiAlertClear a n0 => Sys2Proof.Machine.execJiAlertClear a n0 s
  | .noSignalRaise a => Sys2Proof.Machine.execNoSignalRaise a s
  | .noSignalClear a => Sys2Proof.Machine.execNoSignalClear a s
  | .overloadRaise a => Sys2Proof.Machine.execOverloadRaise a s
  | .overloadClear a => Sys2Proof.Machine.execOverloadClear a s
  | .adcFault a => Sys2Proof.Machine.execAdcFault a s
  | .iqBlock a n0 => Sys2Proof.Machine.execIqBlock a n0 s
  | .dutyWindow => Sys2Proof.Machine.execDutyWindow s
  | .dwellEnd task sv u r testLeft => Sys2Proof.Machine.execDwellEnd task sv u r testLeft s
  | .verificationDwellEnd signal sv u r testLeft => Sys2Proof.Machine.execVerificationDwellEnd signal sv u r testLeft s
  | .aidLapse signal sv => Sys2Proof.Machine.execAidLapse signal sv s
  | .lagUpdate => Sys2Proof.Machine.execLagUpdate s
  | .pliWindow => Sys2Proof.Machine.execPliWindow s
  | .voluntaryHandover ch => Sys2Proof.Machine.execVoluntaryHandover ch s
  | .lagSearchDwell ch a => Sys2Proof.Machine.execLagSearchDwell ch a s
  | .pullInTimeout ch => Sys2Proof.Machine.execPullInTimeout ch s
  | .coastEntry ch => Sys2Proof.Machine.execCoastEntry ch s
  | .coastTimeout ch => Sys2Proof.Machine.execCoastTimeout ch s
  | .apertureCoastTimeout ch a => Sys2Proof.Machine.execApertureCoastTimeout ch a s
  | .burstWake => Sys2Proof.Machine.execBurstWake s
  | .burstStart => Sys2Proof.Machine.execBurstStart s
  | .burstEnd => Sys2Proof.Machine.execBurstEnd s
  | .voileWindowEnd dieTemp => Sys2Proof.Machine.execVoileWindowEnd dieTemp s
  | .calTableStored ok => Sys2Proof.Machine.execCalTableStored ok s
  | .wholeSecond o => Sys2Proof.Machine.execWholeSecond o s
  | .holdoverExpiry => Sys2Proof.Machine.execHoldoverExpiry s
  | .slewEnd => Sys2Proof.Machine.execSlewEnd s
  | .timeStep => Sys2Proof.Machine.execTimeStep s
  | .pulseNotice out => Sys2Proof.Machine.execPulseNotice out s
  | .edgeAnnounce out => Sys2Proof.Machine.execEdgeAnnounce out s
  | .pulseEdge out => Sys2Proof.Machine.execPulseEdge out s
  | .pulseTrailingEdge out => Sys2Proof.Machine.execPulseTrailingEdge out s
  | .eventEdge n rising g => Sys2Proof.Machine.execEventEdge n rising g s
  | .syncInEdge rising g => Sys2Proof.Machine.execSyncInEdge rising g s
  | .refMonitorWindow khz => Sys2Proof.Machine.execRefMonitorWindow khz s
  | .lockWindow count => Sys2Proof.Machine.execLockWindow count s
  | .holdoffExpiry => Sys2Proof.Machine.execHoldoffExpiry s
  | .lockRetry => Sys2Proof.Machine.execLockRetry s
  | .hostSweepComplete out => Sys2Proof.Machine.execHostSweepComplete out s
  | .alignmentExpiry => Sys2Proof.Machine.execAlignmentExpiry s
  | .linkTempCheck temp => Sys2Proof.Machine.execLinkTempCheck temp s
  | .synthCalStart slot => Sys2Proof.Machine.execSynthCalStart slot s
  | .synthHopStart slot => Sys2Proof.Machine.execSynthHopStart slot s
  | .backgroundCalStart us => Sys2Proof.Machine.execBackgroundCalStart us s
  | .synthCalEnd us => Sys2Proof.Machine.execSynthCalEnd us s
  | .lpaEnAssert slot x => Sys2Proof.Machine.execLpaEnAssert slot x s
  | .slotRampStart slot errs => Sys2Proof.Machine.execSlotRampStart slot errs s
  | .txFrameEnd => Sys2Proof.Machine.execTxFrameEnd s
  | .lpaEnRelease => Sys2Proof.Machine.execLpaEnRelease s
  | .llnaEnRestore x => Sys2Proof.Machine.execLlnaEnRestore x s
  | .txAbort eval => Sys2Proof.Machine.execTxAbort eval s
  | .preambleDetection x => Sys2Proof.Machine.execPreambleDetection x s
  | .linkAgcUpdate x => Sys2Proof.Machine.execLinkAgcUpdate x s
  | .watchDetection x => Sys2Proof.Machine.execWatchDetection x s
  | .headerDecoded x => Sys2Proof.Machine.execHeaderDecoded x s
  | .frameReceived x errs => Sys2Proof.Machine.execFrameReceived x errs s
  | .superframeStart x => Sys2Proof.Machine.execSuperframeStart x s
  | .heartbeat k => Sys2Proof.Machine.execHeartbeat k s
  | .irqPendClear k v => Sys2Proof.Machine.execIrqPendClear k v s
  | .emitLenWrite k v => Sys2Proof.Machine.execEmitLenWrite k v s
  | .emitDone k errs => Sys2Proof.Machine.execEmitDone k errs s
  | .inboxAck k => Sys2Proof.Machine.execInboxAck k s
  | .outboxNWrite k v => Sys2Proof.Machine.execOutboxNWrite k v s
  | .bexpWrite k v => Sys2Proof.Machine.execBexpWrite k v s
  | .subscriptionDelivery k errs => Sys2Proof.Machine.execSubscriptionDelivery k errs s
  | .imageStored k => Sys2Proof.Machine.execImageStored k s
  | .kernelEntry k => Sys2Proof.Machine.execKernelEntry k s
  | .kernelWatchdogExpiry k => Sys2Proof.Machine.execKernelWatchdogExpiry k s
  | .failoverStart k => Sys2Proof.Machine.execFailoverStart k s
  | .interruptEntry k => Sys2Proof.Machine.execInterruptEntry k s
  | .bankLoadReturn k stall errs => Sys2Proof.Machine.execBankLoadReturn k stall errs s
  | .postedStoreCommit k stall errs => Sys2Proof.Machine.execPostedStoreCommit k stall errs s
  | .illegalInstruction k => Sys2Proof.Machine.execIllegalInstruction k s
  | .kNop k => Sys2Proof.Machine.execKNop k s
  | .kHalt k => Sys2Proof.Machine.execKHalt k s
  | .kRet k => Sys2Proof.Machine.execKRet k s
  | .kReti k => Sys2Proof.Machine.execKReti k s
  | .kFence k waited => Sys2Proof.Machine.execKFence k waited s
  | .kWait k => Sys2Proof.Machine.execKWait k s
  | .waitWake k cycles => Sys2Proof.Machine.execWaitWake k cycles s
  | .kEi k => Sys2Proof.Machine.execKEi k s
  | .kDi k => Sys2Proof.Machine.execKDi k s
  | .kJr k p => Sys2Proof.Machine.execKJr k p s
  | .kCallr k p => Sys2Proof.Machine.execKCallr k p s
  | .kRepr k d => Sys2Proof.Machine.execKRepr k d s
  | .kJ k t => Sys2Proof.Machine.execKJ k t s
  | .kCall k t => Sys2Proof.Machine.execKCall k t s
  | .kRep k n => Sys2Proof.Machine.execKRep k n s
  | .kLoop k n e => Sys2Proof.Machine.execKLoop k n e s
  | .kBr k c a b off => Sys2Proof.Machine.execKBr k c a b off s
  | .kBri k c a n0 t => Sys2Proof.Machine.execKBri k c a n0 t s
  | .kBra k c a off => Sys2Proof.Machine.execKBra k c a off s
  | .kAdd k d a b => Sys2Proof.Machine.execKAdd k d a b s
  | .kSub k d a b => Sys2Proof.Machine.execKSub k d a b s
  | .kAdds k d a b => Sys2Proof.Machine.execKAdds k d a b s
  | .kSubs k d a b => Sys2Proof.Machine.execKSubs k d a b s
  | .kAnd k d a b => Sys2Proof.Machine.execKAnd k d a b s
  | .kOr k d a b => Sys2Proof.Machine.execKOr k d a b s
  | .kXor k d a b => Sys2Proof.Machine.execKXor k d a b s
  | .kMul k d a b => Sys2Proof.Machine.execKMul k d a b s
  | .kMulh k d a b => Sys2Proof.Machine.execKMulh k d a b s
  | .kMin k d a b => Sys2Proof.Machine.execKMin k d a b s
  | .kMax k d a b => Sys2Proof.Machine.execKMax k d a b s
  | .kMinu k d a b => Sys2Proof.Machine.execKMinu k d a b s
  | .kMaxu k d a b => Sys2Proof.Machine.execKMaxu k d a b s
  | .kNeg k d a => Sys2Proof.Machine.execKNeg k d a s
  | .kNegs k d a => Sys2Proof.Machine.execKNegs k d a s
  | .kAbs k d a => Sys2Proof.Machine.execKAbs k d a s
  | .kAbss k d a => Sys2Proof.Machine.execKAbss k d a s
  | .kNot k d a => Sys2Proof.Machine.execKNot k d a s
  | .kCls k d a => Sys2Proof.Machine.execKCls k d a s
  | .kClz k d a => Sys2Proof.Machine.execKClz k d a s
  | .kAddbcd k d a b => Sys2Proof.Machine.execKAddbcd k d a b s
  | .kSubbcd k d a b => Sys2Proof.Machine.execKSubbcd k d a b s
  | .kDadj k d a => Sys2Proof.Machine.execKDadj k d a s
  | .kDbin k d a => Sys2Proof.Machine.execKDbin k d a s
  | .kLsl k d a b => Sys2Proof.Machine.execKLsl k d a b s
  | .kLsr k d a b => Sys2Proof.Machine.execKLsr k d a b s
  | .kAsr k d a b => Sys2Proof.Machine.execKAsr k d a b s
  | .kAsls k d a b => Sys2Proof.Machine.execKAsls k d a b s
  | .kLslImm k d a amt => Sys2Proof.Machine.execKLslImm k d a amt s
  | .kLsrImm k d a amt => Sys2Proof.Machine.execKLsrImm k d a amt s
  | .kAsrImm k d a amt => Sys2Proof.Machine.execKAsrImm k d a amt s
  | .kAslsImm k d a amt => Sys2Proof.Machine.execKAslsImm k d a amt s
  | .kDiv k d a b => Sys2Proof.Machine.execKDiv k d a b s
  | .kDivu k d a b => Sys2Proof.Machine.execKDivu k d a b s
  | .kAddi k d a n0 => Sys2Proof.Machine.execKAddi k d a n0 s
  | .kAddpi k d a n0 => Sys2Proof.Machine.execKAddpi k d a n0 s
  | .kMovi k d n0 => Sys2Proof.Machine.execKMovi k d n0 s
  | .kMovr k rd rs => Sys2Proof.Machine.execKMovr k rd rs s
  | .kMovil k rd n0 => Sys2Proof.Machine.execKMovil k rd n0 s
  | .kLd k d p m n0 => Sys2Proof.Machine.execKLd k d p m n0 s
  | .kLdr k r p m n0 => Sys2Proof.Machine.execKLdr k r p m n0 s
  | .kSt k d p m n0 => Sys2Proof.Machine.execKSt k d p m n0 s
  | .kStr k r p m n0 => Sys2Proof.Machine.execKStr k r p m n0 s
  | .kLdx k d p q n0 => Sys2Proof.Machine.execKLdx k d p q n0 s
  | .kStx k d p q n0 => Sys2Proof.Machine.execKStx k d p q n0 s
  | .kLdc k d p m n0 => Sys2Proof.Machine.execKLdc k d p m n0 s
  | .kExtu k d a pos w => Sys2Proof.Machine.execKExtu k d a pos w s
  | .kExts k d a pos w => Sys2Proof.Machine.execKExts k d a pos w s
  | .kIns k d a pos w => Sys2Proof.Machine.execKIns k d a pos w s
  | .kMpy k c a b => Sys2Proof.Machine.execKMpy k c a b s
  | .kMac k c a b => Sys2Proof.Machine.execKMac k c a b s
  | .kMsu k c a b => Sys2Proof.Machine.execKMsu k c a b s
  | .kMpyi k c a b => Sys2Proof.Machine.execKMpyi k c a b s
  | .kMaci k c a b => Sys2Proof.Machine.execKMaci k c a b s
  | .kMsui k c a b => Sys2Proof.Machine.execKMsui k c a b s
  | .kClra k c => Sys2Proof.Machine.execKClra k c s
  | .kMova k c a => Sys2Proof.Machine.execKMova k c a s
  | .kAdda k c a => Sys2Proof.Machine.execKAdda k c a s
  | .kSuba k c a => Sys2Proof.Machine.execKSuba k c a s
  | .kNega k c => Sys2Proof.Machine.execKNega k c s
  | .kNegas k c => Sys2Proof.Machine.execKNegas k c s
  | .kAbsa k c => Sys2Proof.Machine.execKAbsa k c s
  | .kAbsas k c => Sys2Proof.Machine.execKAbsas k c s
  | .kAsha k c amt => Sys2Proof.Machine.execKAsha k c amt s
  | .kAshas k c amt => Sys2Proof.Machine.execKAshas k c amt s
  | .kAshar k c a => Sys2Proof.Machine.execKAshar k c a s
  | .kAshasr k c a => Sys2Proof.Machine.execKAshasr k c a s
  | .kRnda k c => Sys2Proof.Machine.execKRnda k c s
  | .kSata k c => Sys2Proof.Machine.execKSata k c s
  | .kFtap k c pc ps => Sys2Proof.Machine.execKFtap k c pc ps s
  | .scrubGranule b errs => Sys2Proof.Machine.execScrubGranule b errs s
  | .memScrubComplete fixed bad => Sys2Proof.Machine.execMemScrubComplete fixed bad s
  | .drainComplete b => Sys2Proof.Machine.execDrainComplete b s
  | .vbatPowerOn => Sys2Proof.Machine.execVbatPowerOn s
  | .vbatLoss => Sys2Proof.Machine.execVbatLoss s
  | .wakeNLow => Sys2Proof.Machine.execWakeNLow s
  | .addressMatch addr read => Sys2Proof.Machine.execAddressMatch addr read s
  | .timerAlarm => Sys2Proof.Machine.execTimerAlarm s
  | .x32Loss => Sys2Proof.Machine.execX32Loss s
  | .parkWriteDone => Sys2Proof.Machine.execParkWriteDone s
  | .pwrEnFall => Sys2Proof.Machine.execPwrEnFall s
  | .pwrEnRise stopMs => Sys2Proof.Machine.execPwrEnRise stopMs s
  | .resetNLow => Sys2Proof.Machine.execResetNLow s
  | .railOutOfRange => Sys2Proof.Machine.execRailOutOfRange s
  | .resetRelease heldMs => Sys2Proof.Machine.execResetRelease heldMs s
  | .fwWatchdog proc => Sys2Proof.Machine.execFwWatchdog proc s
  | .securityReset => Sys2Proof.Machine.execSecurityReset s
  | .fwReady => Sys2Proof.Machine.execFwReady s
  | .selftestSlot us => Sys2Proof.Machine.execSelftestSlot us s
  | .selftestSliceEnd pass vector => Sys2Proof.Machine.execSelftestSliceEnd pass vector s
  | .fuseBurnDone => Sys2Proof.Machine.execFuseBurnDone s
  | .keyErasureDone => Sys2Proof.Machine.execKeyErasureDone s
  | .errlogCoalescedReport code cls inst => Sys2Proof.Machine.execErrlogCoalescedReport code cls inst s
  | .synthLockReport c => Sys2Proof.Machine.execSynthLockReport c s
  | .stfNinthPeriod x n => Sys2Proof.Machine.execStfNinthPeriod x n s
  | .slotEnd slot x => Sys2Proof.Machine.execSlotEnd slot x s
  | .uartByteTransmitted u obs => Sys2Proof.Machine.execUartByteTransmitted u obs s
  | .ringEntryWritten n obs => Sys2Proof.Machine.execRingEntryWritten n obs s
  | .clkoutOnTimeEdge out g => Sys2Proof.Machine.execClkoutOnTimeEdge out g s
  | .correctionShapeComplete => Sys2Proof.Machine.execCorrectionShapeComplete s
  | .sysRestartReset => Sys2Proof.Machine.execSysRestartReset s

end Sys2Proof.Machine
end

