-- ==== Sys2Proof/Machine/KernelEncode.lean ====
section
/-! DEFINITION. The encoder of the kernel instructions, from the format table of 13 and the opcodes of R508: for every instruction
whose operands its format can carry, the word, or two words, that spell it. -/
namespace Sys2Proof.Machine

/-- SUB of a control instruction without an operand. -/
def subCtl : KCtl → Nat
  | .nop => 0 | .halt => 1 | .ret => 2 | .reti => 3 | .fence => 4 | .wait => 5 | .ei => 6 | .di => 7
/-- SUB of an ALU instruction of two sources. -/
def subAlu : KAlu → Nat
  | .add => 0 | .adds => 1 | .sub => 2 | .subs => 3 | .and => 4 | .or => 5 | .xor => 6 | .mul => 7 | .mulh => 8 | .min => 9
  | .max => 10 | .minu => 11 | .maxu => 12 | .addbcd => 20 | .subbcd => 21 | .lsl => 24 | .lsr => 25 | .asr => 26 | .asls => 27
/-- SUB of an ALU instruction of one source. -/
def subUna : KUna → Nat
  | .neg => 13 | .negs => 14 | .abs => 15 | .abss => 16 | .not => 17 | .cls => 18 | .clz => 19 | .dadj => 22 | .dbin => 23
/-- KIND of a shift by an immediate. -/
def kindShi : KShi → Nat
  | .lsl => 0 | .lsr => 1 | .asr => 2 | .asls => 3
/-- KIND of a field instruction. -/
def kindExt : KExt → Nat
  | .extu => 0 | .exts => 1 | .ins => 2
/-- SUB of a multiply instruction. -/
def subMul : KMul → Nat
  | .mpy => 0 | .mac => 1 | .msu => 2 | .mpyi => 3 | .maci => 4 | .msui => 5
/-- SUB of an accumulator instruction on one accumulator. -/
def subAcu : KAcu → Nat
  | .clra => 0 | .nega => 4 | .negas => 5 | .absa => 6 | .absas => 7 | .rnda => 12 | .sata => 13
/-- SUB of an accumulator instruction on two accumulators. -/
def subAcb : KAcb → Nat
  | .mova => 1 | .adda => 2 | .suba => 3
/-- COND of a branch (13 R522). -/
def codeCond : KCond → Nat
  | .eq => 0 | .ne => 1 | .lt => 2 | .ge => 3 | .ltu => 4 | .geu => 5

/-- A word of a major opcode: each field's value at its lowest bit. -/
def kWord (major : Nat) (fields : List (Nat × Nat)) : Nat :=
  major * 2 ^ 19 + (fields.map (fun x => x.1 * 2 ^ x.2)).sum

/-- The first word of an instruction, and the second, which is 0 for an instruction of one word (13, "Instruction formats"). -/
def kEncode : KInstr → Nat × Nat
  | .ctl c => (kWord 0x01 [(subCtl c, 14)], 0)
  | .jr p => (kWord 0x01 [(8, 14), (p, 11)], 0)
  | .callr p => (kWord 0x01 [(9, 14), (p, 11)], 0)
  | .repr d => (kWord 0x01 [(10, 14), (d, 11)], 0)
  | .j t => (kWord 0x02 [(t, 0)], 0)
  | .call t => (kWord 0x03 [(t, 0)], 0)
  | .rep n => (kWord 0x04 [(n, 0)], 0)
  | .loopImm n e => (kWord 0x05 [(0, 18), (n, 0)], e)
  | .loopReg d e => (kWord 0x05 [(1, 18), (d, 13)], e)
  | .br c a b off => (kWord 0x06 [(codeCond c, 16), (a, 12), (b, 8), (off, 0)], 0)
  | .bri c a i t => (kWord 0x07 [(codeCond c, 16), (a, 12), (i, 0)], t)
  | .bra c a off => (kWord 0x08 [(codeCond c, 16), (a, 14), (off, 0)], 0)
  | .alu op d a b => (kWord 0x09 [(subAlu op, 14), (d, 11), (a, 8), (b, 5)], 0)
  | .una op d a => (kWord 0x09 [(subUna op, 14), (d, 11), (a, 8)], 0)
  | .div signed d a b => (kWord 0x09 [(if signed then 28 else 29, 14), (d, 11), (a, 8), (b, 5)], 0)
  | .shi op d a amt => (kWord 0x0A [(kindShi op, 17), (d, 14), (a, 11), (amt, 4)], 0)
  | .addi d a i => (kWord 0x0B [(d, 16), (a, 13), (i, 0)], 0)
  | .addpi d a i => (kWord 0x0C [(d, 16), (a, 13), (i, 0)], 0)
  | .movi d i => (kWord 0x0D [(d, 16), (i, 0)], 0)
  | .movr rd rs => (kWord 0x0E [(rd, 13), (rs, 7)], 0)
  | .movil rd i => (kWord 0x0F [(rd, 13)], i)
  | .ld d p m i => (kWord 0x10 [(d, 16), (p, 13), (m, 10), (i, 0)], 0)
  | .st d p m i => (kWord 0x11 [(d, 16), (p, 13), (m, 10), (i, 0)], 0)
  | .ldr r p m i => (kWord 0x12 [(r, 13), (p, 10), (m, 7), (i, 0)], 0)
  | .str r p m i => (kWord 0x13 [(r, 13), (p, 10), (m, 7), (i, 0)], 0)
  | .ldx d p q i => (kWord 0x14 [(d, 16), (p, 13), (q, 9), (i, 0)], 0)
  | .stx d p q i => (kWord 0x15 [(d, 16), (p, 13), (q, 9), (i, 0)], 0)
  | .ldc d p m i => (kWord 0x16 [(d, 16), (p, 13), (m, 10), (i, 0)], 0)
  | .ext op d a pos wm1 => (kWord 0x17 [(kindExt op, 17), (d, 14), (a, 11), (pos, 6), (wm1, 1)], 0)
  | .mul op c a b => (kWord 0x18 [(subMul op, 16), (c, 14), (a, 11), (b, 8)], 0)
  | .acu op c => (kWord 0x19 [(subAcu op, 14), (c, 12)], 0)
  | .acb op c a => (kWord 0x19 [(subAcb op, 14), (c, 12), (a, 10)], 0)
  | .asha sat c amt => (kWord 0x19 [(if sat then 9 else 8, 14), (c, 12), (amt, 3)], 0)
  | .ashar sat c a => (kWord 0x19 [(if sat then 11 else 10, 14), (c, 12), (a, 7)], 0)
  | .ftap c pc ps => (kWord 0x1A [(c, 17), (pc, 14), (ps, 11)], 0)

/-- Every field is a value that its width holds. -/
def fits (l : List (Nat × Nat)) : Bool := l.all (fun x => decide (x.1 < 2 ^ x.2))

/-- An instruction at offset `pc` of a kind of core that the format table can spell: operands inside their fields, registers and
modes that the core has, and none of the encodings that 13 R503, R509, R510, R512, R516, R521, R522, R528 and R540 exclude. -/
def kWellFormed (transform : Bool) (pc : Nat) : KInstr → Bool
  | .ctl _ => true
  | .jr p | .callr p | .repr p => fits [(p, 3)]
  | .j t | .call t => fits [(t, 14)]
  | .rep n => fits [(n, 12)]
  | .loopImm n e => fits [(n, 16), (e, 14)] && decide (pc + 2 ≤ e)
  | .loopReg d e => fits [(d, 3), (e, 14)] && decide (pc + 2 ≤ e)
  | .br _ a b off => fits [(a, 4), (b, 4), (off, 8)]
  | .bri _ a i t => fits [(a, 4), (i, 12), (t, 14)]
  | .bra c a off => fits [(a, 2), (off, 8)] && decide (codeCond c ≤ 3)
  | .alu _ d a b => fits [(d, 3), (a, 3), (b, 3)]
  | .una _ d a => fits [(d, 3), (a, 3)]
  | .div _ d a b => fits [(d, 3), (a, 3), (b, 3)] && d % 2 == 0
  | .shi _ d a amt => fits [(d, 3), (a, 3), (amt, 7)]
  | .addi d a i | .addpi d a i => fits [(d, 3), (a, 3), (i, 13)]
  | .movi d i => fits [(d, 3), (i, 16)]
  | .movr rd rs => kRegOk transform rd true && kRegOk transform rs false
  | .movil rd i => kRegOk transform rd true && fits [(i, 24)]
  | .ld d p m i | .st d p m i => fits [(d, 3), (p, 3), (i, 10)] && kModeOk transform m i
  | .ldr r p m i => fits [(p, 3), (i, 7)] && kRegOk transform r true && kModeOk transform m i && !(m != 0 && r == 8 + p)
  | .str r p m i => fits [(p, 3), (i, 7)] && kRegOk transform r false && kModeOk transform m i
  | .ldx d p q i => fits [(d, 3), (p, 3), (i, 9)] && decide (q ≤ 9)
  | .stx d p q i => fits [(d, 3), (p, 3), (i, 9)] && decide (q ≤ 5)
  | .ldc d p m i => fits [(d, 3), (p, 3), (i, 10)] && decide (m ≤ 1)
  | .ext _ d a pos wm1 => fits [(d, 3), (a, 3)] && decide (pos + wm1 + 1 ≤ 24)
  | .mul _ c a b => fits [(c, 2), (a, 3), (b, 3)]
  | .acu _ c => fits [(c, 2)]
  | .acb _ c a => fits [(c, 2), (a, 2)]
  | .asha _ c amt => fits [(c, 2), (amt, 7)]
  | .ashar _ c a => fits [(c, 2), (a, 3)]
  | .ftap c pc ps => fits [(c, 2), (pc, 3), (ps, 3)]

end Sys2Proof.Machine
end

