-- ==== Sys2Proof/Safety.lean ====
section
/-! DEFINITION. The terms that statements use: when a command packet is accepted and what a committed or rejected one leaves (02
R63 to R78), the state apart from what was sent and logged, and the invariants of the machine. -/
namespace Sys2Proof.Safety

open Sys2Proof.Machine

/-! ### A command packet on its way to step 11 of R63 -/

/-- A signed command's slot is active and unlocked, its tag is right and its counter is fresh; an unsigned one may be unsigned (02
R63 step 7, R84, R91). -/
def AuthPasses (sp : OpSpec) (p : Packet) (s : State) : Prop :=
  if cmdAuth p then
    (slotOf s (cmdSlot p)).lockUntil = none ∧ (slotOf s (cmdSlot p)).state = 1
      ∧ le 16 p.tag.toNat = tagOf (slotOf s (cmdSlot p)).key (cmdSigned sp.opcode p)
      ∧ (slotOf s (cmdSlot p)).highWater < p.counter.toNat
  else (sp.critical && authNeeded s.security.life) = false

/-- After step 7: the packet has woken the firmware (01 R14), and a signed command that passes clears its slot's count of failures (02
R96). -/
def authed (p : Packet) (s : State) : State :=
  if cmdAuth p then modSlot (cmdSlot p) (fun x => { x with failures := 0 }) (wakeFirmware s) else wakeFirmware s

/-- Steps 1 to 8 of R63 pass, the port takes the packet as a new command, and no earlier command is held (02 R68). -/
structure Received (sp : OpSpec) (p : Packet) (s : State) : Prop where
  up : hostUp s = true
  unblocked : portBlocked s p.port = false
  crc : p.crc.toNat = crc32c (cmdBytes sp.opcode p)
  fresh : cacheFind s sp.opcode p = none
  room : outstanding s p.port < 8
  first : s.ecsol.held = []
  window : s.ecsol.window = .none
  flags : bitsOf p.flags.toNat 7 4 = 0 ∧ (cmdAuth p = true ∨ cmdSlot p = 0)
  stage : permitted s.security.life sp.opcode = true
  auth : AuthPasses sp p s
  length : lengthOk sp p = true

/-- A command that reaches the Voile correlators withdraws their reserved slice (17 R620). -/
def withdrawn (sp : OpSpec) (p : Packet) (s : State) : State :=
  if (reached sp p s).contains 37 then { s with bst.voileReserved := false } else s

/-- Steps 1 to 10 of R63 pass, no self-test slice stands in the way (17 R621), and the command's MRAM writes succeed. -/
structure Accepted (sp : OpSpec) (p : Packet) (s : State) : Prop where
  received : Received sp p s
  islands : islandStep sp p (authed p s) = none
  slice : (match s.bst.active with | some r => (reached sp p (withdrawn sp p (authed p s))).contains r.block | none => false) = false
  params : p.obs.paramCrcFail = false
  mram : p.obs.mramFail = false

/-- The state on which an accepted command's own checks and its change work: failures cleared, the counter as the new high-water
mark (02 R63 step 12, R92). -/
def ready (sp : OpSpec) (p : Packet) (s : State) : State :=
  let t := withdrawn sp p (authed p s)
  if cmdAuth p then modSlot (cmdSlot p) (fun x => { x with highWater := p.counter.toNat }) t else t

/-- After a committed command: `t` is what its change leaves, and its reply is cached and, where asked for, queued. -/
def committed (sp : OpSpec) (p : Packet) (s : State) (chain : Nat) (payload : List Byte) (t : State) : State :=
  finish sp.opcode p .ok chain payload (signKey s p) t

/-- After an accepted command that its own checks reject: no change but the reply and its records. -/
def rejected (sp : OpSpec) (p : Packet) (s : State) (st : Status) : State :=
  finish sp.opcode p st 0 [] (signKey s p) (withdrawn sp p (authed p s))

/-! ### What was sent and logged -/

/-- The state apart from the port queues and caches, the PCIe rings and interrupts, and the error log: what sending and logging
change. -/
def quiet (s : State) : State :=
  { s with
    ecsol.ports := [], pcie.rings := [], pcie.irqStatus := 0, pcie.msixPending := 0, pcie.msixSent := [],
    errlog := ErrLog.initial }

/-- `t` is `u` but for what was sent and logged. -/
def Same (t u : State) : Prop := quiet t = quiet u

/-! ### Kernel instructions -/

/-- Core `k` issues the instruction `i`, whose second word is `w2`: it runs, awaits no load, takes no interrupt first, and PC holds `i`
(13 R501; 14 R544). -/
def Issues (k : Nat) (i : KInstr) (w2 : Nat) (s : State) : Prop :=
  kIssues s k = true ∧ kFetch k (coreOf s k) = .instr i w2

/-- The core at the issue of an instruction, without the load that lands after it. -/
def coreBase (s : State) (k : Nat) : Core := { coreOf s k with slot := none }

/-- An instruction completes: `c` is the core after its effect; the load before lands, and repeats, loops and a stop that waits are
looked at (13 R520, R524; 14 R541, R542, R554). -/
def retire (k : Nat) (i : KInstr) (c : Core) (pc : Nat) (taken : Bool) (cycles : Nat) (s : State) : State :=
  kSettle k (kComplete (coreOf s k) (kWrites i) c pc taken cycles) s

/-- An instruction that goes on in line after one cycle. -/
def retireNext (k : Nat) (i : KInstr) (c : Core) (s : State) : State := retire k i c ((coreOf s k).pc + 1) false 1 s

/-! ### Bytes on their way in -/

/-- The bytes are the beginning of one packet, and more of it must come (02 R51, R59). -/
def Unfinished (bs : List Byte) : Prop :=
  bs.head? = some 0xA7 ∧ (bs.length < 8 ∨ u16 bs 2 ≤ 4096 ∧ bs.length < packetSize bs)

/-! ### The memory of the shared banks -/

/-- The canonical form of the banks' memory: addresses strictly rising, and no byte listed that reads as an unlisted one does. -/
def Memory.wf (m : List Host.Cell) : Bool := tabWf 0 m

/-- The invariant of the banks: their memory is in its canonical form, and SB0 is powered and the device's own (15 R571, R581). -/
def BanksOk (s : State) : Prop := Memory.wf s.bankMem = true ∧ (bankOf s 0).owner = 0 ∧ (bankOf s 0).powered = true

end Sys2Proof.Safety
end

