-- ==== Sys2Proof/Certificates/Slice0/Obligations.lean ====
section
/-! DEFINITION. The statements for the provers: one definition per obligation, named for what it states. -/

open Sys2Proof Sys2Proof.Machine Sys2Proof.Safety

/-- Identification, status, error-log and route commands: the reply and the change that each accepted form makes (02
R103, 17 R644, 17 R645, 17 R646, 12 R487, 12 R489). -/
def Obligations.SystemCommandsComplete : Prop :=
  (∀ p s, Accepted specSysIdentify p s → let t := ready specSysIdentify p s
    exec (.sysIdentify p) s = .next (committed specSysIdentify p s 0
      ([0x59, 0x24, 0x0C] ++ le 1 (lifeCode t.security.life) ++ le 4 Config.fwVersion.toNat ++ le 8 Config.uniqueId.toNat
        ++ [0x00, 0x01, 0x00, 0x10, 0, 0, 0, 0]) t))
  ∧ (∀ p s, Accepted specSysStatus p s → let t := ready specSysStatus p s
    ∃ pl, exec (.sysStatus p) s = .next (committed specSysStatus p s 0 pl t) ∧ pl.length = 64
      ∧ field pl 0 1 = le 1 (lifeCode t.security.life) ∧ field pl 1 1 = le 1 t.profile.sel
      ∧ field pl 5 1 = le 1 (logHeld t.errlog).length ∧ field pl 8 8 = le 8 (nowMs t - t.power.readyMs))
  ∧ (∀ p s, Accepted specSysErrlogRead p s → u8 p.params 0 ≤ 127 → u8 p.params 1 ≤ 128 → zeroAt p.params 2 2 = true →
    let t := ready specSysErrlogRead p s
    let es := ((logOrdered t.errlog).drop (u8 p.params 0)).take (u8 p.params 1)
    exec (.sysErrlogRead p) s = .next (committed specSysErrlogRead p s 0
      (le 1 es.length ++ le 1 (logHeld t.errlog).length ++ le 2 t.errlog.dropped ++ le 2 t.errlog.displaced
        ++ le 1 (logMaxSev t.errlog) ++ le 1 (b2n t.errlog.kept) ++ es.flatMap logBytes) t))
  ∧ (∀ p s, Accepted specSysErrlogClear p s → exec (.sysErrlogClear p) s = .next (committed specSysErrlogClear p s 0 []
      (foldS (fun q u => modPort q (fun x => { x with dropArmed := true }) u) [.spi, .u0, .u1, .pcie, .muslin]
        { ready specSysErrlogClear p s with errlog := ErrLog.initial })))
  ∧ (∀ p s, Accepted specOutRoute p s → 0x81 ≤ u8 p.params 0 → u8 p.params 0 ≤ 0x8F → u8 p.params 1 ≤ 31 →
    (u8 p.params 0 = 0x8D → u8 p.params 1 = 8) → ((u8 p.params 1).testBit 3 = true → u8 p.params 2 ≤ 3) →
    ((u8 p.params 1).testBit 3 = false → u8 p.params 2 = 0) →
    ((u8 p.params 0 = 0x81 ∨ u8 p.params 0 = 0x82 ∨ u8 p.params 0 = 0x83) → u8 p.params 3 ≠ 0) →
    (¬ (u8 p.params 0 = 0x81 ∨ u8 p.params 0 = 0x82 ∨ u8 p.params 0 = 0x83) → u8 p.params 3 = 1) →
    (u8 p.params 1 = 0 ↔ u32 p.params 4 = 0) →
    let t := ready specOutRoute p s
    let r : Route := { ports := u8 p.params 1, ring := u8 p.params 2, decim := u8 p.params 3, instMask := u32 p.params 4 }
    let u := { t with ecsol.routes := tset Route.off t.ecsol.routes (u8 p.params 0) r }
    budgetBroken t u = false → exec (.outRoute p) s = .next (committed specOutRoute p s 0 [] u))
  ∧ (∀ p s, Accepted specOutFilter p s → (u8 p.params 0 ≤ 4 ∨ 16 ≤ u8 p.params 0 ∧ u8 p.params 0 ≤ 31) → u8 p.params 1 ≤ 3 →
    zeroAt p.params 2 6 = true → let t := ready specOutFilter p s
    exec (.outFilter p) s = .next (committed specOutFilter p s 0 []
      { t with ecsol.filtersNext := tset none t.ecsol.filtersNext (u8 p.params 0) (some (u8 p.params 1)) }))

/-- Key, life-cycle and self-test commands: the reply and the change that each accepted form makes (17 R634, 17 R635,
02 R100, 17 R631, 17 R632, 17 R636, 17 R625, 17 R626, 17 R627; the model's choices behind it: log 13, 59). -/
def Obligations.SecurityAndSelfTestCommandsComplete : Prop :=
  (∀ p s, Accepted specSecKeyInstall p s → u8 p.params 0 ≤ 3 → zeroAt p.params 1 3 = true → zeroAt p.params 40 8 = true →
    field p.params 36 4 = (hmac (field p.params 4 32) [0x41, 0x45, 0x4C, 0x45, 0x54, 0x4F, 0x53, 0x4B]).take 4 →
    let t := ready specSecKeyInstall p s
    (slotOf t (u8 p.params 0)).state ≠ 1 →
    exec (.secKeyInstall p) s = .next (committed specSecKeyInstall p s 0 []
      (postStatus 0x0F (u8 p.params 0) (secEvent t 1 (u8 p.params 0) 0)
        (reloadKeys (modSlot (u8 p.params 0)
          (fun x => { x with state := 1, key := field p.params 4 32, highWater := 0, failures := 0 }) t)))))
  ∧ (∀ p s, Accepted specSecKeyRetire p s → u8 p.params 0 ≤ 3 → zeroAt p.params 1 3 = true →
    let t := ready specSecKeyRetire p s
    (slotOf t (u8 p.params 0)).state = 1 → (authNeeded t.security.life = true → (activeSlots t).length ≠ 1) →
    exec (.secKeyRetire p) s = .next (committed specSecKeyRetire p s 0 []
      (postStatus 0x0F (u8 p.params 0) (secEvent t 2 (u8 p.params 0) 0)
        (reloadKeys (modSlot (u8 p.params 0) (fun x => { x with state := 2, key := [] }) t)))))
  ∧ (∀ p s, Accepted specSecCounterQuery p s → u8 p.params 0 ≤ 3 → zeroAt p.params 1 3 = true →
    let t := ready specSecCounterQuery p s
    let x := slotOf t (u8 p.params 0)
    exec (.secCounterQuery p) s = .next (committed specSecCounterQuery p s 0
      (le 1 x.state ++ le 1 x.failures ++ le 2 (lockMs t x) ++ le 8 x.highWater) t))
  ∧ (∀ p s, Accepted specSecLifecycle p s → zeroAt p.params 1 1 = true → u16 p.params 2 = 0xC35A →
    let t := ready specSecLifecycle p s
    u8 p.params 0 = lifeCode t.security.life + 1 → u8 p.params 0 ≤ 4 → (u8 p.params 0 = 2 → activeSlots t ≠ []) →
    exec (.secLifecycle p) s = .next (committed specSecLifecycle p s 0 [] { t with
      ecsol.window := .security,
      security.op := some { zeroize := false, erase := u8 p.params 0 == 4, scope := 0, burn := lifeOf (u8 p.params 0),
                            erased := false, doneMs := none } }))
  ∧ (∀ p s, Accepted specSecZeroize p s → u8 p.params 0 ≤ 1 → zeroAt p.params 1 1 = true → u16 p.params 2 = 0xC35A →
    let t := ready specSecZeroize p s
    exec (.secZeroize p) s = .next (committed specSecZeroize p s 0 [] { t with
      ecsol.window := .security,
      security.op := some { zeroize := true, erase := true, scope := u8 p.params 0,
                            burn := if authNeeded t.security.life then some .returned else none, erased := false, doneMs := none } }))
  ∧ (∀ p s, Accepted specBstSchedule p s → u8 p.params 0 ≤ 1 → zeroAt p.params 1 1 = true → 50 ≤ u16 p.params 2 →
    u16 p.params 2 ≤ 2000 → 60 ≤ u32 p.params 4 → u32 p.params 4 ≤ 86400 → let t := ready specBstSchedule p s
    exec (.bstSchedule p) s = .next (committed specBstSchedule p s 0 []
      { t with bst.enable := u8 p.params 0 == 1, bst.budget := u16 p.params 2, bst.cycle := u32 p.params 4 }))
  ∧ (∀ p s, Accepted specBstRunNow p s → u8 p.params 0 ≤ 56 → (u8 p.params 1 = 0 ∨ u8 p.params 1 = 1 ∧ u8 p.params 0 = 56) →
    (u16 p.params 2 = 0 ∨ 50 ≤ u16 p.params 2 ∧ u16 p.params 2 ≤ 2000) → zeroAt p.params 4 4 = true →
    let t := ready specBstRunNow p s
    (bstOf t (u8 p.params 0)).runNow = none → (u8 p.params 0 < 24 → aprEnabledNext (aprOf t (u8 p.params 0)) = false) →
    (38 ≤ u8 p.params 0 → u8 p.params 0 ≤ 53 → coreTestable t (u8 p.params 0 - 38) = true) →
    (u8 p.params 1 = 1 → t.security.life = .manufacture ∨ t.security.life = .returned) →
    exec (.bstRunNow p) s = .next (committed specBstRunNow p s 0 [] (modBst (u8 p.params 0) (fun x => { x with
      runNow := some { mode := u8 p.params 1, budget := u16 p.params 2,
                       started := false } }) t)))
  ∧ (∀ p s, Accepted specBstResults p s → let t := ready specBstResults p s
    let bs := (upto 57).filter (fun b => islandOn t (blockIsland b))
    exec (.bstResults p) s = .next (committed specBstResults p s 0
      (le 1 bs.length ++ le 1 (b2n t.bst.enable) ++ le 2 t.bst.budget ++ bs.flatMap (bstEntry t)) t))

/-- Profile, island, stop, restart and parking commands: the reply and the change that each accepted form makes (01
R30, 01 R44, 01 R47, 01 R48, 01 R49, 16 R595, 16 R601, 16 R602, 16 R614, 16 R615; the model's choices behind it: log
29, 30, 53). -/
def Obligations.ProfileAndPowerCommandsComplete : Prop :=
  (∀ p s, Accepted specPrfSelect p s → u8 p.params 0 ≤ 4 → zeroAt p.params 1 3 = true →
    let t := ready specPrfSelect p s
    let e := column (u8 p.params 0)
    workFits t e = true → budgetBroken t { t with profile := { sel := u8 p.params 0, custom := false, env := e } } = false →
    exec (.prfSelect p) s = .next (committed specPrfSelect p s 0 [] (takeProfile (u8 p.params 0) false e t)))
  ∧ (∀ p s, Accepted specPrfCustom p s → customOk p.params = true →
    let t := ready specPrfCustom p s
    let e := envIn p.params
    insideColumn e = true → e.bankMask.testBit 0 = true → workFits t e = true →
    budgetBroken t { t with profile := { sel := e.base, custom := true, env := e } } = false →
    exec (.prfCustom p) s = .next (committed specPrfCustom p s 0 [] (takeProfile e.base true e t)))
  ∧ (∀ p s, Accepted specPrfQuery p s → let t := ready specPrfQuery p s
    exec (.prfQuery p) s = .next (committed specPrfQuery p s 0
      (le 1 t.profile.sel ++ le 1 (b2n t.profile.custom) ++ le 2 (sat 65535 (powerMw t)) ++ envBytes t.profile.env) t))
  ∧ (∀ p s, Accepted specPwrIslands p s → u64 p.params 0 < 2 ^ 43 → zeroAt p.params 9 3 = true →
    let t := ready specPwrIslands p s
    (u8 p.params 8 = 2 → u64 p.params 0 = 0 →
      exec (.pwrIslands p) s = .next (committed specPwrIslands p s 0 (le 8 t.islands.powered ++ le 8 t.islands.ready) t))
    ∧ (u8 p.params 8 = 0 → (∀ i ∈ maskBits 43 (u64 p.params 0), countsOn t i = true → islandBusy t i = false) →
      let u := foldS islandOff (maskBits 43 (u64 p.params 0)) t
      exec (.pwrIslands p) s = .next (committed specPwrIslands p s 0 (le 8 u.islands.powered ++ le 8 u.islands.ready) u))
    ∧ (u8 p.params 8 = 1 →
      let new := (maskBits 43 (u64 p.params 0)).filter (fun i => !countsOn t i)
      (∀ i ∈ new, islandAllowed t.profile.env i = true ∧ (i < 24 →
        ((upto 24).filter (countsOn t)).length + (new.filter (fun j => decide (j < 24))).length ≤ aprCount t.profile.env)) →
      ∃ u, exec (.pwrIslands p) s = .next (committed specPwrIslands p s 0 (le 8 u.islands.powered ++ le 8 u.islands.ready) u)
        ∧ u = { t with islands := u.islands } ∧ u.islands.ready = t.islands.ready
        ∧ ∀ i, islandOn u i = (islandOn t i || (decide (i < 43) && (u64 p.params 0).testBit i && !countsOn t i))))
  ∧ (∀ p s, Accepted specPwrWakeCfg p s → 0x08 ≤ u8 p.params 0 → u8 p.params 0 ≤ 0x77 → u8 p.params 1 ≤ 7 → u8 p.params 2 ≤ 1 →
    1 ≤ u8 p.params 3 → u8 p.params 3 ≤ 200 → ((u8 p.params 1).testBit 2 = true ↔ u32 p.params 4 ≠ 0) →
    ((u8 p.params 1).testBit 2 = true → u8 p.params 2 = 1) → let t := ready specPwrWakeCfg p s
    exec (.pwrWakeCfg p) s = .next (committed specPwrWakeCfg p s 0 [] { t with
      power.wake := { addr := u8 p.params 0, sources := u8 p.params 1, timekeep := u8 p.params 2 == 1, rtcPpm := u8 p.params 3,
                      alarmS := u32 p.params 4 },
      power.tcValid := t.power.tcValid && u8 p.params 2 == 1 }))
  ∧ (∀ p s, Accepted specPwrStop p s → u8 p.params 0 ≤ 1 → zeroAt p.params 1 3 = true → let t := ready specPwrStop p s
    t.power.wake.sources ≠ 0 → mramBusy t = false → t.power.seq = none → p.obs.wakeSeen.toNat &&& t.power.wake.sources = 0 →
    ∃ u, exec (.pwrStop p) s = .next (committed specPwrStop p s 0 [] u)
      ∧ u.ecsol.window = .stop ∧ u.power.armed = true ∧ u.power.latched = 0 ∧ u.power.muted = true
      ∧ u.power.seq = some { restart := false, reply := if cmdReply p then some (p.port, p.seq.toNat) else none, atMs := nowMs t }
      ∧ (u.power.parkPending = true ↔ u8 p.params 0 = 1 ∧ nothingToPark t = false))
  ∧ (∀ p s, Accepted specSysRestart p s → u8 p.params 0 ≤ 1 → zeroAt p.params 1 3 = true → let t := ready specSysRestart p s
    mramBusy t = false → t.power.seq = none →
    ∃ u, exec (.sysRestart p) s = .next (committed specSysRestart p s 0 [] u)
      ∧ u.ecsol.window = .restart ∧ u.power.muted = true
      ∧ u.power.seq = some { restart := true, reply := if cmdReply p then some (p.port, p.seq.toNat) else none, atMs := nowMs t }
      ∧ (u.power.parkPending = true ↔ u8 p.params 0 = 1 ∧ nothingToPark t = false))
  ∧ (∀ p s, Accepted specSysPark p s → zeroAt p.params 1 3 = true → let t := ready specSysPark p s
    (u8 p.params 0 = 1 → exec (.sysPark p) s = .next (committed specSysPark p s 0 [0, 0, 0, 0] { t with
      power.parked0 := { t.power.parked0 with valid := false }, power.parked1 := { t.power.parked1 with valid := false } }))
    ∧ (u8 p.params 0 = 0 → nothingToPark t = false → let c := parkContent t
      exec (.sysPark p) s = .next (committed specSysPark p s 0
        (le 1 (sat 255 (c.orbits.filter (fun o => !o.almanac)).length) ++ le 1 (sat 255 (c.orbits.filter (·.almanac)).length)
          ++ le 1 (b2n c.pos.isSome + 2 * b2n c.osc.isSome + 4 * b2n c.utc.isSome) ++ [0]) (writePark t))))

/-- Aperture commands: the settings that wait for the next epoch, the status entries and the streams of each accepted
form (03 R115, 03 R121, 03 R127, 03 R130, 03 R136, 03 R139; the model's choices behind it: log 49, 60). -/
def Obligations.ApertureCommandsComplete : Prop :=
  (∀ p s, Accepted specAprEnable p s → u32 p.params 0 ≠ 0 → u32 p.params 0 < 2 ^ 24 → u8 p.params 5 ≤ 15 →
    (u8 p.params 4 = 0 ∧ u8 p.params 5 = 0 ∨ u8 p.params 4 = 1 ∧ u8 p.params 5 ≠ 0) → zeroAt p.params 6 2 = true →
    let t := ready specAprEnable p s
    let as := maskBits 24 (u32 p.params 0)
    (∀ a ∈ as, streamLost t a (u8 p.params 5) = false) →
    (u8 p.params 4 = 1 → (∀ a ∈ as, t.profile.env.aprMask.testBit a = true) ∧
      ((upto 24).filter (fun a => aprEnabledNext (aprOf t a) || as.contains a)).length ≤ aprCount t.profile.env) →
    exec (.aprEnable p) s = .next (committed specAprEnable p s 0 []
      (foldS (fun a u => modApr a (fun x => { x with pendEnable := some (u8 p.params 5) }) u) as t)))
  ∧ (∀ p s, Accepted specAprConfig p s → (u8 p.params 0 ≤ 23 ∨ u8 p.params 0 = 255) → (u8 p.params 1 ≤ 3 ∨ u8 p.params 1 = 255) →
    u8 p.params 2 ≤ 2 → 4 ≤ u8 p.params 3 → u8 p.params 3 ≤ 16 → u8 p.params 4 ≤ 10 → -24 ≤ i16 p.params 6 → i16 p.params 6 ≤ 192 →
    (u16 p.params 8 = 0x8000 ∨ -384 ≤ i16 p.params 8 ∧ i16 p.params 8 ≤ 0) → 3 ≤ u8 p.params 10 → u8 p.params 10 ≤ 30 →
    zeroAt p.params 11 1 = true → u16 p.params 12 ≠ 0 → zeroAt p.params 14 2 = true → let t := ready specAprConfig p s
    let cfg : SliceCfg :=
      { agcMode := u8 p.params 2, agcTarget := u8 p.params 3, agcTc := u8 p.params 4, jiAlert := u8 p.params 5,
        fixedGain := i16 p.params 6, noiseRef := if u16 p.params 8 = 0x8000 then none else some (i16 p.params 8) }
    exec (.aprConfig p) s = .next (committed specAprConfig p s 0 []
      (foldS (fun a u => foldS (fun i v => modSlice a i (fun x => { x with pendCfg := some cfg }) v) (sliceTargets (u8 p.params 1))
        (modApr a (fun x => { x with pendNosig := some (u8 p.params 10, u16 p.params 12) }) u)) (aprTargets (u8 p.params 0) t) t)))
  ∧ (∀ p s, Accepted specAprNotch p s → notchRangesOk p.params = true → let t := ready specAprNotch p s
    (u8 p.params 0 ≠ 255 ∨ u8 p.params 3 = 2 →
      ∀ a ∈ aprTargets (u8 p.params 0) t, notchModeNext t a (u8 p.params 1) (u8 p.params 2) ≠ 3) →
    let n : Notch :=
      { mode := u8 p.params 3, freq := i32 p.params 4, width := u8 p.params 8, depth := u8 p.params 9, rateK := u8 p.params 10,
        thresh := u8 p.params 11, engaged := false, est := 0, line := none, lowFor := 0, ramp := 0, mem := (0, 0) }
    exec (.aprNotch p) s = .next (committed specAprNotch p s 0 []
      (foldS (fun a u => modSlice a (u8 p.params 1)
          (fun x => { x with pendNotches := tset none x.pendNotches (u8 p.params 2) (some n) }) u) (aprTargets (u8 p.params 0) t) t)))
  ∧ (∀ p s, Accepted specAprBlank p s → (u8 p.params 0 ≤ 23 ∨ u8 p.params 0 = 255) → zeroAt p.params 7 1 = true →
    (u8 p.params 1 = 0 ∧ zeroAt p.params 2 5 = true ∨
      (u8 p.params 1 = 1 ∧ 16 ≤ u8 p.params 2 ∧ u8 p.params 2 ≤ 127 ∨ u8 p.params 1 = 2 ∧ 12 ≤ u8 p.params 2 ∧ u8 p.params 2 ≤ 60)
      ∧ 1 ≤ u8 p.params 3 ∧ u8 p.params 3 ≤ 15 ∧ u8 p.params 4 ≤ 50 ∧ u8 p.params 5 ≤ 200 ∧ 1 ≤ u8 p.params 6 ∧ u8 p.params 6 ≤ 16) →
    let t := ready specAprBlank p s
    let k : Blanker :=
      { mode := u8 p.params 1, thresh := u8 p.params 2, slices := u8 p.params 3, pre := u8 p.params 4, post := u8 p.params 5,
        run := u8 p.params 6 }
    exec (.aprBlank p) s = .next (committed specAprBlank p s 0 []
      (foldS (fun a u => modApr a (fun x => { x with pendBlanker := some k }) u) (aprTargets (u8 p.params 0) t) t)))
  ∧ (∀ p s, Accepted specAprStatus p s → u32 p.params 0 < 2 ^ 24 → let t := ready specAprStatus p s
    let as := maskBits 24 (u32 p.params 0)
    exec (.aprStatus p) s = .next (committed specAprStatus p s 0
      (le 3 (bitsMask (enabledApertures t)) ++ le 1 as.length ++ as.flatMap (aprEntry t))
      (foldS (fun a u => modApr a (fun x => { x with faults := setBit x.faults 4 false }) u) as t)))
  ∧ (∀ p s, Accepted specAprStream p s → u8 p.params 0 ≤ 23 → u8 p.params 1 ≤ 3 → u8 p.params 3 ≤ 1 → let t := ready specAprStream p s
    let a := u8 p.params 0
    let i := u8 p.params 1
    let st : IqStream :=
      { format := u8 p.params 3, left := if u32 p.params 4 = 0 then none else some (u32 p.params 4), block := 0, lost := false,
        stopping := false, started := false, epochMs := 0, offset := 0, buf := [], gain0 := 0, blanked := false, parity := false,
        gainMoved := false, notchMoved := false }
    let u := modSlice a i (fun x => { x with stream := some st }) t
    (u8 p.params 2 = 1 → aprRunning t a = true → (aprOf t a).slicesOn.testBit i = true → (sliceOf t a i).stream = none →
      t.pcie.link.isSome = true → (iqStreams u).length ≤ t.profile.env.iqSlices → budgetBroken t u = false →
      exec (.aprStream p) s = .next (committed specAprStream p s 0 [] u))
    ∧ (u8 p.params 2 = 0 → u8 p.params 3 = 0 → u32 p.params 4 = 0 →
      exec (.aprStream p) s = .next (committed specAprStream p s 0 [] (modSlice a i (fun x => { x with stream := match x.stream with
        | some y => if y.started then some { y with stopping := true } else none
        | none => none }) t))))

/-- Aperture events: transfer units, notches, AGC, start of running, learning, alerts, faults and raw IQ blocks (03
R111, 03 R112, 03 R117, 03 R122, 03 R125, 03 R126, 03 R128, 03 R134, 03 R140; the model's choices behind it: log 48,
51). -/
def Obligations.ApertureEventsComplete : Prop :=
  (∀ (a : Fin 24) (i : Fin 4) (u : TransferUnit) s, adcRuns s a = true → (aprOf s a).slicesOn.testBit i = true →
    let t := modApr a (fun x => u.adc.foldl (fun y b => adcFeed s.front b y) x) s
    ((sliceOf t a i).fifo.length < 32 → exec (.sliceTransferUnit a i u) s = .next t)
    ∧ (32 ≤ (sliceOf t a i).fifo.length → exec (.sliceTransferUnit a i u) s = .next
        (modSlice a i (fun y => { y with unitPos := y.unitPos + 32 }) (voileUnit a i (damaskUnit a i (trackUnit a i
          (unitCross a i u (scanLines a i t))))))))
  ∧ (∀ a i (u : TransferUnit) s, 32 ≤ (sliceOf s a i).fifo.length → u.flip2 = 0 →
    let z := notchUnit i ((sliceOf s a i).fifo.take 32) (sliceOf s a i).notches
    (u.flip1 = 0 → (sliceOf (unitCross a i u s) a i).unit = z.1.map (requantPair (sliceOf s a i).gain)
      ∧ (aprOf (unitCross a i u s) a).parityBlanks = sat 65535 (aprOf s a).parityBlanks)
    ∧ (∀ k, k < 385 → u.flip1 = 2 ^ k → (sliceOf (unitCross a i u s) a i).unit = List.replicate 32 (0, 0)
      ∧ (aprOf (unitCross a i u s) a).parityBlanks = sat 65535 ((aprOf s a).parityBlanks + 1)))
  ∧ (∀ (a : Fin 24) (i n : Fin 4) s, (notchOf s a i n).engaged = true → 2 ≤ (notchOf s a i n).mode →
    sliceRate i / 1000 ≤ (notchOf s a i n).lowFor →
    exec (.notchRelease a i n) s = .next (foldS (fun b t => aprEvent 8 b i n ((notchOf s a i n).est / 65536)
      (notchMark b i (modNotch b i n (fun z => { z with engaged := false }) t))) (notchPeers s a i n) s))
  ∧ (∀ (a : Fin 24) (i : Fin 4) s, adcRuns s a = true → (aprOf s a).slicesOn.testBit i = true → (sliceOf s a i).agcN ≠ 0 →
    let x := sliceOf s a i
    let avg := agcMean (if x.agcFast then 0 else x.cfg.agcTc) x.agcAvg x.agcSum x.agcN
    ∃ y, exec (.agcUpdate a i) s = .next (modSlice a i (fun _ => y) s) ∧ y.agcAvg = some avg ∧ y.agcN = 0
      ∧ (x.cfg.agcMode = 0 → y.gain = if (x.gain : Int) < agcIdeal x.cfg.agcTarget avg then x.gain + 1
          else if agcIdeal x.cfg.agcTarget avg < x.gain then x.gain - 1 else x.gain)
      ∧ (x.cfg.agcMode = 1 → y.gain = x.gain) ∧ (x.cfg.agcMode = 2 → y.gain = (x.cfg.fixedGain + 24).toNat))
  ∧ (∀ (a : Fin 24) s, (aprOf s a).phase = .settling → instantReached ((aprOf s a).sinceMs + 1) s = true →
    exec (.agcTcSwitch a) s = .next (foldS (fun i t => modSlice a i (fun x => { x with agcFast := false }) t) [0, 1, 2, 3] s))
  ∧ (∀ (a : Fin 24) s, betweenBursts s = false → (aprOf s a).phase = .settling → aprFaulted (aprOf s a) = false →
    exec (.apertureRunning a) s = .next (aprEvent 1 a 255 0 0 (modApr a (fun x => { x with phase := .running, sinceMs := s.ms }) s)))
  ∧ (∀ (a : Fin 24) (i : Fin 4) s, aprRunning s a = true → noiseRef (sliceOf s a i) = none →
    1000 ≤ (sliceOf s a i).samples.length → let r := medianLevel (sliceOf s a i).samples
    exec (.noiseRefLearnt a i) s = .next
      (aprEvent 9 a i 0 r (modSlice a i (fun y => { y with learnt := some r, samples := [] }) s)))
  ∧ (∀ (a : Fin 24) (i : Fin 4) s, (sliceOf s a i).alert = true → 100 ≤ (sliceOf s a i).jiLow →
    exec (.jiAlertClear a i) s = .next
      (aprEvent 6 a i 0 (sliceOf s a i).ji (modSlice a i (fun y => { y with alert := false, jiLow := 0 }) s)))
  ∧ (∀ (a : Fin 24) s, (aprOf s a).enabled = true → (100 ≤ (aprOf s a).nosigMs ∨ 100 ≤ (aprOf s a).rmsLowMs) →
    (aprOf s a).faults.testBit 0 = false →
    exec (.noSignalRaise a) s = .next (aprEvent 3 a 255 0 0
      (modApr a (fun x => { x with faults := setBit x.faults 0 true, inFault := true }) s)))
  ∧ (∀ (a : Fin 24) s, 100 ≤ (aprOf s a).nosigClearMs → (aprOf s a).faults.testBit 0 = true →
    exec (.noSignalClear a) s = .next (aprEvent 4 a 255 0 0 (modApr a (fun x => { x with faults := setBit x.faults 0 false }) s)))
  ∧ (∀ (a : Fin 24) s, (aprOf s a).enabled = true → 10 ≤ (aprOf s a).overMs → (aprOf s a).faults.testBit 1 = false →
    exec (.overloadRaise a) s = .next (aprEvent 3 a 255 1 0
      (modApr a (fun x => { x with faults := setBit x.faults 1 true, inFault := x.inFault }) s)))
  ∧ (∀ (a : Fin 24) s, 100 ≤ (aprOf s a).overClearMs → (aprOf s a).faults.testBit 1 = true →
    exec (.overloadClear a) s = .next (aprEvent 4 a 255 1 0 (modApr a (fun x => { x with faults := setBit x.faults 1 false }) s)))
  ∧ (∀ (a : Fin 24) s, islandReady s a = true → (aprOf s a).codesBad = true → (aprOf s a).faults.testBit 2 = false →
    exec (.adcFault a) s = .next (aprEvent 3 a 255 2 0
      (modApr a (fun x => { x with faults := setBit x.faults 2 true, inFault := true }) s)))
  ∧ (∀ (a : Fin 24) (i : Fin 4) s st, (sliceOf s a i).stream = some st → 4000 ≤ st.buf.length →
    ∃ lost, exec (.iqBlock a i) s = .next (modSlice a i (fun x => { x with stream := iqAdvance lost st })
      (post { msg2 s 0x8D 0x03 a (iqPayload s a i st) with chain := if st.parity then 0x10 else 0 } s)))

/-- Shared-bank commands, BAR2 accesses, the scrubber and hand-over: what each accepted or enabled form leaves (15
R570, 15 R574, 15 R577, 15 R580, 15 R581, 15 R586, 15 R587, 15 R588, 15 R589, 12 R481; the model's choices behind it:
log 32). -/
def Obligations.BankCommandsComplete : Prop :=
  (∀ p s, Accepted specMemOwner p s → u8 p.params 0 ≤ 15 → (u8 p.params 1 = 1 ∨ 0x10 ≤ u8 p.params 1 ∧ u8 p.params 1 ≤ 0x1F) →
    u8 p.params 2 ≤ 1 → zeroAt p.params 3 1 = true → let t := ready specMemOwner p s
    (bankOf t (u8 p.params 0)).owner = 1 → (u8 p.params 1 ≠ 1 → coreAllowed t (u8 p.params 1 - 0x10) = true) →
    exec (.memOwner p) s = .next (committed specMemOwner p s 0 []
      (handBank (u8 p.params 0) (u8 p.params 1) 1 (modBank (u8 p.params 0) (fun x => { x with rotate := u8 p.params 2 == 1 }) t))))
  ∧ (∀ p s, Accepted specMemScrub p s → u8 p.params 0 ≤ 15 → u8 p.params 1 ≤ 1 → zeroAt p.params 2 2 = true →
    u32 p.params 4 % 32 = 0 → u32 p.params 8 % 32 = 0 → 32 ≤ u32 p.params 8 → u32 p.params 4 + u32 p.params 8 ≤ bankSize →
    let t := ready specMemScrub p s
    bankReady t (u8 p.params 0) = true → t.scrub = none → (u8 p.params 1 = 1 → (bankOf t (u8 p.params 0)).owner = 1) →
    exec (.memScrub p) s = .next (committed specMemScrub p s 0 [] { t with
      scrub := some { bank := u8 p.params 0, clear := u8 p.params 1 == 1, off := u32 p.params 4, len := u32 p.params 8,
                      corrected := 0 } }))
  ∧ (∀ p s, Accepted specMemStatus p s → u8 p.params 0 ≤ 15 → u8 p.params 1 ≤ 1 → zeroAt p.params 2 2 = true →
    let t := ready specMemStatus p s
    let x := bankOf t (u8 p.params 0)
    ∃ pl, pl.length = 32 ∧ field pl 0 1 = le 1 (u8 p.params 0) ∧ field pl 2 1 = le 1 x.owner ∧ field pl 4 4 = le 4 x.corrected
      ∧ field pl 8 4 = le 4 x.uncorr ∧ field pl 28 4 = le 4 (x.lastUncorr.getD 0xFFFFFFFF)
      ∧ exec (.memStatus p) s = .next (committed specMemStatus p s 0 pl
          (if u8 p.params 1 = 1 then modBank (u8 p.params 0) clearCounters t else t)))
  ∧ (∀ (b : Fin 16) s, mainRuns s = true → (bankOf s b).powered = true → (bankOf s b).ready = false →
    exec (.bankReady b) s = .next (modBank b (fun y => { y with ready := true }) s))
  ∧ (∀ (b : Fin 16) s, (bankOf s b).drain = true → othersBusy s b (bankOf s b).owner = false →
    exec (.drainComplete b) s = .next (modBank b (fun x => { x with drain := false }) s))
  ∧ (∀ (b : Fin 16) s, bankReady s b = true → poisoned s (32768 * b + (bankOf s b).scrubPos) = false →
    exec (.scrubGranule b 0) s = .next (if (bankOf s b).scrubPos = 32767
      then modBank b (fun x => { x with scrubPos := 0, scrubPasses := (x.scrubPasses + 1) % 2 ^ 32 }) s
      else modBank b (fun x => { x with scrubPos := (bankOf s b).scrubPos + 1 }) s))
  ∧ (∀ fixed bad s j, s.scrub = some j → j.clear = true → ∃ t, exec (.memScrubComplete fixed bad) s = .next t ∧ t.scrub = none
      ∧ (∀ x, bankSize * j.bank + j.off ≤ x → x < bankSize * j.bank + j.off + j.len → bankByte t x = 0)
      ∧ (∀ x, ¬ (bankSize * j.bank + j.off ≤ x ∧ x < bankSize * j.bank + j.off + j.len) → bankByte t x = bankByte s x))
  ∧ (∀ (off : BitVec 24) n s, pcieUp s = true → 0 < n → off.toNat % 4 = 0 → n % 4 = 0 → badRequest off.toNat n = false →
    let b := off.toNat / bankSize
    bankReady s b = true → (bankOf s b).owner = 1 → (bankOf s b).drain = false → (bankOf s b).rotate = false →
    (∀ g ∈ granulesOf off.toNat n, poisoned s g = false) →
    ∃ t, exec (.bar2Read off n []) s = .next t ∧ t.ecsol.bus = bankBytes s off.toNat n ∧ t.pcie.ur = false ∧ t.pcie.ep = false)
  ∧ (∀ (off : BitVec 24) bs s, Memory.wf s.bankMem = true → pcieUp s = true → bs ≠ [] → off.toNat % 4 = 0 → bs.length % 4 = 0 →
    badRequest off.toNat bs.length = false → let b := off.toNat / bankSize
    bankReady s b = true → (bankOf s b).owner = 1 → (bankOf s b).drain = false →
    ∃ t, exec (.bar2Write off bs true []) s = .next t ∧ t.pcie.ur = false
      ∧ (∀ x, bankByte t x = if off.toNat ≤ x ∧ x < off.toNat + bs.length then bs.getD (x - off.toNat) 0 else bankByte s x))
  ∧ (∀ (b : Fin 16) (v : BitVec 32) s, pcieUp s = true → (bankOf s b).owner = 1 → ownerValid s (bitsOf v.toNat 7 0) = true →
    exec (.ownerWrite b v) s = .next (handBank b (bitsOf v.toNat 7 0) 1 (modBank b (fun x => { x with rotate := bitOf v.toNat 8 }) s)))

/-- Acquisition commands: the plan, the aiding, the start, the abort and the results of each accepted form (04 R163,
04 R164, 04 R165, 04 R166, 04 R182, 04 R183, 04 R184, 04 R186; the model's choices behind it: log 52). -/
def Obligations.AcquisitionCommandsComplete : Prop :=
  (∀ p s, Accepted specAcqPlan p s → let b := p.params
    let ts := chunks 16 (u8 b 0) (b.drop 8)
    u8 b 0 ≤ 64 → u8 b 1 ≤ 2 → 1 ≤ u8 b 2 → u8 b 2 ≤ 192 → 1 ≤ u8 b 3 → u8 b 4 ≤ 90 →
    (u8 b 5 = 0 ∨ 10 ≤ u8 b 5 ∧ u8 b 5 ≤ 40) → zeroAt b 6 2 = true → (∀ t ∈ ts, acqTaskOk (u8 b 1) t = true) →
    anyPair (fun x y => u8 x 0 == u8 y 0 && u8 x 1 == u8 y 1) ts = false →
    let t := ready specAcqPlan p s
    t.acq.running = false →
    let plan : AcqPlan :=
      { handoff := u8 b 1, chLimit := u8 b 2, passes := u8 b 3, elevMask := u8 b 4, xcMargin := u8 b 5, tasks := ts.map acqTaskIn }
    exec (.acqPlan p) s = .next (committed specAcqPlan p s 0 []
      { t with acq.plan := if u8 b 0 = 0 then none else some plan, acq.ended := false, acq.sats := [], acq.endedSegs := [] }))
  ∧ (∀ p s, Accepted specAcqAid p s → let b := p.params
    let rs := chunks 32 (u8 b 0) (b.drop 8)
    u8 b 0 ≤ 127 → u8 b 1 ≤ 1 → zeroAt b 2 6 = true → (∀ r ∈ rs, aidRecordOk r = true) → anyPair sameAid rs = false →
    let t := ready specAcqAid p s
    ((∃ r ∈ rs, u8 r 0 = 1 ∧ u8 r 1 = 1) → syncIs1pps t = true) →
    let held := rs.foldl (applyAid t.ms (nowMs t) p.obs.rxUs) (if u8 b 1 = 0 then HostAid.none else t.acq.aid)
    held.sats.length ≤ 64 →
    exec (.acqAid p) s = .next (committed specAcqAid p s 0 [] { t with acq.aid := held }))
  ∧ (∀ p s plan, Accepted specAcqStart p s → u8 p.params 0 ≤ 1 → u8 p.params 1 ≤ 2 → zeroAt p.params 2 2 = true →
    let t := ready specAcqStart p s
    t.acq.plan = some plan → t.acq.running = false → (∀ k ∈ plan.tasks, taskReady t k = true) → t.profile.env.duty ≠ 0 →
    (∀ k ∈ plan.tasks, k.coh ≤ dutyAllowance t) →
    (∀ k ∈ plan.tasks, ∀ a ∈ maskBits 24 k.aprMask, t.profile.env.aprMask.testBit a = true) →
    exec (.acqStart p) s = .next (committed specAcqStart p s 0 [] (beginPass 1 { t with
      acq.running := true, acq.aborting := false, acq.ended := false, acq.report := u8 p.params 1,
      acq.results := if u8 p.params 0 = 1 then [] else t.acq.results,
      acq.dropped := [], acq.tasksEnded := [], acq.laneSteps := [], acq.candCount := 0, acq.activeMs := 0,
      acq.plans := t.acq.plans + 1, acq.startedMs := t.ms + 1, acq.segs := [], acq.endedSegs := [] })))
  ∧ (∀ p s, Accepted specAcqAbort p s → let t := ready specAcqAbort p s
    (t.acq.running = true → exec (.acqAbort p) s = .next (committed specAcqAbort p s 0 [] { t with acq.aborting := true }))
    ∧ (t.acq.running = false → exec (.acqAbort p) s = .next (committed specAcqAbort p s 0 [] t)))
  ∧ (∀ s, s.acq.aborting = true → (islandReady s 24 = false ∨ betweenBursts s = true) →
    (acqStep s = { postAcq 0 ((openTasks s).map (fun i => taskEndRecord s i 4) ++ [planEndRecord s 2]) s with
        acq.running := false, acq.aborting := false, acq.ended := true, acq.segs := [] })
    ∧ (acqStep s).acq.cands = s.acq.cands ∧ (acqStep s).acq.endedSegs = s.acq.endedSegs)
  ∧ (∀ p s, Accepted specAcqResults p s → u8 p.params 0 ≤ 124 → u8 p.params 1 ≤ 125 → zeroAt p.params 2 2 = true →
    let t := ready specAcqResults p s
    let out := (t.acq.results.drop (u8 p.params 0)).take (u8 p.params 1)
    exec (.acqResults p) s = .next (committed specAcqResults p s 0
      (le 1 (acqStateCode t) ++ le 1 t.acq.results.length ++ le 1 out.length ++ zeros 1 ++ out.flatten) t))

/-- Acquisition events: the duty window, the end of search and verification dwells, and a lapsed aiding record (04
R148, 04 R152, 04 R153, 04 R154, 04 R162, 04 R168, 04 R170, 04 R171, 04 R172; the model's choices behind it: log 51,
52). -/
def Obligations.AcquisitionEventsComplete : Prop :=
  (∀ s, s.profile.sel ≠ 4 → s.epochMs % 100 = 0 → s.acq.windowAt ≠ some s.epochMs →
    let t := { s with acq.used := 0, acq.windowAt := some s.epochMs, acq.windowLen := 100, acq.allow := s.profile.env.duty }
    (islandReady s 24 = true → s.bst.active = none → exec .dutyWindow s = .next (startBlocks t))
    ∧ (islandReady s 24 = false → exec .dutyWindow s = .next t))
  ∧ (∀ (task : Fin 64) (sv : Byte) (us : List CellUpset) (r : Upset) left s plan k g c pow,
    let ended := endedTogether s task sv.toNat
    let u := { s with acq.endedSegs := s.acq.endedSegs.filter (fun x => !ended.contains x) }
    s.acq.plan = some plan → taskOf s task = some k → strongest twiceMedian (ended.map (upsetSegment us)) = some (g, c, pow) →
    let z := sat 0xFFFFFFFF (statistic (Config.openZ (draw u).1) k.noncoh (twiceMedian g) pow)
    let cand := makeCand u plan task k (ended.map (upsetSegment us)) g c z
    (reaches k.noncoh k.pfa z = false → exec (.dwellEnd task sv us r left) s = .next (draw u).2)
    ∧ (reaches k.noncoh k.pfa z = true →
      (∃ q ∈ s.acq.sats, q.task = task.val ∧ q.sv = sv.toNat ∧ q.shut = false) →
      chainFails (candChain (g.sums.getD c CellSum.zero) (candRecord u cand 9 255) r) = false →
      plan.xcMargin = 0 → s.acq.report ≠ 2 → k.ho = 0 →
      exec (.dwellEnd task sv us r left) s = .next { (draw u).2 with
        acq.sats := s.acq.sats.map (fun q => if q.task = task.val ∧ q.sv = sv.toNat then { q with shut := true } else q),
        acq.cands := s.acq.cands ++ [cand] }))
  ∧ (∀ (signal sv : Byte) (us : List CellUpset) (r : Upset) left s c g k pow,
    s.acq.cands.find? (fun x => x.signal == signal.toNat && x.sv == sv.toNat && dwellDone x) = some c →
    strongest (fun _ => 1) ((c.dwell.getD []).map (upsetSegment us)) = some (g, k, pow) →
    let z := statistic (Config.openZ (draw s).1) c.noncoh c.med pow
    let chain := candChain (g.sums.getD k CellSum.zero) (candRecord s c 9 255) r
    chainFails chain = false →
    (reaches c.noncoh c.pfa z = true → 7 ≤ k → k ≤ 9 → c.passed = 0 →
      exec (.verificationDwellEnd signal sv us r left) s = .next
        (modCand c (fun x => { x with passed := 1, dwell := none }) (draw s).2))
    ∧ (reaches c.noncoh c.pfa z = false → c.channel = none →
      exec (.verificationDwellEnd signal sv us r left) s = .next (endCand c 4 chain 255 (draw s).2)))
  ∧ (∀ (signal sv : Byte) s x, signal ≠ 0 → x ∈ s.acq.aid.sats → x.signal = signal.toNat → x.sv = sv.toNat → satLapsed s x = true →
    exec (.aidLapse signal sv) s = .next (postAcq 0 [lapseRecord s 5 2 sv.toNat] { s with
      acq.aid.sats := s.acq.aid.sats.filter (fun y => !(y.signal == signal.toNat && y.sv == sv.toNat && satLapsed s y)) }))
  ∧ (∀ (sv : Byte) s w, s.acq.aid.timeWaits = some w → w.2.2 + 1500 ≤ nowMs s →
    exec (.aidLapse 0 sv) s = .next (postAcq 0 [lapseRecord s 1 1 0] { s with acq.aid.timeWaits := none }))

/-- Tracking commands: assignment, release, loop, correlator, burst and anchor settings and the status of each
accepted form (05 R226, 05 R227, 05 R234, 05 R235, 05 R238, 05 R240, 05 R241, 05 R242, 05 R245, 05 R249; the model's
choices behind it: log 18). -/
def Obligations.TrackingCommandsComplete : Prop :=
  (∀ p s i, Accepted specTrkAssign p s → let b := p.params
    let mask := uN 3 b 4
    let anchor := if u8 b 7 = 255 then (maskBits 24 mask).headD 0 else u8 b 7
    sigOf (u8 b 0) = some i → svOk i (u8 b 1) = true → mask ≠ 0 → (u8 b 7 = 255 ∨ u8 b 7 < 24 ∧ mask.testBit (u8 b 7) = true) →
    zeroAt b 9 3 = true →
    let t := ready specTrkAssign p s
    tracks t (u8 b 0) (u8 b 1) = false → (∀ a ∈ maskBits 24 mask, aprAssignable t a = true ∧ (aprOf t a).slicesOn.testBit i.slice = true) →
    (assignedChannels t).length + 1 ≤ t.profile.env.channels →
    (∀ a ∈ maskBits 24 mask, t.profile.env.aprMask.testBit a = true) →
    ∀ c, (u8 b 2 = c ∧ c ≤ 191 ∧ chanAssigned t c = false ∨ u8 b 2 = 255 ∧ lowestFree t = some c) →
    (u8 b 3 = 1 → u8 b 8 = 255 → u8 b 0 ≠ 0x14 → aidClose (aidedWindow t (u8 b 0) (u8 b 1) 0) = true →
      exec (.trkAssign p) s = .next (committed specTrkAssign p s 0 (le 1 c ++ zeros 3)
        (modChan c (startNcos t ((aidedWindow t (u8 b 0) (u8 b 1) 0).place - groupDelay i.slice) (aidedWindow t (u8 b 0) (u8 b 1) 0).doppler)
          (assignChannel c (u8 b 0) (u8 b 1) mask anchor 0 false false t))))
    ∧ (u8 b 3 = 2 → u8 b 8 ≤ 191 → companionOk t (u8 b 8) (u8 b 0) (u8 b 1) = true →
      exec (.trkAssign p) s = .next (committed specTrkAssign p s 0 (le 1 c ++ zeros 3)
        (modChan c (fromCompanion t (u8 b 8)) (assignChannel c (u8 b 0) (u8 b 1) mask anchor 0 false true t)))))
  ∧ (∀ p s, Accepted specTrkRelease p s → (u8 p.params 0 ≤ 191 ∨ u8 p.params 0 = 255) → zeroAt p.params 1 3 = true →
    let t := ready specTrkRelease p s
    exec (.trkRelease p) s = .next (committed specTrkRelease p s 0 []
      (foldS (fun c u => if chanAssigned u c then modChan c (fun x => { x with pendRelease := some 1 }) u else u)
        (chanTargets (u8 p.params 0) t) t)))
  ∧ (∀ p s, Accepted specTrkLoops p s → let b := p.params
    (u8 b 0 ≤ 191 ∨ u8 b 0 = 255) → u8 b 1 ≤ 1 → (u8 b 2 = 2 ∨ u8 b 2 = 3) → (u8 b 3 = 1 ∨ u8 b 3 = 2) →
    10 ≤ u16 b 4 → u16 b 4 ≤ 500 → 10 ≤ u16 b 6 → u16 b 6 ≤ 200 → 5 ≤ u16 b 8 → u16 b 8 ≤ 1000 → 5 ≤ u8 b 10 → u8 b 10 ≤ 200 →
    1 ≤ u8 b 11 → u8 b 11 ≤ 20 → 10 ≤ u8 b 12 → u8 b 12 ≤ 40 → u8 b 13 ≤ 100 → zeroAt b 14 2 = true →
    u16 b 4 * u8 b 11 ≤ 3000 → u16 b 6 * u8 b 11 ≤ 3000 →
    let t := ready specTrkLoops p s
    (∀ c ∈ chanTargets (u8 b 0) t, chanAssigned t c = true ∧ u8 b 11 ≤ cohFine (chanOf t c).signal (chanOf t c).sv) →
    exec (.trkLoops p) s = .next (committed specTrkLoops p s 0 []
      (foldS (fun c u => modChan c (fun x => { x with pendCfg := some { chanCfgNext x with
        assist := u8 b 1 == 1, pllOrder := u8 b 2, dllOrder := u8 b 3, pllBw := u16 b 4, fllBw := u16 b 6, dllBw := u16 b 8,
        resBw := u8 b 10, coh := u8 b 11, lossCn0 := u8 b 12, coast := u8 b 13 } }) u) (chanTargets (u8 b 0) t) t)))
  ∧ (∀ p s, Accepted specTrkCorr p s → let b := p.params
    (u8 b 0 ≤ 191 ∨ u8 b 0 = 255) → u8 b 1 ≤ 3 → 10 ≤ u16 b 2 → u16 b 2 ≤ 200 → 20 ≤ u16 b 4 → u16 b 4 ≤ 400 → 5 ≤ u16 b 6 →
    u16 b 6 ≤ 40 → u8 b 8 ≤ 1 → zeroAt b 9 3 = true → u16 b 6 < u16 b 2 → u16 b 2 < u16 b 4 → (u8 b 1 = 2 → u16 b 4 = 2 * u16 b 2) →
    (u8 b 8 = 1 → u16 b 4 = 100) →
    let t := ready specTrkCorr p s
    (∀ c ∈ chanTargets (u8 b 0) t, chanAssigned t c = true) → (u8 b 1 = 3 → t.profile.sel = 2) →
    exec (.trkCorr p) s = .next (committed specTrkCorr p s 0 []
      (foldS (fun c u => modChan c (fun x => { x with pendCfg := some { chanCfgNext x with
        dllMode := u8 b 1, elHalf := u16 b 2, vevlHalf := u16 b 4, narrowHalf := u16 b 6, bocGuard := u8 b 8 == 1 } }) u)
        (chanTargets (u8 b 0) t) t)))
  ∧ (∀ p s, Accepted specTrkBurst p s → let b := p.params
    zeroAt b 1 1 = true → zeroAt b 7 1 = true →
    (u8 b 0 = 0 ∧ u16 b 2 = 0 ∧ u16 b 4 = 0 ∧ u8 b 6 = 0
      ∨ u8 b 0 = 1 ∧ 20 ≤ u16 b 2 ∧ u16 b 2 ≤ 200 ∧ u16 b 4 + u16 b 2 ≤ 1000 ∧ 1 ≤ u8 b 6 ∧ u8 b 6 ≤ 10) →
    let t := ready specTrkBurst p s
    t.profile.sel = 4 →
    exec (.trkBurst p) s = .next (committed specTrkBurst p s 0 []
      { t with burst.pend := some (u8 b 0 == 1, u16 b 2, u16 b 4, u8 b 6) }))
  ∧ (∀ p s, Accepted specTrkStatus p s → let c := u8 p.params 0
    c ≤ 191 → zeroAt p.params 1 3 = true →
    let t := ready specTrkStatus p s
    let x := chanOf t c
    (x.state = .free → exec (.trkStatus p) s = .next (committed specTrkStatus p s 0 (le 1 c ++ zeros 4 ++ [255, 0, 0]) t))
    ∧ (x.state ≠ .free → ∃ flags, exec (.trkStatus p) s = .next (committed specTrkStatus p s 0
        (le 1 c ++ le 1 (chanCode x.state) ++ le 1 x.signal ++ le 1 x.sv ++ le 1 flags ++ le 1 x.anchor
          ++ le 1 (chanAprs t c).length ++ le 1 x.cohNow ++ (chanAprs t c).flatMap (chanAprEntry t c)) t)
      ∧ flags.testBit 0 = x.provisional ∧ flags.testBit 1 = x.sync ∧ flags.testBit 2 = x.halfResolved
      ∧ flags.testBit 3 = x.pin.isSome ∧ flags.testBit 4 = x.pinOverridden ∧ flags.testBit 5 = x.companion))
  ∧ (∀ p s, Accepted specTrkAnchor p s → let a := u8 p.params 1
    (u8 p.params 0 ≤ 191 ∨ u8 p.params 0 = 255) → (a ≤ 23 ∨ a = 255) → zeroAt p.params 2 2 = true →
    let t := ready specTrkAnchor p s
    (∀ c ∈ chanTargets (u8 p.params 0) t, chanAssigned t c = true ∧ (a ≠ 255 → (chanOf t c).aprMask.testBit a = true)) →
    exec (.trkAnchor p) s = .next (committed specTrkAnchor p s 0 []
      (foldS (fun c u => modChan c (fun x => { x with
        pin := if a = 255 then none else some a, pinDue := a != 255, pinOverridden := false }) u)
        (chanTargets (u8 p.params 0) t) t)))

/-- Tracking events: lag and lock updates, hand-over, lag search, timeouts, coasts and bursts (05 R192, 05 R196, 05
R197, 05 R198, 05 R214, 05 R215, 05 R216, 05 R217, 05 R221, 05 R228, 05 R247, 05 R248; the model's choices behind it:
log 51, 54). -/
def Obligations.TrackingEventsComplete : Prop :=
  (∀ s, s.epochMs % 100 = 0 → exec .lagUpdate s = .next (foldS (fun c t => judgeCommon false c (lagUpdateLead c
      (foldS (lagUpdateOne c) ((chanAprs t c).filter (fun a => (caOf t c a).state != 0)) t)))
      ((activeChannels s).filter (fun c => (chanOf s c).updMs != s.ms + 1)) s))
  ∧ (∀ c a s, let x := caOf s c a
    (chanOf s c).anchor ≠ a → (x.state = 2 ∨ x.state = 3) → x.means.n ≠ 0 →
    lagOut { x with lag := x.lag + roundDiv x.means.disc x.means.n,
                    lagRate := lagRateOf (chanOf s c).signal (chanOf s c).sv x.resFreq } = false → resOut x = false →
    let y := caOf (lagUpdateOne c a s) c a
    y.lag = x.lag + roundDiv x.means.disc x.means.n ∧ y.lagRate = lagRateOf (chanOf s c).signal (chanOf s c).sv x.resFreq
      ∧ y.cn0 = cn0Of x.means.p2 x.means.n2 ∧ y.means.n = 0)
  ∧ (∀ s, s.epochMs % 20 = 0 → exec .pliWindow s = .next (foldS pliChannel (activeChannels s) s))
  ∧ (∀ (c : Fin 192) s d, deputy s c = some d → (chanOf s c).pin = none → (chanOf s c).handDue = none → 50 ≤ (chanOf s c).exceed →
    (chanOf s c).exceedDeputy = d → (∀ t, (chanOf s c).lastVolMs = some t → t + 10000 ≤ s.ms) →
    exec (.voluntaryHandover c) s = .next (modChan c (fun z => { z with lastVolMs := some s.ms, handDue := some (d, 1) }) s))
  ∧ (∀ (c : Fin 192) (a : Fin 24) s q, (caOf s c a).search = some q → 20 ≤ q.count →
    let i := chanSig (chanOf s c)
    let go := fun (r : LagSearch) => modCa c a (fun x => { x with search := some r, opn := OpenDump.empty }) (draw s).2
    let now := lagWindow (draw s).2 c a
    let next := modCa c a (fun x => { x with search := some (q.next now), lag := now.centre, opn := OpenDump.empty }) (draw s).2
    let best := fun n => bestPosition q n
    let hit := fun n => reaches 20 6 (searchZ (Config.openZ (draw s).1) q.noise (q.power.getD (best n) 0))
    let n := min 8 (2 * q.half + 1 - 8 * q.group)
    (q.found = none → hit n = false → exec (.lagSearchDwell c a) s = .next next)
    ∧ (q.found = none → hit n = true →
      exec (.lagSearchDwell c a) s = .next (go (q.dwell q.group (some (lagPosition i q (8 * q.group + best n))))))
    ∧ (∀ l, q.found = some l → hit 3 = false → exec (.lagSearchDwell c a) s = .next next)
    ∧ (∀ l, q.found = some l → hit 3 = true →
      exec (.lagSearchDwell c a) s = .next (lagFound c a (l + ((best 3 : Int) - 1) * cellDelay i) q (draw s).2)))
  ∧ (∀ (c : Fin 192) s, (chanOf s c).state = .pullIn → (chanOf s c).since + 500 ≤ s.ms → (chanOf s c).provisional = false →
    exec (.pullInTimeout c) s = .next (freeChannel c 6 s))
  ∧ (∀ (c : Fin 192) s, (chanOf s c).state = .pullIn ∨ (chanOf s c).state = .fll ∨ (chanOf s c).state = .pll →
    2 ≤ (chanOf s c).lossCount →
    exec (.coastEntry c) s = .next (chanEvent 5 c 255 0 0 (modChan c (fun z => Channel.mapAprs
      (fun y => if y.state = 0 ∨ y.state = 1 then { y with hist := [] } else { y with state := 4, coastMs := s.ms, hist := [] })
      { z with state := .coast, early := z.state != .pll, coastMs := s.ms, loopDue := none }) s)))
  ∧ (∀ (c : Fin 192) s, (chanOf s c).state = .coast → (chanOf s c).coastMs + 100 * (chanOf s c).cfg.coast ≤ s.ms →
    (chanOf s c).provisional = false → exec (.coastTimeout c) s = .next (freeChannel c 2 s))
  ∧ (∀ (c : Fin 192) (a : Fin 24) s, (caOf s c a).state = 4 → (chanOf s c).state ≠ .coast → (chanOf s c).anchor ≠ a →
    (caOf s c a).coastMs + 1000 ≤ s.ms →
    exec (.apertureCoastTimeout c a) s = .next (enterSearch c a 4 (recordSlip c a 1 s)))
  ∧ (∀ s, betweenBursts s = true → s.burst.awake = false → (s.epochMs + 3) % 1000 = s.burst.phaseMs →
    exec .burstWake s = .next { s with
      burst.awake := true, power.retention := false, islands.powered := s.islands.powered ||| s.burst.gated })
  ∧ (∀ s, s.burst.on = true → s.burst.active = false → s.burst.awake = true → s.epochMs % 1000 = s.burst.phaseMs →
    let u := { s with burst.active := true }
    let as := (upto 24).filter (islandReady u)
    let v := foldS takeSettings as (foldS apertureRunning (as.filter (fun a => (aprOf u a).enabled)) u)
    exec .burstStart s = .next (startBlocks (beginWindow (foldS burstChannel (assignedChannels v) v))))
  ∧ (∀ s, s.burst.on = true → s.burst.active = true → s.epochMs % 1000 = (s.burst.phaseMs + s.burst.burstMs) % 1000 →
    ∃ t, exec .burstEnd s = .next t ∧ t.burst.active = false ∧ t.burst.awake = false ∧ t.burst.heldMs = s.ms
      ∧ (islandReady s 25 = true → islandOn t 25 = false ∧ t.burst.gated.testBit 25 = true)
      ∧ ∀ c, c < 192 → chanActive s c = true → (chanOf t c).state = .burstHold ∨ (chanOf t c).state = .free)

/-- Voile: the calibration commands, the end of a window and the stored table (06 R262, 06 R266, 06 R267, 06 R271, 06
R275, 06 R276, 06 R277, 06 R278; the model's choices behind it: log 20, 50, 51). -/
def Obligations.CalibrationComplete : Prop :=
  (∀ p s, Accepted specCalVoile p s → let b := p.params
    u8 b 0 ≤ 2 → (u8 b 1 ≤ 23 ∨ u8 b 1 = 255) → u8 b 2 ≤ 63 → 1 ≤ u8 b 3 → u8 b 3 ≤ 60 → 1 ≤ u8 b 4 → 1 ≤ u8 b 5 → u8 b 5 ≤ 180 →
    u8 b 6 ≤ 15 → (u8 b 0 ≠ 0 → u8 b 6 ≠ 0) → u8 b 7 ≤ 1 →
    let t := ready specCalVoile p s
    (t.cal.change = none ∨ u8 b 0 = (t.cal.pendCfg.getD t.cal.cfg).mode) →
    let cfg : CalCfg :=
      { mode := u8 b 0, ref := u8 b 1, level := u8 b 2, avg := u8 b 3, delayThr := u8 b 4, phaseThr := u8 b 5, slices := u8 b 6,
        report := u8 b 7 == 1 }
    exec (.calVoile p) s = .next (committed specCalVoile p s 0 [] { t with cal.pendCfg := some cfg }))
  ∧ (∀ p s, Accepted specCalStatus p s → let t := ready specCalStatus p s
    let st := if t.cal.cfg.mode = 0 then 0 else if voileSuspended t = true then 3 else if t.cal.change ≠ none then 2 else 1
    exec (.calStatus p) s = .next (committed specCalStatus p s 0
      (le 1 t.cal.cfg.mode ++ le 1 (t.cal.ref.getD 255) ++ le 1 st ++ le 1 (b2n (t.cal.stored == some t.cal.table))
        ++ le 2 t.cal.table.id ++ le 1 (enabledApertures t).length ++ zeros 1 ++ (enabledApertures t).flatMap (calStatusEntry t)) t))
  ∧ (∀ p s, Accepted specCalCommit p s → zeroAt p.params 1 3 = true → let t := ready specCalCommit p s
    (u8 p.params 0 = 0 → t.cal.cfg.mode ≠ 0 → calCandidates t ≠ [] → t.cal.change = none →
      exec (.calCommit p) s = .next (committed specCalCommit p s 0 [] (calDecide 2 p.obs.dieTemp.toInt t)))
    ∧ (u8 p.params 0 = 1 → t.cal.change ≠ none →
      exec (.calCommit p) s = .next (committed specCalCommit p s 0 [] { t with cal.abandonDue := true })))
  ∧ (∀ p s, Accepted specCalLoad p s → let b := p.params
    let es := chunks 64 (u8 b 1) (b.drop 8)
    u8 b 1 ≤ 24 → zeroAt b 2 6 = true → (∀ e ∈ es, calEntryOk (u8 b 0) e = true) → sameApr es = false →
    let t := ready specCalLoad p s
    let ch : CalChange :=
      { cause := 3, next := calTableIn t.cal.table.id es, epochs := 0, ran := bitsMask ((upto 24).filter (aprRunning t)),
        gone := 0, announced := false }
    (u8 b 0 = 1 → t.cal.change = none → exec (.calLoad p) s = .next (committed specCalLoad p s 0 [] { t with cal.change := some ch }))
    ∧ (u8 b 0 = 2 → exec (.calLoad p) s = .next (committed specCalLoad p s 0 [] { t with
      cal.distNext := some (calTableIn 0 es), cal.storedDist := some (calTableIn 0 es), cal.ests := [], cal.win.old := true,
      cal.ending := t.cal.ending.map (fun w => { w with old := true }), cal.closed := t.cal.closed.map (fun w => { w with old := true }) })))
  ∧ (∀ temp s, s.cal.closed = none → exec (.voileWindowEnd temp) s = .next s)
  ∧ (∀ temp s w, s.cal.closed = some w → w.report = false → s.cal.cfg.mode ≠ 2 →
    let keys := windowKeys s w
    let v := { s with cal.closed := none, cal.invalid := keys }
    let u := match w.ref with
      | some ref => foldS (calTake w ref) (keys.filter (fun k => !(tget [] w.sums k).isEmpty)) v
      | none => v
    (w.spoilt = true → exec (.voileWindowEnd temp) s = .next u)
    ∧ (w.spoilt = false → exec (.voileWindowEnd temp) s = .next (foldS (calInject w) ((upto 24).filter (fun a => !w.lost.testBit a)) u)))
  ∧ (∀ s, s.cal.writing = true →
    exec (.calTableStored true) s = .next { s with cal.writing := false, cal.stored := some s.cal.table }
    ∧ exec (.calTableStored false) s = .next (postCal 6 4 255 255 s.epochMs [] { s with cal.writing := false }))

/-- Rates, groups, modes, ambiguity resets, corrections and navigation settings: what each accepted form leaves (07
R282, 07 R295, 07 R297, 07 R299, 07 R300, 07 R301, 07 R303, 07 R310). -/
def Obligations.MeasurementCommandsComplete : Prop :=
  (∀ p s, Accepted specMeasRate p s → let r := u16 p.params 0
    let d := u8 p.params 2
    r ≠ 0 → 1000 % r = 0 → (d ≠ 0 → r % d = 0) → zeroAt p.params 3 1 = true →
    let t := ready specMeasRate p s
    (∀ v ∈ pvtDivs t, pvtFits r v = true) → r ≤ t.profile.env.measRate →
    (d ≠ 0 → t.profile.env.tulGroups ≠ 0 ∧ r ≤ t.profile.env.tulRate * d) →
    budgetBroken t { t with rates.rateHz := r, rates.tulDiv := d } = false →
    exec (.measRate p) s = .next (committed specMeasRate p s 0 [] { t with meas.pendRates := some (r, d) }))
  ∧ (∀ p s, Accepted specTulGroup p s → let b := p.params
    let es := chunks 16 (u8 b 2) (b.drop 16)
    let ms := es.map memberIn
    u8 b 0 ≤ 3 → u8 b 4 ≤ 1 → zeroAt b 5 1 = true → zeroAt b 8 8 = true →
    let t := ready specTulGroup p s
    u8 b 0 < t.profile.env.tulGroups → (∀ m ∈ ms, t.profile.env.aprMask.testBit m.apr = true) →
    let d : TulDef := { ref := u8 b 3, attitude := u8 b 4 == 1, rigidTol := u16 b 6, members := byApr ms }
    (u8 b 1 = 1 → 2 ≤ u8 b 2 → u8 b 2 ≤ 24 → 1 ≤ u16 b 6 → u16 b 6 ≤ 1000 → (∀ e ∈ es, memberOk e = true) →
      anyPair (fun x y => u8 x 0 == u8 y 0) es = false →
      ∀ r, ms.find? (fun m => m.apr == u8 b 3 && !m.deformable) = some r → (∀ m ∈ ms, armDist2 m r ≤ 5000000 ^ 2) →
      exec (.tulGroup p) s = .next (committed specTulGroup p s 0 [] (modGroup (u8 b 0) (fun x => { x with
        pendDef := some (some d), pendMode := none, pendReset := [] }) t)))
    ∧ (u8 b 1 = 0 → u8 b 2 = 0 → u8 b 3 = 0 → u16 b 6 = 0 →
      exec (.tulGroup p) s = .next (committed specTulGroup p s 0 []
        (if latestDef (groupOf t (u8 b 0)) = none then t
         else modGroup (u8 b 0) (fun x => { x with pendDef := some none, pendMode := none, pendReset := [] }) t))))
  ∧ (∀ p s, Accepted specTulMode p s → let b := p.params
    (u8 b 0 ≤ 3 ∨ u8 b 0 = 255) → u8 b 1 ≤ 2 → u8 b 2 ≤ 1 → u8 b 3 ≤ 100 → 15 ≤ u8 b 4 → u8 b 4 ≤ 100 → u8 b 5 ≤ 60 → u8 b 6 ≠ 0 →
    u8 b 6 ≤ 127 → zeroAt b 7 1 = true →
    let t := ready specTulMode p s
    (∀ k ∈ groupTargets t (u8 b 0), latestDef (groupOf t k) ≠ none) →
    let m : TulMode :=
      { amb := u8 b 1, prov := u8 b 2 == 1, bw := u8 b 3, ratio := u8 b 4, elev := u8 b 5, systems := u8 b 6 }
    exec (.tulMode p) s = .next (committed specTulMode p s 0 [] (foldS (fun k u => modGroup k (fun x => { x with pendMode := some m }) u)
      (groupTargets t (u8 b 0)) t)))
  ∧ (∀ p s, Accepted specTulResetAmb p s → let g := u8 p.params 0
    let a := u8 p.params 1
    (g ≤ 3 ∨ g = 255) → (a ≤ 23 ∨ a = 255) → zeroAt p.params 2 2 = true →
    let t := ready specTulResetAmb p s
    let gs := (groupTargets t g).filter (fun k => a == 255 || isMember (groupOf t k) a)
    (g ≠ 255 → latestDef (groupOf t g) ≠ none) → (a ≠ 255 → gs ≠ []) →
    exec (.tulResetAmb p) s = .next (committed specTulResetAmb p s 0 []
      (foldS (fun k u => modGroup k (fun x => { x with pendReset := x.pendReset ++ [a] }) u) gs t)))
  ∧ (∀ p s fs, Accepted specMeasCorrections p s → let b := p.params
    u8 b 0 = 1 → zeroAt b 1 1 = true → 1 ≤ u16 b 2 → u16 b 2 ≤ 4088 → zeroAt b 4 4 = true → rtcmFrames 4096 (b.drop 8) = some fs →
    let t := ready specMeasCorrections p s
    t.meas.nav.corrSrc = 1 →
    exec (.measCorrections p) s = .next (committed specMeasCorrections p s 0 []
      (let c := fs.foldl (takeFrame t.ms) t.meas.corr
       foldS frameOrbit fs { t with
         meas.corr := c, meas.navMem := if c.restarts = t.meas.corr.restarts then t.meas.navMem else [] })))
  ∧ (∀ p s, Accepted specNavConfig p s → let b := p.params
    u8 b 1 ≤ 3 → u8 b 2 ≤ 3 → u8 b 3 ≤ 60 → 10 ≤ u8 b 4 → u8 b 4 ≤ 45 → u8 b 5 ≠ 0 → u8 b 5 ≤ 127 → (u8 b 6 ≤ 23 ∨ u8 b 6 = 255) →
    u8 b 7 ≤ 2 → (2 ≤ u8 b 1 → u8 b 7 ≠ 0) → (u8 b 7 = 2 → u8 b 8 ≤ 63) → (u8 b 7 ≠ 2 → u8 b 8 = 0) → 1 ≤ u8 b 9 → u8 b 9 ≤ 60 →
    zeroAt b 10 6 = true →
    let t := ready specNavConfig p s
    pvtFits t.rates.rateHz (u8 b 0) = true → (∀ r d, t.meas.pendRates = some (r, d) → pvtFits r (u8 b 0) = true) →
    budgetBroken t { t with rates.pvtDiv := u8 b 0 } = false →
    let cfg : NavCfg :=
      { pvtDiv := u8 b 0, mode := u8 b 1, dyn := u8 b 2, elev := u8 b 3, cn0 := u8 b 4, systems := u8 b 5, point := u8 b 6,
        corrSrc := u8 b 7, corrNode := u8 b 8, ageLimit := u8 b 9 }
    exec (.navConfig p) s = .next (committed specNavConfig p s 0 [] { t with meas.pendNav := some cfg }))

/-- Dump records and the three cutoffs of a measurement epoch: what is committed, sent and solved (05 R206, 06 R269,
07 R284, 07 R289, 07 R291, 07 R294, 07 R295, 07 R296, 07 R312, 07 R315; the model's choices behind it: log 33, 34, 51,
55). -/
def Obligations.MeasurementEventsComplete : Prop :=
  (∀ (c : Fin 192) (a : Fin 24) (e : Upset) s, (caOf s c a).dump ≠ [] → (caOf s c a).committed = false →
    let u := modCa c a (fun x => { x with
      committed := true, dump := le 64 (uN 64 x.dump 0 ^^^ (e.flip % 2 ^ 512)), dumpErrs := e.errs.take 2 }) s
    exec (.dumpRecordCommit c a e) s = .next (deliverDump c a (recChain (caOf u c a) &&& 0xA8) (caOf u c a).dump u))
  ∧ (∀ (residue : BitVec 24) s, isMeasEpoch s = true → s.meas.cut = 0 →
    let u := readRecords { s with meas.cut := 1 }
    let cs := entryChannels u true
    (∀ c ∈ cs, ∀ a ∈ chanAprs u c, lateRecord u c a = false) →
    let full := epochPayloads u residue true
    let r := foldS (fun (m : Nat × Nat × List Byte) t => logChain (32 * b2n (residue.toNat.testBit m.1)) 0x07 m.1 t) full u
    let v := foldS (fun c t => if (chanOf t c).provisional = true ∧ (chanOf t c).firstMs.isNone = true then
      modChan c (fun x => { x with firstMs := some t.epochMs }) t else t) cs r
    exec (.rawCutoff residue) s = .next (foldS (fun c t => modChan c clearSlips t) cs
      (sendEpoch false (epochPayloads r residue false) (sendEpoch true full v))))
  ∧ (∀ (o : EngineObs) s, isMeasEpoch s = true → s.meas.cut < 2 →
    let u := readRecords { s with meas.cut := 2 }
    exec (.provisionalCutoff o) s = .next (timeCutoff (pvtCutoff o
      (if isTulEpoch u = true then foldS (groupProvisional o) (upto 4) (markPoison o (foldS groupChoose (upto 4) u)) else u))))
  ∧ (∀ (o : EngineObs) s p, isPvtEpoch s = true → isTulEpoch s = false → s.meas.cut < 2 →
    let u := readRecords { s with meas.cut := 2 }
    pvtPoint u = some p →
    let n := u.meas.nav
    let used := (pvtWanted u p).filter (fun c => recordGood u c p)
    (2 ≤ n.mode → corrAge u = none) → used ≠ [] →
    let v := Config.pvtSolve n.mode n.dyn u.epochMs (used.map (pvtInput u p)) (u.nav.orbits.map (fun r => (r.sv, r.elems))) [] u.meas.navMem
    ∃ t, exec (.provisionalCutoff o) s = .next t
      ∧ (v.fix ≠ 0 → t.nav.pos = some { value := (Config.geodetic v.pos v.vel).1, sd := cdiv (max v.hSd v.vSd) 10 }
        ∧ t.nav.own = t.nav.pos ∧ t.meas.navMem = v.mem ∧ t.meas.cut = 2 ∧ t.nunar.fix = some (timeFix t p)))
  ∧ (∀ (o : EngineObs) s, isMeasEpoch s = true → s.meas.cut < 3 →
    let u := readRecords { s with meas.cut := 3 }
    exec (.finalCutoff o) s = .next (voileFinal (shadowFailed u)
      (if isTulEpoch u = true then foldS (groupFinal o) (upto 4) (markPoison o u) else u)))
  ∧ (∀ residue o s, (isMeasEpoch s = false ∨ s.meas.cut = 3) →
    exec (.rawCutoff residue) s = .next s ∧ exec (.provisionalCutoff o) s = .next s ∧ exec (.finalCutoff o) s = .next s)

/-- Scale, holdover, step policy, delays, pulses, timecode and events: what each accepted form leaves or answers (08
R326, 08 R337, 08 R345, 08 R346, 08 R347, 08 R348, 08 R354, 08 R359; the model's choices behind it: log 21, 56). -/
def Obligations.TimeCommandsComplete : Prop :=
  (∀ p s, Accepted specTimScale p s → u8 p.params 0 ≤ 4 → u8 p.params 1 ≤ 2 → u8 p.params 2 ≤ 1 → zeroAt p.params 3 1 = true →
    let t := ready specTimScale p s
    (u8 p.params 1 ≠ 0 → syncIs1pps t = true) → (t.nunar.st = 0 ∨ t.nunar.st = 1 ∧ t.nunar.slew = 0) →
    exec (.timScale p) s = .next (committed specTimScale p s 0 []
      { t with nunar.pendScale := some (u8 p.params 0), nunar.source := u8 p.params 1, nunar.average := u8 p.params 2 }))
  ∧ (∀ p s, Accepted specTimHoldover p s → let b := p.params
    u8 b 2 ≤ 1 → zeroAt b 3 1 = true → 1 ≤ u32 b 4 → u32 b 4 ≤ 4000000000 →
    let t := ready specTimHoldover p s
    exec (.timHoldover p) s = .next (committed specTimHoldover p s 0 [] { t with
      nunar.limitMin := u16 b 0, nunar.action := u8 b 2, nunar.drift := u32 b 4,
      nunar.st := if t.nunar.st = 4 ∧ (u16 b 0 = 0 ∨ t.ms < t.nunar.coastMs + 60000 * u16 b 0) then 3 else t.nunar.st,
      nunar.lowered := t.nunar.st == 3 && u16 b 0 != 0 && decide (t.nunar.coastMs + 60000 * u16 b 0 ≤ t.ms) }))
  ∧ (∀ p s, Accepted specTimStepPolicy p s → let b := p.params
    u8 b 0 ≤ 1 → zeroAt b 1 1 = true → 10 ≤ u16 b 2 → u16 b 2 ≤ 10000 → 1 ≤ u16 b 4 → u16 b 4 ≤ 1000 → zeroAt b 6 2 = true →
    let t := ready specTimStepPolicy p s
    exec (.timStepPolicy p) s = .next (committed specTimStepPolicy p s 0 []
      { t with nunar.policy := u8 b 0, nunar.slewThr := u16 b 2, nunar.rate := u16 b 4 }))
  ∧ (∀ p s, Accepted specTimDelays p s → let b := p.params
    let es := chunks 8 (u8 b 0) (b.drop 8)
    u8 b 0 ≤ 24 → u8 b 1 ≤ 1 → zeroAt b 2 6 = true → (∀ e ∈ es, delayOk e = true) →
    anyPair (fun x y => u8 x 0 == u8 y 0 && u8 x 1 == u8 y 1) es = false →
    let t := ready specTimDelays p s
    let ds := es.foldl (fun m e => tset 0 m (32 * u8 e 0 + u8 e 1) (i32 e 4)) (if u8 b 1 = 0 then [] else t.nunar.delays)
    let u := { t with nunar.delays := ds }
    exec (.timDelays p) s = .next (committed specTimDelays p s 0 [] { u with
      nunar.x := t.nunar.x + delayMove t u,
      nunar.forced := t.nunar.forced || (t.nunar.st != 0 && t.nunar.st != 5 && delayMove t u != 0) }))
  ∧ (∀ p s, Accepted specTimPulse p s → let b := p.params
    u8 b 0 ≤ 1 → u8 b 1 ≤ 1 → u8 b 2 ≤ 1 → u8 b 3 ≤ 1 → u32 b 4 ∈ pulsePeriods → 1 ≤ u32 b 8 → u32 b 8 ≤ 1000 * u32 b 4 - 1 →
    u32 b 8 ≤ 1000000 → (i32 b 12).natAbs ≤ 500000000 →
    let t := ready specTimPulse p s
    (u8 b 0 = 1 → u8 b 1 = 1 → timecodeOn t = false) →
    exec (.timPulse p) s = .next (committed specTimPulse p s 0 [] (modTp (u8 b 0) (fun x =>
      let y := { x with mode := u8 b 1, polarity := u8 b 2, notice := u8 b 3 == 1, period := u32 b 4, width := u32 b 8,
                        offset := i32 b 12 }
      if y.announced = [] ∧ y.trail = none then { y with level := restLevel y } else y) t)))
  ∧ (∀ p s, Accepted specTimTimecode p s → let b := p.params
    u8 b 1 ≤ 7 → u8 b 2 ≤ 3 → zeroAt b 3 1 = true → -48 ≤ i8 b 4 → i8 b 4 ≤ 56 → zeroAt b 5 3 = true →
    let t := ready specTimTimecode p s
    let c : Timecode := { on := u8 b 0 == 1, format := u8 b 1, flags := u8 b 2, offset := i8 b 4 }
    (u8 b 0 = 0 ∧ u8 b 1 = 0
      ∨ u8 b 0 = 1 ∧ (tpOf t 1).mode ≠ 1 ∧ ∃ k, k < 16 ∧ coreAllowed t k = true ∧ (coreOf t k).gen = 0
        ∧ ∀ j, k < j → j < 16 → coreAllowed t j = false) →
    exec (.timTimecode p) s = .next (committed specTimTimecode p s 0 [] { t with nunar.timecode := c }))
  ∧ (∀ p s, Accepted specTimEvent p s → let b := p.params
    u8 b 0 ≤ 7 → zeroAt b 6 2 = true →
    let t := ready specTimEvent p s
    let x := evtOf t (u8 b 0)
    (u8 b 1 = 0 → u8 b 2 = 0 → u8 b 3 = 0 → u16 b 4 ≤ 128 → x.delivery ≠ 1 →
      exec (.timEvent p) s = .next (committed specTimEvent p s 0
        (le 2 (x.fifo.drop (u16 b 4)).length ++ le 1 (x.fifo.take (u16 b 4)).length ++ le 1 x.ovf ++ (x.fifo.take (u16 b 4)).flatten)
        (if u16 b 4 = 0 then t
         else modEvt (u8 b 0) (fun y => { y with fifo := x.fifo.drop (u16 b 4), ovf := 0, logged := false }) t)))
    ∧ (u8 b 1 = 1 → u8 b 2 ≤ 3 → u8 b 3 ≤ 1 → u16 b 4 = 0 →
      exec (.timEvent p) s = .next (committed specTimEvent p s 0 (zeros 4)
        (modEvt (u8 b 0) (fun _ => { EvtIn.initial with edge := u8 b 2, delivery := u8 b 3 }) t))))

/-- The epoch, the whole second, the step of time, the end of a slew and of holdover: what each leaves (08 R322, 08
R323, 08 R325, 08 R333, 08 R337, 08 R341, 08 R342, 08 R343; the model's choices behind it: log 21, 45, 56). -/
def Obligations.EpochAndSecondComplete : Prop :=
  (∀ (o : EpochObs) s, epochsRun s = true → s.nunar.running = true → s.nunar.stepped = false → stepDue s = false →
    s.nunar.pendScale = none →
    exec (.epoch o) s = .next (epochEngines o (epochSettings (takeHoldings o.nav (epochInstant o s))))
    ∧ (epochInstant o s).ms = s.ms + 1 ∧ (epochInstant o s).epochMs = s.epochMs + 1
    ∧ (epochInstant o s).power.readyMs = s.power.readyMs
    ∧ (epochInstant o s).nunar.a = s.nunar.a + s.nunar.move ∧ (epochInstant o s).nunar.pos = s.nunar.pos + s.nunar.plan
    ∧ (epochInstant o s).nunar.len = s.nunar.cur ∧ (epochInstant o s).nunar.step = s.nunar.step)
  ∧ (∀ (v : NavObs) u s, v.utc = some u →
    (takeHoldings (some v) s).meas.authOut = v.auth ∧ (takeHoldings (some v) s).nav.utc = some { leap := u.1.toNat, change := u.2.1.val, endMs := u.2.2 })
  ∧ (∀ (o : SecondObs) s, epochsRun s = true → s.nunar.running = true → s.nunar.secDue = true → s.power.retention = false →
    exec (.wholeSecond o) s = .next (burstTakeEffect (spoilWindow (voileSliceStart (voileSecond
      (nunarSecond o { s with nunar.secDue := false })))))
    ∧ (nunarSecond o { s with nunar.secDue := false }).nunar.secDue = false
    ∧ (nunarSecond o { s with nunar.secDue := false }).nunar.sync = none
    ∧ (secondSource o s = none → (nunarSecond o { s with nunar.secDue := false }).nunar.invalid = s.nunar.invalid + 1
      ∧ (nunarSecond o { s with nunar.secDue := false }).nunar.cand = [])
    ∧ (∀ src x v, secondSource o s = some (src, x, v) → (nunarSecond o { s with nunar.secDue := false }).nunar.invalid = 0
      ∧ (nunarSecond o { s with nunar.secDue := false }).nunar.src = some src
      ∧ (nunarSecond o { s with nunar.secDue := false }).nunar.x = if v = true then x else s.nunar.x))
  ∧ (∀ s d, epochsRun s = true → s.nunar.running = true → s.nunar.stepped = false → s.nunar.pendScale = none →
    s.nunar.step = some d → s.epochMs + 1 = d.boundary →
    ∃ t, exec .timeStep s = .next t ∧ t.epochMs = ((d.boundary : Int) + stepK d.d).toNat ∧ t.nunar.st = 1
      ∧ t.nunar.a = s.nunar.a + s.nunar.move + d.d ∧ t.nunar.step = none ∧ t.nunar.slew = 0 ∧ t.nunar.broken = true ∧ t.nunar.first = false
      ∧ t.nunar.stepped = true)
  ∧ (∀ s, s.nunar.st = 2 → s.nunar.slew = 0 → s.nunar.step = none → exec .slewEnd s = .next { s with nunar.st := 1 })
  ∧ (∀ s, s.nunar.st = 3 → s.nunar.limitMin ≠ 0 → s.nunar.coastMs + 60000 * s.nunar.limitMin ≤ s.ms → s.nunar.secDue = false →
    s.nunar.lowered = false → s.nunar.step = none → exec .holdoverExpiry s = .next { s with nunar.st := 4 })

/-- Pulse notices, announcements, edges and event tags: what each leaves (08 R348, 08 R349, 08 R350, 08 R351, 08 R356,
08 R357, 08 R358; the model's choices behind it: log 24). -/
def Obligations.PulseAndEventEdgesComplete : Prop :=
  (∀ (o : Fin 2) s i, s.burst.on = false → s.power.retention = false →
    let placed := fun (noticed : Bool) =>
      let e := placeEdge s o i noticed
      let clip := fun (due : Nat) (off : Int) => if stepBetween s.nunar due e.due = true then clipTrail s.nunar e.pos off else off
      modTp o (fun x => { x with
        announced := x.announced.map (fun y => { y with off := clip y.due y.off }) ++ [e],
        trail := x.trail.map (fun t => (clip x.pulseMs t.1, t.2)) }) s
    (nextEdge s o true 50 150 = some i →
      exec (.pulseNotice o) s = .next (postPulse o 1 (placeEdge s o i true) (placed true)))
    ∧ (nextEdge s o false 50 51 = some i → exec (.edgeAnnounce o) s = .next (placed false)))
  ∧ (∀ (o : Fin 2) s e, firstEdge (tpOf s o).announced = some e → e.due ≤ s.ms + 1 → e.frame = false →
    exec (.pulseEdge o) s = .next (modTp o (fun x => { x with
      announced := x.announced.filter (fun y => y.due != e.due), level := !inactive e.falling,
      trail := some (e.off, inactive e.falling), pulseMs := e.due, frame := [] }) s))
  ∧ (∀ (o : Fin 2) s x, (tpOf s o).trail = some x →
    exec (.pulseTrailingEdge o) s = .next (modTp o (fun y => { y with level := restLevel y, trail := none }) s))
  ∧ (∀ (n : Fin 8) rising g s, (evtOf s n).edge.testBit (if rising then 0 else 1) = false →
    exec (.eventEdge n rising g) s = .next s)
  ∧ (∀ (n : Fin 8) rising (g : Nat) s, let at' := nearestGrid s.nunar.pos + (g : Int)
    mainRuns s = true → (evtOf s n).edge.testBit (if rising then 0 else 1) = true → clockBypass s = false → s.nunar.running = true →
    (∀ l, (evtOf s n).last = some l → 352000 ≤ at' - l) → (evtOf s n).fifo.length < 256 →
    ∃ tag, tag.length = 24 ∧ field tag 0 1 = le 1 n.val ∧ field tag 4 4 = le 4 (evtOf s n).seq
      ∧ exec (.eventEdge n rising g) s = .next
        (modEvt n (fun z => { z with fifo := z.fifo ++ [tag], lostFull := false, lostBypass := false })
          (modEvt n (fun z => { z with last := some at' }) (modEvt n (fun z => { z with seq := (z.seq + 1) % 2 ^ 32 }) s))))

/-- Clock commands: reference, outputs, ramps, synchronisation and status of each accepted form (09 R374, 09 R376, 09
R382, 09 R384, 09 R386, 09 R388, 09 R390, 09 R391, 09 R392; the model's choices behind it: log 25, 58). -/
def Obligations.ClockCommandsComplete : Prop :=
  (∀ p s, Accepted specClkRef p s → let b := p.params
    u8 b 0 ≤ 3 → u8 b 1 ≤ 1 → u8 b 2 ≤ 1 → zeroAt b 3 1 = true →
    let t := ready specClkRef p s
    let u := { t with clk.freq := u8 b 0, clk.bypass := u8 b 1, clk.input := u8 b 2 }
    let v := { u with clk.refPresent := false, clk.refFreq := 0, clk.goodWindows := 0, clk.wasPresent := false }
    exec (.clkRef p) s = .next (committed specClkRef p s 0 []
      (if u8 b 0 = t.clk.freq ∧ u8 b 2 = t.clk.input then u
       else if t.clk.st = 0 then bypassSwitch 3 1 v else { v with clk.st := 1 })))
  ∧ (∀ p s, Accepted specClkOut p s → let b := p.params
    let o := u8 b 0
    let div := u32 b 4 * 2 ^ 32 + u32 b 8
    o ≤ 3 → u8 b 2 ≤ 7 → zeroAt b 3 1 = true →
    let t := ready specClkOut p s
    let x := clkOutOf t o
    (u8 b 1 = 0 → u32 b 4 = 0 → u32 b 8 = 0 → exec (.clkOut p) s = .next (committed specClkOut p s 0 [] (modClkOut o (fun _ =>
      { ClkOut.initial with flags := u8 b 2 }) t)))
    ∧ (1 ≤ u8 b 1 → u8 b 1 ≤ 4 → 2 ≤ u32 b 4 → u32 b 4 ≤ 16777215 → 1100 * 2 ^ 32 ≤ formatLimit (u8 b 1) * div →
      (x.format = 0 → exec (.clkOut p) s = .next (committed specClkOut p s 0 [] (modClkOut o (fun _ =>
        { ClkOut.initial with format := u8 b 1, flags := u8 b 2, div := div }) t)))
      ∧ (x.format ≠ 0 → (u8 b 2).testBit 0 = clkFollow x →
        let y := if u8 b 1 = x.format ∧ div = x.div then { x with flags := u8 b 2, pend := none }
          else { x with flags := u8 b 2, pend := some (u8 b 1, div), aligned := false }
        exec (.clkOut p) s = .next (committed specClkOut p s 0 []
          (modClkOut o (fun _ => if clockBypass t = true ∧ runsOnBypass t x = false then takeFormat y else y) t)))))
  ∧ (∀ p s, Accepted specClkRamp p s → let b := p.params
    let es := chunks 8 (u8 b 2) (b.drop 8)
    let sweep := es.map (fun e => (i32 e 0, u32 e 4))
    let segs := es.map (fun e => (u32 e 0, u32 e 4))
    zeroAt b 4 4 = true → (∀ e ∈ es, 1 ≤ u32 e 4 ∧ u32 e 4 ≤ 60000) →
    let t := ready specClkRamp p s
    (u8 b 0 = 1 → u8 b 1 = 255 → 1 ≤ u8 b 2 → u8 b 2 ≤ 16 → u8 b 3 = 0 → (∀ e ∈ segs, e.1 ≤ 16777216) →
      segs.foldl (fun (m : Nat) e => m + e.1 * e.2) 0 = 2 ^ 24 → shapeLen segs ≤ 60000 →
      exec (.clkRamp p) s = .next (committed specClkRamp p s 0 [] { t with clk.shape := segs }))
    ∧ (u8 b 0 = 2 → u8 b 1 ≤ 3 → 1 ≤ u8 b 2 → u8 b 2 ≤ 16 → u8 b 3 ≤ 1 → (∀ e ∈ sweep, e.1.natAbs ≤ 2000000000) →
      clkOutOn (clkOutOf t (u8 b 1)) = true → sweepInside (yHAt t (u8 b 1) (sweepAhead t (u8 b 3 == 1))) sweep = true →
      exec (.clkRamp p) s = .next (committed specClkRamp p s 0 []
        (modClkOut (u8 b 1) (fun x => { x with nextSweep := some (sweep, u8 b 3 == 1) }) t)))
    ∧ (u8 b 0 = 3 → u8 b 1 ≤ 3 → u8 b 2 = 0 → u8 b 3 = 0 → clkOutOn (clkOutOf t (u8 b 1)) = true →
      exec (.clkRamp p) s = .next (committed specClkRamp p s 0 []
        (modClkOut (u8 b 1) (fun x => ownShape true (-(1000 * x.yH)) t { x with yH := 0, sweep := none, nextSweep := none }) t))))
  ∧ (∀ p s, Accepted specClkSync p s → let b := p.params
    u8 b 0 ≤ 2 → u8 b 1 ≤ 1 → u8 b 2 ≤ 15 → u8 b 3 ≤ 1 → (u8 b 2 = 0 → u8 b 3 = 0) →
    let t := ready specClkSync p s
    (t.clk.fn = 2 → u8 b 0 ≠ 2 → t.nunar.source = 0) → (u8 b 2 ≠ 0 → u8 b 3 = 0 → u8 b 0 ≠ 0) →
    (u8 b 3 = 1 → t.nunar.st ≠ 5) → (∀ o ∈ maskBits 4 (u8 b 2), clkOutOn (clkOutOf t o) = true) →
    let al : Align := 
      { outputs := u8 b 2, src := u8 b 3, second := cdiv (1000 * t.epochMs + p.obs.subUs + 200000) 1000000 * 1000, seen := none,
        armedMs := nowMs t }
    let u := if t.clk.fn = 2 ∧ u8 b 0 ≠ 2 then lapseTime 3 t else t
    exec (.clkSync p) s = .next (committed specClkSync p s 0 [] { u with
      clk.syncEdges := 0, clk.fn := u8 b 0, clk.edge := u8 b 1,
      clk.align := if u8 b 2 = 0 then none else some al }))
  ∧ (∀ p s, Accepted specClkStatus p s → let t := ready specClkStatus p s
    ∃ pl, exec (.clkStatus p) s = .next (committed specClkStatus p s 0 pl t) ∧ pl.length = 32
      ∧ field pl 0 1 = le 1 t.clk.st ∧ field pl 4 4 = le 4 t.clk.lockCount ∧ field pl 8 4 = le 4 (clkExpected t)
      ∧ field pl 28 4 = le 4 t.clk.syncEdges)

/-- Clock events: reference windows, lock windows, hold-off, retry, sweeps, alignment and SYNC_IN edges (04 R162, 09
R365, 09 R366, 09 R368, 09 R369, 09 R373, 09 R376, 09 R383, 09 R384, 09 R385, 09 R386; the model's choices behind it:
log 25, 58). -/
def Obligations.ClockEventsComplete : Prop :=
  (∀ khz s f, mainRuns s = true → s.clk.refPresent = false → windowFreq s khz = some f →
    let m := if s.nunar.running = true then s else { s with clk.bypassUs := s.clk.bypassUs + 10 }
    (s.clk.goodWindows = 0 →
      exec (.refMonitorWindow khz) s = .next { m with clk.goodWindows := 1, clk.refFreq := f })
    ∧ (s.clk.goodWindows ≠ 0 → s.clk.refFreq = f → s.clk.wasPresent = true →
      let u := { m with clk.goodWindows := 2, clk.refPresent := true, clk.refFreq := f, clk.wasPresent := true }
      exec (.refMonitorWindow khz) s = .next { clkEvent 4 none 0 0 u with clk.st := 2 })
    ∧ (s.clk.goodWindows ≠ 0 → s.clk.refFreq = f → s.clk.wasPresent = false →
      let u := { m with clk.goodWindows := 2, clk.refPresent := true, clk.refFreq := f, clk.wasPresent := true }
      exec (.refMonitorWindow khz) s = .next (startLock (clkEvent 4 none 0 0 u))))
  ∧ (∀ khz s, mainRuns s = true → s.clk.refPresent = true → windowFreq s khz = none → s.clk.st = 0 →
    exec (.refMonitorWindow khz) s = .next (bypassSwitch 2 1 (clkEvent 3 none 0 0
      { monitorTime s with clk.refPresent := false, clk.goodWindows := 0, clk.refFreq := 0 })))
  ∧ (∀ count s, mainRuns s = true → s.clk.st = 0 →
    let u := { s with clk.lockCount := count }
    (countErr s count ≤ 2 → exec (.lockWindow count) s = .next u)
    ∧ (2 < countErr s count → exec (.lockWindow count) s = .next (bypassSwitch 1 (if s.clk.refPresent then 2 else 1) u)))
  ∧ (∀ count s, mainRuns s = true → s.clk.st = 3 → s.clk.seq.step = 3 → s.clk.seq.good = 1 → countErr s count ≤ 1 →
    exec (.lockWindow count) s = .next (clkEvent 1 none s.clk.seq.band 0
      { s with clk.lockCount := count, clk.st := 0, clk.band := some s.clk.seq.band }))
  ∧ (∀ s, mainRuns s = true →
    let u := { s with clk.st := 3, clk.seq := LockSeq.start, clk.searches := sat 65535 (s.clk.searches + 1) }
    (s.clk.st = 2 → exec .holdoffExpiry s = .next u) ∧ (s.clk.st = 4 → exec .lockRetry s = .next u))
  ∧ (∀ (o : Fin 4) s, mainRuns s = true → (clkOutOf s o).sweep = some [] →
    exec (.hostSweepComplete o) s = .next (clkEvent 7 (some o.val) 0 0 (modClkOut o (fun x => { x with sweep := none }) s)))
  ∧ (∀ s al, mainRuns s = true → s.clk.align = some al → al.src = 0 → al.seen = none → al.armedMs + 2000 ≤ nowMs s →
    exec .alignmentExpiry s = .next (foldS (fun o t => clkEvent 6 (some o) 0 0 t) (maskBits 4 al.outputs) { s with clk.align := none }))
  ∧ (∀ (o : Fin 4) (g : Nat) s, mainRuns s = true → clkOutOn (clkOutOf s o) = true → clockBypass s = false → s.nunar.running = true →
    s.clk.align = none →
    let e := (clkOutOf s o).next.getD ((nearestGrid s.nunar.pos + (g : Int)) * gridOne)
    let u := modClkOut o (placeOut e) s
    let sp := outSpacing (outOffset u o ((e - s.nunar.pos) * 1000 / s.nunar.plan).toNat) (clkOutOf u o)
    (e < s.nunar.pos + s.nunar.plan →
      exec (.clkoutOnTimeEdge o g) s = .next (modClkOut o (fun x => { x with next := some (e + sp.1 + 0), carry := sp.2 }) u)
      ∧ (clkOutOf u o).placed = nearestGrid e
      ∧ (∀ f d, (clkOutOf s o).pend = some (f, d) →
        (clkOutOf u o).format = f ∧ (clkOutOf u o).div = d ∧ (clkOutOf u o).pend = none))
    ∧ (s.nunar.pos + s.nunar.plan ≤ e → exec (.clkoutOnTimeEdge o g) s = .next s))
  ∧ (∀ s, exec .correctionShapeComplete s = .next (foldS (fun o t =>
      modClkOut o (fun x => { x with own := x.own.filter (fun z => !shapeDone z.2) }) t) (upto 4)
      { s with clk.shapes := s.clk.shapes.filter (fun z => !shapeDone z) }))
  ∧ (∀ rising (g : Nat) s, mainRuns s = true →
    (¬ (s.clk.edge = 0 ↔ rising = true) → exec (.syncInEdge rising g) s = .next s)
    ∧ ((s.clk.edge = 0 ↔ rising = true) → s.clk.fn = 0 →
      exec (.syncInEdge rising g) s = .next { s with clk.syncEdges := (s.clk.syncEdges + 1) % 2 ^ 32 })
    ∧ ((s.clk.edge = 0 ↔ rising = true) → s.clk.fn ≠ 0 → clockBypass s = false → s.nunar.running = true →
      let p := nearestGrid s.nunar.pos + (g : Int)
      ∃ t, exec (.syncInEdge rising g) s = .next t ∧ t.clk.syncEdges = (s.clk.syncEdges + 1) % 2 ^ 32
        ∧ t.clk.align = s.clk.align.map (fun a => if a.src = 0 ∧ a.seen.isNone = true then
            { a with seen := some (p * gridOne - psToGrid s.nunar (timDelay s 5 0)) } else a)
        ∧ (s.clk.fn = 2 → s.nunar.sync = none → t.nunar.sync = some (afterSecond (gridInstant s p - timDelay s 5 0)))
        ∧ (s.clk.fn ≠ 2 → t.nunar.sync = s.nunar.sync)
        ∧ (∀ w, s.clk.fn = 2 → s.acq.aid.timeWaits = some w → timeLate s = false → 
          let ns := (gridInstant s p - timDelay s 5 0) / 1000 - (s.epochMs : Int) * 1000000
          t.acq.aid.time = some (w.1 - ns, w.2.1, s.ms))))

/-- Link commands: channels, calibrations, power, diversity, role, schedule, frames, nodes and receive settings (10
R412, 10 R418, 10 R419, 10 R420, 10 R421, 10 R422, 11 R449, 11 R452, 11 R453, 11 R454, 11 R455, 11 R456; the model's
choices behind it: log 26, 57). -/
def Obligations.LinkCommandsComplete : Prop :=
  (∀ p s, Accepted specLnkChannels p s → let b := p.params
    let es := chunks 8 (u8 b 0) (b.drop 8)
    u8 b 0 ≤ 64 → u8 b 1 ≤ 1 → zeroAt b 2 6 = true → (∀ e ∈ es, linkChOk e = true) →
    anyPair (fun x y => u8 x 0 == u8 y 0) es = false →
    let t := ready specLnkChannels p s
    t.link.role = 0 →
    let c := fun (e : List Byte) => ({ width := u8 e 1, flags := u8 e 2, cap := i8 e 3, freqHz := u32 e 4 } : LinkCh)
    let v := if u8 b 1 = 0 then { t with link.channels := [], link.entries := [] } else t
    exec (.lnkChannels p) s = .next (committed specLnkChannels p s 0 [] (foldS (fun e u =>
      modEntry (u8 e 0) (fun _ => SynthEntry.invalid) { u with link.channels := tset none u.link.channels (u8 e 0) (some (c e)) }) es
      (let w := if u8 b 1 = 0 ∨ es.any (fun e => t.link.synth.ch == some (u8 e 0)) = true then offChannel v else v
       { w with link.tuned := none }))))
  ∧ (∀ p s, Accepted specLnkCal p s → let i := u8 p.params 0
    zeroAt p.params 2 2 = true →
    let t := ready specLnkCal p s
    let is := if i = 255 then linkIndices t else [i]
    (i = 255 ∨ i ≤ 63 ∧ (linkChOf t i).isSome = true) →
    (u8 p.params 1 = 0 → exec (.lnkCal p) s = .next (committed specLnkCal p s 0 []
      (foldS (fun j u => modEntry j (fun e => { e with queued := true }) u) is t)))
    ∧ (u8 p.params 1 = 1 → i ≠ 255 → t.link.synth.op ≠ 4 →
      exec (.lnkCal p) s = .next (committed specLnkCal p s 0 []
        (if rampNear p.obs.subUs t = true ∨ t.link.synth.op = 2 then
           { t with link.synth := { t.link.synth with waiting := t.link.synth.waiting.filter (· != i) ++ [i] } }
         else startCal i t)))
    ∧ (u8 p.params 1 = 2 → exec (.lnkCal p) s = .next (committed specLnkCal p s 0 []
      (foldS (fun j u => modEntry j (fun e => { e with st := 0 }) u) is t))))
  ∧ (∀ p s, Accepted specLnkTxpower p s → let b := p.params
    2 ≤ u8 b 1 → -88 ≤ i8 b 0 → i8 b 0 ≤ 32 → u8 b 1 ≤ 16 → 1 ≤ u8 b 2 → u8 b 2 ≤ 50 → zeroAt b 3 1 = true →
    exec (.lnkTxpower p) s = .next (committed specLnkTxpower p s 0 []
      { ready specLnkTxpower p s with link.pendPower := some (i8 b 0, u8 b 1, u8 b 2) }))
  ∧ (∀ p s, Accepted specLnkDiversity p s → let b := p.params
    u8 b 0 ≤ 2 → u8 b 1 ≤ 3 → u8 b 2 ≤ 1 → zeroAt b 3 1 = true →
    let t := ready specLnkDiversity p s
    (t.link.role = 0 ∨ u8 b 1 = t.link.polarity ∧ u8 b 2 = t.link.lnaCtrl) →
    exec (.lnkDiversity p) s = .next (committed specLnkDiversity p s 0 [] { t with
      link.divMode := u8 b 0, link.polarity := u8 b 1, link.lnaCtrl := u8 b 2,
      link.llna := !t.link.txWindow && u8 b 2 == 0 }))
  ∧ (∀ p s, Accepted specLnkStatus p s → exec (.lnkStatus p) s
      = .next (committed specLnkStatus p s 0 (lnkStatusBytes (ready specLnkStatus p s)) (ready specLnkStatus p s)))
  ∧ (∀ p s, Accepted specLnkRole p s → let b := p.params
    u8 b 0 ≤ 3 → u8 b 1 ≤ 63 → u8 b 2 ≤ 15 → u8 b 3 ≤ 126 → zeroAt b 4 4 = true → (u8 b 0 = 0 → u8 b 1 = 0 ∧ u8 b 2 = 0) →
    let t := ready specLnkRole p s
    let u := { t with link.role := u8 b 0, link.nodeId := u8 b 1, link.gen := u8 b 2, link.network := u8 b 3 }
    (u8 b 0 = 0 → let v := { u with link.pendRole := none, link.inForce := LinkRole.idle, link.aligned := false, link.recv := none }
      exec (.lnkRole p) s = .next (committed specLnkRole p s 0 [] (if t.link.tx = none then linkToIdle v else v)))
    ∧ (u8 b 0 ≠ 0 → (t.link.role = 0 ∨ t.link.role = u8 b 0) → t.profile.env.link = true →
      exec (.lnkRole p) s = .next (committed specLnkRole p s 0 [] { u with link.pendRole := some (soonSf p t) })))
  ∧ (∀ p s, Accepted specLnkSchedule p s → let b := p.params
    let es := (chunks 8 (u8 b 0) (b.drop 8)).map slotOfEntry
    u8 b 0 ≤ 64 → u8 b 1 ≤ 1 → u16 b 2 ≠ 0 → anyPair (fun x y => x.slot == y.slot) es = false →
    let t := ready specLnkSchedule p s
    let ahead := (u32 b 4 + 2 ^ 32 - currentSf t) % 2 ^ 32
    (u32 b 4 = 0 ∨ ahead ≠ 0 ∧ ahead ≤ 2 ^ 31 ∧ sfPos p.obs.subUs t + 10000 ≤ ahead * 100000) →
    let old := if u8 b 1 = 0 then [] else ((t.link.sched.map (·.slots)).getD []).filter (fun x => !es.any (fun e => e.slot == x.slot))
    let slots := old ++ es
    (∀ x ∈ slots, slotOk t x = true) → (slots.filter (·.beacon)).length ≤ 1 → anyPair (slotsClash t) slots = false →
    t.link.role ≠ 0 → (t.link.role = 2 → ∀ x ∈ slots, x.beacon = true → x.node ≠ t.link.nodeId) →
    exec (.lnkSchedule p) s = .next (committed specLnkSchedule p s 0 []
      { t with link.pendSched := some (⟨u16 b 2, slots⟩, if u32 b 4 = 0 then soonSf p t else u32 b 4) }))
  ∧ (∀ p s, Accepted specLnkSend p s → let b := p.params
    u8 b 0 ≤ 63 → u8 b 1 ≤ 1 → u8 b 2 ≤ 15 → zeroAt b 3 1 = true →
    let t := ready specLnkSend p s
    let pl := b.drop 8
    let named := u32 b 4
    (named ≠ 0 → (named + 2 ^ 32 - currentSf t) % 2 ^ 32 ≤ 2 ^ 31 ∧ unaligned t = false
      ∧ ∀ y, txSlotAt t (u8 b 0) named = some y → occurrenceAhead p t named y = true) →
    ∀ sf x, calPending t = false → t.link.holdFailed = false → assignSf p t (u8 b 0) named = some sf → txSlotAt t (u8 b 0) sf = some x →
    x.beacon = false → airSym x.rate (linkWidth t x.ch) pl.length ≤ x.maxSym → t.link.role ≠ 0 → (u8 b 1 = 1 → t.link.role = 1) →
    u8 b 2 = t.link.gen → (∀ d, nodeOf t t.link.nodeId = some d → d.gen = u8 b 2) → t.link.queue.length < 32 →
    exec (.lnkSend p) s = .next (committed specLnkSend p s 0 (le 4 sf)
      { t with link.queue := t.link.queue ++ [⟨u8 b 0, u8 b 1, u8 b 2, sf, pl⟩] }))
  ∧ (∀ p s, Accepted specLnkSend p s → u8 p.params 0 ≤ 63 → u8 p.params 1 ≤ 1 → u8 p.params 2 ≤ 15 → zeroAt p.params 3 1 = true →
    calPending (ready specLnkSend p s) = true → (ready specLnkSend p s).link.holdFailed = false →
    let t := withdrawn specLnkSend p (authed p s)
    exec (.lnkSend p) s = .next { t with ecsol.held := ⟨0x0B03, p, .linkCal, false⟩ :: t.ecsol.held })
  ∧ (∀ p s, Accepted specLnkNodes p s → let b := p.params
    let es := chunks 12 (u8 b 0) (b.drop 8)
    u8 b 0 ≤ 64 → u8 b 1 ≤ 1 → zeroAt b 2 6 = true → (∀ e ∈ es, nodeOk e = true) →
    anyPair (fun x y => u8 x 0 == u8 y 0) es = false →
    let t := ready specLnkNodes p s
    let nodes := es.foldl (fun (m : Tab (Option LinkNode)) e => tset none m (u8 e 0) (some ⟨u8 e 1, u8 e 2, i32 e 4⟩))
      (if u8 b 1 = 0 then [] else t.link.nodes)
    let u := { t with link.nodes := nodes }
    exec (.lnkNodes p) s = .next (committed specLnkNodes p s 0 []
      (if t.link.role ≠ 0 ∧ genReplaced u t.link.nodeId t.link.gen = true ∧ genReplaced t t.link.nodeId t.link.gen = false then
         discardFrames (fun _ => false) u
       else u)))
  ∧ (∀ p s, Accepted specLnkRxcfg p s → let b := p.params
    16 ≤ u8 b 0 → u8 b 0 ≤ 60 → u8 b 1 ≤ 3 → u8 b 2 ≤ 7 → zeroAt b 3 1 = true → 1 ≤ u16 b 4 → u16 b 4 ≤ 1000 →
    zeroAt b 6 2 = true →
    exec (.lnkRxcfg p) s = .next (committed specLnkRxcfg p s 0 []
      { ready specLnkRxcfg p s with link.pendRx := some ⟨u8 b 0, u8 b 1, u8 b 2, u16 b 4⟩ }))

/-- Synthesiser and transmission events of the link: what each leaves where its condition holds (10 R402, 10 R403, 10
R404, 10 R405, 10 R406, 10 R407, 10 R409, 10 R410, 10 R411, 10 R413, 10 R414, 11 R449; the model's choices behind it:
log 26, 27, 57). -/
def Obligations.LinkTransmitEventsComplete : Prop :=
  (∀ (n : Fin 64) s x, txSlot s n = some x → synthFree s = true →
    ((synthEntry s x.ch).st ≠ 1 → lockedOn s x.ch = false → exec (.synthCalStart n) s = .next (startCal x.ch s))
    ∧ (lockedOn s x.ch = true → exec (.synthCalStart n) s = .next s ∧ exec (.synthHopStart n) s = .next s))
  ∧ (∀ (n : Fin 64) s x, txSlot s n = some x → linkUp s = true → synthTested s = false → s.link.synth.op ≠ 4 →
    (synthEntry s x.ch).st ≠ 0 → lockedOn s x.ch = false →
    (s.link.driver = true → exec (.synthHopStart n) s = .next { s with link.hopDue := some x.ch })
    ∧ (s.link.driver = false →
      let u := { s with link.corr := clkYF s, link.corrOn := s.nunar.st != 0 }
      exec (.synthHopStart n) s = .next { u with link.synth := { s.link.synth with
        op := 2, ch := some x.ch, locked := false, word := synthWord u x.ch, band := (synthEntry s x.ch).band,
        cap := (synthEntry s x.ch).cap, pa := (synthEntry s x.ch).pa } }))
  ∧ (∀ (us : Fin 1000) s i, rampNear us.val s = false → synthFree s = true →
    (s.link.synth.waiting = [] → backgroundNext us s = some i → exec (.backgroundCalStart us) s = .next (startCal i s))
    ∧ (∀ is, s.link.synth.waiting = i :: is → (linkChOf s i).isSome = true → s.link.lpa = false →
      (∀ j ∈ is, (linkChOf s j).isSome = true) → exec (.backgroundCalStart us) s = .next (startCal i s)))
  ∧ (∀ c s ch, linkUp s = true → clockBypass s = false → s.link.synth.locked = false → s.link.synth.op ≤ 2 →
    s.link.synth.ch = some ch → lockContinuous s c.evals = true →
    exec (.synthLockReport c) s = .next { s with link.synth := { s.link.synth with op := 3, locked := true } })
  ∧ (∀ c s ch, linkUp s = true → clockBypass s = false → s.link.synth.locked = false → s.link.synth.op = 4 →
    s.link.synth.ch = some ch → s.link.synth.calOk = false → s.ecsol.held = [] → lockContinuous s c.evals = true →
    let u := modEntry ch (fun e => { e with
      st := 1, band := c.band.val, cap := c.cap.toNat, pa := c.pa.val, temp := roundDiv s.link.temp 5, failUs := none }) s
    exec (.synthLockReport c) s = .next { u with
      link.synth := { s.link.synth with locked := true, calOk := true, band := c.band.val, cap := c.cap.toNat, pa := c.pa.val },
      link.holdFailed := false })
  ∧ (∀ us s ch, s.link.synth.op = 4 → s.link.synth.ch = some ch → s.link.synth.waiting = [] →
    (s.link.synth.calOk = true → exec (.synthCalEnd us) s = .next { s with
      link.fullCals := (s.link.fullCals + 1) % 65536,
      link.synth := { s.link.synth with op := if s.link.synth.locked = true then 3 else 1 } })
    ∧ (s.link.synth.calOk = false → s.ecsol.held = [] →
      let u := modEntry ch (fun e => { e with st := 0, failUs := some (nowUs us s) }) s
      exec (.synthCalEnd us) s = .next { logErr 0x46 1 0x0A 0 { u with
        link.fullCals := (s.link.fullCals + 1) % 65536, link.synth := { s.link.synth with op := 1, ch := none },
        link.calFails := sat 65535 (s.link.calFails + 1) } with link.holdFailed := false }))
  ∧ (∀ temp s, linkUp s = true → exec (.linkTempCheck temp) s = .next (foldS (fun i t => modEntry i (fun e =>
      if e.st = 1 ∧ 100 < entryDiff t i then { e with st := 2 } else e) t) (linkIndices s) { s with link.temp := temp }))
  ∧ (∀ (n : Fin 64) (w : LinkAdc) v x f q, let s := linkFeed w v
    txSlot s n = some x → linkUp s = true → frameFor s x = some (f, q) → s.link.rampDone.contains n.val = false →
    lockedOn s x.ch = true → s.link.recv = none →
    exec (.lpaEnAssert n w) v = .next { s with link.lpa := true, link.llna := false, link.txWindow := true })
  ∧ (∀ (n : Fin 64) s x f, txSlot s n = some x → linkUp s = true → s.link.rampDone.contains n.val = false → s.link.tx = none →
    s.link.pendPower = none →
    let u := { s with link.rampDone := s.link.rampDone ++ [n.val] }
    frameFor u x = some (f, true) → let v := { u with link.queue := u.link.queue.erase f }
    let sym := airFrame (linkWidth s x.ch) s.link.inForce.network (ownHdr s x f) f.payload
    ∀ errs, ((∀ e ∈ errs, e ≤ 2) → lockedOn s x.ch = true → s.link.synth.op ≠ 4 → exec (.slotRampStart n errs) s = .next { v with
      link.tx := some ⟨f, x, true, sym, airWave (linkWidth s x.ch) s.link.rampUs x.rate sym, txPower s x.ch⟩,
      link.driver := true, link.synth := { s.link.synth with op := 5 } })
    ∧ ((∀ e ∈ errs, e ≤ 2) → (lockedOn s x.ch = false ∨ s.link.synth.op = 4) → s.link.synth.waiting = [] →
      exec (.slotRampStart n errs) s = .next { reportTx 0x0B x f { v with link.lateSlots := (s.link.lateSlots + 1) % 65536 } with
        link.lpa := false, link.hopDue := none,
        link.synth := { s.link.synth with op := if s.link.synth.op = 2 then 1 else s.link.synth.op } })
    ∧ ((∃ e ∈ errs, 2 < e) → s.link.synth.waiting = [] →
      exec (.slotRampStart n errs) s = .next { reportTx 0x0E x f v with
        link.lpa := false, link.hopDue := none,
        link.synth := { s.link.synth with op := if s.link.synth.op = 2 then 1 else s.link.synth.op } }))
  ∧ (∀ s a eval, s.link.tx = some a → s.link.role ≠ 0 →
    (let u := { s with
       link.tx := none, link.txFrames := (s.link.txFrames + 1) % 2 ^ 32,
       link.synth := { s.link.synth with op := if s.link.synth.locked = true then 3 else 1 } }
     exec .txFrameEnd s = .next (if a.report then reportTx 0 a.slot a.frame u else u))
    ∧ (evalInside s eval = true → exec (.txAbort eval) s = .next s)
    ∧ (evalInside s eval = false → exec (.txAbort eval) s = .next (logErr 0x47 2 0x0A 0 { s with
      link.tx := none, link.txAborts := sat 65535 (s.link.txAborts + 1),
      link.synth := { s.link.synth with op := 1, locked := false } })))
  ∧ (∀ s, s.link.tx = none → s.link.synth.waiting = [] →
    let u := { s with link.lpa := false, link.driver := false }
    (s.link.hopDue = none → exec .lpaEnRelease s = .next u)
    ∧ (∀ ch, s.link.hopDue = some ch → linkUp s = true → synthTested s = false → s.link.synth.op ≠ 4 → (synthEntry s ch).st ≠ 0 →
      lockedOn s ch = false → exec .lpaEnRelease s = .next (startHop ch { u with link.hopDue := none })))
  ∧ (∀ s, (lpaPin s = true ↔ (s.link.lpa = true ↔ s.link.polarity.testBit 0 = false))
    ∧ (llnaPin s = true ↔ (s.link.llna = true ↔ s.link.polarity.testBit 1 = false)))
  ∧ (∀ (w : LinkAdc) v, let s := linkFeed w v
    s.link.tx = none → s.link.lpa = false → s.link.txWindow = true →
    exec (.llnaEnRestore w) v = .next { s with link.llna := s.link.lnaCtrl == 0, link.txWindow := false })

/-- Reception, slot and superframe events of the link: what each leaves where its condition holds (11 R432, 11 R433,
11 R434, 11 R438, 11 R439, 11 R440, 11 R442, 11 R443, 11 R446, 11 R450, 11 R457, 11 R458; the model's choices behind
it: log 28, 57). -/
def Obligations.LinkReceiveEventsComplete : Prop :=
  (∀ (x : LinkAdc) s, let u := linkFeed x s
    exec (.preambleDetection x) s = .next (if receiving u = true ∧ u.link.recv = none ∧ portsDetecting u ≠ [] then
      { u with link.recv := some (newReception u false u.link.rxN) } else u))
  ∧ (∀ (x : LinkAdc) n s, let u := linkFeed x s
    ∀ r, u.link.recv = some r → r.phase = 0 → r.start + n ≤ u.link.rxN →
    let w := rxWidth u
    let p := choosePort u r
    let found := ninthNegated w (samplesOf (streamPart u p (r.start + n - 3 * (airFft w / 4)) (r.start + n)))
    exec (.stfNinthPeriod x n) s = .next (
      if found = true ∧ 32 * 2 ^ w ≤ n ∧ n ≤ 80 * 2 ^ w then
        { u with link.recv := some { r with phase := 1, port := p, ninth := r.start + n } }
      else if found = true ∨ 80 * 2 ^ w ≤ n then { u with link.recv := none } else u))
  ∧ (∀ (x : LinkAdc) s, linkUp s = true → clockBypass s = false → linkRole s ≠ 0 → let u := linkFeed x s
    u.link.recv = none → u.link.txWindow = false → exec (.linkAgcUpdate x) s = .next { u with
      link.portA := portInterval true u.link.portA, link.portB := portInterval true u.link.portB })
  ∧ (∀ (x : LinkAdc) s, let u := linkFeed x s
    ∀ r, u.link.recv = some r → r.phase = 2 →
    exec (.watchDetection x) s = .next (
      if portsDetecting u = [] then u
      else if watchPower u (portsDetecting u) < r.rssi + 24 then
        { u with link.counts := { u.link.counts with watchIgnored := up16 u.link.counts.watchIgnored } }
      else restartReception u.link.rxN [] (postFrame 0x14 0 [] r
        { u with link.counts := { u.link.counts with preempted := up16 u.link.counts.preempted } })))
  ∧ (∀ (x : LinkAdc) s, let u := linkFeed x s
    ∀ r, u.link.recv = some r → r.phase = 1 →
    let now := symbolsEnd (rxWidth u) (airSig (rxWidth u)) r
    (now ≤ u.link.rxN → exec (.headerDecoded x) s = .next (
      if hdrOk (readHeader u r).bits = false ∧ r.watch = [] then
        { u with link.recv := none, link.counts := { u.link.counts with hdrFails := up16 u.link.counts.hdrFails } }
      else headerDecided now (readHeader u r) r u))
    ∧ (u.link.rxN < now → exec (.headerDecoded x) s = .next u))
  ∧ (∀ (x : LinkAdc) errs s, let u := linkFeed x s
    ∀ r, u.link.recv = some r → r.phase = 2 →
    symbolsEnd (rxWidth u) (airSig (rxWidth u) + airSym r.hdr.rate (rxWidth u) r.hdr.length) r ≤ u.link.rxN →
    let pl := (readPayload u r).1
    roverFree u = false → r.hdr.type = 0 →
    let v := { u with
      link.recv := none, link.lastPort := r.port, link.heard := tset none u.link.heard r.hdr.node (some (r.timing, r.sf)),
      link.counts := if u.link.rx.types.testBit 0 = true ∨ timingUsed u r.hdr.node = true then
        { u.link.counts with rxOk := up16 u.link.counts.rxOk } else u.link.counts }
    exec (.frameReceived x errs) s = .next (
      if (readPayload u r).2 ≠ crc32c pl then
        { u with link.recv := none, link.counts := { u.link.counts with payFails := up16 u.link.counts.payFails } }
      else if u.link.rx.types.testBit 0 = true then postFrame 0 (eccChain errs) pl r v else v))
  ∧ (∀ (n : Fin 64) (x : LinkAdc) s, let u := linkFeed x s
    (∀ y, linkSlot u n = some y → exec (.slotEnd n x) s = .next { u with link.rxSlot := nextRxSlot u y.offset })
    ∧ (linkSlot u n = none → exec (.slotEnd n x) s = .next u))
  ∧ (∀ (x : LinkAdc) v, let s := linkFeed x v
    linkUp s = true → s.nunar.running = true → s.link.sfMs ≠ some s.ms → roverFree s = false → s.epochMs % 100 = 0 →
    s.link.pendRole = none → s.link.pendSched = none →
    exec (.superframeStart x) v = .next { postSummary s with
      link.sf := (s.epochMs / 100) % 2 ^ 32, link.sfStart := (s.epochMs : Int) * 1000000000, link.sfMs := some s.ms,
      link.counts := LinkCounts.zero, link.rampDone := [], link.rx := s.link.pendRx.getD s.link.rx, link.pendRx := none,
      link.aligned := false })

/-- Kernel commands: load, start, stop, status, spares and mailbox of each accepted form (14 R551, 14 R552, 14 R553,
14 R554, 14 R559, 14 R563, 14 R567; the model's choices behind it: log 40). -/
def Obligations.KernelCommandsComplete : Prop :=
  (∀ p s, Accepted specKrnLoad p s → let b := p.params
    let k := u8 b 0
    let ws := slotWords (b.drop 12)
    k ≤ 15 → u8 b 1 ≤ 2 → 1 ≤ u16 b 2 → u16 b 2 ≤ 1020 → u32 b 4 + u16 b 2 ≤ targetSize (u8 b 1) → zeroAt b 8 4 = true →
    (∀ w ∈ ws, w < 2 ^ 24) →
    let t := ready specKrnLoad p s
    coreActive (coreOf t k) = false → (coreOf t k).phase ≠ .quarantined → coreSpare t k = false → coreTaken (coreOf t k) k = false →
    exec (.krnLoad p) s = .next (committed specKrnLoad p s 0 []
      (modCore k (fun c => { c with image := storeWords c.image (u8 b 1) (u32 b 4) (ws.map (BitVec.ofNat 24)) }) t)))
  ∧ (∀ p s, Accepted specKrnStart p s → let k := u8 p.params 0
    let f := u8 p.params 1
    k ≤ 15 → (f = 0 ∨ f = 1 ∨ f = 3) → zeroAt p.params 2 6 = true →
    let t := ready specKrnStart p s
    let c := coreOf t k
    let g := nextGen c.lastGen
    coreActive c = false → c.phase ≠ .quarantined → coreTaken c k = false → tget 0 c.image.high 2 ≠ 0 → descOk c.image = true →
    reservedCore t k = false → (bstOf t (38 + k)).result ≠ 2 →
    (∀ r ∈ descRings c.image, kOwns t k (slotBank (r.ring - 0x400000)) = true) → coreAllowed t k = true →
    exec (.krnStart p) s = .next (committed specKrnStart p s 0 (le 1 k ++ zeros 1 ++ le 2 g) (modCore k (fun x =>
      { copyImage (freshIo x) with
        phase := .starting, gen := g, lastGen := g, watchdog := f.testBit 0, eligible := f.testBit 1, cause := 1 })
      { dropEmit k t with kernels.spares := setBit t.kernels.spares k false })))
  ∧ (∀ p s, Accepted specKrnStop p s → let k := u8 p.params 0
    let g := u16 p.params 2
    zeroAt p.params 1 1 = true →
    let t := ready specKrnStop p s
    (k = 255 ∧ g = 0 ∨ k ≤ 15 ∧ (g = 0 ∨ g = (coreOf t k).gen)) →
    exec (.krnStop p) s = .next (committed specKrnStop p s 0 [] (foldS stopCore (if k = 255 then upto 16 else [k]) t)))
  ∧ (∀ p s, Accepted specKrnStatus p s → let k := u8 p.params 0
    k ≤ 15 → zeroAt p.params 1 3 = true →
    let t := ready specKrnStatus p s
    ∃ pl, exec (.krnStatus p) s = .next (committed specKrnStatus p s 0 pl t) ∧ field pl 0 1 = le 1 k
      ∧ field pl 1 1 = le 1 (coreCode t k) ∧ field pl 4 2 = le 2 (coreOf t k).gen
      ∧ field pl 8 4 = le 4 (kReg (coreOf t k) rSATC).v.toNat ∧ field pl 12 4 = le 4 (kReg (coreOf t k) rDZC).v.toNat)
  ∧ (∀ p s, Accepted specKrnSpares p s → let m := u16 p.params 0
    zeroAt p.params 2 2 = true →
    let t := ready specKrnSpares p s
    (∀ k ∈ maskBits 16 m, coreActive (coreOf t k) = false ∧ coreTaken (coreOf t k) k = false ∧ reservedCore t k = false
      ∧ coreAllowed t k = true) →
    exec (.krnSpares p) s = .next (committed specKrnSpares p s 0 [] { t with kernels.spares := m }))
  ∧ (∀ p s, Accepted specKrnMailbox p s → let b := p.params
    let k := u8 b 0
    let ws := slotWords (b.drop 8)
    k ≤ 15 → u8 b 4 ≤ 64 → zeroAt b 5 3 = true → (∀ w ∈ ws, w < 2 ^ 24) →
    let t := ready specKrnMailbox p s
    let c := coreOf t k
    coreActive c = true → (u16 b 2 = 0 ∨ u16 b 2 = c.gen) →
    (u8 b 1 = 0 → u8 b 4 ≠ 0 → c.inbox = [] → exec (.krnMailbox p) s = .next (committed specKrnMailbox p s 0 []
      (modCore k (fun x => kPend 2 { x with inbox := ws.map (BitVec.ofNat 24) }) t)))
    ∧ (u8 b 1 = 1 → let got := (upto (min (u8 b 4) c.outboxN)).map (fun i => tget KVal.zero c.outbox i)
      exec (.krnMailbox p) s = .next (committed specKrnMailbox p s (128 * b2n (got.any (fun w => w.t)))
        (got.flatMap (fun w => le 4 w.v.toNat))
        (if 0 < c.outboxN ∧ c.outboxN ≤ u8 b 4 then modCore k (fun x => kPend 4 { x with outboxN := 0 }) t else t))))

/-- A kernel's own writes, emits, deliveries, images, bank accesses and interrupts: what each leaves (13 R517, 14
R537, 14 R544, 14 R548, 14 R549, 14 R551, 14 R556, 14 R558, 14 R559, 14 R560, 14 R564; the model's choices behind it:
log 40, 41). -/
def Obligations.KernelPortEventsComplete : Prop :=
  (∀ (k : Fin 16) s, ((coreOf s k).phase = .running ∨ (coreOf s k).phase = .waiting) →
    (exec (.heartbeat k) s = .next (modCore k (fun c => if 3 ≤ c.misses then c else { c with beat := true, misses := 0 }) s))
    ∧ (∀ (v : BitVec 24), exec (.irqPendClear k v) s
        = .next (modCore k (fun c => { c with irqPend := c.irqPend - (c.irqPend &&& v.toNat) }) s))
    ∧ (∀ (v : BitVec 24), exec (.emitLenWrite k v) s = .next (modCore k (ioEmitLen v.toNat) s))
    ∧ exec (.inboxAck k) s = .next (modCore k (fun c => { c with inbox := [] }) s)
    ∧ (∀ (v : BitVec 24), exec (.outboxNWrite k v) s = .next (modCore k (ioOutboxN v.toNat) s))
    ∧ (∀ (v : BitVec 24), 12 ≤ k.val → exec (.bexpWrite k v) s
        = .next (modCore k (fun c => kSetReg c rBEXP { v := bexpWrite v, t := false }) s)))
  ∧ (∀ (c : Core) v, c.emitStat ≠ 1 → v ≤ 4096 → emitFits c v = true →
    ioEmitLen v c = { c with emitLen := v, emitStat := 1, emitGen := c.gen })
  ∧ (∀ (c : Core) v, c.outboxN = 0 → 1 ≤ v → v ≤ 64 → ioOutboxN v c = { c with outboxN := v })
  ∧ (∀ (k : Fin 16) s, let c := coreOf s k
    let b := slotBank (c.emitAddr - 0x400000)
    let addr := slotAddr (c.emitAddr - 0x400000)
    c.emitStat = 1 → bankWaits s k b = false → c.emitGen = c.gen → c.gen ≠ 0 → bankServes s k b = true →
    (∀ g ∈ granulesOf addr c.emitLen, poisoned s g = false) →
    exec (.emitDone k []) s = .next (modCore k (fun x => kPend 8 { x with emitStat := 2, emits := (x.emits + 1) % 2 ^ 32 })
      (postKernel 6 k c.gen 0 0 (bankBytes s addr c.emitLen) s)))
  ∧ (∀ (k : Fin 16) errs s d rest, takeDelivery k s.kernels.deliveries = some (d, rest) →
    let b := slotBank ((subRing (coreOf s k) d.ring).ring - 0x400000)
    let u := putEntry k d.ring d errs { s with kernels.deliveries := rest }
    bankWaits s k b = false → d.gen = (coreOf s k).gen → d.gen ≠ 0 → d.kind ≠ 1 →
    ((subRing (coreOf u k) d.ring).wr ≠ (subRing (coreOf s k) d.ring).wr →
      exec (.subscriptionDelivery k errs) s = .next (modCore k (kPend (2 ^ (4 + d.ring))) u))
    ∧ ((subRing (coreOf u k) d.ring).wr = (subRing (coreOf s k) d.ring).wr → exec (.subscriptionDelivery k errs) s = .next u))
  ∧ (∀ (k : Fin 16) s t rest, let m := (coreOf s k).image
    m.due = t :: rest →
    exec (.imageStored k) s = .next (postKernel 1 k 0 t 0
      (le 4 (crc32c ((upto (tget 0 m.high t)).flatMap (fun i => le 4 (tget 0 (imageOf m t) i).toNat))))
      (modCore k (fun c => { c with image := { c.image with due := rest } }) s)))
  ∧ (∀ (k : Fin 16) stall errs s p rest, (coreOf s k).posted = p :: rest → bankWaits s k (slotBank p.slot) = false →
    let u := modCore k (fun c => { c with
      posted := rest, cyc := if 8 ≤ c.posted.length then (c.cyc + stall) % 2 ^ 24 else c.cyc }) s
    p.gen = (coreOf u k).gen → p.gen ≠ 0 → bankServes s k (slotBank p.slot) = true →
    exec (.postedStoreCommit k stall errs) s
      = .next (writeBank (slotAddr p.slot + (storeBytes p).1) (storeBytes p).2 p.tag [errs] u))
  ∧ (∀ (k : Fin 16) stall errs s l i, let c := coreOf s k
    let g := granuleOf (slotAddr l.slot)
    c.stalled = some l → kAtPc k c = some i → c.posted = [] → bankWaits s k (slotBank l.slot) = false →
    bankServes s k (slotBank l.slot) = true →
    let u := (decodeGranule g errs s).1
    let w := ofLe (bankBytes u (slotAddr l.slot) 4)
    let c0 := { coreOf u k with stalled := none }
    ∀ v, v = (match l.part with | none => BitVec.ofNat 24 (w % 2 ^ 24) | some q => slotPart w q) →
    exec (.bankLoadReturn k stall errs) s = .next (kSettle k (kComplete c0 (kWrites i)
      { c0 with slot := some (l.dest, { v := v, t := poisoned u g }) } (c0.pc + 1) false (1 + stall)) u))
  ∧ (∀ (k : Fin 16) s, islandReady s (26 + k) = true → (coreOf s k).phase = .running → kIrqDue (coreOf s k) = true →
    exec (.interruptEntry k) s
      = .next (modCore k (fun c => { c with ipc := c.pc, ie := false, pc := c.ivec, cyc := (c.cyc + 2) % 2 ^ 24 }) s))

/-- The entry, the watchdog, failover, a wake and an illegal instruction of a kernel: what each leaves (13 R505, 13
R531, 13 R532, 14 R547, 14 R553, 14 R560, 14 R561, 14 R562, 14 R565, 14 R566; the model's choices behind it: log 40).
-/
def Obligations.KernelLifeEventsComplete : Prop :=
  (∀ (k : Fin 16) s, (coreOf s k).phase = .starting →
    exec (.kernelEntry k) s = .next (postKernel 2 k (coreOf s k).gen 0 0 [] (modCore k (fun c => { c with
      phase := .running, cause := 1, accs := [], pc := descWord c.image 10, ivec := descWord c.image 11, cyc := 0, ie := false,
      regs := [(rSCALE, { v := 0x40, t := false }), (rBEXP, { v := 0x1700, t := false })], misses := 0, beat := false }) s)))
  ∧ (∀ (k : Fin 16) s, let c := coreOf s k
    let rec' := faultBytes s c { code := 4, seg := 255, access := 255, reg := 255, pc := c.pc, word2 := 0, off := 0 }
    c.watchdog = true → 3 ≤ c.misses → c.gen ≠ 0 → c.eligible = false → c.posted = [] →
    exec (.kernelWatchdogExpiry k) s = .next (handAll k 1 4 (postKernel 4 k c.gen 0 0 rec'
      (modCore k (fun x => { kStopped .quarantined x with faultRec := rec', gen := 0, posted := [] }) s))))
  ∧ (∀ (k : Fin 16) s sp, let c := coreOf s k
    let rec' := faultBytes s c { code := 4, seg := 255, access := 255, reg := 255, pc := c.pc, word2 := 0, off := 0 }
    let u := postKernel 4 k c.gen 0 0 rec'
      (modCore k (fun x => { kStopped .quarantined x with faultRec := rec', gen := 0, posted := [] }) s)
    c.watchdog = true → 3 ≤ c.misses → c.gen ≠ 0 → c.eligible = true → c.posted = [] → spareFor u k = some sp →
    exec (.kernelWatchdogExpiry k) s = .next (moveToSpare k c.gen sp u))
  ∧ (∀ (k : Fin 16) s j gen, (upto 16).find? (fun j => match (coreOf s j).failFrom with
      | some (old, _) => old == k.val
      | none => false) = some j → (coreOf s j).failFrom = some (k.val, gen) →
    let u := modCore j (fun c => { c with failFrom := none }) s
    (j = k.val → exec (.failoverStart k) s = .next (logErr 0x48 3 0x0C k (postKernel 8 k gen 0 0 [] u)))
    ∧ (j ≠ k.val → let v := modCore j (enterCore 2) u
      exec (.failoverStart k) s = .next (postKernel 5 j (coreOf v j).gen k 0 (le 2 gen ++ zeros 2) v)))
  ∧ (∀ (k : Fin 16) cycles s, let c := coreOf s k
    c.phase = .waiting → c.irqPend &&& c.irqEn ≠ 0 →
    exec (.waitWake k cycles) s
      = .next (kSettle k (kComplete c [] { c with phase := .running, slot := none } (c.pc + 1) false (1 + cycles)) s))
  ∧ (∀ (k : Fin 16) s f, kIssues s k = true → kFetch k (coreOf s k) = .fault f →
    exec (.illegalInstruction k) s = .next (faultCore k f s))

/-- ALU, shift, field, division and immediate instructions of a core: register written, SATC, DZC and cycles (13 R504,
13 R505, 13 R508, 13 R509, 13 R525, 13 R527, 13 R533). -/
def Obligations.KernelArithmeticRowsComplete : Prop :=
  (∀ f op, (f, op) ∈ [(Instr.kAdd, KAlu.add), (.kSub, .sub), (.kAdds, .adds), (.kSubs, .subs), (.kAnd, .and), (.kOr, .or),
      (.kXor, .xor), (.kMul, .mul), (.kMulh, .mulh), (.kMin, .min), (.kMax, .max), (.kMinu, .minu), (.kMaxu, .maxu),
      (.kAddbcd, .addbcd), (.kSubbcd, .subbcd), (.kLsl, .lsl), (.kLsr, .lsr), (.kAsr, .asr), (.kAsls, .asls)] →
    ∀ (k : Fin 16) (d a b : Fin 8) s w2, Issues k (.alu op d a b) w2 s → let u := kReg (coreOf s k) a
    let v := kReg (coreOf s k) b
    exec (f k d a b) s = .next (retireNext k (.alu op d a b) (kWrite (kCount rSATC (kAlu op u.v v.v).2 (coreBase s k)) d
      { v := (kAlu op u.v v.v).1, t := u.t || v.t }) s))
  ∧ (∀ f op, (f, op) ∈ [(Instr.kNeg, KUna.neg), (.kNegs, .negs), (.kAbs, .abs), (.kAbss, .abss), (.kNot, .not), (.kCls, .cls),
      (.kClz, .clz), (.kDadj, .dadj), (.kDbin, .dbin)] →
    ∀ (k : Fin 16) (d a : Fin 8) s w2, Issues k (.una op d a) w2 s → let u := kReg (coreOf s k) a
    exec (f k d a) s = .next (retireNext k (.una op d a) (kWrite (kCount rSATC (kUna op u.v).2 (coreBase s k)) d
      { v := (kUna op u.v).1, t := u.t }) s))
  ∧ (∀ f op, (f, op) ∈ [(Instr.kLslImm, KShi.lsl), (.kLsrImm, .lsr), (.kAsrImm, .asr), (.kAslsImm, .asls)] →
    ∀ (k : Fin 16) (d a : Fin 8) (amt : BitVec 7) s w2, Issues k (.shi op d a amt.toNat) w2 s → let u := kReg (coreOf s k) a
    let q := kShift 24 op u.v amt.toInt
    exec (f k d a amt) s = .next (retireNext k (.shi op d a amt.toNat) (kWrite (kCount rSATC q.2 (coreBase s k)) d
      { v := q.1, t := u.t }) s))
  ∧ (∀ f op, (f, op) ∈ [(Instr.kExtu, KExt.extu), (.kExts, .exts), (.kIns, .ins)] →
    ∀ (k : Fin 16) (d a : Fin 8) (pos w : Fin 24) s w2, Issues k (.ext op d a pos w) w2 s → let u := kReg (coreOf s k) a
    let old := kReg (coreOf s k) d
    exec (f k d a pos w) s = .next (retireNext k (.ext op d a pos w) (kWrite (coreBase s k) d
      { v := kExt op old.v u.v pos (w + 1), t := u.t || (op == .ins && old.t) }) s))
  ∧ (∀ f sg, (f, sg) ∈ [(Instr.kDiv, true), (.kDivu, false)] →
    ∀ (k : Fin 16) (d : Fin 4) (a b : Fin 8) s w2, Issues k (.div sg (2 * d) a b) w2 s → let u := kReg (coreOf s k) a
    let v := kReg (coreOf s k) b
    let q := kDiv sg u.v v.v
    exec (f k d a b) s = .next (retire k (.div sg (2 * d) a b)
      (kWrite (kWrite (kCount rDZC q.2.2.2 (kCount rSATC q.2.2.1 (coreBase s k))) (2 * d) { v := q.1, t := u.t || v.t })
        (2 * d + 1) { v := q.2.1, t := u.t || v.t }) ((coreOf s k).pc + 1) false 26 s))
  ∧ (∀ (k : Fin 16) (d a : Fin 8) (i : BitVec 13) s w2,
    (Issues k (.addi d a i.toNat) w2 s → exec (.kAddi k d a i) s = .next (retireNext k (.addi d a i.toNat) (kWrite (coreBase s k) d
      { v := (kReg (coreOf s k) a).v + i.signExtend 24, t := (kReg (coreOf s k) a).t }) s))
    ∧ (Issues k (.addpi d a i.toNat) w2 s →
      exec (.kAddpi k d a i) s = .next (retireNext k (.addpi d a i.toNat) (kWrite (coreBase s k) (8 + d)
        { v := (kReg (coreOf s k) (8 + a)).v + i.signExtend 24, t := (kReg (coreOf s k) (8 + a)).t }) s)))
  ∧ (∀ (k : Fin 16) (d : Fin 8) (i : BitVec 16) s w2, Issues k (.movi d i.toNat) w2 s →
    exec (.kMovi k d i) s = .next (retireNext k (.movi d i.toNat) (kWrite (coreBase s k) d { v := i.signExtend 24, t := false }) s))
  ∧ (∀ (k : Fin 16) (rd rs : Fin 64) s w2, Issues k (.movr rd rs) w2 s →
    (32 ≤ rd.val ∧ rd.val < 36 ∧ 32 ≤ rs.val ∧ rs.val < 36 → exec (.kMovr k rd rs) s = .next (retireNext k (.movr rd rs)
      (kSetAcc (coreBase s k) (rd - 32) (kAccOf (coreOf s k) (rs - 32))) s))
    ∧ (¬ (32 ≤ rd.val ∧ rd.val < 36 ∧ 32 ≤ rs.val ∧ rs.val < 36) → let q := kSource k (coreBase s k) rs
      exec (.kMovr k rd rs) s = .next (retireNext k (.movr rd rs) (kWrite q.2 rd q.1) s)))
  ∧ (∀ (k : Fin 16) (rd : Fin 64) (i : BitVec 24) s w2, Issues k (.movil rd i.toNat) w2 s →
    exec (.kMovil k rd i) s = .next (retire k (.movil rd i.toNat) (kWrite (coreBase s k) rd { v := i, t := false })
      ((coreOf s k).pc + 2) false 2 s))

/-- Multiply, accumulator and filter-tap instructions of a core: the accumulator each writes (13 R504, 13 R508, 13
R519, 13 R525, 13 R533, 14 R535, 14 R539; the model's choices behind it: log 40). -/
def Obligations.KernelAccumulatorRowsComplete : Prop :=
  (∀ f op, (f, op) ∈ [(Instr.kMpy, KMul.mpy), (.kMac, .mac), (.kMsu, .msu), (.kMpyi, .mpyi), (.kMaci, .maci), (.kMsui, .msui)] →
    ∀ (k : Fin 16) (n : Fin 4) (a b : Fin 8) s w2, Issues k (.mul op n a b) w2 s → let u := kReg (coreOf s k) a
    let v := kReg (coreOf s k) b
    let c := kAccOf (coreOf s k) n
    exec (f k n a b) s = .next (retireNext k (.mul op n a b) (kSetAcc (coreBase s k) n
      { v := kMul op c.v u.v v.v, t := u.t || v.t || (op != .mpy && op != .mpyi && c.t) }) s))
  ∧ (∀ f op, (f, op) ∈ [(Instr.kClra, KAcu.clra), (.kNega, .nega), (.kNegas, .negas), (.kAbsa, .absa), (.kAbsas, .absas),
      (.kRnda, .rnda), (.kSata, .sata)] →
    ∀ (k : Fin 16) (n : Fin 4) s w2, Issues k (.acu op n) w2 s → let c := kAccOf (coreOf s k) n
    exec (f k n) s = .next (retireNext k (.acu op n) (kSetAcc (kCount rSATC (kAcu op c.v).2 (coreBase s k)) n
      { v := (kAcu op c.v).1, t := op != .clra && c.t }) s))
  ∧ (∀ f op, (f, op) ∈ [(Instr.kMova, KAcb.mova), (.kAdda, .adda), (.kSuba, .suba)] →
    ∀ (k : Fin 16) (n m : Fin 4) s w2, Issues k (.acb op n m) w2 s → let c := kAccOf (coreOf s k) n
    let a := kAccOf (coreOf s k) m
    exec (f k n m) s = .next (retireNext k (.acb op n m) (kSetAcc (coreBase s k) n
      { v := kAcb op c.v a.v, t := a.t || (op != .mova && c.t) }) s))
  ∧ (∀ f (sat : Bool), (f, sat) ∈ [(Instr.kAsha, false), (.kAshas, true)] →
    ∀ (k : Fin 16) (n : Fin 4) (amt : BitVec 7) s w2, Issues k (.asha sat n amt.toNat) w2 s →
    let c := kAccOf (coreOf s k) n
    let q := if sat then kShift 56 .asls c.v amt.toInt
      else if amt.toInt < 0 then kShift 56 .asr c.v (-amt.toInt) else kShift 56 .lsl c.v amt.toInt
    exec (f k n amt) s = .next (retireNext k (.asha sat n amt.toNat) (kSetAcc (kCount rSATC q.2 (coreBase s k)) n
      { v := q.1, t := c.t }) s))
  ∧ (∀ f (sat : Bool), (f, sat) ∈ [(Instr.kAshar, false), (.kAshasr, true)] →
    ∀ (k : Fin 16) (n : Fin 4) (a : Fin 8) s w2, Issues k (.ashar sat n a) w2 s →
    let c := kAccOf (coreOf s k) n
    let u := kReg (coreOf s k) a
    let q := if sat then kShift 56 .asls c.v u.v.toInt
      else if u.v.toInt < 0 then kShift 56 .asr c.v (-u.v.toInt) else kShift 56 .lsl c.v u.v.toInt
    exec (f k n a) s = .next (retireNext k (.ashar sat n a) (kSetAcc (kCount rSATC q.2 (coreBase s k)) n
      { v := q.1, t := c.t || u.t }) s))
  ∧ (∀ (k : Fin 16) (n : Fin 4) (pc ps : Fin 8) s w2, Issues k (.ftap n pc ps) w2 s → let c := coreOf s k
    let cs := tget (0, 0) c.segs 0
    let ds := tget (0, 0) c.segs (segOf ps)
    let co := (kReg c (8 + pc)).v.toNat
    let xo := (kReg c (8 + ps)).v.toNat
    let wo := (circular (kReg c (8 + ps)).v (kReg c (16 + ps)).v (kReg c (24 + ps)).v 1).toNat
    (kReg c (8 + pc)).t = false → (kReg c (8 + ps)).t = false → co < cs.2 → xo < ds.2 → wo < ds.2 →
    ds.1 + xo < 0x10000 → ds.1 + wo < 0x10000 →
    let v := tget KVal.zero c.dmem (ds.1 + xo)
    let a := kAccOf c n
    let c1 := kSetAcc { coreBase s k with dmem := tset KVal.zero c.dmem (ds.1 + wo) v } n
      { v := kMul .mac a.v (tget 0 c.prog (cs.1 + co)) v.v, t := a.t || v.t }
    let c2 := kUpdate c1 ps (kPointer c1 ps 1 1023 10)
    exec (.kFtap k n pc ps) s = .next (retireNext k (.ftap n pc ps) (kUpdate c2 pc (kPointer c2 pc 1 1 10)) s))

/-- Load and store instructions of a core: the data that waits, the word stored, the pointer, the stall and the posted
store (13 R499, 13 R510, 13 R511, 13 R513, 13 R516, 13 R517, 13 R524, 13 R533; the model's choices behind it: log 40).
-/
def Obligations.KernelMemoryRowsComplete : Prop :=
  (∀ (k : Fin 16) (d p : Fin 8) (m : Fin 5) (i : BitVec 10) s w2, let c := coreOf s k
    let g := tget (0, 0) c.segs (segOf p)
    let o := kOffset c p m i.toNat 10
    let new := kPointer c p m i.toNat 10
    (kReg c (8 + p)).t = false → o < g.2 →
    (Issues k (.ld d p m i.toNat) w2 s → g.1 + o < 0x400000 → exec (.kLd k d p m i) s = .next (retireNext k (.ld d p m i.toNat)
      { kUpdate (coreBase s k) p new with slot := some (d.val, tget KVal.zero c.dmem (g.1 + o)) } s))
    ∧ (Issues k (.ld d p m i.toNat) w2 s → 0x400000 ≤ g.1 + o → g.1 + o < 0x800000 → exec (.kLd k d p m i) s
      = .next (modCore k (fun _ => { kUpdate (coreBase s k) p new with
          slot := c.slot, stalled := some { dest := d, slot := g.1 + o - 0x400000, part := none } }) s))
    ∧ (Issues k (.st d p m i.toNat) w2 s → g.1 + o < 0x400000 → exec (.kSt k d p m i) s = .next (retireNext k (.st d p m i.toNat)
      (kUpdate { coreBase s k with dmem := tset KVal.zero c.dmem (g.1 + o) (kReg c d) } p new) s))
    ∧ (Issues k (.st d p m i.toNat) w2 s → 0x400000 ≤ g.1 + o → g.1 + o < 0x800000 → c.posted.length < 8 →
      exec (.kSt k d p m i) s = .next (retireNext k (.st d p m i.toNat) (kUpdate { coreBase s k with posted := c.posted ++
        [⟨g.1 + o - 0x400000, (kReg c d).v, (kReg c d).t, none, c.gen⟩] } p new) s)))
  ∧ (∀ (k : Fin 16) (r : Fin 64) (p : Fin 8) (m : Fin 5) (i : BitVec 7) s w2, let c := coreOf s k
    let g := tget (0, 0) c.segs (segOf p)
    let o := kOffset c p m i.toNat 7
    let new := kPointer c p m i.toNat 7
    (kReg c (8 + p)).t = false → o < g.2 → g.1 + o < 0x400000 →
    (Issues k (.ldr r p m i.toNat) w2 s → exec (.kLdr k r p m i) s = .next (retireNext k (.ldr r p m i.toNat)
      { kUpdate (coreBase s k) p new with slot := some (r.val, tget KVal.zero c.dmem (g.1 + o)) } s))
    ∧ (Issues k (.str r p m i.toNat) w2 s → let q := kSource k (coreBase s k) r
      exec (.kStr k r p m i) s = .next (retireNext k (.str r p m i.toNat)
        (kUpdate { q.2 with dmem := tset KVal.zero q.2.dmem (g.1 + o) q.1 } p new) s)))
  ∧ (∀ (k : Fin 16) (d p : Fin 8) (q : Fin 10) (i : BitVec 9) s w2, let c := coreOf s k
    let g := tget (0, 0) c.segs (segOf p)
    let o := kOffset c p 0 i.toNat 9
    (kReg c (8 + p)).t = false → o < g.2 → g.1 + o < 0x400000 → Issues k (.ldx d p q i.toNat) w2 s →
    let w := tget KVal.zero c.dmem (g.1 + o)
    exec (.kLdx k d p q i) s = .next (retireNext k (.ldx d p q i.toNat)
      { coreBase s k with slot := some (d.val, { w with v := slotPart w.v.toNat q }) } s))
  ∧ (∀ (k : Fin 16) (d p : Fin 8) (q : Fin 6) (i : BitVec 9) s w2, let c := coreOf s k
    let g := tget (0, 0) c.segs (segOf p)
    let o := kOffset c p 0 i.toNat 9
    (kReg c (8 + p)).t = false → o < g.2 → g.1 + o < 0x400000 → Issues k (.stx d p q i.toNat) w2 s →
    let old := tget KVal.zero c.dmem (g.1 + o)
    exec (.kStx k d p q i) s = .next (retireNext k (.stx d p q i.toNat) { coreBase s k with
      dmem := tset KVal.zero c.dmem (g.1 + o) ⟨localPart old.v (kReg c d).v q, old.t || (kReg c d).t⟩ } s))
  ∧ (∀ (k : Fin 16) (d p : Fin 8) (m : Fin 2) (i : BitVec 10) s w2, let c := coreOf s k
    let g := tget (0, 0) c.segs 0
    let o := kOffset c p m i.toNat 10
    (kReg c (8 + p)).t = false → o < g.2 → Issues k (.ldc d p m i.toNat) w2 s →
    exec (.kLdc k d p m i) s = .next (retireNext k (.ldc d p m i.toNat)
      { kUpdate (coreBase s k) p (kPointer c p m i.toNat 10) with slot := some (d.val, ⟨tget 0 c.prog (g.1 + o), false⟩) } s))

/-- Control instructions of a core: where the program goes on, what is linked, counted or stopped (13 R508, 13 R517,
13 R520, 13 R521, 13 R522, 13 R523, 14 R541, 14 R542, 14 R544, 14 R547, 14 R554; the model's choices behind it: log
40). -/
def Obligations.KernelControlRowsComplete : Prop :=
  (∀ (k : Fin 16) s w2,
    (Issues k (.ctl .nop) w2 s → exec (.kNop k) s = .next (retireNext k (.ctl .nop) (coreBase s k) s))
    ∧ (Issues k (.ctl .ei) w2 s → exec (.kEi k) s = .next (retireNext k (.ctl .ei) { coreBase s k with ie := true } s))
    ∧ (Issues k (.ctl .di) w2 s → exec (.kDi k) s = .next (retireNext k (.ctl .di) { coreBase s k with ie := false } s))
    ∧ (∀ waited, Issues k (.ctl .fence) w2 s → (coreOf s k).posted = [] → exec (.kFence k waited) s
      = .next (retire k (.ctl .fence) (coreBase s k) ((coreOf s k).pc + 1) false (1 + waited) s))
    ∧ (Issues k (.ctl .wait) w2 s → exec (.kWait k) s = .next (modCore k (fun c => { c with phase := .waiting }) s))
    ∧ (Issues k (.ctl .halt) w2 s → let x := kComplete (coreOf s k) [] (coreBase s k) ((coreOf s k).pc + 1) false 1
      x.2 = none → exec (.kHalt k) s = .next (haltCore k 1 (modCore k (fun _ => x.1) s))))
  ∧ (∀ (k : Fin 16) s w2, let c := coreOf s k
    let lim := (tget (0, 0) c.segs 0).2
    let linked := kWrite (coreBase s k) rLK { v := BitVec.ofNat 24 (c.pc + 1), t := false }
    (Issues k (.ctl .ret) w2 s → (kReg c rLK).t = false → (kReg c rLK).v.toNat < lim →
      exec (.kRet k) s = .next (retire k (.ctl .ret) (coreBase s k) (kReg c rLK).v.toNat true 2 s))
    ∧ (Issues k (.ctl .reti) w2 s → c.ipc < lim →
      exec (.kReti k) s = .next (retire k (.ctl .reti) { coreBase s k with ie := true } c.ipc true 2 s))
    ∧ (∀ (p : Fin 8), (kReg c (8 + p)).t = false → (kReg c (8 + p)).v.toNat < lim →
      (Issues k (.jr p) w2 s → exec (.kJr k p) s = .next (retire k (.jr p) (coreBase s k) (kReg c (8 + p)).v.toNat true 2 s))
      ∧ (Issues k (.callr p) w2 s → exec (.kCallr k p) s = .next (retire k (.callr p) linked (kReg c (8 + p)).v.toNat true 2 s)))
    ∧ (∀ (t : BitVec 14), t.toNat < lim →
      (Issues k (.j t.toNat) w2 s → exec (.kJ k t) s = .next (retire k (.j t.toNat) (coreBase s k) t.toNat true 2 s))
      ∧ (Issues k (.call t.toNat) w2 s → exec (.kCall k t) s = .next (retire k (.call t.toNat) linked t.toNat true 2 s))))
  ∧ (∀ (k : Fin 16) s w2 (cc : KCond), let c := coreOf s k
    let lim := (tget (0, 0) c.segs 0).2
    (∀ (a b : Fin 16) (off : BitVec 8), Issues k (.br cc a b off.toNat) w2 s → (kReg c a).t = false → (kReg c b).t = false →
      (kCond cc (kReg c a).v (kReg c b).v = true → kRel { k := k, c := c, w2 := 0 } off.toNat < lim →
        exec (.kBr k cc a b off) s
          = .next (retire k (.br cc a b off.toNat) (coreBase s k) (kRel { k := k, c := c, w2 := 0 } off.toNat) true 2 s))
      ∧ (kCond cc (kReg c a).v (kReg c b).v = false →
        exec (.kBr k cc a b off) s = .next (retireNext k (.br cc a b off.toNat) (coreBase s k) s)))
    ∧ (∀ (a : Fin 16) (i : BitVec 12) (t : BitVec 14), Issues k (.bri cc a i.toNat t.toNat) w2 s → (kReg c a).t = false →
      (kCond cc (kReg c a).v (i.signExtend 24) = true → t.toNat < lim →
        exec (.kBri k cc a i t) s = .next (retire k (.bri cc a i.toNat t.toNat) (coreBase s k) t.toNat true 3 s))
      ∧ (kCond cc (kReg c a).v (i.signExtend 24) = false →
        exec (.kBri k cc a i t) s = .next (retire k (.bri cc a i.toNat t.toNat) (coreBase s k) (c.pc + 2) false 2 s)))
    ∧ (∀ (a : Fin 4) (off : BitVec 8), Issues k (.bra cc a off.toNat) w2 s → (kAccOf c a).t = false →
      (kCondAcc cc (kAccOf c a).v = true → kRel { k := k, c := c, w2 := 0 } off.toNat < lim →
        exec (.kBra k cc a off) s
          = .next (retire k (.bra cc a off.toNat) (coreBase s k) (kRel { k := k, c := c, w2 := 0 } off.toNat) true 2 s))
      ∧ (kCondAcc cc (kAccOf c a).v = false →
        exec (.kBra k cc a off) s = .next (retireNext k (.bra cc a off.toNat) (coreBase s k) s))))
  ∧ (∀ (k : Fin 16) s w2 j, let c := coreOf s k
    c.pc + 1 < (tget (0, 0) c.segs 0).2 → kTwoWords (kWordAt c (c.pc + 1)) = false →
    kDecode (decide (12 ≤ k.val)) (c.pc + 1) (kWordAt c (c.pc + 1)) 0 = some j → kRepeatable j = true → kLoopEnd c = false →
    let go := fun (i : KInstr) (c1 : Core) (n : Nat) => if n = 0 then retire k i c1 (c.pc + 2) false 1 s
      else retire k i { c1 with rep := some n } (c.pc + 1) false 1 s
    (∀ (n : BitVec 12), Issues k (.rep n.toNat) w2 s → exec (.kRep k n) s = .next (go (.rep n.toNat) (coreBase s k) n.toNat))
    ∧ (∀ (d : Fin 8), Issues k (.repr d) w2 s → (kReg c d).t = false → let v := (kReg c d).v.toInt
      exec (.kRepr k d) s = .next (go (.repr d) (kCount rSATC (if 4095 < v then 1 else 0) (coreBase s k)) (min 4095 v.toNat))))
  ∧ (∀ (k : Fin 16) s w2 (e : BitVec 14), let c := coreOf s k
    kLoopEnd c = false →
    let go := fun (i : KInstr) (n : BitVec 24) =>
      let c1 := kWrite (kWrite (kWrite (coreBase s k) rLC { v := n, t := false }) rLS { v := BitVec.ofNat 24 (c.pc + 2), t := false })
        rLE { v := BitVec.ofNat 24 e.toNat, t := false }
      if n = 0 then retire k i c1 (e.toNat + 1) false 3 s else retire k i c1 (c.pc + 2) false 2 s
    (∀ (n : BitVec 16), Issues k (.loopImm n.toNat e.toNat) w2 s →
      exec (.kLoop k (.imm n) e) s = .next (go (.loopImm n.toNat e.toNat) (BitVec.ofNat 24 n.toNat)))
    ∧ (∀ (d : Fin 8), Issues k (.loopReg d e.toNat) w2 s → (kReg c d).t = false →
      exec (.kLoop k (.reg d) e) s = .next (go (.loopReg d e.toNat) (kReg c d).v)))

/-- Bytes received on SPI, the UARTs and Muslin wait for the rest of their packet; timeouts, breaks and bad stop bits
discard and count (02 R59, 02 R60, 02 R61, 12 R465, 12 R466, 12 R469, 12 R470, 12 R474; the model's choices behind it:
log 35). -/
def Obligations.ByteStreamInputComplete : Prop :=
  (∀ bs old obs s, hostUp s = true → (portOf s .spi).asm = old.map some → bs ≠ [] → Unfinished (old ++ bs) →
    exec (.spiWrite bs false obs) s = .next (modPort .spi (fun x => { x with asm := (old ++ bs).map some }) s)
    ∧ exec (.spiQuadWrite bs false obs) s = .next (modPort .spi (fun x => { x with asm := (old ++ bs).map some }) s))
  ∧ (∀ addr bs old obs s, hostUp s = true → addr.toNat = s.power.muslinAddr → (portOf s .muslin).asm = old.map some → bs ≠ [] →
    Unfinished (old ++ bs) → (portBlocked s .muslin = true → old.length + bs.length ≤ 4096) →
    exec (.muslinWrite addr bs false obs) s
      = .next { modPort .muslin (fun x => { x with asm := (old ++ bs).map some }) s with ecsol.acked := bs.length })
  ∧ (∀ u b lowPs old obs s, hostUp s = true → tget none s.ecsol.uartRate (uartIdx u) ≠ none →
    (portOf s (uartPort u)).asm = old.map some → Unfinished (old ++ [b]) →
    exec (.uartByteReceived u b true lowPs false obs) s
      = .next (modPort (uartPort u) (fun x => { x with asm := (old ++ [b]).map some }) s))
  ∧ (∀ u b lowPs idle obs s, hostUp s = true → tget none s.ecsol.uartRate (uartIdx u) ≠ none →
    exec (.uartByteReceived u b false lowPs idle obs) s
      = .next (countFraming (uartPort u) (if idle = true then byteTimeout (uartPort u) obs s else s)))
  ∧ (∀ u lowPs obs s r, hostUp s = true → tget none s.ecsol.uartRate (uartIdx u) = none →
    tget none s.ecsol.uartFormer (uartIdx u) = none → r ∈ uartRates →
    97 * 10 ^ 12 ≤ 100 * (lowPs * r) → 100 * (lowPs * r) ≤ 103 * 10 ^ 12 → (portOf s (uartPort u)).asm = [] →
    exec (.uartByteReceived u 0xA7 true lowPs false obs) s
      = .next (modPort (uartPort u) (fun x => { x with asm := [some 0xA7] })
          { s with ecsol.uartRate := tset none s.ecsol.uartRate (uartIdx u) (some r) }))
  ∧ (∀ u obs s r, hostUp s = true → tget none s.ecsol.uartRate (uartIdx u) = some r → (portOf s (uartPort u)).asm = [] →
    exec (.uartBreak u obs) s = .next (modPort (uartPort u) (fun x => { x with asm := [], fresh := true }) { s with
      ecsol.uartRate := tset none s.ecsol.uartRate (uartIdx u) none,
      ecsol.uartFormer := tset none s.ecsol.uartFormer (uartIdx u) (some r) }))
  ∧ (∀ u bs obs s, hostUp s = true → tget none s.ecsol.uartRate (uartIdx u) = none →
    (portOf s (uartPort u)).asm = (0xA7 :: bs).map some → Unfinished (0xA7 :: bs) → 0xA7 ∉ bs →
    exec (.uartBreak u obs) s
      = .next (modPort (uartPort u) (fun x => { x with asm := [], fresh := true, framing := x.framing + 1 }) s))
  ∧ (∀ code s, mainRuns s = true → code ∉ ([0x02, 0x32, 0x03, 0x6B, 0x05] : List Byte) →
    exec (.spiUnknownInstruction code) s = .next (modPort .spi (fun x => { x with framing := x.framing + 1 }) s))
  ∧ (∀ port obs s, ((portOf s port).asm = [] → exec (.packetByteTimeout port obs) s = .next s)
    ∧ ((portOf s port).asm ≠ [] → hostUp s = true → exec (.packetByteTimeout port obs) s = .next (takeInput port obs none s))
    ∧ (∀ bs, port ≠ .pcie → hostUp s = true → (portOf s port).asm = (0xA7 :: bs).map some → Unfinished (0xA7 :: bs) → 0xA7 ∉ bs →
      exec (.packetByteTimeout port obs) s
        = .next (modPort port (fun x => { x with asm := [], fresh := true, framing := x.framing + 1 }) s)))

/-- Reads of SPI, Muslin and the UARTs drive the queued bytes in order, then 0x00, and take them from the queue (12
R461, 12 R466, 12 R467, 12 R474, 16 R595, 02 R74). -/
def Obligations.ByteStreamOutputComplete : Prop :=
  (∀ n obs s, mainRuns s = true → (∀ it ∈ (portOf s .spi).outq, it.sent < it.bytes.length) →
    let q := (portOf s .spi).outq.flatMap (fun it => it.bytes.drop it.sent)
    ∃ q', q'.flatMap (fun it : QItem => it.bytes.drop it.sent) = q.drop n ∧ (∀ it ∈ q', it.sent < it.bytes.length)
      ∧ exec (.spiRead n obs) s = .next (huntAll .spi obs { modPort .spi (fun x => { x with outq := q' }) s with
          ecsol.bus := (q ++ zeros n).take n })
      ∧ exec (.spiQuadRead n obs) s = exec (.spiRead n obs) s)
  ∧ (∀ addr n obs s, hostUp s = true → addr.toNat = s.power.muslinAddr →
    (∀ it ∈ (portOf s .muslin).outq, it.sent < it.bytes.length) →
    let q := (portOf s .muslin).outq.flatMap (fun it => it.bytes.drop it.sent)
    ∃ q', q'.flatMap (fun it : QItem => it.bytes.drop it.sent) = q.drop (n - 2) ∧ (∀ it ∈ q', it.sent < it.bytes.length)
      ∧ exec (.muslinRead addr n obs) s = .next (huntAll .muslin obs { modPort .muslin (fun x => { x with outq := q' }) s with
          ecsol.bus := (le 2 (min 65535 q.length) ++ q ++ zeros n).take n }))
  ∧ (∀ u obs s it rest, tget none s.ecsol.uartRate (uartIdx u) ≠ none → (portOf s (uartPort u)).outq = it :: rest →
    it.sent < it.bytes.length →
    exec (.uartByteTransmitted u obs) s = .next (huntAll (uartPort u) obs
      { modPort (uartPort u) (fun x => { x with
          outq := if it.sent + 1 < it.bytes.length then { it with sent := it.sent + 1 } :: rest else rest }) s with
        ecsol.bus := [it.bytes.getD it.sent 0] }))
  ∧ (∀ n s, mainRuns s = true → exec (.spiStatus n) s = .next { s with
      ecsol.bus := (le 2 (min 65535 (queueUsed (portOf s .spi).outq)) ++ le 2 (8192 - inputHeld .spi s)
        ++ zeros n).take n })
  ∧ (∀ s, (portOf s .muslin).outq = [] → exec .muslinAddrApply s = .next { s with power.muslinAddr := s.power.wake.addr })

/-- An opcode absent from the master index is answered UNKNOWN_OPCODE; a slot's lock ends with its failure count at 0
(02 R63, 02 R97, 02 R101). -/
def Obligations.UnknownOpcodeAndLockExpiryComplete : Prop :=
  (∀ (op : BitVec 16) p s, opSpecOf op.toNat = none → hostUp s = true → portBlocked s p.port = false →
    p.crc.toNat = crc32c (cmdBytes op.toNat p) → cacheFind s op.toNat p = none → outstanding s p.port < 8 →
    s.ecsol.held = [] → s.ecsol.window = .none → bitsOf p.flags.toNat 7 4 = 0 → (cmdAuth p = true ∨ cmdSlot p = 0) →
    exec (.unknownOpcode op p) s = .next (finish op.toNat p .unknownOpcode 0 [] none (wakeFirmware s)))
  ∧ (∀ (slot : Fin 4) s t, (slotOf s slot).lockUntil = some t →
    (instantReached t s = true →
      exec (.authLockExpiry slot) s = .next (modSlot slot (fun x => { x with lockUntil := none, failures := 0 }) s))
    ∧ (instantReached t s = false → exec (.authLockExpiry slot) s = .next s))
  ∧ (∀ (slot : Fin 4) s, (slotOf s slot).lockUntil = none → exec (.authLockExpiry slot) s = .next s)

/-- PCIe register writes and read-to-clear reads: what each accepted form changes (12 R476, 12 R477, 12 R478; the
model's choices behind it: log 15, 16). -/
def Obligations.PcieRegisterCommandsComplete : Prop :=
  (∀ on obs s, pcieUp s = true → slotsWaiting s = 0 → exec (.cmdEn on obs) s = .next { s with pcie.cmdEn := on })
  ∧ (∀ (rings : BitVec 4) obs s, pcieUp s = true → slotsWaiting s = 0 → exec (.ringEn rings obs) s = .next
      (foldS (fun n t => modRing n (fun r => { r with fault := false }) t)
        ((upto 4).filter (fun n => rings.toNat.testBit n && !s.pcie.ringEn.testBit n)) { s with pcie.ringEn := rings.toNat }))
  ∧ (∀ s, pcieUp s = true → s.pcie.cmdEn = false → s.pcie.ringEn = 0 → exec .resetRings s = .next
      (foldS (fun n t => modRing n (fun r => { r with wr := 0, rd := 0 }) t) [0, 1, 2, 3]
        { s with pcie.head := 0, pcie.tail := 0 }))
  ∧ (∀ (tail : Fin 16) obs s, pcieUp s = true → hostUp s = true → 8 < (tail.val + 16 - s.pcie.head) % 16 →
      exec (.cmdTailWrite tail obs) s = .next { s with pcie.framing := min 0xFFFF (s.pcie.framing + 1) })
  ∧ (∀ (tail : Fin 16) obs s, pcieUp s = true → hostUp s = true → (tail.val + 16 - s.pcie.head) % 16 ≤ 8 →
      s.pcie.cmdEn = false → exec (.cmdTailWrite tail obs) s = .next { s with pcie.tail := tail.val })
  ∧ (∀ (bits : BitVec 32) s, pcieUp s = true → exec (.irqStatusClear bits) s = .next { s with
      pcie.irqStatus := s.pcie.irqStatus &&& (1023 - bits.toNat % 1024) })
  ∧ (∀ s, pcieUp s = true → exec .framingRead s = .next { s with ecsol.bus := le 4 s.pcie.framing, pcie.framing := 0 })
  ∧ (∀ (n : Fin 4) s, pcieUp s = true → exec (.ringDropsRead n) s
      = .next (modRing n (fun r => { r with drops := 0 }) { s with ecsol.bus := le 4 (ringOf s n).drops }))
  ∧ (∀ (v : BitVec 32) obs s, pcieUp s = true →
      exec (.registerWrite 0x0010 v obs) s = .next (setIrq s.pcie.irqStatus (v.toNat % 1024) s))
  ∧ (∀ (n : Fin 4) (v : BitVec 32) obs s, pcieUp s = true →
      exec (.registerWrite (BitVec.ofNat 16 (0x110 + 0x20 * n.val)) v obs) s
        = .next (modRing n (fun r => { r with rd := v.toNat / 64 * 64 }) s)
      ∧ (s.pcie.ringEn.testBit n = false →
        exec (.registerWrite (BitVec.ofNat 16 (0x100 + 0x20 * n.val)) v obs) s
          = .next (modRing n (fun r => { r with baseLo := v.toNat / 4096 * 4096 }) s)
        ∧ exec (.registerWrite (BitVec.ofNat 16 (0x104 + 0x20 * n.val)) v obs) s
          = .next (modRing n (fun r => { r with baseHi := v.toNat }) s)
        ∧ (bitsOf v.toNat 27 24 ≤ 10 → exec (.registerWrite (BitVec.ofNat 16 (0x108 + 0x20 * n.val)) v obs) s
          = .next (modRing n (fun r => { r with size := bitsOf v.toNat 27 24, modUs := bitsOf v.toNat 23 16,
                                                modBytes := bitsOf v.toNat 15 0 }) s)))
      ∧ (s.pcie.ringEn.testBit n = true →
        exec (.registerWrite (BitVec.ofNat 16 (0x100 + 0x20 * n.val)) v obs) s = .next s
        ∧ exec (.registerWrite (BitVec.ofNat 16 (0x104 + 0x20 * n.val)) v obs) s = .next s
        ∧ exec (.registerWrite (BitVec.ofNat 16 (0x108 + 0x20 * n.val)) v obs) s = .next s))
  ∧ (∀ (off : BitVec 16) (v : BitVec 32) obs s, pcieUp s = true → off.toNat % 4 = 0 → 0x4000 ≤ off.toNat →
      exec (.registerWrite off v obs) s = .next { s with
        pcie.slots := tsetMany 0 s.pcie.slots (off.toNat - 0x4000) (le 4 v.toNat) })

/-- PCIe ring writes, moderation, DMA errors, function resets and link training: what each changes (12 R477, 12 R479,
12 R480, 12 R482, 12 R484, 12 R493; the model's choices behind it: log 15, 16). -/
def Obligations.PcieEventsComplete : Prop :=
  (∀ (n : Fin 4) obs s it rest, pcieUp s = true → slotsWaiting s = 0 → (ringOf s n).outq = it :: rest →
    (ringOf s n).fault = false → s.pcie.ringEn.testBit n = true →
    let r := ringOf s n
    let len := padded it.bytes.length
    entryTakes r len + 64 ≤ ringFree r →
    let wr := if ringSize r < r.wr + len then len else (r.wr + len) % ringSize r
    let w := { s with pcie.dma := entryWrites r it.bytes }
    let u := modRing n (fun x => { x with outq := rest, wr := wr, unsignalled := r.unsignalled + len, waiting := true }) w
    exec (.ringEntryWritten n obs) s = .next
      (if it.cls = 0 ∨ r.modBytes = 0 ∨ 64 * r.modBytes ≤ r.unsignalled + len then
        raiseIrq (2 + n) (modRing n (fun x => { x with unsignalled := 0, waiting := false }) u)
       else u))
  ∧ (∀ (n : Fin 4) s, (ringOf s n).waiting = true → exec (.ringDataModeration n) s
      = .next (raiseIrq (2 + n) (modRing n (fun x => { x with unsignalled := 0, waiting := false }) s)))
  ∧ (∀ (n : Fin 4) s, pcieUp s = true → (ringOf s n).fault = false → s.pcie.ringEn.testBit n = true → (ringOf s n).outq ≠ [] →
    let keep := (ringOf s n).outq.filter (fun it => it.cls == 0)
    let u := raiseIrq (6 + n) (modRing n (fun x => { x with
      fault := true, outq := keep, drops := min 0xFFFFFFFF (x.drops + (x.outq.length - keep.length)) }) s)
    ((portOf s .pcie).dropArmed = false ∨ (∀ it ∈ (ringOf s n).outq, it.cls ≠ 1) → exec (.dmaError n) s = .next u)
    ∧ ((portOf s .pcie).dropArmed = true → (∃ it ∈ (ringOf s n).outq, it.cls = 1) →
      exec (.dmaError n) s = .next (logErr 0x49 2 0x10 3 (modPort .pcie (fun x => { x with dropArmed := false }) u))))
  ∧ (∀ (r : Ring) bs, let len := padded bs.length
    let whole := bs ++ zeros (len - bs.length)
    entryWrites r bs = if ringSize r < r.wr + len then
        [(2 ^ 32 * r.baseHi + r.baseLo, whole), (2 ^ 32 * r.baseHi + r.baseLo + r.wr, [0x00])]
      else [(2 ^ 32 * r.baseHi + r.baseLo + r.wr, whole)])
  ∧ (∀ kind s, mainRuns s = true → exec (.pcieFunctionReset kind) s = .next { s with
      pcie.cmdEn := false, pcie.ringEn := 0, pcie.head := 0, pcie.tail := 0, pcie.rings := [],
      pcie.link := if kind = .linkDown then none else s.pcie.link,
      ecsol.held := s.ecsol.held.map (fun h => { h with mute := h.mute || h.pkt.port == .pcie }) })
  ∧ (∀ link s, mainRuns s = true → exec (.pcieLinkTrained link) s = .next { s with pcie.link := some link })

/-- Wake events, Stop, power loss, resets and start-up: the state that each leaves (16 R593, 16 R597, 16 R599, 16
R602, 16 R604, 16 R605, 16 R606, 16 R607, 16 R608, 16 R611, 16 R613, 16 R615; the model's choices behind it: log 3, 6,
29). -/
def Obligations.PowerStateEventsComplete : Prop :=
  (∀ s, s.power.mode = .off → exec .vbatPowerOn s = .next { resetMain false s with
      power := { Power.initial with inReset := true, parked0 := s.power.parked0, parked1 := s.power.parked1 } })
  ∧ (∀ s, exec .vbatLoss s = .next { resetMain false s with
      power := { (resetMain false s).power with mode := .off, pwrEn := false, tcValid := false } })
  ∧ (∀ s, s.power.armed = true → s.power.seq = none →
    (s.power.wake.sources.testBit 0 = true →
      exec .wakeNLow s = .next { s with power.latched := setBit s.power.latched 0 true })
    ∧ (s.power.wake.sources.testBit 1 = true → ∀ (addr : BitVec 7) read, addr.toNat = s.power.wake.addr →
      exec (.addressMatch addr read) s = .next { s with power.latched := setBit s.power.latched 1 true })
    ∧ (s.power.wake.sources.testBit 2 = true → s.power.wake.timekeep = true →
      exec .timerAlarm s = .next { s with power.latched := setBit s.power.latched 2 true }))
  ∧ (∀ s q, s.power.armed = true → s.power.seq = some q → q.restart = false → s.power.wake.sources.testBit 0 = true →
    exec .wakeNLow s = .next (postWake false (setBit s.power.latched 0 true) true { s with
      ecsol.window := .none, power.seq := none, power.armed := false, power.latched := 0 }))
  ∧ (∀ s, (s.power.armed = false ∨ s.power.seq ≠ none → exec .x32Loss s = .next { s with power.tcValid := false })
    ∧ (s.power.armed = true → s.power.seq = none → s.power.wake.sources.testBit 2 = true →
      exec .x32Loss s = .next { s with power.tcValid := false, power.latched := setBit s.power.latched 2 true }))
  ∧ (∀ s, s.power.parkPending = true → exec .parkWriteDone s = .next { writePark s with power.parkPending := false })
  ∧ (∀ s q, s.power.seq = some q → q.restart = false → sequenceRipe q s = true → s.power.latched = 0 →
    exec .pwrEnFall s = .next { resetMain false s with
      power := { (resetMain false s).power with mode := .stop, pwrEn := false, armed := true } })
  ∧ (∀ stopMs s, s.power.mode = .stop → s.power.latched ≠ 0 → 1 ≤ stopMs → exec (.pwrEnRise stopMs) s = .next { s with
      power.mode := .run, power.pwrEn := true, power.inReset := true, power.cause := 2, power.detail := 0,
      power.resets := (s.power.resets + 1) % 65536, power.stopS := stopMs / 1000,
      power.tcGpsMs := s.power.tcGpsMs + stopMs, power.tcSinceMs := s.power.tcSinceMs + stopMs })
  ∧ (∀ s, s.power.mode = .run → exec .resetNLow s = .next (resetWith 3 0 true s)
      ∧ exec .railOutOfRange s = .next (resetWith 3 1 true s))
  ∧ (∀ heldMs s, s.power.mode = .run → s.power.inReset = true → exec (.resetRelease heldMs) s = .next { s with
      power.inReset := false, power.tcGpsMs := s.power.tcGpsMs + heldMs, power.tcSinceMs := s.power.tcSinceMs + heldMs })
  ∧ (∀ (proc : Fin 4) s, s.power.mode = .run → s.power.inReset = false →
      exec (.fwWatchdog proc) s = .next (resetWith 5 proc true s))
  ∧ (∀ s o t, s.security.op = some o → o.doneMs = some t → instantReached (t + 10) s = true →
      exec .securityReset s = .next (resetWith 6 (if o.zeroize then 2 else 1) false { s with security.op := none }))
  ∧ (∀ s q, s.power.seq = some q → q.restart = true → sequenceRipe q s = true →
      exec .sysRestartReset s = .next (resetWith 4 0 true s))
  ∧ (∀ s, s.power.mode = .run → s.power.inReset = false → s.power.fwReady = false → s.power.cause ≠ 5 →
    let r := restoreParked (completeSecOp s)
    exec .fwReady s = .next (postWake true (if r.power.cause = 2 then r.power.latched else 0) false
      { r with power.fwReady := true, power.armed := false, power.latched := 0, power.readyMs := nowMs r }))
  ∧ (∀ cause detail keep s, let t := resetWith cause detail keep s
      t.power.cause = cause ∧ t.power.detail = detail ∧ t.power.resets = (s.power.resets + 1) % 65536
      ∧ t.power.inReset = true ∧ t.power.fwReady = false ∧ t.power.wake = s.power.wake ∧ t.security.life = s.security.life
      ∧ t.power.tcGpsMs = tcNow s ∧ t.power.tcValid = s.power.tcValid ∧ t.power.parked0 = s.power.parked0 ∧ t.power.parked1 = s.power.parked1 ∧ t.cal.stored = s.cal.stored
      ∧ t.bankMem = State.reset.bankMem
      ∧ t.kernels = { State.reset.kernels with draws := s.kernels.draws } ∧ t.link = State.reset.link ∧ t.clk = State.reset.clk
      ∧ t.profile = State.reset.profile ∧ t.islands = State.reset.islands ∧ t.pcie = State.reset.pcie
      ∧ t.apertures = State.reset.apertures ∧ t.acq = State.reset.acq ∧ t.chans = State.reset.chans)

/-- Self-test slots and slices, fuse and key sequences, island power-up and coalesced reports: what each changes (17
R619, 17 R621, 17 R631, 17 R632, 17 R636, 17 R641, 17 R643, 01 R29; the model's choices behind it: log 14, 53, 59). -/
def Obligations.SelfTestSecurityAndIslandEventsComplete : Prop :=
  (∀ us s r, hostUp s = true → s.bst.active = some r → exec (.selftestSlot us) s = .next s)
  ∧ (∀ us s, hostUp s = true → s.bst.active = none → ∃ t, exec (.selftestSlot us) s = .next t
      ∧ t = { s with bst := t.bst, security.workKeys := t.security.workKeys }
      ∧ (∀ b, b < 57 → ¬ (25 ≤ b ∧ b < 37) → (bstOf s b).runNow.isSome = true →
        eligible s (synthWindow us.val s) (modemQuiet us.val s) b = true → 
          t.bst.active ≠ none ∨ t.bst.voileReserved = true) ∧ t.bst.slices = s.bst.slices ∧ t.bst.aborted = s.bst.aborted
      ∧ (∀ x, t.bst.active = some x → x.block ≠ 37 ∧ x.block < 57
          ∧ ((bstOf t x.block).runNow.isSome = true ∨ s.bst.enable = true)))
  ∧ (∀ s r vector, s.bst.active = some r → (r.block < 38 ∨ 54 ≤ r.block) →
    let x := bstOf s r.block
    let w := x.workDone + sliceWork r.block r.budget x.workDone
    let y := { x with done := x.done + 1, workDone := w,
                      failedCh := if isChannelBlock r.block then setBit x.failedCh (x.workDone / 200) false else x.failedCh }
    w < blockWork r.block →
    exec (.selftestSliceEnd true vector) s = .next (releaseHeld (.selfTest r.block) (assignWaiting
      (modBst r.block (fun _ => y) (reloadKeys { s with bst.active := none, bst.slices := (s.bst.slices + 1) % 2 ^ 32 })))))
  ∧ (∀ s o l, s.security.op = some o → o.erase = true → o.erased = false → o.burn = some l →
    s.security.life ≠ .blank → o.scope.testBit 0 = false →
    exec .keyErasureDone s = .next { reloadKeys (foldS (fun k t => modSlot k (fun x =>
      { x with state := 0, key := [], highWater := 0 }) t) [0, 1, 2, 3] s) with security.op := some { o with erased := true } })
  ∧ (∀ s o l, s.security.op = some o → o.burn = some l → (o.erase = true → o.erased = true) → o.doneMs = none →
    o.zeroize = false →
    exec .fuseBurnDone s = .next (let t := { s with security.life := l, security.op := some { o with doneMs := some (nowMs s) } }
      postStatus 0x0F 0 (secEvent t 4 255 (lifeCode l)) t))
  ∧ (∀ (i : Fin 43) s, islandOn s i = true → s.islands.ready.testBit i = false → (24 ≤ i.val ∧ i.val ≠ 42) → ∀ calFail,
    exec (.islandReady i calFail) s
      = .next { s with islands.ready := setBit s.islands.ready i true, burst.gated := setBit s.burst.gated i false })
  ∧ (∀ (i : Fin 43) s, islandOn s i = true → s.islands.ready.testBit i = false → i.val < 24 → clockBypass s = false →
    let t := { s with islands.ready := setBit s.islands.ready i true, burst.gated := setBit s.burst.gated i false }
    exec (.islandReady i false) s = .next (if s.burst.gated.testBit i = true then aprRestore i t else t))
  ∧ (∀ (code cls inst : Byte) s e,
    (logHeld s.errlog).find? (fun e => sameKind code.toNat cls.toNat inst.toNat e) = some e → e.unreported = true →
    (∀ t, e.sentMs = some t → instantReached (t + 1000) s = true) →
    let clear := fun (x : LogEntry) => if sameKind code.toNat cls.toNat inst.toNat x then
      { x with unreported := false, sentMs := some (nowMs s) } else x
    exec (.errlogCoalescedReport code cls inst) s = .next (post (errMsg s e) { s with
      errlog.entries := s.errlog.entries.map clear, errlog.overflow := s.errlog.overflow.map clear }))

/-- A step runs the command at the front of the queue with the queue's rest; an empty queue idles (the model's choice,
log 1) (02 R68). -/
def Obligations.StepRunsTheFrontCommand : Prop :=
  (∀ c rest (s : State), step { s with pending := c :: rest } = exec c { s with pending := rest })
  ∧ (∀ c s, ∃ t, exec c s = .next t) ∧ (∀ s, ∃ t, step s = .next t)
  ∧ (∀ s, s.pending = [] → step s = .next s)

/-- The master index: opcode, critical or not, least and greatest parameter length of its 81 rows, and no opcode
besides (02 R81, 02 R84, 02 R101). -/
def Obligations.MasterIndexIsThatOfTheSpec : Prop :=
  opSpecs.map (fun x => (x.opcode, x.critical, x.minLen, x.maxLen)) =
    [(0x0101, false, 0, 0), (0x0102, false, 0, 0), (0x0103, true, 4, 4), (0x0104, false, 4, 4), (0x0105, false, 0, 0),
     (0x0106, false, 4, 4), (0x0201, false, 4, 4), (0x0202, false, 24, 24), (0x0203, false, 0, 0), (0x0204, false, 4, 4),
     (0x0205, false, 8, 8), (0x0206, false, 12, 12), (0x0301, false, 8, 8), (0x0302, false, 16, 16),
     (0x0303, false, 12, 12), (0x0304, false, 8, 8), (0x0305, false, 4, 4), (0x0306, false, 8, 8),
     (0x0401, false, 8, 1032), (0x0402, false, 8, 4096), (0x0403, false, 4, 4), (0x0404, false, 0, 0),
     (0x0405, false, 4, 4), (0x0501, false, 12, 12), (0x0502, false, 4, 4), (0x0503, false, 16, 16),
     (0x0504, false, 12, 12), (0x0505, false, 8, 8), (0x0506, false, 4, 4), (0x0507, false, 4, 4), (0x0601, false, 8, 8),
     (0x0602, false, 0, 0), (0x0603, false, 4, 4), (0x0604, false, 8, 1544), (0x0701, false, 4, 4),
     (0x0702, false, 16, 400), (0x0703, false, 8, 8), (0x0704, false, 4, 4), (0x0705, false, 8, 4096),
     (0x0706, false, 16, 16)]
    ++ [(0x0801, false, 16, 16), (0x0802, false, 4, 4), (0x0803, true, 8, 8), (0x0804, false, 8, 200), (0x0805, false, 8, 8),
     (0x0806, true, 8, 8), (0x0807, false, 8, 8), (0x0901, true, 4, 4), (0x0902, false, 12, 12), (0x0903, false, 8, 136),
     (0x0904, false, 4, 4), (0x0905, false, 0, 0), (0x0A01, true, 8, 520), (0x0A02, false, 4, 4), (0x0A03, true, 4, 4),
     (0x0A04, false, 4, 4), (0x0A05, false, 0, 0), (0x0B01, true, 8, 8), (0x0B02, false, 8, 520),
     (0x0B03, false, 8, 2056), (0x0B04, false, 8, 776), (0x0B05, false, 8, 8), (0x0C01, true, 16, 4092),
     (0x0C02, true, 8, 8), (0x0C03, false, 4, 4), (0x0C04, false, 4, 4), (0x0C05, false, 4, 4), (0x0C06, false, 8, 264),
     (0x0D01, false, 4, 4), (0x0D02, false, 12, 12), (0x0D03, false, 4, 4), (0x0E01, false, 8, 8), (0x0E02, true, 8, 8),
     (0x0E03, false, 0, 0), (0x0F01, true, 48, 48), (0x0F02, true, 4, 4), (0x0F03, false, 4, 4), (0x0F04, true, 4, 4),
     (0x0F05, true, 4, 4), (0x1001, false, 8, 8), (0x1002, false, 8, 8)]
  ∧ (∀ op, (∀ sp ∈ opSpecs, sp.opcode ≠ op) → opSpecOf op = none)

/-- A LENGTH of 0 is valid only for opcodes that take no parameters (02 R82). -/
def Obligations.ZeroLengthOnlyWithoutParameters : Prop :=
  ∀ sp ∈ opSpecs, (∀ p, p.params = [] → lengthOk sp p = true → sp.minLen = 0)
    ∧ (sp.minLen = 0 → sp.maxLen = 0 ∧ ∀ p, lengthOk sp p = true → p.params = [])

/-- State.reset: the values that the spec gives after a reset, kind of state by kind of state (01 R31, 01 R43, 02 R80,
03 R131, 06 R279, 07 R283, 08 R363, 12 R488, 15 R572, 16 R596, 17 R625, 02 R56; the model's choices behind it: log 3).
-/
def Obligations.ResetLeavesTheValuesOfTheSpec : Prop :=
  let s := State.reset
  (s.islands.powered = 2 ^ 43 ∧ s.islands.ready = 2 ^ 43) ∧ s.profile.sel = 2 ∧ s.profile.custom = false
  ∧ (upto 16).map (fun b => ((bankOf s b).powered, (bankOf s b).owner, (bankOf s b).rotate))
    = (true, 0, false) :: List.replicate 3 (true, 1, false) ++ List.replicate 12 (false, 1, false)
  ∧ s.rates = { rateHz := 10, tulDiv := 0, pvtDiv := 1 } ∧ s.nunar.st = 0 ∧ s.nunar.limitMin = 0 ∧ s.nunar.drift = 1000
  ∧ (∀ p, (portOf s p).cache = [] ∧ (portOf s p).outq = [] ∧ (portOf s p).msgSeq = 0 ∧ (portOf s p).framing = 0)
  ∧ (∀ n, (ringOf s n).outq = []) ∧ s.pcie.ringEn = 0 ∧ s.pcie.cmdEn = false ∧ s.pcie.irqMask = 0
  ∧ (∀ m, (routeOf s m).ports ≠ 0 ↔ m ∈ [0x86, 0x87, 0x8D, 0x8E, 0x8F])
  ∧ s.power.wake = { addr := 0x3B, sources := 0b011, timekeep := false, rtcPpm := 50, alarmS := 0 }
  ∧ s.power.fwReady = false ∧ s.power.mode = .run ∧ logHeld s.errlog = [] ∧ (∀ k, (slotOf s k).lockUntil = none)
  ∧ (s.bst.enable, s.bst.budget, s.bst.cycle) = (true, 200, 600) ∧ (∀ a, (aprOf s a).enabled = false)
  ∧ (∀ a, (aprOf s a).blanker = { mode := 2, thresh := 30, slices := 15, pre := 10, post := 20, run := 2 })
  ∧ (s.cal.cfg.mode, s.cal.cfg.ref, s.cal.cfg.avg) = (0, 255, 10)
  ∧ (∀ c, (chanOf s c).state = .free) ∧ (∀ k, (coreOf s k).phase = .idle) ∧ s.kernels.spares = 0 ∧ s.acq.plan = none
  ∧ s.link.role = 0 ∧ s.link.rampUs = 8 ∧ s.pending = [] ∧ BanksOk s

/-- A new command with a right CRC: the first check of steps 3 to 9 that fails decides the reply and what is counted
(01 R14, 02 R63, 02 R68, 02 R79, 02 R84, 02 R85, 02 R89, 02 R94, 02 R95, 02 R96, 02 R667). -/
def Obligations.ChecksAreMadeInOrder : Prop :=
  ∀ sp p s, hostUp s = true → portBlocked s p.port = false → p.crc.toNat = crc32c (cmdBytes sp.opcode p) →
    cacheFind s sp.opcode p = none →
    let w := wakeFirmware s
    let sl := slotOf s (cmdSlot p)
    let rej := fun (st : Status) (key : Option (List Byte)) (t : State) => finish sp.opcode p st 0 [] key t
    runCmd sp p s =
      if 8 ≤ outstanding s p.port then rej .busy none w
      else if s.ecsol.held ≠ [] ∧ s.ecsol.window = .none then queueBehind sp.opcode p w
      else if s.ecsol.window ≠ .none then rej .badState none w
      else if bitsOf p.flags.toNat 7 4 ≠ 0 ∨ (cmdAuth p = false ∧ cmdSlot p ≠ 0) then rej .badValue none w
      else if permitted s.security.life sp.opcode = false then rej .lifecycle none w
      else if cmdAuth p = false ∧ sp.critical = true ∧ (s.security.life = .provisioned ∨ s.security.life = .deployed) then
        rej .authRequired none w
      else if cmdAuth p = true ∧ sl.lockUntil ≠ none then rej .authLocked none w
      else if cmdAuth p = true ∧ sl.state ≠ 1 then rej .authFail none w
      else if cmdAuth p = true ∧ le 16 p.tag.toNat ≠ tagOf sl.key (cmdSigned sp.opcode p) then
        rej .authFail none (countFailure (cmdSlot p) w)
      else if cmdAuth p = true ∧ p.counter.toNat ≤ sl.highWater then rej .counterStale none (countFailure (cmdSlot p) w)
      else if lengthOk sp p = false then rej .badLength (signKey s p) (authed p s)
      else match islandStep sp p (authed p s) with
        | some st => rej st (signKey s p) (authed p s)
        | none => reachCmd sp p (signKey s p) (authed p s)

/-- A rejected command leaves everything but its slot's failure count, the reply cache, the queues and the error log
as it was (02 R65, 02 R66, 02 R79, 02 R91, 02 R97). -/
def Obligations.RejectedCommandsChangeOnlyRecords : Prop :=
  (∀ sp p s st, Accepted sp p s → sp.act p (ready sp p s) = .reject st →
    runCmd sp p s = rejected sp p s st ∧ Same (runCmd sp p s) (withdrawn sp p (authed p s))
    ∧ (runCmd sp p s).power = { s.power with retention := false } ∧ (runCmd sp p s).bankMem = s.bankMem ∧ (runCmd sp p s).banks = s.banks
    ∧ (runCmd sp p s).kernels = s.kernels ∧ (runCmd sp p s).chans = s.chans ∧ (runCmd sp p s).apertures = s.apertures
    ∧ ∀ k, (slotOf (runCmd sp p s) k).highWater = (slotOf s k).highWater ∧ (slotOf (runCmd sp p s) k).key = (slotOf s k).key)
  ∧ (∀ sp p s, hostUp s = true → portBlocked s p.port = false →
    (p.crc.toNat ≠ crc32c (cmdBytes sp.opcode p)
      ∨ cacheFind s sp.opcode p = none ∧ (8 ≤ outstanding s p.port ∨ s.ecsol.window ≠ .none
        ∨ s.ecsol.held = [] ∧ (bitsOf p.flags.toNat 7 4 ≠ 0
        ∨ (cmdAuth p = false ∧ cmdSlot p ≠ 0) ∨ permitted s.security.life sp.opcode = false
        ∨ (cmdAuth p = false ∧ sp.critical = true ∧ authNeeded s.security.life = true)
        ∨ (cmdAuth p = true ∧ (slotOf s (cmdSlot p)).lockUntil ≠ none)))) →
    Same (runCmd sp p s) (wakeFirmware s))

/-- Sending a message, logging an error and finishing a command change only queues, caches, rings, interrupts and the
log (02 R56, 02 R65, 02 R66, 02 R69, 12 R462). -/
def Obligations.SendingAndLoggingFrame : Prop :=
  ∀ s, (∀ m, Same (post m s) s) ∧ (∀ code sev cls inst, Same (logErr code sev cls inst s) s)
    ∧ (∀ op p st chain payload key, Same (finish op p st chain payload key s) s)
    ∧ (∀ port bytes, Same (queueReply port bytes s) s)
    ∧ (∀ m q, (portOf (post m s) q).asm = (portOf s q).asm
      ∧ (portOf (post m s) q).framing = (portOf s q).framing ∧ (portOf (post m s) q).cache = (portOf s q).cache)
    ∧ (∀ op p st chain payload key q, let t := finish op p st chain payload key s
      (portOf t q).asm = (portOf s q).asm ∧ (portOf t q).framing = (portOf s q).framing
      ∧ (q ≠ p.port → (portOf t q).cache = (portOf s q).cache))
    ∧ (∀ port bytes q, (portOf (queueReply port bytes s) q).msgSeq = (portOf s q).msgSeq
      ∧ (queueReply port bytes s).errlog = s.errlog ∧ (queueReply port bytes s).pcie.irqStatus = s.pcie.irqStatus)

/-- With REPLY 0 a command that ends in OK sends nothing; every other command's reply enters its port's queue (02
R71). -/
def Obligations.RepliesFollowTheReplyFlag : Prop :=
  ∀ op p chain payload key s,
    (cmdReply p = false → let t := finish op p .ok chain payload key s
      (∀ q, (portOf t q).outq = (portOf s q).outq) ∧ (∀ n, (ringOf t n).outq = (ringOf s n).outq))
    ∧ (∀ st, (st ≠ .ok ∨ cmdReply p = true) → let t := finish op p st chain payload key s
      let it : QItem := { cls := 0, bytes := replyBytes op p st chain payload key, sent := 0 }
      (p.port ≠ .pcie → it ∈ (portOf t p.port).outq) ∧ (p.port = .pcie → it ∈ (ringOf t 0).outq))

/-- Which replies are cached, which entry a new one replaces, and that a cache never holds more than eight (02 R78).
-/
def Obligations.ReplyCacheTakesAndReplaces : Prop :=
  ∀ op p st chain payload key s, let t := finish op p st chain payload key s
    let old := (portOf s p.port).cache
    let e : CacheEntry := { seq := p.seq.toNat, opcode := op, crc := p.crc.toNat,
                            reply := replyBytes op p st chain payload key, ok := st == .ok }
    (st = .busy ∨ st = .authLocked ∨ st = .crcFail → ∀ q, (portOf t q).cache = (portOf s q).cache)
    ∧ (¬ (st = .busy ∨ st = .authLocked ∨ st = .crcFail) → old.length ≤ 8 →
      (∀ q, q ≠ p.port → (portOf t q).cache = (portOf s q).cache)
      ∧ (portOf t p.port).cache.length ≤ 8
      ∧ ((∀ c ∈ old, c.seq ≠ e.seq) → (portOf t p.port).cache = (if old.length = 8 then old.tail else old) ++ [e])
      ∧ ((∃ c ∈ old, c.seq = e.seq) → (portOf t p.port).cache = old.filter (fun c => c.seq != e.seq) ++ [e]))

/-- After a command, the same packet again executes nothing: the cached reply is sent once more, byte for byte (02
R71, 02 R75, 02 R76, 02 R79). -/
def Obligations.RetransmissionsAreAnsweredFromTheCache : Prop :=
  ∀ op p st chain payload key s, ¬ (st = .busy ∨ st = .authLocked ∨ st = .crcFail) →
    let t := finish op p st chain payload key s
    hostUp t = true → portBlocked t p.port = false → p.crc.toNat = crc32c (cmdBytes op p) →
    (∀ rest, frontCmd op p rest t
      = if st = .ok ∧ cmdReply p = false then wakeFirmware t
        else queueReply p.port (replyBytes op p st chain payload key) (wakeFirmware t))
    ∧ (∀ sp, sp.opcode = op → Same (runCmd sp p t) (wakeFirmware t) ∧ ∀ k, slotOf (runCmd sp p t) k = slotOf t k)

/-- The bytes of a reply: header, status, payload, counter and tag where signed, and its CRC (02 R53, 02 R54, 02 R58,
02 R94). -/
def Obligations.RepliesHaveTheLayoutOfTheSpec : Prop :=
  ∀ op p st chain payload (key : Option (List Byte)), let r := replyBytes op p st chain payload key
    let pl := if st = .ok then payload else []
    r.take 12 = [0xA8, if key.isSome then BitVec.ofNat 8 (1 + 4 * cmdSlot p) else 0] ++ le 2 pl.length ++ le 2 op ++ le 2 p.seq.toNat
        ++ [BitVec.ofNat 8 (statusCode st), BitVec.ofNat 8 (if pl = [] then 0 else chain), 0, 0]
    ∧ r.length = 16 + pl.length + (if key.isSome then 24 else 0)
    ∧ (r.drop 12).take pl.length = pl
    ∧ (∀ k, key = some k → (r.drop (12 + pl.length)).take 8 = le 8 p.counter.toNat
      ∧ (r.drop (20 + pl.length)).take 16 = tagOf k (r.take (20 + pl.length)))
    ∧ r.drop (r.length - 4) = le 4 (crc32c (r.take (r.length - 4)))

/-- A wrong tag or a stale counter adds one failure; the eighth locks the slot for 1 s with its count at 0; a locked
slot counts nothing (02 R91, 02 R96, 02 R97). -/
def Obligations.WrongTagsCountAndTheEighthLocks : Prop :=
  ∀ sp p s, hostUp s = true → portBlocked s p.port = false → p.crc.toNat = crc32c (cmdBytes sp.opcode p) →
    cacheFind s sp.opcode p = none → outstanding s p.port < 8 → s.ecsol.held = [] → s.ecsol.window = .none → bitsOf p.flags.toNat 7 4 = 0 →
    permitted s.security.life sp.opcode = true → cmdAuth p = true →
    let k := cmdSlot p
    let sl := slotOf s k
    let t := runCmd sp p s
    (sl.lockUntil = none → sl.state = 1 →
      (le 16 p.tag.toNat ≠ tagOf sl.key (cmdSigned sp.opcode p) ∨ p.counter.toNat ≤ sl.highWater) →
      slotOf t k = (if 7 ≤ sl.failures then { sl with failures := 0, lockUntil := some (nowMs s + 1000) }
        else { sl with failures := sl.failures + 1 })
      ∧ ∀ j, j ≠ k → slotOf t j = slotOf s j)
    ∧ (sl.lockUntil ≠ none ∨ sl.state ≠ 1 → ∀ j, slotOf t j = slotOf s j)

/-- The queries of every class answer without changing anything but what was sent (02 R100, 02 R103, 01 R49, 03 R136,
05 R249, 09 R392, 10 R422, 14 R567, 15 R589, 17 R627, 17 R644, 17 R646). -/
def Obligations.QueriesChangeNothing : Prop :=
  (∀ sp ∈ [specSysIdentify, specSysStatus, specSysErrlogRead, specPrfQuery, specAprStatus, specAcqResults, specTrkStatus,
      specCalStatus, specClkStatus, specLnkStatus, specKrnStatus, specBstResults, specSecCounterQuery], ∀ p s,
    ((∃ st, sp.act p s = .reject st) ∨ ∃ c pl, sp.act p s = .ok c pl s)
    ∧ (Accepted sp p s → Same (runCmd sp p s) (ready sp p s) ∨ Same (runCmd sp p s) (withdrawn sp p (authed p s))))
  ∧ (∀ p s, u8 p.params 1 = 0 →
    (∃ st, specMemStatus.act p s = .reject st) ∨ ∃ c pl, specMemStatus.act p s = .ok c pl s)

/-- The bytes of a packet, written on SPI one after another or in a PCIe slot, run exactly the command that the packet
spells (02 R51, 02 R52, 02 R58, 02 R59, 02 R63, 12 R465, 12 R478). -/
def Obligations.PacketBytesRunTheirCommand : Prop :=
  (∀ (op : BitVec 16) (p : Packet) s, p.port = .spi → p.params.length ≤ 4096 →
    (cmdAuth p = false → p.counter = 0 ∧ p.tag = 0) → p.crc.toNat = crc32c (cmdBytes op.toNat p) →
    hostUp s = true → portBlocked s .spi = false → (portOf s .spi).asm = [] →
    let bs := cmdBytes op.toNat p ++ le 4 p.crc.toNat
    exec (.spiWrite bs false p.obs) s = .next (hunt .spi p.obs bs.length
      (dispatchCmd op.toNat p (modPort .spi (fun x => { x with asm := [], fresh := true }) s))))
  ∧ (∀ port obs n s, (portOf s port).asm = [] → hunt port obs n s = s)
  ∧ (∀ (op : BitVec 16) (p : Packet) s, p.port = .pcie → p.params.length ≤ 4096 →
    (cmdAuth p = false → p.counter = 0 ∧ p.tag = 0) → p.crc.toNat = crc32c (cmdBytes op.toNat p) →
    pcieUp s = true → hostUp s = true → s.pcie.cmdEn = true → s.pcie.head < 16 → s.pcie.tail = s.pcie.head →
    let bs := cmdBytes op.toNat p ++ le 4 p.crc.toNat
    tgetMany 0 s.pcie.slots (6144 * (s.pcie.head % 8)) bs.length = bs →
    portBlocked { s with pcie.tail := (s.pcie.head + 1) % 16 } .pcie = false →
    exec (.cmdTailWrite ⟨(s.pcie.head + 1) % 16, Nat.mod_lt _ (by decide)⟩ p.obs) s = .next (takeSlots p.obs 7
      (dispatchCmd op.toNat p (advanceHead { s with pcie.tail := (s.pcie.head + 1) % 16 }))))

/-- Replies and class 1 messages never leave a queue unsent; a reply goes ahead of every message not begun; a message
never overfills (02 R74, 12 R461, 12 R463, 12 R464). -/
def Obligations.QueuesShedOnlyClassTwo : Prop :=
  (∀ cap need q, let x := shed cap need q
    x.1.Sublist q ∧ x.1.length + x.2 = q.length
    ∧ x.1.filter (fun i => i.cls != 2 || i.sent != 0) = q.filter (fun i => i.cls != 2 || i.sent != 0))
  ∧ (∀ it q, it.sent = 0 → ∃ a b, q = a ++ b ∧ insertReply it q = a ++ it :: b ∧ (∀ i ∈ a, i.sent ≠ 0 ∨ i.cls = 0)
    ∧ (∀ i ∈ b.head?, i.sent = 0 ∧ i.cls ≠ 0))
  ∧ (∀ cap it q, let x := acceptMsg cap it q
    (x.2.1 = true → queueUsed x.1 ≤ cap ∧ ∃ q', x.1 = q' ++ [it] ∧ q'.Sublist q ∧ q'.length + x.2.2 = q.length)
    ∧ (it.cls ≠ 1 → x.2.1 = false → x.1 = q ∧ x.2.2 = 0)
    ∧ (cap < it.bytes.length → x = (q, false, 0))
    ∧ (it.sent = 0 → it.cls = 2 → (x.2.1 = true ↔ queueUsed q + it.bytes.length ≤ cap)))

/-- The error log: an occurrence coalesces or makes an entry, never more than 127, each kind once, and never displaces
a higher severity (17 R639, 17 R641, 17 R642). -/
def Obligations.ErrorLogKeepsItsCapacity : Prop :=
  ∀ s code sev cls inst, s.errlog.entries.length ≤ 127 →
    s.errlog.entries.Pairwise (fun a b => ¬ sameKind a.code a.cls a.inst b = true) →
    let l := (logInsert s code sev cls inst).1
    l.entries.length ≤ 127 ∧ l.entries.Pairwise (fun a b => ¬ sameKind a.code a.cls a.inst b = true)
    ∧ (∀ e ∈ s.errlog.entries, sameKind code cls inst e = true → l.entries.length = s.errlog.entries.length
      ∧ ∃ f ∈ l.entries, sameKind code cls inst f = true ∧ f.count = min 0xFFFFFF (e.count + 1) ∧ f.first = e.first
        ∧ f.last = s.epochMs)
    ∧ (∀ e ∈ s.errlog.entries, sameKind code cls inst e = false → sev ≤ e.sev → e ∈ l.entries)
    ∧ ((∀ e ∈ s.errlog.entries, sameKind code cls inst e = false) → s.errlog.entries.length < 127 →
      ∃ e, l.entries = s.errlog.entries ++ [e] ∧ sameKind code cls inst e = true ∧ e.count = 1 ∧ e.sev = sev ∧ e.first = s.epochMs)

/-- Every reset and the fall into Stop leave the profile, the banks' owners, the caches, the locks and counters at
their defaults; a wake keeps them (01 R43, 02 R56, 02 R80, 02 R98, 07 R283, 15 R572, 16 R606, 16 R611). -/
def Obligations.ResetsAndWakesLeaveTheDefaults : Prop :=
  let d := fun (t : State) => t.profile = State.reset.profile ∧ (∀ b, 1 ≤ b → (bankOf t b).owner = 1 ∧ (bankOf t b).rotate = false)
    ∧ (∀ q, (portOf t q).cache = [] ∧ (portOf t q).outq = [] ∧ (portOf t q).msgSeq = 0) ∧ (∀ n, (ringOf t n).outq = [])
    ∧ t.rates.rateHz = 10 ∧ t.rates.tulDiv = 0 ∧ t.bankMem = [] ∧ (∀ k, (coreOf t k).phase = .idle)
    ∧ (∀ k, (slotOf t k).lockUntil = none ∧ (slotOf t k).failures = 0)
  let kept := fun (s t : State) => tabWf KeySlot.empty s.security.slots = true →
    ∀ k, (slotOf t k).state = (slotOf s k).state ∧ (slotOf t k).key = (slotOf s k).key ∧ (slotOf t k).highWater = (slotOf s k).highWater
  (∀ s, s.power.mode = .run →
    (∃ t, exec .resetNLow s = .next t ∧ d t ∧ kept s t) ∧ (∃ t, exec .railOutOfRange s = .next t ∧ d t ∧ kept s t)
    ∧ (∀ q, s.power.inReset = false → ∃ t, exec (.fwWatchdog q) s = .next t ∧ d t ∧ kept s t))
  ∧ (∀ s q, s.power.seq = some q → sequenceRipe q s = true →
    (q.restart = true → ∃ t, exec .sysRestartReset s = .next t ∧ d t ∧ kept s t)
    ∧ (q.restart = false → s.power.latched = 0 →
      ∃ t, exec .pwrEnFall s = .next t ∧ t.power.mode = .stop ∧ d t ∧ kept s t))
  ∧ (∀ s o m, s.security.op = some o → o.doneMs = some m → instantReached (m + 10) s = true →
    ∃ t, exec .securityReset s = .next t ∧ d t ∧ kept s t)
  ∧ (∀ s, s.power.mode = .off → ∃ t, exec .vbatPowerOn s = .next t ∧ d t ∧ kept s t)
  ∧ (∀ s ms, s.power.mode = .stop → s.power.latched ≠ 0 → 1 ≤ ms → d s →
    ∃ t, exec (.pwrEnRise ms) s = .next t ∧ t.power.mode = .run ∧ d t ∧ kept s t)

/-- A write of bytes to a bank: each byte stored reads as written, every other byte of every bank as before, and whole
granules lose their poison (01 R34, 01 R35, 15 R582). -/
def Obligations.BankBytesReadBack : Prop :=
  ∀ addr bytes tag errs s, let t := writeBank addr bytes tag errs s
    (∀ a, addr ≤ a → a < addr + bytes.length → bankByte t a = bytes.getD (a - addr) 0)
    ∧ (∀ a, a < addr ∨ addr + bytes.length ≤ a → bankByte t a = bankByte s a)
    ∧ (∀ g, addr ≤ 32 * g → 32 * g + 32 ≤ addr + bytes.length → poisoned t g = tag)
    ∧ (∀ g, 32 * g + 32 ≤ addr ∨ addr + bytes.length ≤ 32 * g → poisoned t g = poisoned s g)
    ∧ (∀ g, poisoned s g = true → ¬ (addr ≤ 32 * g ∧ 32 * g + 32 ≤ addr + bytes.length) → poisoned t g = true)

/-- A BAR2 write reaches a bank's bytes only where the host owns it and it is ready; a core's posted store only where
that core owns it (12 R481, 13 R517, 15 R574, 15 R579, 15 R580). -/
def Obligations.OwnersAloneWriteTheirBank : Prop :=
  (∀ (off : BitVec 24) bs fe errs s t, exec (.bar2Write off bs fe errs) s = .next t →
    (let b := off.toNat / 1048576
     fe = false ∨ off.toNat % 4 ≠ 0 ∨ bs.length % 4 ≠ 0 ∨ 256 < bs.length ∨ b ≠ (off.toNat + bs.length - 1) / 1048576
       ∨ (bankOf s b).powered = false ∨ (bankOf s b).ready = false ∨ (bankOf s b).owner ≠ 1) →
    ∀ a, bankByte t a = bankByte s a)
  ∧ (∀ (b : Fin 16) v s t, exec (.ownerWrite b v) s = .next t → (bankOf s b).owner ≠ 1 →
    ∀ n, (bankOf t n).owner = (bankOf s n).owner)
  ∧ (∀ (k : Fin 16) stall errs s t, exec (.postedStoreCommit k stall errs) s = .next t →
    (∀ p ∈ (coreOf s k).posted, (bankOf s (p.slot / 262144)).owner ≠ 0x10 + k.val) → ∀ a, bankByte t a = bankByte s a)

/-- Every step keeps the banks' memory canonical and SB0 the device's own and powered (15 R571, 15 R573, 15 R574, 15
R581, 12 R481). -/
def Obligations.EveryStepKeepsTheBankInvariant : Prop :=
  ∀ s t, BanksOk s → step s = .next t → BanksOk t

/-- Kernel instructions: decoding an encoded well-formed instruction gives it back, and every word that decodes is the
encoding of what it decodes to (13 R502, 13 R508, 13 R509, 13 R510, 13 R512, 13 R521, 13 R522, 13 R528, 13 R531, 14
R540). -/
def Obligations.KernelCodecAgrees : Prop :=
  (∀ tr pc i, kWellFormed tr pc i = true → kDecode tr pc (kEncode i).1 (kEncode i).2 = some i
    ∧ (kEncode i).1 < 2 ^ 24 ∧ (kEncode i).2 < 2 ^ 24)
  ∧ (∀ tr pc w v i, w < 2 ^ 24 → v < 2 ^ 24 → kDecode tr pc w v = some i →
    kWellFormed tr pc i = true ∧ kEncode i = (w, if kTwoWords w then v else 0))

/-- Addressing mode 0 reaches offset P + K modulo 2^24, whatever B and L hold, and updates no pointer (13 R515). -/
def Obligations.ModeZeroIgnoresBaseAndLength : Prop :=
  ∀ (c c' : Core) (p : Fin 8) (w : Nat) (i : Nat), w ∈ [7, 9, 10] → i < 2 ^ w →
    (kReg c (8 + p)).v = (kReg c' (8 + p)).v →
    kOffset c p 0 i w = kOffset c' p 0 i w
    ∧ (kOffset c p 0 i w : Int) = (((kReg c (8 + p)).v.toNat : Int) + (if i < 2 ^ (w - 1) then (i : Int) else (i : Int) - 2 ^ w)) % 2 ^ 24
    ∧ kPointer c p 0 i w = none

/-- Kernel arithmetic on every pair of words: wrapping, saturating, rounding, dividing, shifting and decimal results
and their counts (13 R506, 13 R507, 13 R508, 13 R525, 13 R526, 13 R527, 13 R530). -/
def Obligations.KernelArithmeticIsExact : Prop :=
  ∀ a b : BitVec 24, let fit := fun (z : Int) => max (-2 ^ 23) (min (2 ^ 23 - 1) z)
    let past := fun (z : Int) => if z < -2 ^ 23 ∨ 2 ^ 23 ≤ z then 1 else 0
    kAlu .add a b = (a + b, 0) ∧ kAlu .sub a b = (a - b, 0) ∧ kAlu .mul a b = (a * b, 0)
    ∧ ((kAlu .adds a b).1.toInt = fit (a.toInt + b.toInt) ∧ (kAlu .adds a b).2 = past (a.toInt + b.toInt))
    ∧ ((kAlu .subs a b).1.toInt = fit (a.toInt - b.toInt) ∧ (kAlu .subs a b).2 = past (a.toInt - b.toInt))
    ∧ ((kUna .negs a).1.toInt = fit (-a.toInt) ∧ (kUna .negs a).2 = past (-a.toInt))
    ∧ ((kUna .abss a).1.toInt = fit a.toInt.natAbs ∧ (kUna .abss a).2 = past a.toInt.natAbs)
    ∧ ((kAlu .mulh a b).1.toInt = fit ((a.toInt * b.toInt + 2 ^ 22) / 2 ^ 23)
      ∧ ((kAlu .mulh a b).2 = 1 ↔ a = 0x800000 ∧ b = 0x800000) ∧ (kAlu .mulh a b).2 ≤ 1)
    ∧ (b ≠ 0 → ¬ (a = 0x800000 ∧ b = 0xFFFFFF) → let q := kDiv true a b
      a.toInt = q.1.toInt * b.toInt + q.2.1.toInt ∧ q.2.1.toInt.natAbs < b.toInt.natAbs ∧ 0 ≤ a.toInt * q.2.1.toInt
      ∧ q.2.2 = (0, 0))
    ∧ (24 ≤ b.toInt → (kAlu .lsl a b).1 = 0 ∧ (kAlu .lsr a b).1 = 0)
    ∧ (0 ≤ b.toInt → b.toInt < 24 → (kAlu .lsl a b).1 = a <<< b.toNat ∧ (kAlu .lsr a b).1 = a >>> b.toNat
      ∧ (kAlu .asr a b).1.toInt = a.toInt / 2 ^ b.toNat)
    ∧ (bcdBad a = false → bcdBad b = false → bcdValue (kAlu .addbcd a b).1 = (bcdValue a + bcdValue b) % 1000000
      ∧ bcdValue (kAlu .subbcd a b).1 = (bcdValue a + 1000000 - bcdValue b) % 1000000 ∧ (kAlu .addbcd a b).2 = 0)
    ∧ (a ≠ 0 → 2 ^ (23 - (kUna .clz a).1.toNat) ≤ a.toNat ∧ a.toNat < 2 ^ (24 - (kUna .clz a).1.toNat))

/-- MAC adds exactly twice the product at 56 bits: any sum inside the range is exact, and 255 products of any words
stay inside it (13 R529, 14 R535). -/
def Obligations.AccumulatorsHoldLongSums : Prop :=
  (∀ l : List (BitVec 24 × BitVec 24), let z := (l.map (fun x => 2 * (x.1.toInt * x.2.toInt))).sum
    let c := l.foldl (fun c x => kMul .mac c x.1 x.2) 0
    c = BitVec.ofInt 56 z ∧ (-2 ^ 55 ≤ z → z < 2 ^ 55 → c.toInt = z) ∧ (l.length ≤ 255 → -2 ^ 55 ≤ z ∧ z < 2 ^ 55))
  ∧ (∀ (c a : BitVec 56), kAcb .adda c a = c + a ∧ kAcb .suba c a = c - a ∧ kAcb .mova c a = a)
  ∧ (∀ (c : BitVec 56) (a b : BitVec 24), kMul .msu (kMul .mac c a b) a b = c ∧ kMul .msui (kMul .maci c a b) a b = c)

/-- An instruction that goes on leaves every other core, the banks and everything else of the machine as it was (13
R496, 13 R505, 13 R533). -/
def Obligations.KernelRowsTouchOneCore : Prop :=
  ∀ (k : Fin 16) i c1 pc taken cycles s, let x := kComplete (coreOf s k) (kWrites i) c1 pc taken cycles
    x.2 = none → ¬ (x.1.stopDue = true ∧ x.1.rep = none) →
    let t := retire k i c1 pc taken cycles s
    coreOf t k = x.1 ∧ (∀ j, j ≠ k.val → coreOf t j = coreOf s j) ∧ { t with kernels := s.kernels } = s
    ∧ t.kernels.spares = s.kernels.spares ∧ x.1.prog = c1.prog ∧ x.1.segs = c1.segs ∧ x.1.gen = c1.gen ∧ x.1.image = c1.image
    ∧ x.1.dmem = c1.dmem ∧ x.1.posted = c1.posted
end

