-- ==== Sys2Proof/Laws/Tab.lean ====
section
/-! SUPPORT. Sparse tables, said once: what reads back after a write, and that every operation keeps the canonical form. -/
namespace Sys2Proof.Laws

open Sys2Proof.Machine

variable {α : Type}

/-! ### Reading back -/

theorem tget_terase_self (d : α) (t : Tab α) (i : Nat) : tget d (terase t i) i = d := by
  induction t with
  | nil => rfl
  | cons h t ih =>
    obtain ⟨k, v⟩ := h
    by_cases e : i = k
    · subst e; simp [terase, ih]
    · simp [terase, tget, e, ih]

theorem tget_terase_ne (d : α) (t : Tab α) {i j : Nat} (h : j ≠ i) : tget d (terase t i) j = tget d t j := by
  induction t with
  | nil => rfl
  | cons x t ih =>
    obtain ⟨k, v⟩ := x
    by_cases e : i = k
    · subst e; simp [terase, tget, h, ih]
    · simp [terase, tget, e, ih]

theorem tget_tput_self (d : α) (t : Tab α) (i : Nat) (v : α) : tget d (tput t i v) i = v := by
  induction t with
  | nil => simp [tput, tget]
  | cons x t ih =>
    obtain ⟨k, w⟩ := x
    by_cases h1 : i < k
    · simp [tput, tget, h1]
    · by_cases h2 : i = k <;> simp [tput, tget, h1, h2, ih]

theorem tget_tput_ne (d : α) (t : Tab α) {i j : Nat} (v : α) (h : j ≠ i) : tget d (tput t i v) j = tget d t j := by
  induction t with
  | nil => simp [tput, tget, h]
  | cons x t ih =>
    obtain ⟨k, w⟩ := x
    by_cases h1 : i < k
    · simp [tput, tget, h1, h]
    · by_cases h2 : i = k
      · subst h2; simp [tput, tget, h]
      · simp [tput, tget, h1, h2, ih]

variable [DecidableEq α]

/-- A read after a write to the same index gives the value written. -/
@[simp] theorem tget_tset_self (d : α) (t : Tab α) (i : Nat) (v : α) : tget d (tset d t i v) i = v := by
  unfold tset; split
  · rw [tget_terase_self]; exact Eq.symm ‹_›
  · exact tget_tput_self d t i v

/-- A write leaves every other index alone. -/
theorem tget_tset_ne (d : α) (t : Tab α) {i j : Nat} (v : α) (h : j ≠ i) : tget d (tset d t i v) j = tget d t j := by
  unfold tset; split
  · exact tget_terase_ne d t h
  · exact tget_tput_ne d t v h

@[simp] theorem tget_tmod_self (d : α) (t : Tab α) (i : Nat) (f : α → α) : tget d (tmod d t i f) i = f (tget d t i) :=
  tget_tset_self d t i _

theorem tget_tmod_ne (d : α) (t : Tab α) {i j : Nat} (f : α → α) (h : j ≠ i) : tget d (tmod d t i f) j = tget d t j :=
  tget_tset_ne d t _ h

/-- A run of writes leaves every index outside it alone. -/
theorem tget_tsetMany_out (d : α) (t : Tab α) (i : Nat) (vs : List α) {j : Nat} (h : j < i ∨ i + vs.length ≤ j) :
    tget d (tsetMany d t i vs) j = tget d t j := by
  induction vs generalizing t i with
  | nil => rfl
  | cons v vs ih =>
    simp only [List.length_cons] at h
    unfold tsetMany
    rw [ih _ _ (by omega), tget_tset_ne d t v (by omega)]

/-- A run of writes gives each index inside it its value. -/
theorem tget_tsetMany_in (d : α) (t : Tab α) (i : Nat) (vs : List α) {j : Nat} (h : i ≤ j ∧ j < i + vs.length) :
    tget d (tsetMany d t i vs) j = vs.getD (j - i) d := by
  induction vs generalizing t i with
  | nil => simp at h; omega
  | cons v vs ih =>
    simp only [List.length_cons] at h
    unfold tsetMany
    by_cases e : j = i
    · subst e; rw [tget_tsetMany_out d _ _ _ (by omega)]; simp
    · rw [ih _ _ (by omega)]
      obtain ⟨n, rfl⟩ : ∃ n, j = i + n + 1 := ⟨j - i - 1, by omega⟩
      rw [show i + n + 1 - (i + 1) = n by omega, show i + n + 1 - i = n + 1 by omega]
      rfl

/-! ### The canonical form -/

/-- Every index of the table is at least `n`. -/
def Above (n : Nat) (t : Tab α) : Prop := ∀ x ∈ t, n ≤ x.1

theorem tabWf_cons (d : α) (k : Nat) (v : α) (t : Tab α) :
    tabWf d ((k, v) :: t) = true ↔ v ≠ d ∧ Above (k + 1) t ∧ tabWf d t = true := by
  induction t generalizing k v with
  | nil => simp [tabWf, Above]
  | cons x t ih =>
    obtain ⟨j, w⟩ := x
    simp only [tabWf, Bool.and_eq_true, decide_eq_true_eq, bne_iff_ne, ne_eq]
    constructor
    · rintro ⟨⟨h1, h2⟩, h3⟩
      refine ⟨h2, ?_, h3⟩
      have := ((ih j w).1 h3).2.1
      rintro y (_ | ⟨_, hy⟩)
      · exact h1
      · have := this y hy; omega
    · rintro ⟨h1, h2, h3⟩
      exact ⟨⟨h2 (j, w) (List.mem_cons_self ..), h1⟩, h3⟩

omit [DecidableEq α] in
theorem above_terase {n : Nat} {t : Tab α} (i : Nat) (h : Above n t) : Above n (terase t i) := by
  induction t with
  | nil => exact h
  | cons x t ih =>
    obtain ⟨k, v⟩ := x
    have ht := ih (fun y hy => h y (List.mem_cons_of_mem _ hy))
    unfold terase; split
    · exact ht
    · rintro y (_ | ⟨_, hy⟩)
      · exact h _ (List.mem_cons_self ..)
      · exact ht y hy

omit [DecidableEq α] in
theorem above_tput {n : Nat} {t : Tab α} {i : Nat} (v : α) (hi : n ≤ i) (h : Above n t) : Above n (tput t i v) := by
  induction t with
  | nil => intro y hy; simp [tput] at hy; subst hy; exact hi
  | cons x t ih =>
    obtain ⟨k, w⟩ := x
    have hk : n ≤ k := h (k, w) (List.mem_cons_self ..)
    have ht : Above n t := fun y hy => h y (List.mem_cons_of_mem _ hy)
    unfold tput; split
    · rintro y (_ | ⟨_, hy⟩)
      · exact hi
      · exact h y hy
    · split
      · rintro y (_ | ⟨_, hy⟩)
        · exact hi
        · exact ht y hy
      · rintro y (_ | ⟨_, hy⟩)
        · exact hk
        · exact ih ht y hy

theorem tabWf_terase (d : α) (t : Tab α) (i : Nat) (h : tabWf d t = true) : tabWf d (terase t i) = true := by
  induction t with
  | nil => exact h
  | cons x t ih =>
    obtain ⟨k, v⟩ := x
    obtain ⟨h1, h2, h3⟩ := (tabWf_cons ..).1 h
    unfold terase; split
    · exact ih h3
    · exact (tabWf_cons ..).2 ⟨h1, above_terase i h2, ih h3⟩

theorem tabWf_tput (d : α) (t : Tab α) (i : Nat) (v : α) (hv : v ≠ d) (h : tabWf d t = true) : tabWf d (tput t i v) = true := by
  induction t with
  | nil => simp [tput, tabWf, hv]
  | cons x t ih =>
    obtain ⟨k, w⟩ := x
    obtain ⟨h1, h2, h3⟩ := (tabWf_cons ..).1 h
    unfold tput; split
    · refine (tabWf_cons ..).2 ⟨hv, ?_, h⟩
      rintro y (_ | ⟨_, hy⟩)
      · show i + 1 ≤ k; omega
      · have := h2 y hy; omega
    · split
      · subst_vars; exact (tabWf_cons ..).2 ⟨hv, h2, h3⟩
      · exact (tabWf_cons ..).2 ⟨h1, above_tput v (by omega) h2, ih h3⟩

/-- A write keeps the canonical form. -/
theorem tabWf_tset (d : α) (t : Tab α) (i : Nat) (v : α) (h : tabWf d t = true) : tabWf d (tset d t i v) = true := by
  unfold tset; split
  · exact tabWf_terase d t i h
  · exact tabWf_tput d t i v ‹_› h

/-- A run of writes keeps the canonical form. -/
theorem tabWf_tsetMany (d : α) (t : Tab α) (i : Nat) (vs : List α) (h : tabWf d t = true) :
    tabWf d (tsetMany d t i vs) = true := by
  induction vs generalizing t i with
  | nil => exact h
  | cons v vs ih => exact ih _ _ (tabWf_tset d t i v h)

/-- Dropping entries keeps the canonical form. -/
theorem tabWf_filter (d : α) (t : Tab α) (p : Nat × α → Bool) (h : tabWf d t = true) : tabWf d (t.filter p) = true := by
  induction t with
  | nil => exact h
  | cons x t ih =>
    obtain ⟨k, v⟩ := x
    obtain ⟨h1, h2, h3⟩ := (tabWf_cons ..).1 h
    rw [List.filter_cons]; split
    · exact (tabWf_cons ..).2 ⟨h1, fun y hy => h2 y (List.mem_filter.1 hy).1, ih h3⟩
    · exact ih h3

end Sys2Proof.Laws
end

