-- ==== Sys2Proof/Laws/Sending.lean ====
section
/-! SUPPORT. What sending a message, logging an error and finishing a command can do, said once: they change the queues, counters and
sequence numbers of ports, the rings and interrupt flags of PCIe, and the error log, and nothing else. -/
namespace Sys2Proof.Laws

open Sys2Proof.Machine Sys2Proof.Safety

/-! ### One port, one ring, one slot -/

theorem portIdx_inj {p q : HostPort} (h : portIdx p = portIdx q) : p = q := by
  cases p <;> cases q <;> first | rfl | exact absurd h (by decide)

@[simp] theorem portOf_modPort_self (p : HostPort) (f : PortState → PortState) (s : State) :
    portOf (modPort p f s) p = f (portOf s p) := by
  simp [portOf, modPort]

theorem portOf_modPort_ne {p q : HostPort} (f : PortState → PortState) (s : State) (h : q ≠ p) :
    portOf (modPort p f s) q = portOf s q := by
  simp only [portOf, modPort]
  exact tget_tmod_ne _ _ _ (fun e => h (portIdx_inj e))

@[simp] theorem ringOf_modRing_self (n : Nat) (f : Ring → Ring) (s : State) : ringOf (modRing n f s) n = f (ringOf s n) := by
  simp [ringOf, modRing]

theorem ringOf_modRing_ne {n m : Nat} (f : Ring → Ring) (s : State) (h : m ≠ n) : ringOf (modRing n f s) m = ringOf s m := by
  simp only [ringOf, modRing]
  exact tget_tmod_ne _ _ _ h

@[simp] theorem portOf_modRing (n : Nat) (f : Ring → Ring) (s : State) (q : HostPort) : portOf (modRing n f s) q = portOf s q := rfl
@[simp] theorem ringOf_modPort (p : HostPort) (f : PortState → PortState) (s : State) (n : Nat) : ringOf (modPort p f s) n = ringOf s n := rfl

@[simp] theorem slotOf_modSlot_self (k : Nat) (f : KeySlot → KeySlot) (s : State) : slotOf (modSlot k f s) k = f (slotOf s k) := by
  simp [slotOf, modSlot]

theorem slotOf_modSlot_ne {k j : Nat} (f : KeySlot → KeySlot) (s : State) (h : j ≠ k) : slotOf (modSlot k f s) j = slotOf s j := by
  simp only [slotOf, modSlot]
  exact tget_tmod_ne _ _ _ h

/-! ### What sending can do -/

/-- A port but for what sending changes. -/
def portInput (x : PortState) : PortState := { x with msgSeq := 0, outq := [], drops := 0, dropArmed := true, cache := [] }

/-- From `s` to `t` nothing happened but sending and logging. -/
structure Sends (s t : State) : Prop where
  quiet : quiet t = quiet s
  input : ∀ q, portInput (portOf t q) = portInput (portOf s q)
  cache : ∀ q, (portOf t q).cache = (portOf s q).cache

theorem Sends.refl (s : State) : Sends s s := ⟨rfl, fun _ => rfl, fun _ => rfl⟩

theorem Sends.trans {s t u : State} (h : Sends s t) (g : Sends t u) : Sends s u :=
  ⟨g.quiet.trans h.quiet, fun q => (g.input q).trans (h.input q), fun q => (g.cache q).trans (h.cache q)⟩

/-- Folding a function that only sends only sends. -/
theorem Sends.fold {α : Type} (f : α → State → State) (h : ∀ a s, Sends s (f a s)) (l : List α) (s : State) :
    Sends s (foldS f l s) := by
  unfold foldS
  induction l generalizing s with
  | nil => exact .refl s
  | cons a l ih => exact (h a s).trans (ih _)

theorem sends_modPort (p : HostPort) (f : PortState → PortState) (s : State) (h : ∀ x, portInput (f x) = portInput x)
    (hc : ∀ x, (f x).cache = x.cache) : Sends s (modPort p f s) := by
  refine ⟨rfl, fun q => ?_, fun q => ?_⟩ <;> by_cases hq : q = p
  · subst hq; simp [h]
  · rw [portOf_modPort_ne _ _ hq]
  · subst hq; simp [hc]
  · rw [portOf_modPort_ne _ _ hq]

theorem sends_modRing (n : Nat) (f : Ring → Ring) (s : State) : Sends s (modRing n f s) := ⟨rfl, fun _ => rfl, fun _ => rfl⟩

theorem sends_takeSeq (p : HostPort) (s : State) : Sends s (takeSeq p s) := sends_modPort _ _ _ (fun _ => rfl) (fun _ => rfl)

theorem sends_sendVector (v : Nat) (s : State) : Sends s (sendVector v s) := by
  unfold sendVector; split <;> exact ⟨rfl, fun _ => rfl, fun _ => rfl⟩

theorem sends_raiseIrq (b : Nat) (s : State) : Sends s (raiseIrq b s) := by
  unfold raiseIrq setIrq; dsimp only
  refine Sends.trans ?_ (Sends.fold _ (fun _ _ => sends_sendVector _ _) _ _)
  exact ⟨rfl, fun _ => rfl, fun _ => rfl⟩

theorem sends_faultEdge (b : Bool) (s : State) : Sends s (faultEdge b s) := by
  unfold faultEdge; split
  · exact sends_raiseIrq _ _
  · exact .refl s

theorem sends_commitTo (m : Msg) (p : HostPort) (ring : Nat) (pl : List Byte) (s : State) :
    Sends s (commitTo m p ring pl s).1 := by
  have d : ∀ t : State, Sends t (if m.class1 then modPort p (fun x => { x with dropArmed := false }) t else t) := by
    intro t; split
    · exact sends_modPort _ _ _ (fun _ => rfl) (fun _ => rfl)
    · exact .refl t
  have r : ∀ (t : State) (ring : Nat) f, Sends t (modRing ring f t) := fun t ring f => sends_modRing _ _ _
  have q : ∀ (t : State) (o : PortState → List QItem) (n : PortState → Nat),
      Sends t (modPort p (fun y => { y with outq := o y, drops := n y }) t) :=
    fun t o n => sends_modPort _ _ _ (fun _ => rfl) (fun _ => rfl)
  unfold commitTo; dsimp only
  have a := (sends_takeSeq p s)
  generalize takeSeq p s = t at *
  split
  · exact a
  refine Sends.trans a ?_
  have d' : ∀ u : State, Sends t u → Sends t (if m.class1 then modPort p (fun x => { x with dropArmed := false }) u else u) :=
    fun u h => h.trans (d u)
  generalize (if m.class1 = true then 1 else 2) = cl
  cases p <;> dsimp only [] <;> (generalize acceptMsg _ _ _ = x) <;> split
  all_goals first | with_reducible exact .refl t | skip
  all_goals rcases hx : x.2.1 with _ | _
  all_goals try simp only [Bool.false_eq_true, if_false, if_true]
  all_goals first
    | with_reducible exact q _ _ _
    | with_reducible exact d' _ (q _ _ _)
    | skip
  all_goals split
  all_goals first
    | with_reducible exact r _ _ _
    | with_reducible exact d' _ (r _ _ _)

theorem sends_commitPorts (m : Msg) (ring : Nat) (ps : List HostPort) (s : State) : Sends s (commitPorts m ring ps s).1 := by
  induction ps generalizing s with
  | nil => exact .refl s
  | cons p ps ih =>
    unfold commitPorts
    split
    · exact ih s
    · exact (sends_commitTo _ _ _ _ _).trans (ih _)

theorem sends_logFuel (n code sev cls inst : Nat) (s : State) : Sends s (logFuel n code sev cls inst s) := by
  induction n generalizing code sev cls inst s with
  | zero => exact .refl s
  | succ n ih =>
    have a : ∀ l : ErrLog, Sends s (faultEdge (faultAsserted s) { s with errlog := l }) := by
      intro l
      refine Sends.trans ?_ (sends_faultEdge _ _)
      exact ⟨rfl, fun _ => rfl, fun _ => rfl⟩
    unfold logFuel; dsimp only
    (repeat' split) <;>
      first
        | exact a _
        | exact ((a _).trans (sends_commitPorts _ _ _ _)).trans (Sends.fold _ (fun _ _ => ih _ _ _ _ _) _ _)

/-- Logging an error only sends and logs. -/
theorem sends_logErr (code sev cls inst : Nat) (s : State) : Sends s (logErr code sev cls inst s) := sends_logFuel _ _ _ _ _ _

theorem sends_postToPorts (m : Msg) (ps : List HostPort) (s : State) : Sends s (postToPorts m ps s) := by
  unfold postToPorts; split
  · exact (sends_commitPorts _ _ _ _).trans (Sends.fold _ (fun _ _ => sends_logErr _ _ _ _ _) _ _)
  · exact .refl s

/-- Committing a message only sends and logs. -/
theorem sends_post (m : Msg) (s : State) : Sends s (post m s) := sends_postToPorts _ _ _

theorem sends_postStatus (cls inst : Nat) (pl : List Byte) (s : State) : Sends s (postStatus cls inst pl s) := sends_post _ _

theorem sends_queueReply (p : HostPort) (bs : List Byte) (s : State) : Sends s (queueReply p bs s) := by
  cases p <;> first | exact sends_modRing _ _ _ | exact sends_modPort _ _ _ (fun _ => rfl) (fun _ => rfl)

theorem sends_logReject (op : Nat) (p : Packet) (st : Status) (s : State) : Sends s (logReject op p st s) := by
  cases st <;> first | exact .refl s | exact sends_logErr _ _ _ _ _

/-- Finishing a command only sends, logs and enters its reply into its port's cache. -/
theorem finish_sends (op : Nat) (p : Packet) (st : Status) (chain : Nat) (pl : List Byte) (key : Option (List Byte)) (s : State) :
    Same (finish op p st chain pl key s) s ∧ ∀ q, portInput (portOf (finish op p st chain pl key s) q) = portInput (portOf s q) := by
  have a := sends_logReject op p st s
  have c : ∀ (e : CacheEntry) (t : State), quiet (cachePut p.port e t) = quiet t
      ∧ ∀ q, portInput (portOf (cachePut p.port e t) q) = portInput (portOf t q) := by
    intro e t
    refine ⟨rfl, fun q => ?_⟩
    unfold cachePut
    by_cases hq : q = p.port
    · subst hq; simp [portInput]
    · rw [portOf_modPort_ne _ _ hq]
  unfold finish; dsimp only
  refine ⟨?_, fun q => ?_⟩
  · unfold Same
    split <;> split <;> first
      | exact ((sends_queueReply _ _ _).quiet.trans a.quiet)
      | exact a.quiet
      | exact ((sends_queueReply _ _ _).quiet.trans ((c _ _).1.trans a.quiet))
      | exact (c _ _).1.trans a.quiet
  · split <;> split <;> first
      | exact ((sends_queueReply _ _ _).input q).trans (a.input q)
      | exact a.input q
      | exact ((sends_queueReply _ _ _).input q).trans (((c _ _).2 q).trans (a.input q))
      | exact ((c _ _).2 q).trans (a.input q)

end Sys2Proof.Laws
end

