-- ==== Sys2Proof/Laws/State.lean ====
section
/-! SUPPORT. The updates of one entry of the machine, said once: each changes its own group of the state and no other. -/
namespace Sys2Proof.Laws

open Sys2Proof.Machine

/-! ### modPort changes ecsol -/

@[simp] theorem modPort_islands (p : HostPort) (f : PortState → PortState) (s : State) : (modPort p f s).islands = s.islands := rfl
@[simp] theorem modPort_profile (p : HostPort) (f : PortState → PortState) (s : State) : (modPort p f s).profile = s.profile := rfl
@[simp] theorem modPort_pcie (p : HostPort) (f : PortState → PortState) (s : State) : (modPort p f s).pcie = s.pcie := rfl
@[simp] theorem modPort_rates (p : HostPort) (f : PortState → PortState) (s : State) : (modPort p f s).rates = s.rates := rfl
@[simp] theorem modPort_apertures (p : HostPort) (f : PortState → PortState) (s : State) : (modPort p f s).apertures = s.apertures := rfl
@[simp] theorem modPort_front (p : HostPort) (f : PortState → PortState) (s : State) : (modPort p f s).front = s.front := rfl
@[simp] theorem modPort_acq (p : HostPort) (f : PortState → PortState) (s : State) : (modPort p f s).acq = s.acq := rfl
@[simp] theorem modPort_chans (p : HostPort) (f : PortState → PortState) (s : State) : (modPort p f s).chans = s.chans := rfl
@[simp] theorem modPort_burst (p : HostPort) (f : PortState → PortState) (s : State) : (modPort p f s).burst = s.burst := rfl
@[simp] theorem modPort_cal (p : HostPort) (f : PortState → PortState) (s : State) : (modPort p f s).cal = s.cal := rfl
@[simp] theorem modPort_meas (p : HostPort) (f : PortState → PortState) (s : State) : (modPort p f s).meas = s.meas := rfl
@[simp] theorem modPort_banks (p : HostPort) (f : PortState → PortState) (s : State) : (modPort p f s).banks = s.banks := rfl
@[simp] theorem modPort_bankMem (p : HostPort) (f : PortState → PortState) (s : State) : (modPort p f s).bankMem = s.bankMem := rfl
@[simp] theorem modPort_poison (p : HostPort) (f : PortState → PortState) (s : State) : (modPort p f s).poison = s.poison := rfl
@[simp] theorem modPort_scrub (p : HostPort) (f : PortState → PortState) (s : State) : (modPort p f s).scrub = s.scrub := rfl
@[simp] theorem modPort_kernels (p : HostPort) (f : PortState → PortState) (s : State) : (modPort p f s).kernels = s.kernels := rfl
@[simp] theorem modPort_security (p : HostPort) (f : PortState → PortState) (s : State) : (modPort p f s).security = s.security := rfl
@[simp] theorem modPort_errlog (p : HostPort) (f : PortState → PortState) (s : State) : (modPort p f s).errlog = s.errlog := rfl
@[simp] theorem modPort_power (p : HostPort) (f : PortState → PortState) (s : State) : (modPort p f s).power = s.power := rfl
@[simp] theorem modPort_nunar (p : HostPort) (f : PortState → PortState) (s : State) : (modPort p f s).nunar = s.nunar := rfl
@[simp] theorem modPort_clk (p : HostPort) (f : PortState → PortState) (s : State) : (modPort p f s).clk = s.clk := rfl
@[simp] theorem modPort_link (p : HostPort) (f : PortState → PortState) (s : State) : (modPort p f s).link = s.link := rfl
@[simp] theorem modPort_bst (p : HostPort) (f : PortState → PortState) (s : State) : (modPort p f s).bst = s.bst := rfl
@[simp] theorem modPort_nav (p : HostPort) (f : PortState → PortState) (s : State) : (modPort p f s).nav = s.nav := rfl
@[simp] theorem modPort_ms (p : HostPort) (f : PortState → PortState) (s : State) : (modPort p f s).ms = s.ms := rfl
@[simp] theorem modPort_epochMs (p : HostPort) (f : PortState → PortState) (s : State) : (modPort p f s).epochMs = s.epochMs := rfl
@[simp] theorem modPort_measMs (p : HostPort) (f : PortState → PortState) (s : State) : (modPort p f s).measMs = s.measMs := rfl
@[simp] theorem modPort_pending (p : HostPort) (f : PortState → PortState) (s : State) : (modPort p f s).pending = s.pending := rfl

/-! ### modRing changes pcie -/

@[simp] theorem modRing_islands (n : Nat) (f : Ring → Ring) (s : State) : (modRing n f s).islands = s.islands := rfl
@[simp] theorem modRing_profile (n : Nat) (f : Ring → Ring) (s : State) : (modRing n f s).profile = s.profile := rfl
@[simp] theorem modRing_ecsol (n : Nat) (f : Ring → Ring) (s : State) : (modRing n f s).ecsol = s.ecsol := rfl
@[simp] theorem modRing_rates (n : Nat) (f : Ring → Ring) (s : State) : (modRing n f s).rates = s.rates := rfl
@[simp] theorem modRing_apertures (n : Nat) (f : Ring → Ring) (s : State) : (modRing n f s).apertures = s.apertures := rfl
@[simp] theorem modRing_front (n : Nat) (f : Ring → Ring) (s : State) : (modRing n f s).front = s.front := rfl
@[simp] theorem modRing_acq (n : Nat) (f : Ring → Ring) (s : State) : (modRing n f s).acq = s.acq := rfl
@[simp] theorem modRing_chans (n : Nat) (f : Ring → Ring) (s : State) : (modRing n f s).chans = s.chans := rfl
@[simp] theorem modRing_burst (n : Nat) (f : Ring → Ring) (s : State) : (modRing n f s).burst = s.burst := rfl
@[simp] theorem modRing_cal (n : Nat) (f : Ring → Ring) (s : State) : (modRing n f s).cal = s.cal := rfl
@[simp] theorem modRing_meas (n : Nat) (f : Ring → Ring) (s : State) : (modRing n f s).meas = s.meas := rfl
@[simp] theorem modRing_banks (n : Nat) (f : Ring → Ring) (s : State) : (modRing n f s).banks = s.banks := rfl
@[simp] theorem modRing_bankMem (n : Nat) (f : Ring → Ring) (s : State) : (modRing n f s).bankMem = s.bankMem := rfl
@[simp] theorem modRing_poison (n : Nat) (f : Ring → Ring) (s : State) : (modRing n f s).poison = s.poison := rfl
@[simp] theorem modRing_scrub (n : Nat) (f : Ring → Ring) (s : State) : (modRing n f s).scrub = s.scrub := rfl
@[simp] theorem modRing_kernels (n : Nat) (f : Ring → Ring) (s : State) : (modRing n f s).kernels = s.kernels := rfl
@[simp] theorem modRing_security (n : Nat) (f : Ring → Ring) (s : State) : (modRing n f s).security = s.security := rfl
@[simp] theorem modRing_errlog (n : Nat) (f : Ring → Ring) (s : State) : (modRing n f s).errlog = s.errlog := rfl
@[simp] theorem modRing_power (n : Nat) (f : Ring → Ring) (s : State) : (modRing n f s).power = s.power := rfl
@[simp] theorem modRing_nunar (n : Nat) (f : Ring → Ring) (s : State) : (modRing n f s).nunar = s.nunar := rfl
@[simp] theorem modRing_clk (n : Nat) (f : Ring → Ring) (s : State) : (modRing n f s).clk = s.clk := rfl
@[simp] theorem modRing_link (n : Nat) (f : Ring → Ring) (s : State) : (modRing n f s).link = s.link := rfl
@[simp] theorem modRing_bst (n : Nat) (f : Ring → Ring) (s : State) : (modRing n f s).bst = s.bst := rfl
@[simp] theorem modRing_nav (n : Nat) (f : Ring → Ring) (s : State) : (modRing n f s).nav = s.nav := rfl
@[simp] theorem modRing_ms (n : Nat) (f : Ring → Ring) (s : State) : (modRing n f s).ms = s.ms := rfl
@[simp] theorem modRing_epochMs (n : Nat) (f : Ring → Ring) (s : State) : (modRing n f s).epochMs = s.epochMs := rfl
@[simp] theorem modRing_measMs (n : Nat) (f : Ring → Ring) (s : State) : (modRing n f s).measMs = s.measMs := rfl
@[simp] theorem modRing_pending (n : Nat) (f : Ring → Ring) (s : State) : (modRing n f s).pending = s.pending := rfl

/-! ### modSlot changes security -/

@[simp] theorem modSlot_islands (k : Nat) (f : KeySlot → KeySlot) (s : State) : (modSlot k f s).islands = s.islands := rfl
@[simp] theorem modSlot_profile (k : Nat) (f : KeySlot → KeySlot) (s : State) : (modSlot k f s).profile = s.profile := rfl
@[simp] theorem modSlot_ecsol (k : Nat) (f : KeySlot → KeySlot) (s : State) : (modSlot k f s).ecsol = s.ecsol := rfl
@[simp] theorem modSlot_pcie (k : Nat) (f : KeySlot → KeySlot) (s : State) : (modSlot k f s).pcie = s.pcie := rfl
@[simp] theorem modSlot_rates (k : Nat) (f : KeySlot → KeySlot) (s : State) : (modSlot k f s).rates = s.rates := rfl
@[simp] theorem modSlot_apertures (k : Nat) (f : KeySlot → KeySlot) (s : State) : (modSlot k f s).apertures = s.apertures := rfl
@[simp] theorem modSlot_front (k : Nat) (f : KeySlot → KeySlot) (s : State) : (modSlot k f s).front = s.front := rfl
@[simp] theorem modSlot_acq (k : Nat) (f : KeySlot → KeySlot) (s : State) : (modSlot k f s).acq = s.acq := rfl
@[simp] theorem modSlot_chans (k : Nat) (f : KeySlot → KeySlot) (s : State) : (modSlot k f s).chans = s.chans := rfl
@[simp] theorem modSlot_burst (k : Nat) (f : KeySlot → KeySlot) (s : State) : (modSlot k f s).burst = s.burst := rfl
@[simp] theorem modSlot_cal (k : Nat) (f : KeySlot → KeySlot) (s : State) : (modSlot k f s).cal = s.cal := rfl
@[simp] theorem modSlot_meas (k : Nat) (f : KeySlot → KeySlot) (s : State) : (modSlot k f s).meas = s.meas := rfl
@[simp] theorem modSlot_banks (k : Nat) (f : KeySlot → KeySlot) (s : State) : (modSlot k f s).banks = s.banks := rfl
@[simp] theorem modSlot_bankMem (k : Nat) (f : KeySlot → KeySlot) (s : State) : (modSlot k f s).bankMem = s.bankMem := rfl
@[simp] theorem modSlot_poison (k : Nat) (f : KeySlot → KeySlot) (s : State) : (modSlot k f s).poison = s.poison := rfl
@[simp] theorem modSlot_scrub (k : Nat) (f : KeySlot → KeySlot) (s : State) : (modSlot k f s).scrub = s.scrub := rfl
@[simp] theorem modSlot_kernels (k : Nat) (f : KeySlot → KeySlot) (s : State) : (modSlot k f s).kernels = s.kernels := rfl
@[simp] theorem modSlot_errlog (k : Nat) (f : KeySlot → KeySlot) (s : State) : (modSlot k f s).errlog = s.errlog := rfl
@[simp] theorem modSlot_power (k : Nat) (f : KeySlot → KeySlot) (s : State) : (modSlot k f s).power = s.power := rfl
@[simp] theorem modSlot_nunar (k : Nat) (f : KeySlot → KeySlot) (s : State) : (modSlot k f s).nunar = s.nunar := rfl
@[simp] theorem modSlot_clk (k : Nat) (f : KeySlot → KeySlot) (s : State) : (modSlot k f s).clk = s.clk := rfl
@[simp] theorem modSlot_link (k : Nat) (f : KeySlot → KeySlot) (s : State) : (modSlot k f s).link = s.link := rfl
@[simp] theorem modSlot_bst (k : Nat) (f : KeySlot → KeySlot) (s : State) : (modSlot k f s).bst = s.bst := rfl
@[simp] theorem modSlot_nav (k : Nat) (f : KeySlot → KeySlot) (s : State) : (modSlot k f s).nav = s.nav := rfl
@[simp] theorem modSlot_ms (k : Nat) (f : KeySlot → KeySlot) (s : State) : (modSlot k f s).ms = s.ms := rfl
@[simp] theorem modSlot_epochMs (k : Nat) (f : KeySlot → KeySlot) (s : State) : (modSlot k f s).epochMs = s.epochMs := rfl
@[simp] theorem modSlot_measMs (k : Nat) (f : KeySlot → KeySlot) (s : State) : (modSlot k f s).measMs = s.measMs := rfl
@[simp] theorem modSlot_pending (k : Nat) (f : KeySlot → KeySlot) (s : State) : (modSlot k f s).pending = s.pending := rfl

/-! ### modBst changes bst -/

@[simp] theorem modBst_islands (b : Nat) (f : BstBlock → BstBlock) (s : State) : (modBst b f s).islands = s.islands := rfl
@[simp] theorem modBst_profile (b : Nat) (f : BstBlock → BstBlock) (s : State) : (modBst b f s).profile = s.profile := rfl
@[simp] theorem modBst_ecsol (b : Nat) (f : BstBlock → BstBlock) (s : State) : (modBst b f s).ecsol = s.ecsol := rfl
@[simp] theorem modBst_pcie (b : Nat) (f : BstBlock → BstBlock) (s : State) : (modBst b f s).pcie = s.pcie := rfl
@[simp] theorem modBst_rates (b : Nat) (f : BstBlock → BstBlock) (s : State) : (modBst b f s).rates = s.rates := rfl
@[simp] theorem modBst_apertures (b : Nat) (f : BstBlock → BstBlock) (s : State) : (modBst b f s).apertures = s.apertures := rfl
@[simp] theorem modBst_front (b : Nat) (f : BstBlock → BstBlock) (s : State) : (modBst b f s).front = s.front := rfl
@[simp] theorem modBst_acq (b : Nat) (f : BstBlock → BstBlock) (s : State) : (modBst b f s).acq = s.acq := rfl
@[simp] theorem modBst_chans (b : Nat) (f : BstBlock → BstBlock) (s : State) : (modBst b f s).chans = s.chans := rfl
@[simp] theorem modBst_burst (b : Nat) (f : BstBlock → BstBlock) (s : State) : (modBst b f s).burst = s.burst := rfl
@[simp] theorem modBst_cal (b : Nat) (f : BstBlock → BstBlock) (s : State) : (modBst b f s).cal = s.cal := rfl
@[simp] theorem modBst_meas (b : Nat) (f : BstBlock → BstBlock) (s : State) : (modBst b f s).meas = s.meas := rfl
@[simp] theorem modBst_banks (b : Nat) (f : BstBlock → BstBlock) (s : State) : (modBst b f s).banks = s.banks := rfl
@[simp] theorem modBst_bankMem (b : Nat) (f : BstBlock → BstBlock) (s : State) : (modBst b f s).bankMem = s.bankMem := rfl
@[simp] theorem modBst_poison (b : Nat) (f : BstBlock → BstBlock) (s : State) : (modBst b f s).poison = s.poison := rfl
@[simp] theorem modBst_scrub (b : Nat) (f : BstBlock → BstBlock) (s : State) : (modBst b f s).scrub = s.scrub := rfl
@[simp] theorem modBst_kernels (b : Nat) (f : BstBlock → BstBlock) (s : State) : (modBst b f s).kernels = s.kernels := rfl
@[simp] theorem modBst_security (b : Nat) (f : BstBlock → BstBlock) (s : State) : (modBst b f s).security = s.security := rfl
@[simp] theorem modBst_errlog (b : Nat) (f : BstBlock → BstBlock) (s : State) : (modBst b f s).errlog = s.errlog := rfl
@[simp] theorem modBst_power (b : Nat) (f : BstBlock → BstBlock) (s : State) : (modBst b f s).power = s.power := rfl
@[simp] theorem modBst_nunar (b : Nat) (f : BstBlock → BstBlock) (s : State) : (modBst b f s).nunar = s.nunar := rfl
@[simp] theorem modBst_clk (b : Nat) (f : BstBlock → BstBlock) (s : State) : (modBst b f s).clk = s.clk := rfl
@[simp] theorem modBst_link (b : Nat) (f : BstBlock → BstBlock) (s : State) : (modBst b f s).link = s.link := rfl
@[simp] theorem modBst_nav (b : Nat) (f : BstBlock → BstBlock) (s : State) : (modBst b f s).nav = s.nav := rfl
@[simp] theorem modBst_ms (b : Nat) (f : BstBlock → BstBlock) (s : State) : (modBst b f s).ms = s.ms := rfl
@[simp] theorem modBst_epochMs (b : Nat) (f : BstBlock → BstBlock) (s : State) : (modBst b f s).epochMs = s.epochMs := rfl
@[simp] theorem modBst_measMs (b : Nat) (f : BstBlock → BstBlock) (s : State) : (modBst b f s).measMs = s.measMs := rfl
@[simp] theorem modBst_pending (b : Nat) (f : BstBlock → BstBlock) (s : State) : (modBst b f s).pending = s.pending := rfl

/-! ### modApr changes apertures -/

@[simp] theorem modApr_islands (a : Nat) (f : Aperture → Aperture) (s : State) : (modApr a f s).islands = s.islands := rfl
@[simp] theorem modApr_profile (a : Nat) (f : Aperture → Aperture) (s : State) : (modApr a f s).profile = s.profile := rfl
@[simp] theorem modApr_ecsol (a : Nat) (f : Aperture → Aperture) (s : State) : (modApr a f s).ecsol = s.ecsol := rfl
@[simp] theorem modApr_pcie (a : Nat) (f : Aperture → Aperture) (s : State) : (modApr a f s).pcie = s.pcie := rfl
@[simp] theorem modApr_rates (a : Nat) (f : Aperture → Aperture) (s : State) : (modApr a f s).rates = s.rates := rfl
@[simp] theorem modApr_front (a : Nat) (f : Aperture → Aperture) (s : State) : (modApr a f s).front = s.front := rfl
@[simp] theorem modApr_acq (a : Nat) (f : Aperture → Aperture) (s : State) : (modApr a f s).acq = s.acq := rfl
@[simp] theorem modApr_chans (a : Nat) (f : Aperture → Aperture) (s : State) : (modApr a f s).chans = s.chans := rfl
@[simp] theorem modApr_burst (a : Nat) (f : Aperture → Aperture) (s : State) : (modApr a f s).burst = s.burst := rfl
@[simp] theorem modApr_cal (a : Nat) (f : Aperture → Aperture) (s : State) : (modApr a f s).cal = s.cal := rfl
@[simp] theorem modApr_meas (a : Nat) (f : Aperture → Aperture) (s : State) : (modApr a f s).meas = s.meas := rfl
@[simp] theorem modApr_banks (a : Nat) (f : Aperture → Aperture) (s : State) : (modApr a f s).banks = s.banks := rfl
@[simp] theorem modApr_bankMem (a : Nat) (f : Aperture → Aperture) (s : State) : (modApr a f s).bankMem = s.bankMem := rfl
@[simp] theorem modApr_poison (a : Nat) (f : Aperture → Aperture) (s : State) : (modApr a f s).poison = s.poison := rfl
@[simp] theorem modApr_scrub (a : Nat) (f : Aperture → Aperture) (s : State) : (modApr a f s).scrub = s.scrub := rfl
@[simp] theorem modApr_kernels (a : Nat) (f : Aperture → Aperture) (s : State) : (modApr a f s).kernels = s.kernels := rfl
@[simp] theorem modApr_security (a : Nat) (f : Aperture → Aperture) (s : State) : (modApr a f s).security = s.security := rfl
@[simp] theorem modApr_errlog (a : Nat) (f : Aperture → Aperture) (s : State) : (modApr a f s).errlog = s.errlog := rfl
@[simp] theorem modApr_power (a : Nat) (f : Aperture → Aperture) (s : State) : (modApr a f s).power = s.power := rfl
@[simp] theorem modApr_nunar (a : Nat) (f : Aperture → Aperture) (s : State) : (modApr a f s).nunar = s.nunar := rfl
@[simp] theorem modApr_clk (a : Nat) (f : Aperture → Aperture) (s : State) : (modApr a f s).clk = s.clk := rfl
@[simp] theorem modApr_link (a : Nat) (f : Aperture → Aperture) (s : State) : (modApr a f s).link = s.link := rfl
@[simp] theorem modApr_bst (a : Nat) (f : Aperture → Aperture) (s : State) : (modApr a f s).bst = s.bst := rfl
@[simp] theorem modApr_nav (a : Nat) (f : Aperture → Aperture) (s : State) : (modApr a f s).nav = s.nav := rfl
@[simp] theorem modApr_ms (a : Nat) (f : Aperture → Aperture) (s : State) : (modApr a f s).ms = s.ms := rfl
@[simp] theorem modApr_epochMs (a : Nat) (f : Aperture → Aperture) (s : State) : (modApr a f s).epochMs = s.epochMs := rfl
@[simp] theorem modApr_measMs (a : Nat) (f : Aperture → Aperture) (s : State) : (modApr a f s).measMs = s.measMs := rfl
@[simp] theorem modApr_pending (a : Nat) (f : Aperture → Aperture) (s : State) : (modApr a f s).pending = s.pending := rfl

/-! ### modNotch changes apertures -/

@[simp] theorem modNotch_islands (a i n : Nat) (f : Notch → Notch) (s : State) : (modNotch a i n f s).islands = s.islands := rfl
@[simp] theorem modNotch_profile (a i n : Nat) (f : Notch → Notch) (s : State) : (modNotch a i n f s).profile = s.profile := rfl
@[simp] theorem modNotch_ecsol (a i n : Nat) (f : Notch → Notch) (s : State) : (modNotch a i n f s).ecsol = s.ecsol := rfl
@[simp] theorem modNotch_pcie (a i n : Nat) (f : Notch → Notch) (s : State) : (modNotch a i n f s).pcie = s.pcie := rfl
@[simp] theorem modNotch_rates (a i n : Nat) (f : Notch → Notch) (s : State) : (modNotch a i n f s).rates = s.rates := rfl
@[simp] theorem modNotch_front (a i n : Nat) (f : Notch → Notch) (s : State) : (modNotch a i n f s).front = s.front := rfl
@[simp] theorem modNotch_acq (a i n : Nat) (f : Notch → Notch) (s : State) : (modNotch a i n f s).acq = s.acq := rfl
@[simp] theorem modNotch_chans (a i n : Nat) (f : Notch → Notch) (s : State) : (modNotch a i n f s).chans = s.chans := rfl
@[simp] theorem modNotch_burst (a i n : Nat) (f : Notch → Notch) (s : State) : (modNotch a i n f s).burst = s.burst := rfl
@[simp] theorem modNotch_cal (a i n : Nat) (f : Notch → Notch) (s : State) : (modNotch a i n f s).cal = s.cal := rfl
@[simp] theorem modNotch_meas (a i n : Nat) (f : Notch → Notch) (s : State) : (modNotch a i n f s).meas = s.meas := rfl
@[simp] theorem modNotch_banks (a i n : Nat) (f : Notch → Notch) (s : State) : (modNotch a i n f s).banks = s.banks := rfl
@[simp] theorem modNotch_bankMem (a i n : Nat) (f : Notch → Notch) (s : State) : (modNotch a i n f s).bankMem = s.bankMem := rfl
@[simp] theorem modNotch_poison (a i n : Nat) (f : Notch → Notch) (s : State) : (modNotch a i n f s).poison = s.poison := rfl
@[simp] theorem modNotch_scrub (a i n : Nat) (f : Notch → Notch) (s : State) : (modNotch a i n f s).scrub = s.scrub := rfl
@[simp] theorem modNotch_kernels (a i n : Nat) (f : Notch → Notch) (s : State) : (modNotch a i n f s).kernels = s.kernels := rfl
@[simp] theorem modNotch_security (a i n : Nat) (f : Notch → Notch) (s : State) : (modNotch a i n f s).security = s.security := rfl
@[simp] theorem modNotch_errlog (a i n : Nat) (f : Notch → Notch) (s : State) : (modNotch a i n f s).errlog = s.errlog := rfl
@[simp] theorem modNotch_power (a i n : Nat) (f : Notch → Notch) (s : State) : (modNotch a i n f s).power = s.power := rfl
@[simp] theorem modNotch_nunar (a i n : Nat) (f : Notch → Notch) (s : State) : (modNotch a i n f s).nunar = s.nunar := rfl
@[simp] theorem modNotch_clk (a i n : Nat) (f : Notch → Notch) (s : State) : (modNotch a i n f s).clk = s.clk := rfl
@[simp] theorem modNotch_link (a i n : Nat) (f : Notch → Notch) (s : State) : (modNotch a i n f s).link = s.link := rfl
@[simp] theorem modNotch_bst (a i n : Nat) (f : Notch → Notch) (s : State) : (modNotch a i n f s).bst = s.bst := rfl
@[simp] theorem modNotch_nav (a i n : Nat) (f : Notch → Notch) (s : State) : (modNotch a i n f s).nav = s.nav := rfl
@[simp] theorem modNotch_ms (a i n : Nat) (f : Notch → Notch) (s : State) : (modNotch a i n f s).ms = s.ms := rfl
@[simp] theorem modNotch_epochMs (a i n : Nat) (f : Notch → Notch) (s : State) : (modNotch a i n f s).epochMs = s.epochMs := rfl
@[simp] theorem modNotch_measMs (a i n : Nat) (f : Notch → Notch) (s : State) : (modNotch a i n f s).measMs = s.measMs := rfl
@[simp] theorem modNotch_pending (a i n : Nat) (f : Notch → Notch) (s : State) : (modNotch a i n f s).pending = s.pending := rfl

/-! ### modCand changes acq -/

@[simp] theorem modCand_islands (c : Candidate) (f : Candidate → Candidate) (s : State) : (modCand c f s).islands = s.islands := rfl
@[simp] theorem modCand_profile (c : Candidate) (f : Candidate → Candidate) (s : State) : (modCand c f s).profile = s.profile := rfl
@[simp] theorem modCand_ecsol (c : Candidate) (f : Candidate → Candidate) (s : State) : (modCand c f s).ecsol = s.ecsol := rfl
@[simp] theorem modCand_pcie (c : Candidate) (f : Candidate → Candidate) (s : State) : (modCand c f s).pcie = s.pcie := rfl
@[simp] theorem modCand_rates (c : Candidate) (f : Candidate → Candidate) (s : State) : (modCand c f s).rates = s.rates := rfl
@[simp] theorem modCand_apertures (c : Candidate) (f : Candidate → Candidate) (s : State) : (modCand c f s).apertures = s.apertures := rfl
@[simp] theorem modCand_front (c : Candidate) (f : Candidate → Candidate) (s : State) : (modCand c f s).front = s.front := rfl
@[simp] theorem modCand_chans (c : Candidate) (f : Candidate → Candidate) (s : State) : (modCand c f s).chans = s.chans := rfl
@[simp] theorem modCand_burst (c : Candidate) (f : Candidate → Candidate) (s : State) : (modCand c f s).burst = s.burst := rfl
@[simp] theorem modCand_cal (c : Candidate) (f : Candidate → Candidate) (s : State) : (modCand c f s).cal = s.cal := rfl
@[simp] theorem modCand_meas (c : Candidate) (f : Candidate → Candidate) (s : State) : (modCand c f s).meas = s.meas := rfl
@[simp] theorem modCand_banks (c : Candidate) (f : Candidate → Candidate) (s : State) : (modCand c f s).banks = s.banks := rfl
@[simp] theorem modCand_bankMem (c : Candidate) (f : Candidate → Candidate) (s : State) : (modCand c f s).bankMem = s.bankMem := rfl
@[simp] theorem modCand_poison (c : Candidate) (f : Candidate → Candidate) (s : State) : (modCand c f s).poison = s.poison := rfl
@[simp] theorem modCand_scrub (c : Candidate) (f : Candidate → Candidate) (s : State) : (modCand c f s).scrub = s.scrub := rfl
@[simp] theorem modCand_kernels (c : Candidate) (f : Candidate → Candidate) (s : State) : (modCand c f s).kernels = s.kernels := rfl
@[simp] theorem modCand_security (c : Candidate) (f : Candidate → Candidate) (s : State) : (modCand c f s).security = s.security := rfl
@[simp] theorem modCand_errlog (c : Candidate) (f : Candidate → Candidate) (s : State) : (modCand c f s).errlog = s.errlog := rfl
@[simp] theorem modCand_power (c : Candidate) (f : Candidate → Candidate) (s : State) : (modCand c f s).power = s.power := rfl
@[simp] theorem modCand_nunar (c : Candidate) (f : Candidate → Candidate) (s : State) : (modCand c f s).nunar = s.nunar := rfl
@[simp] theorem modCand_clk (c : Candidate) (f : Candidate → Candidate) (s : State) : (modCand c f s).clk = s.clk := rfl
@[simp] theorem modCand_link (c : Candidate) (f : Candidate → Candidate) (s : State) : (modCand c f s).link = s.link := rfl
@[simp] theorem modCand_bst (c : Candidate) (f : Candidate → Candidate) (s : State) : (modCand c f s).bst = s.bst := rfl
@[simp] theorem modCand_nav (c : Candidate) (f : Candidate → Candidate) (s : State) : (modCand c f s).nav = s.nav := rfl
@[simp] theorem modCand_ms (c : Candidate) (f : Candidate → Candidate) (s : State) : (modCand c f s).ms = s.ms := rfl
@[simp] theorem modCand_epochMs (c : Candidate) (f : Candidate → Candidate) (s : State) : (modCand c f s).epochMs = s.epochMs := rfl
@[simp] theorem modCand_measMs (c : Candidate) (f : Candidate → Candidate) (s : State) : (modCand c f s).measMs = s.measMs := rfl
@[simp] theorem modCand_pending (c : Candidate) (f : Candidate → Candidate) (s : State) : (modCand c f s).pending = s.pending := rfl

/-! ### modSlice changes apertures -/

@[simp] theorem modSlice_islands (a i : Nat) (f : SliceState → SliceState) (s : State) : (modSlice a i f s).islands = s.islands := rfl
@[simp] theorem modSlice_profile (a i : Nat) (f : SliceState → SliceState) (s : State) : (modSlice a i f s).profile = s.profile := rfl
@[simp] theorem modSlice_ecsol (a i : Nat) (f : SliceState → SliceState) (s : State) : (modSlice a i f s).ecsol = s.ecsol := rfl
@[simp] theorem modSlice_pcie (a i : Nat) (f : SliceState → SliceState) (s : State) : (modSlice a i f s).pcie = s.pcie := rfl
@[simp] theorem modSlice_rates (a i : Nat) (f : SliceState → SliceState) (s : State) : (modSlice a i f s).rates = s.rates := rfl
@[simp] theorem modSlice_front (a i : Nat) (f : SliceState → SliceState) (s : State) : (modSlice a i f s).front = s.front := rfl
@[simp] theorem modSlice_acq (a i : Nat) (f : SliceState → SliceState) (s : State) : (modSlice a i f s).acq = s.acq := rfl
@[simp] theorem modSlice_chans (a i : Nat) (f : SliceState → SliceState) (s : State) : (modSlice a i f s).chans = s.chans := rfl
@[simp] theorem modSlice_burst (a i : Nat) (f : SliceState → SliceState) (s : State) : (modSlice a i f s).burst = s.burst := rfl
@[simp] theorem modSlice_cal (a i : Nat) (f : SliceState → SliceState) (s : State) : (modSlice a i f s).cal = s.cal := rfl
@[simp] theorem modSlice_meas (a i : Nat) (f : SliceState → SliceState) (s : State) : (modSlice a i f s).meas = s.meas := rfl
@[simp] theorem modSlice_banks (a i : Nat) (f : SliceState → SliceState) (s : State) : (modSlice a i f s).banks = s.banks := rfl
@[simp] theorem modSlice_bankMem (a i : Nat) (f : SliceState → SliceState) (s : State) : (modSlice a i f s).bankMem = s.bankMem := rfl
@[simp] theorem modSlice_poison (a i : Nat) (f : SliceState → SliceState) (s : State) : (modSlice a i f s).poison = s.poison := rfl
@[simp] theorem modSlice_scrub (a i : Nat) (f : SliceState → SliceState) (s : State) : (modSlice a i f s).scrub = s.scrub := rfl
@[simp] theorem modSlice_kernels (a i : Nat) (f : SliceState → SliceState) (s : State) : (modSlice a i f s).kernels = s.kernels := rfl
@[simp] theorem modSlice_security (a i : Nat) (f : SliceState → SliceState) (s : State) : (modSlice a i f s).security = s.security := rfl
@[simp] theorem modSlice_errlog (a i : Nat) (f : SliceState → SliceState) (s : State) : (modSlice a i f s).errlog = s.errlog := rfl
@[simp] theorem modSlice_power (a i : Nat) (f : SliceState → SliceState) (s : State) : (modSlice a i f s).power = s.power := rfl
@[simp] theorem modSlice_nunar (a i : Nat) (f : SliceState → SliceState) (s : State) : (modSlice a i f s).nunar = s.nunar := rfl
@[simp] theorem modSlice_clk (a i : Nat) (f : SliceState → SliceState) (s : State) : (modSlice a i f s).clk = s.clk := rfl
@[simp] theorem modSlice_link (a i : Nat) (f : SliceState → SliceState) (s : State) : (modSlice a i f s).link = s.link := rfl
@[simp] theorem modSlice_bst (a i : Nat) (f : SliceState → SliceState) (s : State) : (modSlice a i f s).bst = s.bst := rfl
@[simp] theorem modSlice_nav (a i : Nat) (f : SliceState → SliceState) (s : State) : (modSlice a i f s).nav = s.nav := rfl
@[simp] theorem modSlice_ms (a i : Nat) (f : SliceState → SliceState) (s : State) : (modSlice a i f s).ms = s.ms := rfl
@[simp] theorem modSlice_epochMs (a i : Nat) (f : SliceState → SliceState) (s : State) : (modSlice a i f s).epochMs = s.epochMs := rfl
@[simp] theorem modSlice_measMs (a i : Nat) (f : SliceState → SliceState) (s : State) : (modSlice a i f s).measMs = s.measMs := rfl
@[simp] theorem modSlice_pending (a i : Nat) (f : SliceState → SliceState) (s : State) : (modSlice a i f s).pending = s.pending := rfl

/-! ### modChan changes chans -/

@[simp] theorem modChan_islands (c : Nat) (f : Channel → Channel) (s : State) : (modChan c f s).islands = s.islands := rfl
@[simp] theorem modChan_profile (c : Nat) (f : Channel → Channel) (s : State) : (modChan c f s).profile = s.profile := rfl
@[simp] theorem modChan_ecsol (c : Nat) (f : Channel → Channel) (s : State) : (modChan c f s).ecsol = s.ecsol := rfl
@[simp] theorem modChan_pcie (c : Nat) (f : Channel → Channel) (s : State) : (modChan c f s).pcie = s.pcie := rfl
@[simp] theorem modChan_rates (c : Nat) (f : Channel → Channel) (s : State) : (modChan c f s).rates = s.rates := rfl
@[simp] theorem modChan_apertures (c : Nat) (f : Channel → Channel) (s : State) : (modChan c f s).apertures = s.apertures := rfl
@[simp] theorem modChan_front (c : Nat) (f : Channel → Channel) (s : State) : (modChan c f s).front = s.front := rfl
@[simp] theorem modChan_acq (c : Nat) (f : Channel → Channel) (s : State) : (modChan c f s).acq = s.acq := rfl
@[simp] theorem modChan_burst (c : Nat) (f : Channel → Channel) (s : State) : (modChan c f s).burst = s.burst := rfl
@[simp] theorem modChan_cal (c : Nat) (f : Channel → Channel) (s : State) : (modChan c f s).cal = s.cal := rfl
@[simp] theorem modChan_meas (c : Nat) (f : Channel → Channel) (s : State) : (modChan c f s).meas = s.meas := rfl
@[simp] theorem modChan_banks (c : Nat) (f : Channel → Channel) (s : State) : (modChan c f s).banks = s.banks := rfl
@[simp] theorem modChan_bankMem (c : Nat) (f : Channel → Channel) (s : State) : (modChan c f s).bankMem = s.bankMem := rfl
@[simp] theorem modChan_poison (c : Nat) (f : Channel → Channel) (s : State) : (modChan c f s).poison = s.poison := rfl
@[simp] theorem modChan_scrub (c : Nat) (f : Channel → Channel) (s : State) : (modChan c f s).scrub = s.scrub := rfl
@[simp] theorem modChan_kernels (c : Nat) (f : Channel → Channel) (s : State) : (modChan c f s).kernels = s.kernels := rfl
@[simp] theorem modChan_security (c : Nat) (f : Channel → Channel) (s : State) : (modChan c f s).security = s.security := rfl
@[simp] theorem modChan_errlog (c : Nat) (f : Channel → Channel) (s : State) : (modChan c f s).errlog = s.errlog := rfl
@[simp] theorem modChan_power (c : Nat) (f : Channel → Channel) (s : State) : (modChan c f s).power = s.power := rfl
@[simp] theorem modChan_nunar (c : Nat) (f : Channel → Channel) (s : State) : (modChan c f s).nunar = s.nunar := rfl
@[simp] theorem modChan_clk (c : Nat) (f : Channel → Channel) (s : State) : (modChan c f s).clk = s.clk := rfl
@[simp] theorem modChan_link (c : Nat) (f : Channel → Channel) (s : State) : (modChan c f s).link = s.link := rfl
@[simp] theorem modChan_bst (c : Nat) (f : Channel → Channel) (s : State) : (modChan c f s).bst = s.bst := rfl
@[simp] theorem modChan_nav (c : Nat) (f : Channel → Channel) (s : State) : (modChan c f s).nav = s.nav := rfl
@[simp] theorem modChan_ms (c : Nat) (f : Channel → Channel) (s : State) : (modChan c f s).ms = s.ms := rfl
@[simp] theorem modChan_epochMs (c : Nat) (f : Channel → Channel) (s : State) : (modChan c f s).epochMs = s.epochMs := rfl
@[simp] theorem modChan_measMs (c : Nat) (f : Channel → Channel) (s : State) : (modChan c f s).measMs = s.measMs := rfl
@[simp] theorem modChan_pending (c : Nat) (f : Channel → Channel) (s : State) : (modChan c f s).pending = s.pending := rfl

/-! ### modCa changes chans -/

@[simp] theorem modCa_islands (c a : Nat) (f : ChanApr → ChanApr) (s : State) : (modCa c a f s).islands = s.islands := rfl
@[simp] theorem modCa_profile (c a : Nat) (f : ChanApr → ChanApr) (s : State) : (modCa c a f s).profile = s.profile := rfl
@[simp] theorem modCa_ecsol (c a : Nat) (f : ChanApr → ChanApr) (s : State) : (modCa c a f s).ecsol = s.ecsol := rfl
@[simp] theorem modCa_pcie (c a : Nat) (f : ChanApr → ChanApr) (s : State) : (modCa c a f s).pcie = s.pcie := rfl
@[simp] theorem modCa_rates (c a : Nat) (f : ChanApr → ChanApr) (s : State) : (modCa c a f s).rates = s.rates := rfl
@[simp] theorem modCa_apertures (c a : Nat) (f : ChanApr → ChanApr) (s : State) : (modCa c a f s).apertures = s.apertures := rfl
@[simp] theorem modCa_front (c a : Nat) (f : ChanApr → ChanApr) (s : State) : (modCa c a f s).front = s.front := rfl
@[simp] theorem modCa_acq (c a : Nat) (f : ChanApr → ChanApr) (s : State) : (modCa c a f s).acq = s.acq := rfl
@[simp] theorem modCa_burst (c a : Nat) (f : ChanApr → ChanApr) (s : State) : (modCa c a f s).burst = s.burst := rfl
@[simp] theorem modCa_cal (c a : Nat) (f : ChanApr → ChanApr) (s : State) : (modCa c a f s).cal = s.cal := rfl
@[simp] theorem modCa_meas (c a : Nat) (f : ChanApr → ChanApr) (s : State) : (modCa c a f s).meas = s.meas := rfl
@[simp] theorem modCa_banks (c a : Nat) (f : ChanApr → ChanApr) (s : State) : (modCa c a f s).banks = s.banks := rfl
@[simp] theorem modCa_bankMem (c a : Nat) (f : ChanApr → ChanApr) (s : State) : (modCa c a f s).bankMem = s.bankMem := rfl
@[simp] theorem modCa_poison (c a : Nat) (f : ChanApr → ChanApr) (s : State) : (modCa c a f s).poison = s.poison := rfl
@[simp] theorem modCa_scrub (c a : Nat) (f : ChanApr → ChanApr) (s : State) : (modCa c a f s).scrub = s.scrub := rfl
@[simp] theorem modCa_kernels (c a : Nat) (f : ChanApr → ChanApr) (s : State) : (modCa c a f s).kernels = s.kernels := rfl
@[simp] theorem modCa_security (c a : Nat) (f : ChanApr → ChanApr) (s : State) : (modCa c a f s).security = s.security := rfl
@[simp] theorem modCa_errlog (c a : Nat) (f : ChanApr → ChanApr) (s : State) : (modCa c a f s).errlog = s.errlog := rfl
@[simp] theorem modCa_power (c a : Nat) (f : ChanApr → ChanApr) (s : State) : (modCa c a f s).power = s.power := rfl
@[simp] theorem modCa_nunar (c a : Nat) (f : ChanApr → ChanApr) (s : State) : (modCa c a f s).nunar = s.nunar := rfl
@[simp] theorem modCa_clk (c a : Nat) (f : ChanApr → ChanApr) (s : State) : (modCa c a f s).clk = s.clk := rfl
@[simp] theorem modCa_link (c a : Nat) (f : ChanApr → ChanApr) (s : State) : (modCa c a f s).link = s.link := rfl
@[simp] theorem modCa_bst (c a : Nat) (f : ChanApr → ChanApr) (s : State) : (modCa c a f s).bst = s.bst := rfl
@[simp] theorem modCa_nav (c a : Nat) (f : ChanApr → ChanApr) (s : State) : (modCa c a f s).nav = s.nav := rfl
@[simp] theorem modCa_ms (c a : Nat) (f : ChanApr → ChanApr) (s : State) : (modCa c a f s).ms = s.ms := rfl
@[simp] theorem modCa_epochMs (c a : Nat) (f : ChanApr → ChanApr) (s : State) : (modCa c a f s).epochMs = s.epochMs := rfl
@[simp] theorem modCa_measMs (c a : Nat) (f : ChanApr → ChanApr) (s : State) : (modCa c a f s).measMs = s.measMs := rfl
@[simp] theorem modCa_pending (c a : Nat) (f : ChanApr → ChanApr) (s : State) : (modCa c a f s).pending = s.pending := rfl

/-! ### modGroup changes meas -/

@[simp] theorem modGroup_islands (g : Nat) (f : TulGroup → TulGroup) (s : State) : (modGroup g f s).islands = s.islands := rfl
@[simp] theorem modGroup_profile (g : Nat) (f : TulGroup → TulGroup) (s : State) : (modGroup g f s).profile = s.profile := rfl
@[simp] theorem modGroup_ecsol (g : Nat) (f : TulGroup → TulGroup) (s : State) : (modGroup g f s).ecsol = s.ecsol := rfl
@[simp] theorem modGroup_pcie (g : Nat) (f : TulGroup → TulGroup) (s : State) : (modGroup g f s).pcie = s.pcie := rfl
@[simp] theorem modGroup_rates (g : Nat) (f : TulGroup → TulGroup) (s : State) : (modGroup g f s).rates = s.rates := rfl
@[simp] theorem modGroup_apertures (g : Nat) (f : TulGroup → TulGroup) (s : State) : (modGroup g f s).apertures = s.apertures := rfl
@[simp] theorem modGroup_front (g : Nat) (f : TulGroup → TulGroup) (s : State) : (modGroup g f s).front = s.front := rfl
@[simp] theorem modGroup_acq (g : Nat) (f : TulGroup → TulGroup) (s : State) : (modGroup g f s).acq = s.acq := rfl
@[simp] theorem modGroup_chans (g : Nat) (f : TulGroup → TulGroup) (s : State) : (modGroup g f s).chans = s.chans := rfl
@[simp] theorem modGroup_burst (g : Nat) (f : TulGroup → TulGroup) (s : State) : (modGroup g f s).burst = s.burst := rfl
@[simp] theorem modGroup_cal (g : Nat) (f : TulGroup → TulGroup) (s : State) : (modGroup g f s).cal = s.cal := rfl
@[simp] theorem modGroup_banks (g : Nat) (f : TulGroup → TulGroup) (s : State) : (modGroup g f s).banks = s.banks := rfl
@[simp] theorem modGroup_bankMem (g : Nat) (f : TulGroup → TulGroup) (s : State) : (modGroup g f s).bankMem = s.bankMem := rfl
@[simp] theorem modGroup_poison (g : Nat) (f : TulGroup → TulGroup) (s : State) : (modGroup g f s).poison = s.poison := rfl
@[simp] theorem modGroup_scrub (g : Nat) (f : TulGroup → TulGroup) (s : State) : (modGroup g f s).scrub = s.scrub := rfl
@[simp] theorem modGroup_kernels (g : Nat) (f : TulGroup → TulGroup) (s : State) : (modGroup g f s).kernels = s.kernels := rfl
@[simp] theorem modGroup_security (g : Nat) (f : TulGroup → TulGroup) (s : State) : (modGroup g f s).security = s.security := rfl
@[simp] theorem modGroup_errlog (g : Nat) (f : TulGroup → TulGroup) (s : State) : (modGroup g f s).errlog = s.errlog := rfl
@[simp] theorem modGroup_power (g : Nat) (f : TulGroup → TulGroup) (s : State) : (modGroup g f s).power = s.power := rfl
@[simp] theorem modGroup_nunar (g : Nat) (f : TulGroup → TulGroup) (s : State) : (modGroup g f s).nunar = s.nunar := rfl
@[simp] theorem modGroup_clk (g : Nat) (f : TulGroup → TulGroup) (s : State) : (modGroup g f s).clk = s.clk := rfl
@[simp] theorem modGroup_link (g : Nat) (f : TulGroup → TulGroup) (s : State) : (modGroup g f s).link = s.link := rfl
@[simp] theorem modGroup_bst (g : Nat) (f : TulGroup → TulGroup) (s : State) : (modGroup g f s).bst = s.bst := rfl
@[simp] theorem modGroup_nav (g : Nat) (f : TulGroup → TulGroup) (s : State) : (modGroup g f s).nav = s.nav := rfl
@[simp] theorem modGroup_ms (g : Nat) (f : TulGroup → TulGroup) (s : State) : (modGroup g f s).ms = s.ms := rfl
@[simp] theorem modGroup_epochMs (g : Nat) (f : TulGroup → TulGroup) (s : State) : (modGroup g f s).epochMs = s.epochMs := rfl
@[simp] theorem modGroup_measMs (g : Nat) (f : TulGroup → TulGroup) (s : State) : (modGroup g f s).measMs = s.measMs := rfl
@[simp] theorem modGroup_pending (g : Nat) (f : TulGroup → TulGroup) (s : State) : (modGroup g f s).pending = s.pending := rfl

/-! ### modTp changes nunar -/

@[simp] theorem modTp_islands (o : Nat) (f : TpOut → TpOut) (s : State) : (modTp o f s).islands = s.islands := rfl
@[simp] theorem modTp_profile (o : Nat) (f : TpOut → TpOut) (s : State) : (modTp o f s).profile = s.profile := rfl
@[simp] theorem modTp_ecsol (o : Nat) (f : TpOut → TpOut) (s : State) : (modTp o f s).ecsol = s.ecsol := rfl
@[simp] theorem modTp_pcie (o : Nat) (f : TpOut → TpOut) (s : State) : (modTp o f s).pcie = s.pcie := rfl
@[simp] theorem modTp_rates (o : Nat) (f : TpOut → TpOut) (s : State) : (modTp o f s).rates = s.rates := rfl
@[simp] theorem modTp_apertures (o : Nat) (f : TpOut → TpOut) (s : State) : (modTp o f s).apertures = s.apertures := rfl
@[simp] theorem modTp_front (o : Nat) (f : TpOut → TpOut) (s : State) : (modTp o f s).front = s.front := rfl
@[simp] theorem modTp_acq (o : Nat) (f : TpOut → TpOut) (s : State) : (modTp o f s).acq = s.acq := rfl
@[simp] theorem modTp_chans (o : Nat) (f : TpOut → TpOut) (s : State) : (modTp o f s).chans = s.chans := rfl
@[simp] theorem modTp_burst (o : Nat) (f : TpOut → TpOut) (s : State) : (modTp o f s).burst = s.burst := rfl
@[simp] theorem modTp_cal (o : Nat) (f : TpOut → TpOut) (s : State) : (modTp o f s).cal = s.cal := rfl
@[simp] theorem modTp_meas (o : Nat) (f : TpOut → TpOut) (s : State) : (modTp o f s).meas = s.meas := rfl
@[simp] theorem modTp_banks (o : Nat) (f : TpOut → TpOut) (s : State) : (modTp o f s).banks = s.banks := rfl
@[simp] theorem modTp_bankMem (o : Nat) (f : TpOut → TpOut) (s : State) : (modTp o f s).bankMem = s.bankMem := rfl
@[simp] theorem modTp_poison (o : Nat) (f : TpOut → TpOut) (s : State) : (modTp o f s).poison = s.poison := rfl
@[simp] theorem modTp_scrub (o : Nat) (f : TpOut → TpOut) (s : State) : (modTp o f s).scrub = s.scrub := rfl
@[simp] theorem modTp_kernels (o : Nat) (f : TpOut → TpOut) (s : State) : (modTp o f s).kernels = s.kernels := rfl
@[simp] theorem modTp_security (o : Nat) (f : TpOut → TpOut) (s : State) : (modTp o f s).security = s.security := rfl
@[simp] theorem modTp_errlog (o : Nat) (f : TpOut → TpOut) (s : State) : (modTp o f s).errlog = s.errlog := rfl
@[simp] theorem modTp_power (o : Nat) (f : TpOut → TpOut) (s : State) : (modTp o f s).power = s.power := rfl
@[simp] theorem modTp_clk (o : Nat) (f : TpOut → TpOut) (s : State) : (modTp o f s).clk = s.clk := rfl
@[simp] theorem modTp_link (o : Nat) (f : TpOut → TpOut) (s : State) : (modTp o f s).link = s.link := rfl
@[simp] theorem modTp_bst (o : Nat) (f : TpOut → TpOut) (s : State) : (modTp o f s).bst = s.bst := rfl
@[simp] theorem modTp_nav (o : Nat) (f : TpOut → TpOut) (s : State) : (modTp o f s).nav = s.nav := rfl
@[simp] theorem modTp_ms (o : Nat) (f : TpOut → TpOut) (s : State) : (modTp o f s).ms = s.ms := rfl
@[simp] theorem modTp_epochMs (o : Nat) (f : TpOut → TpOut) (s : State) : (modTp o f s).epochMs = s.epochMs := rfl
@[simp] theorem modTp_measMs (o : Nat) (f : TpOut → TpOut) (s : State) : (modTp o f s).measMs = s.measMs := rfl
@[simp] theorem modTp_pending (o : Nat) (f : TpOut → TpOut) (s : State) : (modTp o f s).pending = s.pending := rfl

/-! ### modEvt changes nunar -/

@[simp] theorem modEvt_islands (n : Nat) (f : EvtIn → EvtIn) (s : State) : (modEvt n f s).islands = s.islands := rfl
@[simp] theorem modEvt_profile (n : Nat) (f : EvtIn → EvtIn) (s : State) : (modEvt n f s).profile = s.profile := rfl
@[simp] theorem modEvt_ecsol (n : Nat) (f : EvtIn → EvtIn) (s : State) : (modEvt n f s).ecsol = s.ecsol := rfl
@[simp] theorem modEvt_pcie (n : Nat) (f : EvtIn → EvtIn) (s : State) : (modEvt n f s).pcie = s.pcie := rfl
@[simp] theorem modEvt_rates (n : Nat) (f : EvtIn → EvtIn) (s : State) : (modEvt n f s).rates = s.rates := rfl
@[simp] theorem modEvt_apertures (n : Nat) (f : EvtIn → EvtIn) (s : State) : (modEvt n f s).apertures = s.apertures := rfl
@[simp] theorem modEvt_front (n : Nat) (f : EvtIn → EvtIn) (s : State) : (modEvt n f s).front = s.front := rfl
@[simp] theorem modEvt_acq (n : Nat) (f : EvtIn → EvtIn) (s : State) : (modEvt n f s).acq = s.acq := rfl
@[simp] theorem modEvt_chans (n : Nat) (f : EvtIn → EvtIn) (s : State) : (modEvt n f s).chans = s.chans := rfl
@[simp] theorem modEvt_burst (n : Nat) (f : EvtIn → EvtIn) (s : State) : (modEvt n f s).burst = s.burst := rfl
@[simp] theorem modEvt_cal (n : Nat) (f : EvtIn → EvtIn) (s : State) : (modEvt n f s).cal = s.cal := rfl
@[simp] theorem modEvt_meas (n : Nat) (f : EvtIn → EvtIn) (s : State) : (modEvt n f s).meas = s.meas := rfl
@[simp] theorem modEvt_banks (n : Nat) (f : EvtIn → EvtIn) (s : State) : (modEvt n f s).banks = s.banks := rfl
@[simp] theorem modEvt_bankMem (n : Nat) (f : EvtIn → EvtIn) (s : State) : (modEvt n f s).bankMem = s.bankMem := rfl
@[simp] theorem modEvt_poison (n : Nat) (f : EvtIn → EvtIn) (s : State) : (modEvt n f s).poison = s.poison := rfl
@[simp] theorem modEvt_scrub (n : Nat) (f : EvtIn → EvtIn) (s : State) : (modEvt n f s).scrub = s.scrub := rfl
@[simp] theorem modEvt_kernels (n : Nat) (f : EvtIn → EvtIn) (s : State) : (modEvt n f s).kernels = s.kernels := rfl
@[simp] theorem modEvt_security (n : Nat) (f : EvtIn → EvtIn) (s : State) : (modEvt n f s).security = s.security := rfl
@[simp] theorem modEvt_errlog (n : Nat) (f : EvtIn → EvtIn) (s : State) : (modEvt n f s).errlog = s.errlog := rfl
@[simp] theorem modEvt_power (n : Nat) (f : EvtIn → EvtIn) (s : State) : (modEvt n f s).power = s.power := rfl
@[simp] theorem modEvt_clk (n : Nat) (f : EvtIn → EvtIn) (s : State) : (modEvt n f s).clk = s.clk := rfl
@[simp] theorem modEvt_link (n : Nat) (f : EvtIn → EvtIn) (s : State) : (modEvt n f s).link = s.link := rfl
@[simp] theorem modEvt_bst (n : Nat) (f : EvtIn → EvtIn) (s : State) : (modEvt n f s).bst = s.bst := rfl
@[simp] theorem modEvt_nav (n : Nat) (f : EvtIn → EvtIn) (s : State) : (modEvt n f s).nav = s.nav := rfl
@[simp] theorem modEvt_ms (n : Nat) (f : EvtIn → EvtIn) (s : State) : (modEvt n f s).ms = s.ms := rfl
@[simp] theorem modEvt_epochMs (n : Nat) (f : EvtIn → EvtIn) (s : State) : (modEvt n f s).epochMs = s.epochMs := rfl
@[simp] theorem modEvt_measMs (n : Nat) (f : EvtIn → EvtIn) (s : State) : (modEvt n f s).measMs = s.measMs := rfl
@[simp] theorem modEvt_pending (n : Nat) (f : EvtIn → EvtIn) (s : State) : (modEvt n f s).pending = s.pending := rfl

/-! ### modClkOut changes clk -/

@[simp] theorem modClkOut_islands (o : Nat) (f : ClkOut → ClkOut) (s : State) : (modClkOut o f s).islands = s.islands := rfl
@[simp] theorem modClkOut_profile (o : Nat) (f : ClkOut → ClkOut) (s : State) : (modClkOut o f s).profile = s.profile := rfl
@[simp] theorem modClkOut_ecsol (o : Nat) (f : ClkOut → ClkOut) (s : State) : (modClkOut o f s).ecsol = s.ecsol := rfl
@[simp] theorem modClkOut_pcie (o : Nat) (f : ClkOut → ClkOut) (s : State) : (modClkOut o f s).pcie = s.pcie := rfl
@[simp] theorem modClkOut_rates (o : Nat) (f : ClkOut → ClkOut) (s : State) : (modClkOut o f s).rates = s.rates := rfl
@[simp] theorem modClkOut_apertures (o : Nat) (f : ClkOut → ClkOut) (s : State) : (modClkOut o f s).apertures = s.apertures := rfl
@[simp] theorem modClkOut_front (o : Nat) (f : ClkOut → ClkOut) (s : State) : (modClkOut o f s).front = s.front := rfl
@[simp] theorem modClkOut_acq (o : Nat) (f : ClkOut → ClkOut) (s : State) : (modClkOut o f s).acq = s.acq := rfl
@[simp] theorem modClkOut_chans (o : Nat) (f : ClkOut → ClkOut) (s : State) : (modClkOut o f s).chans = s.chans := rfl
@[simp] theorem modClkOut_burst (o : Nat) (f : ClkOut → ClkOut) (s : State) : (modClkOut o f s).burst = s.burst := rfl
@[simp] theorem modClkOut_cal (o : Nat) (f : ClkOut → ClkOut) (s : State) : (modClkOut o f s).cal = s.cal := rfl
@[simp] theorem modClkOut_meas (o : Nat) (f : ClkOut → ClkOut) (s : State) : (modClkOut o f s).meas = s.meas := rfl
@[simp] theorem modClkOut_banks (o : Nat) (f : ClkOut → ClkOut) (s : State) : (modClkOut o f s).banks = s.banks := rfl
@[simp] theorem modClkOut_bankMem (o : Nat) (f : ClkOut → ClkOut) (s : State) : (modClkOut o f s).bankMem = s.bankMem := rfl
@[simp] theorem modClkOut_poison (o : Nat) (f : ClkOut → ClkOut) (s : State) : (modClkOut o f s).poison = s.poison := rfl
@[simp] theorem modClkOut_scrub (o : Nat) (f : ClkOut → ClkOut) (s : State) : (modClkOut o f s).scrub = s.scrub := rfl
@[simp] theorem modClkOut_kernels (o : Nat) (f : ClkOut → ClkOut) (s : State) : (modClkOut o f s).kernels = s.kernels := rfl
@[simp] theorem modClkOut_security (o : Nat) (f : ClkOut → ClkOut) (s : State) : (modClkOut o f s).security = s.security := rfl
@[simp] theorem modClkOut_errlog (o : Nat) (f : ClkOut → ClkOut) (s : State) : (modClkOut o f s).errlog = s.errlog := rfl
@[simp] theorem modClkOut_power (o : Nat) (f : ClkOut → ClkOut) (s : State) : (modClkOut o f s).power = s.power := rfl
@[simp] theorem modClkOut_nunar (o : Nat) (f : ClkOut → ClkOut) (s : State) : (modClkOut o f s).nunar = s.nunar := rfl
@[simp] theorem modClkOut_link (o : Nat) (f : ClkOut → ClkOut) (s : State) : (modClkOut o f s).link = s.link := rfl
@[simp] theorem modClkOut_bst (o : Nat) (f : ClkOut → ClkOut) (s : State) : (modClkOut o f s).bst = s.bst := rfl
@[simp] theorem modClkOut_nav (o : Nat) (f : ClkOut → ClkOut) (s : State) : (modClkOut o f s).nav = s.nav := rfl
@[simp] theorem modClkOut_ms (o : Nat) (f : ClkOut → ClkOut) (s : State) : (modClkOut o f s).ms = s.ms := rfl
@[simp] theorem modClkOut_epochMs (o : Nat) (f : ClkOut → ClkOut) (s : State) : (modClkOut o f s).epochMs = s.epochMs := rfl
@[simp] theorem modClkOut_measMs (o : Nat) (f : ClkOut → ClkOut) (s : State) : (modClkOut o f s).measMs = s.measMs := rfl
@[simp] theorem modClkOut_pending (o : Nat) (f : ClkOut → ClkOut) (s : State) : (modClkOut o f s).pending = s.pending := rfl

/-! ### modEntry changes link -/

@[simp] theorem modEntry_islands (i : Nat) (f : SynthEntry → SynthEntry) (s : State) : (modEntry i f s).islands = s.islands := rfl
@[simp] theorem modEntry_profile (i : Nat) (f : SynthEntry → SynthEntry) (s : State) : (modEntry i f s).profile = s.profile := rfl
@[simp] theorem modEntry_ecsol (i : Nat) (f : SynthEntry → SynthEntry) (s : State) : (modEntry i f s).ecsol = s.ecsol := rfl
@[simp] theorem modEntry_pcie (i : Nat) (f : SynthEntry → SynthEntry) (s : State) : (modEntry i f s).pcie = s.pcie := rfl
@[simp] theorem modEntry_rates (i : Nat) (f : SynthEntry → SynthEntry) (s : State) : (modEntry i f s).rates = s.rates := rfl
@[simp] theorem modEntry_apertures (i : Nat) (f : SynthEntry → SynthEntry) (s : State) : (modEntry i f s).apertures = s.apertures := rfl
@[simp] theorem modEntry_front (i : Nat) (f : SynthEntry → SynthEntry) (s : State) : (modEntry i f s).front = s.front := rfl
@[simp] theorem modEntry_acq (i : Nat) (f : SynthEntry → SynthEntry) (s : State) : (modEntry i f s).acq = s.acq := rfl
@[simp] theorem modEntry_chans (i : Nat) (f : SynthEntry → SynthEntry) (s : State) : (modEntry i f s).chans = s.chans := rfl
@[simp] theorem modEntry_burst (i : Nat) (f : SynthEntry → SynthEntry) (s : State) : (modEntry i f s).burst = s.burst := rfl
@[simp] theorem modEntry_cal (i : Nat) (f : SynthEntry → SynthEntry) (s : State) : (modEntry i f s).cal = s.cal := rfl
@[simp] theorem modEntry_meas (i : Nat) (f : SynthEntry → SynthEntry) (s : State) : (modEntry i f s).meas = s.meas := rfl
@[simp] theorem modEntry_banks (i : Nat) (f : SynthEntry → SynthEntry) (s : State) : (modEntry i f s).banks = s.banks := rfl
@[simp] theorem modEntry_bankMem (i : Nat) (f : SynthEntry → SynthEntry) (s : State) : (modEntry i f s).bankMem = s.bankMem := rfl
@[simp] theorem modEntry_poison (i : Nat) (f : SynthEntry → SynthEntry) (s : State) : (modEntry i f s).poison = s.poison := rfl
@[simp] theorem modEntry_scrub (i : Nat) (f : SynthEntry → SynthEntry) (s : State) : (modEntry i f s).scrub = s.scrub := rfl
@[simp] theorem modEntry_kernels (i : Nat) (f : SynthEntry → SynthEntry) (s : State) : (modEntry i f s).kernels = s.kernels := rfl
@[simp] theorem modEntry_security (i : Nat) (f : SynthEntry → SynthEntry) (s : State) : (modEntry i f s).security = s.security := rfl
@[simp] theorem modEntry_errlog (i : Nat) (f : SynthEntry → SynthEntry) (s : State) : (modEntry i f s).errlog = s.errlog := rfl
@[simp] theorem modEntry_power (i : Nat) (f : SynthEntry → SynthEntry) (s : State) : (modEntry i f s).power = s.power := rfl
@[simp] theorem modEntry_nunar (i : Nat) (f : SynthEntry → SynthEntry) (s : State) : (modEntry i f s).nunar = s.nunar := rfl
@[simp] theorem modEntry_clk (i : Nat) (f : SynthEntry → SynthEntry) (s : State) : (modEntry i f s).clk = s.clk := rfl
@[simp] theorem modEntry_bst (i : Nat) (f : SynthEntry → SynthEntry) (s : State) : (modEntry i f s).bst = s.bst := rfl
@[simp] theorem modEntry_nav (i : Nat) (f : SynthEntry → SynthEntry) (s : State) : (modEntry i f s).nav = s.nav := rfl
@[simp] theorem modEntry_ms (i : Nat) (f : SynthEntry → SynthEntry) (s : State) : (modEntry i f s).ms = s.ms := rfl
@[simp] theorem modEntry_epochMs (i : Nat) (f : SynthEntry → SynthEntry) (s : State) : (modEntry i f s).epochMs = s.epochMs := rfl
@[simp] theorem modEntry_measMs (i : Nat) (f : SynthEntry → SynthEntry) (s : State) : (modEntry i f s).measMs = s.measMs := rfl
@[simp] theorem modEntry_pending (i : Nat) (f : SynthEntry → SynthEntry) (s : State) : (modEntry i f s).pending = s.pending := rfl

/-! ### modRecv changes link -/

@[simp] theorem modRecv_islands (f : Reception → Reception) (s : State) : (modRecv f s).islands = s.islands := rfl
@[simp] theorem modRecv_profile (f : Reception → Reception) (s : State) : (modRecv f s).profile = s.profile := rfl
@[simp] theorem modRecv_ecsol (f : Reception → Reception) (s : State) : (modRecv f s).ecsol = s.ecsol := rfl
@[simp] theorem modRecv_pcie (f : Reception → Reception) (s : State) : (modRecv f s).pcie = s.pcie := rfl
@[simp] theorem modRecv_rates (f : Reception → Reception) (s : State) : (modRecv f s).rates = s.rates := rfl
@[simp] theorem modRecv_apertures (f : Reception → Reception) (s : State) : (modRecv f s).apertures = s.apertures := rfl
@[simp] theorem modRecv_front (f : Reception → Reception) (s : State) : (modRecv f s).front = s.front := rfl
@[simp] theorem modRecv_acq (f : Reception → Reception) (s : State) : (modRecv f s).acq = s.acq := rfl
@[simp] theorem modRecv_chans (f : Reception → Reception) (s : State) : (modRecv f s).chans = s.chans := rfl
@[simp] theorem modRecv_burst (f : Reception → Reception) (s : State) : (modRecv f s).burst = s.burst := rfl
@[simp] theorem modRecv_cal (f : Reception → Reception) (s : State) : (modRecv f s).cal = s.cal := rfl
@[simp] theorem modRecv_meas (f : Reception → Reception) (s : State) : (modRecv f s).meas = s.meas := rfl
@[simp] theorem modRecv_banks (f : Reception → Reception) (s : State) : (modRecv f s).banks = s.banks := rfl
@[simp] theorem modRecv_bankMem (f : Reception → Reception) (s : State) : (modRecv f s).bankMem = s.bankMem := rfl
@[simp] theorem modRecv_poison (f : Reception → Reception) (s : State) : (modRecv f s).poison = s.poison := rfl
@[simp] theorem modRecv_scrub (f : Reception → Reception) (s : State) : (modRecv f s).scrub = s.scrub := rfl
@[simp] theorem modRecv_kernels (f : Reception → Reception) (s : State) : (modRecv f s).kernels = s.kernels := rfl
@[simp] theorem modRecv_security (f : Reception → Reception) (s : State) : (modRecv f s).security = s.security := rfl
@[simp] theorem modRecv_errlog (f : Reception → Reception) (s : State) : (modRecv f s).errlog = s.errlog := rfl
@[simp] theorem modRecv_power (f : Reception → Reception) (s : State) : (modRecv f s).power = s.power := rfl
@[simp] theorem modRecv_nunar (f : Reception → Reception) (s : State) : (modRecv f s).nunar = s.nunar := rfl
@[simp] theorem modRecv_clk (f : Reception → Reception) (s : State) : (modRecv f s).clk = s.clk := rfl
@[simp] theorem modRecv_bst (f : Reception → Reception) (s : State) : (modRecv f s).bst = s.bst := rfl
@[simp] theorem modRecv_nav (f : Reception → Reception) (s : State) : (modRecv f s).nav = s.nav := rfl
@[simp] theorem modRecv_ms (f : Reception → Reception) (s : State) : (modRecv f s).ms = s.ms := rfl
@[simp] theorem modRecv_epochMs (f : Reception → Reception) (s : State) : (modRecv f s).epochMs = s.epochMs := rfl
@[simp] theorem modRecv_measMs (f : Reception → Reception) (s : State) : (modRecv f s).measMs = s.measMs := rfl
@[simp] theorem modRecv_pending (f : Reception → Reception) (s : State) : (modRecv f s).pending = s.pending := rfl

/-! ### modCore changes kernels -/

@[simp] theorem modCore_islands (k : Nat) (f : Core → Core) (s : State) : (modCore k f s).islands = s.islands := rfl
@[simp] theorem modCore_profile (k : Nat) (f : Core → Core) (s : State) : (modCore k f s).profile = s.profile := rfl
@[simp] theorem modCore_ecsol (k : Nat) (f : Core → Core) (s : State) : (modCore k f s).ecsol = s.ecsol := rfl
@[simp] theorem modCore_pcie (k : Nat) (f : Core → Core) (s : State) : (modCore k f s).pcie = s.pcie := rfl
@[simp] theorem modCore_rates (k : Nat) (f : Core → Core) (s : State) : (modCore k f s).rates = s.rates := rfl
@[simp] theorem modCore_apertures (k : Nat) (f : Core → Core) (s : State) : (modCore k f s).apertures = s.apertures := rfl
@[simp] theorem modCore_front (k : Nat) (f : Core → Core) (s : State) : (modCore k f s).front = s.front := rfl
@[simp] theorem modCore_acq (k : Nat) (f : Core → Core) (s : State) : (modCore k f s).acq = s.acq := rfl
@[simp] theorem modCore_chans (k : Nat) (f : Core → Core) (s : State) : (modCore k f s).chans = s.chans := rfl
@[simp] theorem modCore_burst (k : Nat) (f : Core → Core) (s : State) : (modCore k f s).burst = s.burst := rfl
@[simp] theorem modCore_cal (k : Nat) (f : Core → Core) (s : State) : (modCore k f s).cal = s.cal := rfl
@[simp] theorem modCore_meas (k : Nat) (f : Core → Core) (s : State) : (modCore k f s).meas = s.meas := rfl
@[simp] theorem modCore_banks (k : Nat) (f : Core → Core) (s : State) : (modCore k f s).banks = s.banks := rfl
@[simp] theorem modCore_bankMem (k : Nat) (f : Core → Core) (s : State) : (modCore k f s).bankMem = s.bankMem := rfl
@[simp] theorem modCore_poison (k : Nat) (f : Core → Core) (s : State) : (modCore k f s).poison = s.poison := rfl
@[simp] theorem modCore_scrub (k : Nat) (f : Core → Core) (s : State) : (modCore k f s).scrub = s.scrub := rfl
@[simp] theorem modCore_security (k : Nat) (f : Core → Core) (s : State) : (modCore k f s).security = s.security := rfl
@[simp] theorem modCore_errlog (k : Nat) (f : Core → Core) (s : State) : (modCore k f s).errlog = s.errlog := rfl
@[simp] theorem modCore_power (k : Nat) (f : Core → Core) (s : State) : (modCore k f s).power = s.power := rfl
@[simp] theorem modCore_nunar (k : Nat) (f : Core → Core) (s : State) : (modCore k f s).nunar = s.nunar := rfl
@[simp] theorem modCore_clk (k : Nat) (f : Core → Core) (s : State) : (modCore k f s).clk = s.clk := rfl
@[simp] theorem modCore_link (k : Nat) (f : Core → Core) (s : State) : (modCore k f s).link = s.link := rfl
@[simp] theorem modCore_bst (k : Nat) (f : Core → Core) (s : State) : (modCore k f s).bst = s.bst := rfl
@[simp] theorem modCore_nav (k : Nat) (f : Core → Core) (s : State) : (modCore k f s).nav = s.nav := rfl
@[simp] theorem modCore_ms (k : Nat) (f : Core → Core) (s : State) : (modCore k f s).ms = s.ms := rfl
@[simp] theorem modCore_epochMs (k : Nat) (f : Core → Core) (s : State) : (modCore k f s).epochMs = s.epochMs := rfl
@[simp] theorem modCore_measMs (k : Nat) (f : Core → Core) (s : State) : (modCore k f s).measMs = s.measMs := rfl
@[simp] theorem modCore_pending (k : Nat) (f : Core → Core) (s : State) : (modCore k f s).pending = s.pending := rfl

/-! ### modBank changes banks -/

@[simp] theorem modBank_islands (b : Nat) (f : Bank → Bank) (s : State) : (modBank b f s).islands = s.islands := rfl
@[simp] theorem modBank_profile (b : Nat) (f : Bank → Bank) (s : State) : (modBank b f s).profile = s.profile := rfl
@[simp] theorem modBank_ecsol (b : Nat) (f : Bank → Bank) (s : State) : (modBank b f s).ecsol = s.ecsol := rfl
@[simp] theorem modBank_pcie (b : Nat) (f : Bank → Bank) (s : State) : (modBank b f s).pcie = s.pcie := rfl
@[simp] theorem modBank_rates (b : Nat) (f : Bank → Bank) (s : State) : (modBank b f s).rates = s.rates := rfl
@[simp] theorem modBank_apertures (b : Nat) (f : Bank → Bank) (s : State) : (modBank b f s).apertures = s.apertures := rfl
@[simp] theorem modBank_front (b : Nat) (f : Bank → Bank) (s : State) : (modBank b f s).front = s.front := rfl
@[simp] theorem modBank_acq (b : Nat) (f : Bank → Bank) (s : State) : (modBank b f s).acq = s.acq := rfl
@[simp] theorem modBank_chans (b : Nat) (f : Bank → Bank) (s : State) : (modBank b f s).chans = s.chans := rfl
@[simp] theorem modBank_burst (b : Nat) (f : Bank → Bank) (s : State) : (modBank b f s).burst = s.burst := rfl
@[simp] theorem modBank_cal (b : Nat) (f : Bank → Bank) (s : State) : (modBank b f s).cal = s.cal := rfl
@[simp] theorem modBank_meas (b : Nat) (f : Bank → Bank) (s : State) : (modBank b f s).meas = s.meas := rfl
@[simp] theorem modBank_bankMem (b : Nat) (f : Bank → Bank) (s : State) : (modBank b f s).bankMem = s.bankMem := rfl
@[simp] theorem modBank_poison (b : Nat) (f : Bank → Bank) (s : State) : (modBank b f s).poison = s.poison := rfl
@[simp] theorem modBank_scrub (b : Nat) (f : Bank → Bank) (s : State) : (modBank b f s).scrub = s.scrub := rfl
@[simp] theorem modBank_kernels (b : Nat) (f : Bank → Bank) (s : State) : (modBank b f s).kernels = s.kernels := rfl
@[simp] theorem modBank_security (b : Nat) (f : Bank → Bank) (s : State) : (modBank b f s).security = s.security := rfl
@[simp] theorem modBank_errlog (b : Nat) (f : Bank → Bank) (s : State) : (modBank b f s).errlog = s.errlog := rfl
@[simp] theorem modBank_power (b : Nat) (f : Bank → Bank) (s : State) : (modBank b f s).power = s.power := rfl
@[simp] theorem modBank_nunar (b : Nat) (f : Bank → Bank) (s : State) : (modBank b f s).nunar = s.nunar := rfl
@[simp] theorem modBank_clk (b : Nat) (f : Bank → Bank) (s : State) : (modBank b f s).clk = s.clk := rfl
@[simp] theorem modBank_link (b : Nat) (f : Bank → Bank) (s : State) : (modBank b f s).link = s.link := rfl
@[simp] theorem modBank_bst (b : Nat) (f : Bank → Bank) (s : State) : (modBank b f s).bst = s.bst := rfl
@[simp] theorem modBank_nav (b : Nat) (f : Bank → Bank) (s : State) : (modBank b f s).nav = s.nav := rfl
@[simp] theorem modBank_ms (b : Nat) (f : Bank → Bank) (s : State) : (modBank b f s).ms = s.ms := rfl
@[simp] theorem modBank_epochMs (b : Nat) (f : Bank → Bank) (s : State) : (modBank b f s).epochMs = s.epochMs := rfl
@[simp] theorem modBank_measMs (b : Nat) (f : Bank → Bank) (s : State) : (modBank b f s).measMs = s.measMs := rfl
@[simp] theorem modBank_pending (b : Nat) (f : Bank → Bank) (s : State) : (modBank b f s).pending = s.pending := rfl

end Sys2Proof.Laws
end

