-- ==== Sys2Proof/Laws/BankMem.lean ====
section
/-! SUPPORT. The memory of the shared banks, said once: every operation on it keeps its canonical form, and a write changes
exactly the bytes it names. -/
namespace Sys2Proof.Laws

open Sys2Proof.Machine Sys2Proof.Safety

theorem Sends.bankMem {s t : State} (h : Sends s t) : t.bankMem = s.bankMem := by
  have := congrArg State.bankMem h.1; exact this

@[simp] theorem setPoison_bankMem (g : Nat) (x : Bool) (s : State) : (setPoison g x s).bankMem = s.bankMem := rfl
@[simp] theorem bankEvent_bankMem (ev b old new value : Nat) (s : State) : (bankEvent ev b old new value s).bankMem = s.bankMem :=
  (sends_postStatus _ _ _ s).bankMem
@[simp] theorem logErr_bankMem (code sev cls inst : Nat) (s : State) : (logErr code sev cls inst s).bankMem = s.bankMem :=
  (sends_logErr _ _ _ _ s).bankMem

theorem foldS_bankMem {α : Type} (f : α → State → State) (h : ∀ a s, (f a s).bankMem = s.bankMem) (l : List α) (s : State) :
    (foldS f l s).bankMem = s.bankMem := by
  unfold foldS
  induction l generalizing s with
  | nil => rfl
  | cons a t ih => rw [List.foldl_cons, ih, h]

/-- Decoding a granule writes no data byte: a corrected granule holds what it should (15 R585). -/
@[simp] theorem decodeGranule_bankMem (g errs : Nat) (s : State) : (decodeGranule g errs s).1.bankMem = s.bankMem := by
  unfold decodeGranule
  simp only
  split
  · rfl
  · split
    · rfl
    · split <;> simp

@[simp] theorem decodeGranules_bankMem (gs errs : List Nat) (s : State) : (decodeGranules gs errs s).1.bankMem = s.bankMem := by
  induction gs generalizing errs s with
  | nil => rfl
  | cons g gs ih => simp [decodeGranules, ih]

/-- A bank write puts its bytes into the memory and nothing else (15 R582). -/
theorem writeBank_bankMem (addr : Nat) (bytes : List Byte) (tag : Bool) (errs : List Nat) (s : State) :
    (writeBank addr bytes tag errs s).bankMem = tsetMany 0 s.bankMem addr bytes := by
  unfold writeBank
  simp only
  congr 1
  exact (foldS_bankMem _ (fun _ _ => setPoison_bankMem _ _ _) _ _).trans (decodeGranules_bankMem _ _ _)

/-- A bank write leaves every byte outside it alone. -/
theorem writeBank_out (addr : Nat) (bytes : List Byte) (tag : Bool) (errs : List Nat) (s : State) {j : Nat}
    (h : j < addr ∨ addr + bytes.length ≤ j) :
    tget 0 (writeBank addr bytes tag errs s).bankMem j = tget 0 s.bankMem j := by
  rw [writeBank_bankMem, tget_tsetMany_out 0 _ _ _ h]

/-- A byte inside a bank write reads back as written. -/
theorem writeBank_in (addr : Nat) (bytes : List Byte) (tag : Bool) (errs : List Nat) (s : State) {j : Nat}
    (h : addr ≤ j ∧ j < addr + bytes.length) :
    tget 0 (writeBank addr bytes tag errs s).bankMem j = bytes.getD (j - addr) 0 := by
  rw [writeBank_bankMem, tget_tsetMany_in 0 _ _ _ h]

/-- A bank write keeps the canonical form. -/
theorem writeBank_wf (addr : Nat) (bytes : List Byte) (tag : Bool) (errs : List Nat) (s : State) (h : Memory.wf s.bankMem = true) :
    Memory.wf (writeBank addr bytes tag errs s).bankMem = true := by
  rw [writeBank_bankMem]; exact tabWf_tsetMany 0 _ _ _ h

/-- Clearing a bank keeps the canonical form. -/
theorem clearBank_wf (b : Nat) (s : State) (h : Memory.wf s.bankMem = true) : Memory.wf (clearBank b s).bankMem = true :=
  tabWf_filter 0 _ _ h

/-- A cleared bank reads as zeros (15 R581). -/
theorem clearBank_self (b : Nat) (s : State) {j : Nat} (h : j / 1048576 = b) : tget 0 (clearBank b s).bankMem j = 0 := by
  show tget 0 (s.bankMem.filter _) j = 0
  induction s.bankMem with
  | nil => rfl
  | cons x t ih =>
    obtain ⟨k, v⟩ := x
    rw [List.filter_cons]
    split
    · have : j ≠ k := by rintro rfl; simp [h] at *
      simp only [tget, if_neg this]; exact ih
    · exact ih

/-- A scrub keeps the canonical form, its CLEAR included (15 R588). -/
theorem memScrubComplete_wf (fixed bad : List Nat) (s : State) (h : Memory.wf s.bankMem = true) :
    Memory.wf (memScrubComplete fixed bad s).bankMem = true := by
  unfold memScrubComplete
  split
  · exact h
  · simp only
    split
    · rw [bankEvent_bankMem]; exact tabWf_filter 0 _ _ h
    · rw [bankEvent_bankMem]
      refine Eq.trans (congrArg Memory.wf ?_) h
      exact (foldS_bankMem _ (fun g t => decodeGranule_bankMem g 3 t) _ _).trans
        (foldS_bankMem _ (fun g t => decodeGranule_bankMem g 1 t) _ _)

end Sys2Proof.Laws
end

