-- ==== Sys2Proof/Laws/Ecsol.lean ====
section
/-! SUPPORT. What the command engine does with a packet, said once: a packet that steps 1 to 10 of R63 accept is committed,
rejected by its own checks, or held; statements about a command cite these and never unfold the engine. -/
namespace Sys2Proof.Laws

open Sys2Proof.Machine Sys2Proof.Safety

/-- A received packet goes on to step 4. -/
theorem runCmd_of_received {sp : OpSpec} {p : Packet} {s : State} (h : Received sp p s) :
    runCmd sp p s = checkCmd sp p (wakeFirmware s) := by
  have hc : cacheFind (wakeFirmware s) sp.opcode p = none := h.fresh
  have ho : outstanding (wakeFirmware s) p.port < 8 := h.room
  have hh : (wakeFirmware s).ecsol.held = [] := h.first
  have hw : (wakeFirmware s).ecsol.window = .none := h.window
  simp [runCmd, frontCmd, fromCache, windowStep, h.up, h.unblocked, h.crc, hc, hh, hw, Nat.not_le.mpr ho]

/-- Step 7 of a packet whose signature, where it has one, is right. -/
theorem authStep_of_passes {sp : OpSpec} {p : Packet} {s : State} (h : AuthPasses sp p s) :
    authStep sp p (wakeFirmware s) = .inr (signKey s p, authed p s) := by
  unfold AuthPasses at h
  unfold authStep signKey authed
  have hs : ∀ k, slotOf (wakeFirmware s) k = slotOf s k := fun _ => rfl
  have hl : (wakeFirmware s).security.life = s.security.life := rfl
  cases hc : cmdAuth p
  · simp_all
  · simp only [hc, if_true] at h
    obtain ⟨h1, h2, h3, h4⟩ := h
    simp [hs, h1, h2, h3, Nat.not_le.mpr h4]

/-- A received packet goes on to step 9. -/
theorem checkCmd_of_received {sp : OpSpec} {p : Packet} {s : State} (h : Received sp p s) :
    checkCmd sp p (wakeFirmware s) = match islandStep sp p (authed p s) with
      | some st => finish sp.opcode p st 0 [] (signKey s p) (authed p s)
      | none => reachCmd sp p (signKey s p) (authed p s) := by
  have hf : ¬ (bitsOf p.flags.toNat 7 4 ≠ 0 ∨ (!cmdAuth p) = true ∧ cmdSlot p ≠ 0) := by
    have := h.flags
    cases hc : cmdAuth p <;> simp_all
  have hs : permitted (wakeFirmware s).security.life sp.opcode = true := h.stage
  unfold checkCmd
  simp only [hf, hs, authStep_of_passes h.auth, h.length, if_false, Bool.not_true, Bool.false_eq_true]
  all_goals (cases islandStep sp p (authed p s) <;> rfl)

theorem signKey_isSome (s : State) (p : Packet) : (signKey s p).isSome = cmdAuth p := by
  unfold signKey; split <;> simp_all

/-- An accepted packet goes on to its own checks. -/
theorem runCmd_of_accepted {sp : OpSpec} {p : Packet} {s : State} (h : Accepted sp p s) :
    runCmd sp p s = commitCmd sp p (signKey s p) (withdrawn sp p (authed p s)) := by
  rw [runCmd_of_received h.received, checkCmd_of_received h.received, h.islands]
  have hw : ∀ t : State, (withdrawn sp p t).bst.active = t.bst.active := by
    intro t; unfold withdrawn; split <;> rfl
  have ha : (authed p s).bst.active = s.bst.active := by
    unfold authed; split <;> rfl
  have hs := h.slice
  unfold reachCmd
  show (match (withdrawn sp p (authed p s)).bst.active with
    | some r => _
    | none => _) = _
  rw [hw, ha]
  cases hb : s.bst.active with
  | none => rfl
  | some r =>
    rw [hb] at hs
    change (reached sp p (withdrawn sp p (authed p s))).contains r.block = false at hs
    change (if (reached sp p (withdrawn sp p (authed p s))).contains r.block = true then _ else _) = _
    rw [hs]; rfl

/-- The state that an accepted command's own checks see. -/
theorem ready_eq (sp : OpSpec) (p : Packet) (s : State) :
    (if (signKey s p).isSome then
      modSlot (cmdSlot p) (fun x => { x with highWater := p.counter.toNat }) (withdrawn sp p (authed p s))
     else withdrawn sp p (authed p s)) = ready sp p s := by
  unfold ready; rw [signKey_isSome]

/-- What an accepted command answers, by its own checks. -/
theorem runCmd_act {sp : OpSpec} {p : Packet} {s : State} (h : Accepted sp p s) :
    runCmd sp p s = match sp.act p (ready sp p s) with
      | .reject st => rejected sp p s st
      | .rejectNote st t =>
        finish sp.opcode p st 0 [] (signKey s p)
          (if cmdAuth p then modSlot (cmdSlot p)
            (fun x => { x with highWater := (slotOf (withdrawn sp p (authed p s)) (cmdSlot p)).highWater }) t else t)
      | .ok chain payload t => committed sp p s chain payload t
      | .hold why => holdCmd sp.opcode p why (withdrawn sp p (authed p s)) := by
  rw [runCmd_of_accepted h]
  unfold commitCmd
  simp only [h.params, h.mram, Bool.false_eq_true, if_false, Bool.false_and]
  rw [ready_eq]
  cases sp.act p (ready sp p s) <;> simp [rejected, committed, signKey_isSome]

/-- A command that its own checks pass is committed. -/
theorem runCmd_ok {sp : OpSpec} {p : Packet} {s t : State} {chain : Nat} {payload : List Byte} (h : Accepted sp p s)
    (ha : sp.act p (ready sp p s) = .ok chain payload t) : runCmd sp p s = committed sp p s chain payload t := by
  rw [runCmd_act h, ha]

/-- A command that its own checks reject changes nothing but its reply's records. -/
theorem runCmd_reject {sp : OpSpec} {p : Packet} {s : State} {st : Status} (h : Accepted sp p s)
    (ha : sp.act p (ready sp p s) = .reject st) : runCmd sp p s = rejected sp p s st := by
  rw [runCmd_act h, ha]

/-! ### How a command's own checks are read -/

@[simp] theorem rejectIf_false (st : Status) (k : CmdOut) : rejectIf false st k = k := rfl
@[simp] theorem rejectIf_true (st : Status) (k : CmdOut) : rejectIf true st k = .reject st := rfl

/-- A check that does not hold lets the command go on. -/
theorem rejectIf_of_not {bad : Bool} {st : Status} {k : CmdOut} (h : bad = false) : rejectIf bad st k = k := by simp [h]
/-- A check that holds rejects the command. -/
theorem rejectIf_of {bad : Bool} {st : Status} {k : CmdOut} (h : bad = true) : rejectIf bad st k = .reject st := by simp [h]

end Sys2Proof.Laws
end

