-- ==== Sys2Proof/WellFormed.lean ====
section
/-! DEFINITION. Well-formed commands: the bounds of operands that their types do not carry. -/
namespace Sys2Proof

/-- LENGTH of a command packet is at most 4096 (02 R51, R59). -/
def Packet.wf (p : Packet) : Bool := decide (p.params.length ≤ 4096)

/-- A unit carries 384 sample bits and its parity bit (03 R111). -/
def TransferUnit.wf (u : TransferUnit) : Bool := decide (u.flip1 < 2 ^ 385) && decide (u.flip2 < 2 ^ 385)

/-- A record of `bits` bits, stored in two granules of 256 bits and 19 check bits each (01 R32). -/
def Upset.wf (bits : Nat) (u : Upset) : Bool :=
  decide (u.flip < 2 ^ bits) && decide (u.errs.length ≤ 2) && u.errs.all (fun e => decide (e ≤ 275))

/-- Both ports sample on the same clock (10 R395). -/
def LinkAdc.wf (x : LinkAdc) : Bool := x.a.length == x.b.length

/-- The packet of a command row, where it has one. -/
def Instr.packet? : Instr → Option Packet
  | .sysIdentify p | .sysStatus p | .sysRestart p | .sysErrlogRead p | .sysErrlogClear p | .sysPark p => some p
  | .prfSelect p | .prfCustom p | .prfQuery p | .pwrStop p | .pwrWakeCfg p | .pwrIslands p => some p
  | .aprEnable p | .aprConfig p | .aprNotch p | .aprBlank p | .aprStatus p | .aprStream p => some p
  | .acqPlan p | .acqAid p | .acqStart p | .acqAbort p | .acqResults p => some p
  | .trkAssign p | .trkRelease p | .trkLoops p | .trkCorr p | .trkBurst p | .trkStatus p | .trkAnchor p => some p
  | .calVoile p | .calStatus p | .calCommit p | .calLoad p => some p
  | .measRate p | .tulGroup p | .tulMode p | .tulResetAmb p | .measCorrections p | .navConfig p => some p
  | .timPulse p | .timScale p | .timHoldover p | .timDelays p | .timEvent p | .timStepPolicy p | .timTimecode p => some p
  | .clkRef p | .clkOut p | .clkRamp p | .clkSync p | .clkStatus p => some p
  | .lnkChannels p | .lnkCal p | .lnkTxpower p | .lnkDiversity p | .lnkStatus p => some p
  | .lnkRole p | .lnkSchedule p | .lnkSend p | .lnkNodes p | .lnkRxcfg p => some p
  | .krnLoad p | .krnStart p | .krnStop p | .krnMailbox p | .krnSpares p | .krnStatus p => some p
  | .memOwner p | .memScrub p | .memStatus p | .bstSchedule p | .bstRunNow p | .bstResults p => some p
  | .secLifecycle p | .secKeyInstall p | .secKeyRetire p | .secZeroize p | .secCounterQuery p => some p
  | .outRoute p | .outFilter p | .unknownOpcode _ p => some p
  | _ => none

/-- The command is well-formed. -/
def Instr.wf (i : Instr) : Bool :=
  (match i.packet? with | some p => p.wf | none => true)
    && (match i with
      | .sliceTransferUnit _ _ u => u.wf
      | .dumpRecordCommit _ _ u => u.wf 512
      | .dwellEnd _ _ _ u _ | .verificationDwellEnd _ _ _ u _ => u.wf 288
      | .preambleDetection x | .linkAgcUpdate x | .watchDetection x | .headerDecoded x | .frameReceived x _ | .stfNinthPeriod x _
      | .slotEnd _ x => x.wf
      | _ => true)

end Sys2Proof
end

