-- ==== Sys2Proof/Tests/Slice0.lean ====
section
/-! SUPPORT. Tests: commands that are not well-formed, the figures of the spec's examples, and for each obligation what meets the
hypotheses of its clauses. -/
set_option Elab.async false
namespace Sys2Proof.Tests
open Sys2Proof.Machine Sys2Proof.Safety

/-- A device that runs, in MANUFACTURE, with every island on and ready. -/
def up : State :=
  { State.reset with power.fwReady := true, security.life := .manufacture, islands := { powered := 2 ^ 44 - 1, ready := 2 ^ 44 - 1 } }

/-- Nothing unusual happens to a command. -/
def quietObs : CmdObs := { paramCrcFail := false, mramFail := false, testLeft := 0, dieTemp := 0, wakeSeen := 0, subUs := 0, rxUs := 0 }

/-- A command packet on SPI: unsigned, REPLY 1, SEQ 1, with its CRC. -/
def mk (op : Nat) (params : List Byte) : Packet :=
  let p : Packet := { port := .spi, flags := 2, seq := 1, params := params, counter := 0, tag := 0, crc := 0, obs := quietObs }
  { p with crc := BitVec.ofNat 32 (crc32c (cmdBytes op p)) }

/-- The same packet signed with slot 0, COUNTER 5 and the tag given. -/
def signed (op : Nat) (params : List Byte) (tag : BitVec 128) : Packet :=
  let p := { mk op params with flags := 3, counter := 5, tag := tag }
  { p with crc := BitVec.ofNat 32 (crc32c (cmdBytes op p)) }

/-- `up` with an active key of zeros in slot 0. -/
def keyed (failures : Nat) : State :=
  { up with security.slots := [(0, { KeySlot.empty with state := 1, key := zeros 32, failures := failures })] }

/-- The packet `p` of opcode `op` in CMD_SLOT 0 of a trained PCIe link with CMD_EN and ring 0 enabled. -/
def slotted (op : Nat) (p : Packet) : State :=
  { up with pcie := { up.pcie with
    link := some { gen := 0, wide := false }, cmdEn := true, ringEn := 1,
    slots := tsetMany 0 [] 0 (cmdBytes op p ++ le 4 p.crc.toNat) } }

/-- A core that runs the instruction `i` at PC 0: program at 0 to 99, data at 0 to 999, bank 1 behind P4 and P5. -/
def running (i : KInstr) : Core :=
  { Core.initial with
    phase := .running, gen := 1, segs := [(0, (0, 100)), (1, (0, 1000)), (2, (0, 1000)), (3, (0x440000, 0x40000))],
    prog := [(0, BitVec.ofNat 24 (kEncode i).1), (1, BitVec.ofNat 24 (kEncode i).2)] }

/-- `up` with core `k`, bank 1 its own. -/
def withCore (k : Nat) (c : Core) : State :=
  { up with kernels.cores := [(k, c)], banks := [(1, { Bank.initial with powered := true, ready := true, owner := 0x10 + k })] }

theorem crcBit_lt {r : Nat} (h : r < 2 ^ 32) : crcBit r < 2 ^ 32 := by
  unfold crcBit; split
  · exact Nat.xor_lt_two_pow (by omega) (by decide)
  · omega

theorem crc32c_lt (bs : List Byte) : crc32c bs < 2 ^ 32 := by
  have h : ∀ (l : List Byte) (r : Nat), r < 2 ^ 32 → l.foldl crcByte r < 2 ^ 32 := by
    intro l; induction l with
    | nil => exact fun r h => h
    | cons b l ih =>
      intro r hr
      have hb : b.toNat < 2 ^ 32 := Nat.lt_trans b.isLt (by decide)
      exact ih _ (crcBit_lt (crcBit_lt (crcBit_lt (crcBit_lt (crcBit_lt (crcBit_lt (crcBit_lt (crcBit_lt (Nat.xor_lt_two_pow hr hb)))))))))
  exact Nat.xor_lt_two_pow (h _ _ (by decide)) (by decide)

/-- What makes a state take an unsigned packet on SPI up to its own checks. -/
def takes (sp : OpSpec) (params : List Byte) (s : State) : Bool :=
  hostUp s && !portBlocked s .spi && (portOf s .spi).cache.isEmpty && s.ecsol.held.isEmpty && s.ecsol.window == .none
    && permitted s.security.life sp.opcode && !(sp.critical && authNeeded s.security.life)
    && decide (sp.minLen ≤ params.length) && decide (params.length ≤ sp.maxLen)
    && (match sp.form params with | some k => params.length == k | none => true)
    && ((sp.islands params (wakeFirmware s)).all (fun i => countsOn s i && countsReady s i)) && s.bst.active.isNone

theorem accepted_mk (sp : OpSpec) (params : List Byte) (s : State) (h : takes sp params s = true) :
    Accepted sp (mk sp.opcode params) s := by
  simp only [takes, Bool.and_eq_true, Bool.not_eq_true', decide_eq_true_eq, List.isEmpty_iff, beq_iff_eq, List.all_eq_true] at h
  obtain ⟨⟨⟨⟨⟨⟨⟨⟨⟨⟨⟨h1, h2⟩, h3⟩, h4⟩, h5⟩, h6⟩, h7⟩, h8⟩, h9⟩, h10⟩, h11⟩, h12⟩ := h
  have ha : cmdAuth (mk sp.opcode params) = false := by simp [cmdAuth, mk]
  have hs : authed (mk sp.opcode params) s = wakeFirmware s := by simp [authed, ha]
  have hb : s.bst.active = none := by simpa using h12
  refine ⟨⟨h1, h2, ?_, ?_, ?_, h4, h5, ⟨by simp [mk, bitsOf], .inr (by simp [cmdSlot, mk, bitsOf])⟩, h6, ?_, ?_⟩, ?_, ?_, rfl, rfl⟩
  · show (BitVec.ofNat 32 (crc32c _)).toNat = _
    rw [BitVec.toNat_ofNat, Nat.mod_eq_of_lt (crc32c_lt _)]; rfl
  · show (portOf s .spi).cache.find? _ = none
    rw [h3]; rfl
  · simp [outstanding, h4]
  · simpa [AuthPasses, ha] using h7
  · unfold lengthOk
    show (decide (sp.minLen ≤ params.length) && decide (params.length ≤ sp.maxLen)
      && (match sp.form params with | some k => params.length == k | none => true)) = true
    simp [h8, h9, h10]
  · rw [hs]; unfold islandStep
    have e1 : (sp.islands params (wakeFirmware s)).any (fun i => !countsOn (wakeFirmware s) i) = false := by simp; exact fun i hi => (h11 i hi).1
    have e2 : (sp.islands params (wakeFirmware s)).any (fun i => !countsReady (wakeFirmware s) i) = false := by simp; exact fun i hi => (h11 i hi).2
    show (if (sp.islands params (wakeFirmware s)).any (fun i => !countsOn (wakeFirmware s) i) = true then _ else
      if (sp.islands params (wakeFirmware s)).any (fun i => !countsReady (wakeFirmware s) i) = true then _ else _) = _
    rw [e1, e2]; rfl
  · rw [hb]


/-! ### Commands that are not well-formed (Sys2Proof.WellFormed) -/

theorem test_wf_packet_too_long : (Instr.sysStatus { mk 0x0102 [] with params := List.replicate 4097 0 }).wf = false := by decide +kernel
theorem test_wf_packet : (Instr.sysStatus { mk 0x0102 [] with params := List.replicate 4096 0 }).wf = true := by decide +kernel
theorem test_wf_transfer_unit_parity_bit :
    (Instr.sliceTransferUnit 0 0 { adc := [], flip1 := 2 ^ 384, flip2 := 0 }).wf = true
      ∧ (Instr.sliceTransferUnit 0 0 { adc := [], flip1 := 0, flip2 := 2 ^ 385 }).wf = false := by decide +kernel
theorem test_wf_dump_record_of_65_bytes : (Instr.dumpRecordCommit 0 0 { flip := 2 ^ 512, errs := [] }).wf = false := by decide +kernel
theorem test_wf_candidate_record_of_37_bytes : (Instr.dwellEnd 0 0 [] { flip := 2 ^ 288, errs := [] } 0).wf = false := by decide +kernel
theorem test_wf_three_granules : (Instr.dumpRecordCommit 0 0 { flip := 0, errs := [0, 0, 0] }).wf = false := by decide +kernel
theorem test_wf_link_ports_apart : (Instr.slotEnd 0 { g := 0, a := [1], b := [] }).wf = false := by decide +kernel

/-! ### Figures of the spec's examples -/

/-- CRC-32C over "123456789", the published check value of the polynomial that 02 R51 names. -/
theorem test_crc32c_check_value : crc32c [0x31, 0x32, 0x33, 0x34, 0x35, 0x36, 0x37, 0x38, 0x39] = 0xE3069283 := by decide +kernel

/-- The first command of the queue runs, and leaves the queue. -/
theorem test_step_runs_the_front :
    step { up with pending := [.aidLapse 1 5, .dutyWindow] } = exec (.aidLapse 1 5) { up with pending := [.dutyWindow] } := rfl

/-- 13, worked example: the words of its six instructions. -/
theorem test_kernel_words :
    kDecode false 0x100 0x69FFFD 0 = some (.movi 1 0xFFFD) ∧ kDecode false 0x101 0x804401 0 = some (.ld 0 2 1 1)
      ∧ kDecode false 0x102 0x481020 0 = some (.alu .add 2 0 1) ∧ kDecode false 0x103 0x200003 0 = some (.rep 3)
      ∧ kDecode false 0x105 0x70A000 0 = some (.movr 5 0) := by decide +kernel

/-- What a command leaves. -/
def after (o : Host.Outcome State Fault Refusal) (f : State → Bool) : Bool := match o with
  | .next t => f t
  | _ => false

/-- 13, worked example: K3 at 0x0101, P2 at 0x200 of DS1. -/
def example13 : State :=
  withCore 3 { running (.ctl .nop) with
    pc := 0x101, segs := [(0, (0, 0x1000)), (2, (0x4000, 0x1000))],
    prog := [(0x101, 0x804401), (0x102, 0x481020), (0x103, 0x200003), (0x104, 0x804401), (0x105, 0x70A000)],
    dmem := [(0x4200, { v := 0x10, t := false }), (0x4201, { v := 0x20, t := false }), (0x4202, { v := 0x30, t := false }),
             (0x4203, { v := 0x40, t := false })],
    regs := [(0, { v := 5, t := false }), (1, { v := 0xFFFFFD, t := false }), (10, { v := 0x200, t := false })] }

/-- The load reads 0x10 and moves P2 at once; D0 still holds 5. -/
theorem test_kernel_load_lands_late : after (exec (.kLd 3 0 2 1 1) example13) (fun t =>
    (kReg (coreOf t 3) 10).v == 0x201 && (kReg (coreOf t 3) 0).v == 5 && (coreOf t 3).slot == some (0, { v := 0x10, t := false })) = true := by
  decide +kernel

/-- ADD reads the old D0, and D0 becomes 0x10 at the end of the cycle. -/
theorem test_kernel_add_reads_the_old_word : after (exec (.kLd 3 0 2 1 1) example13) (fun s =>
    after (exec (.kAdd 3 2 0 1) s) (fun t => (kReg (coreOf t 3) 2).v == 2 && (kReg (coreOf t 3) 0).v == 0x10)) = true := by decide +kernel

/-- 14: AC0 = 0x00_4000_0080_0000 moves with the reset SCALE to 0x40_0001. -/
theorem test_accumulator_move_rounds : (scaledMove 0x40 0x00400000800000).1 = 0x400001 := by decide +kernel

/-- 13: DIV of 7 by -2 and of -7 by 2. -/
theorem test_division_truncates :
    kDiv true 7 0xFFFFFE = (0xFFFFFD, 1, 0, 0) ∧ kDiv true 0xFFFFF9 2 = (0xFFFFFD, 0xFFFFFF, 0, 0) := by decide +kernel

/-- 04: 129 cells and 23 bins of 25 Hz from a code half-width of 31.816 chips and a Doppler half-width of 252.39 Hz. -/
theorem test_search_window : (match sigOf 1 with
    | some i =>
      let w : Window := { place := 0, doppler := 0, code := some (31816, 1000), dopp := (25239, 100), fine := true }
      windowCells i w == 129 && 2 * windowBins w 20 + 1 == 23
    | none => false) = true := by decide +kernel

/-- 08: ERR_BOUND 4.5 + 3240 + 233.28 ns after six hours, sent as 3478. -/
theorem test_error_bound :
    errBound { up with nunar := { up.nunar with st := 3, validMs := some 0, xSd := 1500, freqSd := 50000000, drift := 1000 } } 21600000 = 3478 := by
  decide +kernel

/-- 11: 400 bytes at RATE 5 and 800 kHz take 45 symbols. -/
theorem test_link_symbols : airSym 5 1 400 = 45 := by decide +kernel

/-- 09: a linear shape of 2 ms lags by 1 ms, so a jump of 50 ppb moves the output 50 ps less than TC. -/
theorem test_clock_lag :
    clkLag { up with clk := { up.clk with
      lag := shapeLag { dy := 50000000000, segs := [(8388608, 2)], t := 0 } + shapeLag { dy := 50000000000, segs := [(8388608, 2)], t := 1 } } }
      = 50 := by decide +kernel

/-! ### Witnesses: what meets the hypotheses of each statement, clause by clause -/

theorem test_witness_SystemCommandsComplete : (∃ (p : _) (s : State), (Accepted specSysIdentify p s)) ∧ (∃ (p : _) (s : State),
    (Accepted specSysStatus p s)) ∧ (∃ (p : _) (s : State), (Accepted specSysErrlogRead p s) ∧ (u8 p.params 0 ≤ 127) ∧ (u8
    p.params 1 ≤ 128) ∧ (zeroAt p.params 2 2 = true)) ∧ (∃ (p : _) (s : State), (Accepted specSysErrlogClear p s)) ∧ (∃ (p : _)
    (s : State), (Accepted specOutRoute p s) ∧ ((0x81 ≤ u8 p.params 0) ∧ (u8 p.params 0 ≤ 0x8F) ∧ (u8 p.params 1 ≤ 31) ∧ (u8
    p.params 0 = 0x8D → u8 p.params 1 = 8) ∧ ((u8 p.params 1).testBit 3 = true → u8 p.params 2 ≤ 3) ∧ ((u8 p.params 1).testBit 3
    = false → u8 p.params 2 = 0) ∧ ((u8 p.params 0 = 0x81 ∨ u8 p.params 0 = 0x82 ∨ u8 p.params 0 = 0x83) → u8 p.params 3 ≠ 0) ∧
    (¬ (u8 p.params 0 = 0x81 ∨ u8 p.params 0 = 0x82 ∨ u8 p.params 0 = 0x83) → u8 p.params 3 = 1) ∧ (u8 p.params 1 = 0 ↔ u32
    p.params 4 = 0)) ∧ ∃ t, t = (ready specOutRoute p s) ∧ ∃ r : Route, r =
    ({ ports := u8 p.params 1, ring := u8 p.params 2, decim := u8 p.params 3, instMask := u32 p.params 4 }) ∧ ∃ u, u =
    ({ t with ecsol.routes := tset Route.off t.ecsol.routes (u8 p.params 0) r }) ∧ (budgetBroken t u = false)) ∧ (∃ (p : _) (s :
    State), (Accepted specOutFilter p s) ∧ (u8 p.params 0 ≤ 4 ∨ 16 ≤ u8 p.params 0 ∧ u8 p.params 0 ≤ 31) ∧ (u8 p.params 1 ≤ 3) ∧
    (zeroAt p.params 2 6 = true)) :=
  ⟨⟨mk specSysIdentify.opcode [], up, accepted_mk _ _ _ (by decide +kernel)⟩,
    ⟨mk specSysStatus.opcode [], up, accepted_mk _ _ _ (by decide +kernel)⟩,
    ⟨mk specSysErrlogRead.opcode [0, 128, 0, 0], up, accepted_mk _ _ _ (by decide +kernel), by decide +kernel⟩,
    ⟨mk specSysErrlogClear.opcode [], up, accepted_mk _ _ _ (by decide +kernel)⟩,
    ⟨mk specOutRoute.opcode [0x86, 0b01011, 3, 1, 0xFF, 0xFF, 0xFF, 0xFF], up, accepted_mk _ _ _ (by decide +kernel),
      by decide +kernel, _, rfl, _, rfl, _, rfl, by decide +kernel⟩,
    ⟨mk specOutFilter.opcode [31, 3, 0, 0, 0, 0, 0, 0], up, accepted_mk _ _ _ (by decide +kernel), by decide +kernel⟩⟩

theorem test_witness_SecurityAndSelfTestCommandsComplete : (∃ (p : _) (s : State), (Accepted specSecKeyInstall p s) ∧ ((u8
    p.params 0 ≤ 3) ∧ (zeroAt p.params 1 3 = true) ∧ (zeroAt p.params 40 8 = true) ∧ (field p.params 36 4 = (hmac (field
    p.params 4 32) [0x41, 0x45, 0x4C, 0x45, 0x54, 0x4F, 0x53, 0x4B]).take 4)) ∧ ∃ t, t = (ready specSecKeyInstall p s) ∧ (slotOf
    t (u8 p.params 0)).state ≠ 1) ∧ (∃ (p : _) (s : State), (Accepted specSecKeyRetire p s) ∧ ((u8 p.params 0 ≤ 3) ∧ (zeroAt
    p.params 1 3 = true)) ∧ ∃ t, t = (ready specSecKeyRetire p s) ∧ (slotOf t (u8 p.params 0)).state = 1 ∧ (authNeeded
    t.security.life = true → (activeSlots t).length ≠ 1)) ∧ (∃ (p : _) (s : State), (Accepted specSecCounterQuery p s) ∧ (u8
    p.params 0 ≤ 3) ∧ (zeroAt p.params 1 3 = true)) ∧ (∃ (p : _) (s : State), (Accepted specSecLifecycle p s) ∧ ((zeroAt
    p.params 1 1 = true) ∧ (u16 p.params 2 = 0xC35A)) ∧ ∃ t, t = (ready specSecLifecycle p s) ∧ (u8 p.params 0 = lifeCode
    t.security.life + 1) ∧ (u8 p.params 0 ≤ 4) ∧ (u8 p.params 0 = 2 → activeSlots t ≠ [])) ∧ (∃ (p : _) (s : State), (Accepted
    specSecZeroize p s) ∧ (u8 p.params 0 ≤ 1) ∧ (zeroAt p.params 1 1 = true) ∧ (u16 p.params 2 = 0xC35A)) ∧ (∃ (p : _) (s :
    State), (Accepted specBstSchedule p s) ∧ (u8 p.params 0 ≤ 1) ∧ (zeroAt p.params 1 1 = true) ∧ (50 ≤ u16 p.params 2) ∧ (u16
    p.params 2 ≤ 2000) ∧ (60 ≤ u32 p.params 4) ∧ (u32 p.params 4 ≤ 86400)) ∧ (∃ (p : _) (s : State), (Accepted specBstRunNow p
    s) ∧ ((u8 p.params 0 ≤ 56) ∧ (u8 p.params 1 = 0 ∨ u8 p.params 1 = 1 ∧ u8 p.params 0 = 56) ∧ (u16 p.params 2 = 0 ∨ 50 ≤ u16
    p.params 2 ∧ u16 p.params 2 ≤ 2000) ∧ (zeroAt p.params 4 4 = true)) ∧ ∃ t, t = (ready specBstRunNow p s) ∧ (bstOf t (u8
    p.params 0)).runNow = none ∧ (u8 p.params 0 < 24 → aprEnabledNext (aprOf t (u8 p.params 0)) = false) ∧ (38 ≤ u8 p.params 0 →
    u8 p.params 0 ≤ 53 → coreTestable t (u8 p.params 0 - 38) = true) ∧ (u8 p.params 1 = 1 → t.security.life = .manufacture ∨
    t.security.life = .returned)) ∧ (∃ (p : _) (s : State), (Accepted specBstResults p s)) :=
  ⟨⟨mk specSecKeyInstall.opcode ([3, 0, 0, 0] ++ zeros 32 ++ (hmac (zeros 32) [0x41, 0x45, 0x4C, 0x45, 0x54, 0x4F, 0x53, 0x4B]).take 4 ++ zeros 8),
      up, accepted_mk _ _ _ (by decide +kernel), by decide +kernel, _, rfl, by decide +kernel⟩,
    ⟨mk specSecKeyRetire.opcode [1, 0, 0, 0],
      { up with security.slots := [(1, { KeySlot.empty with state := 1, key := zeros 32 })] }, accepted_mk _ _ _
      (by decide +kernel), by decide +kernel, _, rfl, by decide +kernel⟩,
    ⟨mk specSecCounterQuery.opcode [3, 0, 0, 0], up, accepted_mk _ _ _ (by decide +kernel), by decide +kernel⟩,
    ⟨mk specSecLifecycle.opcode [2, 0, 0x5A, 0xC3],
      { up with security.slots := [(1, { KeySlot.empty with state := 1, key := zeros 32 })] }, accepted_mk _ _ _
      (by decide +kernel), by decide +kernel, _, rfl, by decide +kernel⟩,
    ⟨mk specSecZeroize.opcode [1, 0, 0x5A, 0xC3], up, accepted_mk _ _ _ (by decide +kernel), by decide +kernel⟩,
    ⟨mk specBstSchedule.opcode [1, 0, 50, 0, 60, 0, 0, 0], up, accepted_mk _ _ _ (by decide +kernel), by decide +kernel⟩,
    ⟨mk specBstRunNow.opcode [56, 1, 0xD0, 7, 0, 0, 0, 0], up, accepted_mk _ _ _ (by decide +kernel), by decide +kernel, _, rfl,
      by decide +kernel⟩,
    ⟨mk specBstResults.opcode [], up, accepted_mk _ _ _ (by decide +kernel)⟩⟩

theorem test_witness_ProfileAndPowerCommandsComplete : (∃ (p : _) (s : State), (Accepted specPrfSelect p s) ∧ ((u8 p.params 0 ≤
    4) ∧ (zeroAt p.params 1 3 = true)) ∧ ∃ t, t = (ready specPrfSelect p s) ∧ ∃ e, e = (column (u8 p.params 0)) ∧ (workFits t e
    = true) ∧ (budgetBroken t { t with profile := { sel := u8 p.params 0, custom := false, env := e } } = false)) ∧ (∃ (p : _)
    (s : State), (Accepted specPrfCustom p s) ∧ (customOk p.params = true) ∧ ∃ t, t = (ready specPrfCustom p s) ∧ ∃ e, e =
    (envIn p.params) ∧ (insideColumn e = true) ∧ (e.bankMask.testBit 0 = true) ∧ (workFits t e = true) ∧ (budgetBroken t
    { t with profile := { sel := e.base, custom := true, env := e } } = false)) ∧ (∃ (p : _) (s : State), (Accepted specPrfQuery
    p s)) ∧ (∃ (p : _) (s : State), (Accepted specPwrIslands p s) ∧ (u64 p.params 0 < 2 ^ 43) ∧ (zeroAt p.params 9 3 = true) ∧
    (u8 p.params 8 = 2) ∧ (u64 p.params 0 = 0)) ∧ (∃ (p : _) (s : State), (Accepted specPwrIslands p s) ∧ ((u64 p.params 0 < 2 ^
    43) ∧ (zeroAt p.params 9 3 = true)) ∧ ∃ t, t = (ready specPwrIslands p s) ∧ (u8 p.params 8 = 0) ∧ (∀ i ∈ maskBits 43 (u64
    p.params 0), countsOn t i = true → islandBusy t i = false)) ∧ (∃ (p : _) (s : State), (Accepted specPwrIslands p s) ∧ ((u64
    p.params 0 < 2 ^ 43) ∧ (zeroAt p.params 9 3 = true)) ∧ ∃ t, t = (ready specPwrIslands p s) ∧ (u8 p.params 8 = 1) ∧ ∃ new,
    new = ((maskBits 43 (u64 p.params 0)).filter (fun i => !countsOn t i)) ∧ (∀ i ∈ new, islandAllowed t.profile.env i = true ∧
    (i < 24 → ((upto 24).filter (countsOn t)).length + (new.filter (fun j => decide (j < 24))).length ≤ aprCount
    t.profile.env))) ∧ (∃ (p : _) (s : State), (Accepted specPwrWakeCfg p s) ∧ (0x08 ≤ u8 p.params 0) ∧ (u8 p.params 0 ≤ 0x77) ∧
    (u8 p.params 1 ≤ 7) ∧ (u8 p.params 2 ≤ 1) ∧ (1 ≤ u8 p.params 3) ∧ (u8 p.params 3 ≤ 200) ∧ ((u8 p.params 1).testBit 2 = true
    ↔ u32 p.params 4 ≠ 0) ∧ ((u8 p.params 1).testBit 2 = true → u8 p.params 2 = 1)) ∧ (∃ (p : _) (s : State), (Accepted
    specPwrStop p s) ∧ ((u8 p.params 0 ≤ 1) ∧ (zeroAt p.params 1 3 = true)) ∧ ∃ t, t = (ready specPwrStop p s) ∧
    (t.power.wake.sources ≠ 0) ∧ (mramBusy t = false) ∧ (t.power.seq = none) ∧ (p.obs.wakeSeen.toNat &&& t.power.wake.sources =
    0)) ∧ (∃ (p : _) (s : State), (Accepted specSysRestart p s) ∧ ((u8 p.params 0 ≤ 1) ∧ (zeroAt p.params 1 3 = true)) ∧ ∃ t, t
    = (ready specSysRestart p s) ∧ (mramBusy t = false) ∧ (t.power.seq = none)) ∧ (∃ (p : _) (s : State), (Accepted specSysPark
    p s) ∧ (zeroAt p.params 1 3 = true) ∧ (u8 p.params 0 = 1)) ∧ (∃ (p : _) (s : State), (Accepted specSysPark p s) ∧ (zeroAt
    p.params 1 3 = true) ∧ ∃ t, t = (ready specSysPark p s) ∧ (u8 p.params 0 = 0) ∧ (nothingToPark t = false)) :=
  ⟨⟨mk specPrfSelect.opcode [0, 0, 0, 0], up, accepted_mk _ _ _ (by decide +kernel), by decide +kernel, _, rfl, _, rfl,
      by decide +kernel⟩,
    ⟨mk specPrfCustom.opcode (envBytes { Envelope.survey with aprMask := 0xF }), up, accepted_mk _ _ _ (by decide +kernel),
      by decide +kernel, _, rfl, _, rfl, by decide +kernel⟩,
    ⟨mk specPrfQuery.opcode [], up, accepted_mk _ _ _ (by decide +kernel)⟩,
    ⟨mk specPwrIslands.opcode (le 8 0 ++ [2, 0, 0, 0]), up, accepted_mk _ _ _ (by decide +kernel), by decide +kernel⟩,
    ⟨mk specPwrIslands.opcode (le 8 3 ++ [0, 0, 0, 0]), up, accepted_mk _ _ _ (by decide +kernel), by decide +kernel, _, rfl,
      by decide +kernel⟩,
    ⟨mk specPwrIslands.opcode (le 8 1 ++ [1, 0, 0, 0]), { up with islands := { powered := 2 ^ 43, ready := 2 ^ 43 } },
      accepted_mk _ _ _ (by decide +kernel), by decide +kernel, _, rfl, by decide +kernel, _, rfl, by decide +kernel⟩,
    ⟨mk specPwrWakeCfg.opcode [0x77, 7, 1, 200, 1, 0, 0, 0], up, accepted_mk _ _ _ (by decide +kernel), by decide +kernel⟩,
    ⟨mk specPwrStop.opcode [1, 0, 0, 0], up, accepted_mk _ _ _ (by decide +kernel), by decide +kernel, _, rfl,
      by decide +kernel⟩,
    ⟨mk specSysRestart.opcode [1, 0, 0, 0], up, accepted_mk _ _ _ (by decide +kernel), by decide +kernel, _, rfl,
      by decide +kernel⟩,
    ⟨mk specSysPark.opcode [1, 0, 0, 0], up, accepted_mk _ _ _ (by decide +kernel), by decide +kernel⟩,
    ⟨mk specSysPark.opcode [0, 0, 0, 0], { up with nav.osc := some { value := [5], sd := 1 } }, accepted_mk _ _ _
      (by decide +kernel), by decide +kernel, _, rfl, by decide +kernel⟩⟩

theorem test_witness_ApertureCommandsComplete : (∃ (p : _) (s : State), (Accepted specAprEnable p s) ∧ ((u32 p.params 0 ≠ 0) ∧
    (u32 p.params 0 < 2 ^ 24) ∧ (u8 p.params 5 ≤ 15) ∧ (u8 p.params 4 = 0 ∧ u8 p.params 5 = 0 ∨ u8 p.params 4 = 1 ∧ u8 p.params
    5 ≠ 0) ∧ (zeroAt p.params 6 2 = true)) ∧ ∃ t, t = (ready specAprEnable p s) ∧ ∃ as, as = (maskBits 24 (u32 p.params 0)) ∧ (∀
    a ∈ as, streamLost t a (u8 p.params 5) = false) ∧ (u8 p.params 4 = 1 → (∀ a ∈ as, t.profile.env.aprMask.testBit a = true) ∧
    ((upto 24).filter (fun a => aprEnabledNext (aprOf t a) || as.contains a)).length ≤ aprCount t.profile.env)) ∧ (∃ (p : _) (s
    : State), (Accepted specAprConfig p s) ∧ (u8 p.params 0 ≤ 23 ∨ u8 p.params 0 = 255) ∧ (u8 p.params 1 ≤ 3 ∨ u8 p.params 1 =
    255) ∧ (u8 p.params 2 ≤ 2) ∧ (4 ≤ u8 p.params 3) ∧ (u8 p.params 3 ≤ 16) ∧ (u8 p.params 4 ≤ 10) ∧ (-24 ≤ i16 p.params 6) ∧
    (i16 p.params 6 ≤ 192) ∧ (u16 p.params 8 = 0x8000 ∨ -384 ≤ i16 p.params 8 ∧ i16 p.params 8 ≤ 0) ∧ (3 ≤ u8 p.params 10) ∧ (u8
    p.params 10 ≤ 30) ∧ (zeroAt p.params 11 1 = true) ∧ (u16 p.params 12 ≠ 0) ∧ (zeroAt p.params 14 2 = true)) ∧ (∃ (p : _) (s :
    State), (Accepted specAprNotch p s) ∧ (notchRangesOk p.params = true) ∧ ∃ t, t = (ready specAprNotch p s) ∧ (u8 p.params 0 ≠
    255 ∨ u8 p.params 3 = 2 → ∀ a ∈ aprTargets (u8 p.params 0) t, notchModeNext t a (u8 p.params 1) (u8 p.params 2) ≠ 3)) ∧ (∃
    (p : _) (s : State), (Accepted specAprBlank p s) ∧ (u8 p.params 0 ≤ 23 ∨ u8 p.params 0 = 255) ∧ (zeroAt p.params 7 1 = true)
    ∧ (u8 p.params 1 = 0 ∧ zeroAt p.params 2 5 = true ∨ (u8 p.params 1 = 1 ∧ 16 ≤ u8 p.params 2 ∧ u8 p.params 2 ≤ 127 ∨ u8
    p.params 1 = 2 ∧ 12 ≤ u8 p.params 2 ∧ u8 p.params 2 ≤ 60) ∧ 1 ≤ u8 p.params 3 ∧ u8 p.params 3 ≤ 15 ∧ u8 p.params 4 ≤ 50 ∧ u8
    p.params 5 ≤ 200 ∧ 1 ≤ u8 p.params 6 ∧ u8 p.params 6 ≤ 16)) ∧ (∃ (p : _) (s : State), (Accepted specAprStatus p s) ∧ (u32
    p.params 0 < 2 ^ 24)) ∧ (∃ (p : _) (s : State), (Accepted specAprStream p s) ∧ ((u8 p.params 0 ≤ 23) ∧ (u8 p.params 1 ≤ 3) ∧
    (u8 p.params 3 ≤ 1)) ∧ ∃ t, t = (ready specAprStream p s) ∧ ∃ a, a = (u8 p.params 0) ∧ ∃ i, i = (u8 p.params 1) ∧ ∃ st :
    IqStream, st =
    ({ format := u8 p.params 3, left := if u32 p.params 4 = 0 then none else some (u32 p.params 4), block := 0, lost := false, stopping := false, started := false, epochMs := 0, offset := 0, buf := [], gain0 := 0, blanked := false, parity := false, gainMoved := false, notchMoved := false })
    ∧ ∃ u, u = (modSlice a i (fun x => { x with stream := some st }) t) ∧ (u8 p.params 2 = 1) ∧ (aprRunning t a = true) ∧ (aprOf
    t a).slicesOn.testBit i = true ∧ (sliceOf t a i).stream = none ∧ (t.pcie.link.isSome = true) ∧ (iqStreams u).length ≤
    t.profile.env.iqSlices ∧ (budgetBroken t u = false)) ∧ (∃ (p : _) (s : State), (Accepted specAprStream p s) ∧ (u8 p.params 0
    ≤ 23) ∧ (u8 p.params 1 ≤ 3) ∧ (u8 p.params 3 ≤ 1) ∧ (u8 p.params 2 = 0) ∧ (u8 p.params 3 = 0) ∧ (u32 p.params 4 = 0)) :=
  ⟨⟨mk specAprEnable.opcode (le 4 0x800001 ++ [1, 15, 0, 0]), up, accepted_mk _ _ _ (by decide +kernel), by decide +kernel, _,
      rfl, _, rfl, by decide +kernel⟩,
    ⟨mk specAprConfig.opcode ([255, 255, 2, 16, 10, 0, 192, 0] ++ leI 2 (-384) ++ [30, 0, 1, 0, 0, 0]), up, accepted_mk _ _ _
      (by decide +kernel), by decide +kernel⟩,
    ⟨mk specAprNotch.opcode ([0, 3, 3, 1] ++ leI 4 1000 ++ [10, 30, 0, 0]), up, accepted_mk _ _ _ (by decide +kernel),
      by decide +kernel, _, rfl, by decide +kernel⟩,
    ⟨mk specAprBlank.opcode [255, 2, 60, 15, 50, 200, 16, 0], up, accepted_mk _ _ _ (by decide +kernel), by decide +kernel⟩,
    ⟨mk specAprStatus.opcode (le 4 0xFFFFFF), up, accepted_mk _ _ _ (by decide +kernel), by decide +kernel⟩,
    ⟨mk specAprStream.opcode [23, 3, 1, 1, 0, 0, 0, 0],
      { up with apertures := [(23, { Aperture.initial with enabled := true, slicesOn := 15, phase := .running })], pcie.link := some { gen := 0, wide := false }, profile := { up.profile with env := { Envelope.survey with iqSlices := 1, outBudget := 65535 } } },
      accepted_mk _ _ _ (by decide +kernel), by decide +kernel, _, rfl, _, rfl, _, rfl, _, rfl, _, rfl, by decide +kernel⟩,
    ⟨mk specAprStream.opcode [23, 3, 0, 0, 0, 0, 0, 0], up, accepted_mk _ _ _ (by decide +kernel), by decide +kernel⟩⟩

theorem test_witness_ApertureEventsComplete : (∃ (a : Fin 24) (i : Fin 4) (u : TransferUnit) (s : State), ((adcRuns s a = true)
    ∧ (aprOf s a).slicesOn.testBit i = true) ∧ ∃ t, t = (modApr a (fun x => u.adc.foldl (fun y b => adcFeed s.front b y) x) s) ∧
    (sliceOf t a i).fifo.length < 32) ∧ (∃ (a : Fin 24) (i : Fin 4) (u : TransferUnit) (s : State), ((adcRuns s a = true) ∧
    (aprOf s a).slicesOn.testBit i = true) ∧ ∃ t, t = (modApr a (fun x => u.adc.foldl (fun y b => adcFeed s.front b y) x) s) ∧
    (32 ≤ (sliceOf t a i).fifo.length)) ∧ (∃ (a : Nat) (i : Nat) (u : TransferUnit) (s : State), (32 ≤ (sliceOf s a
    i).fifo.length) ∧ (u.flip2 = 0) ∧ (u.flip1 = 0)) ∧ (∃ (a : Nat) (i : Nat) (u : TransferUnit) (s : State), ((32 ≤ (sliceOf s
    a i).fifo.length) ∧ (u.flip2 = 0)) ∧ ∃ (k : Nat), (k < 385) ∧ (u.flip1 = 2 ^ k)) ∧ (∃ (a : Fin 24) (i : Fin 4) (n : Fin 4)
    (s : State), (notchOf s a i n).engaged = true ∧ (2 ≤ (notchOf s a i n).mode) ∧ (sliceRate i / 1000 ≤ (notchOf s a i
    n).lowFor)) ∧ (∃ (a : Fin 24) (i : Fin 4) (s : State), (adcRuns s a = true) ∧ (aprOf s a).slicesOn.testBit i = true ∧
    (sliceOf s a i).agcN ≠ 0) ∧ (∃ (a : Fin 24) (s : State), (aprOf s a).phase = .settling ∧ (instantReached ((aprOf s
    a).sinceMs + 1) s = true)) ∧ (∃ (a : Fin 24) (s : State), (betweenBursts s = false) ∧ (aprOf s a).phase = .settling ∧
    (aprFaulted (aprOf s a) = false)) ∧ (∃ (a : Fin 24) (i : Fin 4) (s : State), (aprRunning s a = true) ∧ (noiseRef (sliceOf s
    a i) = none) ∧ (1000 ≤ (sliceOf s a i).samples.length)) ∧ (∃ (a : Fin 24) (i : Fin 4) (s : State), (sliceOf s a i).alert =
    true ∧ (100 ≤ (sliceOf s a i).jiLow)) ∧ (∃ (a : Fin 24) (s : State), (aprOf s a).enabled = true ∧ (100 ≤ (aprOf s a).nosigMs
    ∨ 100 ≤ (aprOf s a).rmsLowMs) ∧ (aprOf s a).faults.testBit 0 = false) ∧ (∃ (a : Fin 24) (s : State), (100 ≤ (aprOf s
    a).nosigClearMs) ∧ (aprOf s a).faults.testBit 0 = true) ∧ (∃ (a : Fin 24) (s : State), (aprOf s a).enabled = true ∧ (10 ≤
    (aprOf s a).overMs) ∧ (aprOf s a).faults.testBit 1 = false) ∧ (∃ (a : Fin 24) (s : State), (100 ≤ (aprOf s a).overClearMs) ∧
    (aprOf s a).faults.testBit 1 = true) ∧ (∃ (a : Fin 24) (s : State), (islandReady s a = true) ∧ (aprOf s a).codesBad = true ∧
    (aprOf s a).faults.testBit 2 = false) ∧ (∃ (a : Fin 24) (i : Fin 4) (s : State) (st : _), (sliceOf s a i).stream = some st ∧
    (4000 ≤ st.buf.length)) :=
  ⟨⟨23, 3, { adc := [], flip1 := 0, flip2 := 0 },
      { up with clk := { up.clk with st := 0 }, apertures := [(23, { Aperture.initial with enabled := true, slicesOn := 15, phase := .running })] },
      by decide +kernel, _, rfl, by decide +kernel⟩,
    ⟨23, 3, { adc := [], flip1 := 0, flip2 := 0 },
      { up with clk := { up.clk with st := 0 }, apertures := [(23, { Aperture.initial with enabled := true, slicesOn := 15, phase := .running, slices := [(3, { SliceState.initial with fifo := List.replicate 32 { i := 0, q := 0, tainted := false } })] })] },
      by decide +kernel, _, rfl, by decide +kernel⟩,
    ⟨23, 3, { adc := [], flip1 := 0, flip2 := 0 },
      { up with clk := { up.clk with st := 0 }, apertures := [(23, { Aperture.initial with enabled := true, slicesOn := 15, phase := .running, slices := [(3, { SliceState.initial with fifo := List.replicate 32 { i := 0, q := 0, tainted := false } })] })] },
      by decide +kernel⟩,
    ⟨23, 3, { adc := [], flip1 := (2 ^ 384), flip2 := 0 },
      { up with clk := { up.clk with st := 0 }, apertures := [(23, { Aperture.initial with enabled := true, slicesOn := 15, phase := .running, slices := [(3, { SliceState.initial with fifo := List.replicate 32 { i := 0, q := 0, tainted := false } })] })] },
      by decide +kernel, 384, by decide +kernel⟩,
    ⟨0, 1, 3,
      { up with clk := { up.clk with st := 0 }, apertures := [(0, { Aperture.initial with enabled := true, slicesOn := 15, phase := .running, slices := [(1, { SliceState.initial with notches := [(3, { Notch.off with mode := 2, engaged := true, lowFor := 100000 })] })] })] },
      by decide +kernel⟩,
    ⟨0, 1,
      { up with clk := { up.clk with st := 0 }, apertures := [(0, { Aperture.initial with enabled := true, slicesOn := 15, phase := .running, slices := [(1, { SliceState.initial with agcN := 1 })] })] },
      by decide +kernel⟩,
    ⟨0, { up with ms := 1, apertures := [(0, { Aperture.initial with phase := .settling })] }, by decide +kernel⟩,
    ⟨0, { up with clk := { up.clk with st := 0 }, apertures := [(0, { Aperture.initial with phase := .settling })] },
      by decide +kernel⟩,
    ⟨0, 1,
      { up with clk := { up.clk with st := 0 }, apertures := [(0, { Aperture.initial with enabled := true, slicesOn := 15, phase := .running, slices := [(1, { SliceState.initial with samples := List.replicate 1000 (1, 1) })] })] },
      by decide +kernel⟩,
    ⟨0, 1,
      { up with clk := { up.clk with st := 0 }, apertures := [(0, { Aperture.initial with enabled := true, slicesOn := 15, phase := .running, slices := [(1, { SliceState.initial with alert := true, jiLow := 100 })] })] },
      by decide +kernel⟩,
    ⟨0,
      { up with clk := { up.clk with st := 0 }, apertures := [(0, { Aperture.initial with enabled := true, slicesOn := 15, phase := .running, rmsLowMs := 100 })] },
      by decide +kernel⟩,
    ⟨0,
      { up with clk := { up.clk with st := 0 }, apertures := [(0, { Aperture.initial with enabled := true, slicesOn := 15, phase := .running, nosigClearMs := 100, faults := 1 })] },
      by decide +kernel⟩,
    ⟨0,
      { up with clk := { up.clk with st := 0 }, apertures := [(0, { Aperture.initial with enabled := true, slicesOn := 15, phase := .running, overMs := 10 })] },
      by decide +kernel⟩,
    ⟨0,
      { up with clk := { up.clk with st := 0 }, apertures := [(0, { Aperture.initial with enabled := true, slicesOn := 15, phase := .running, overClearMs := 100, faults := 2 })] },
      by decide +kernel⟩,
    ⟨0,
      { up with clk := { up.clk with st := 0 }, apertures := [(0, { Aperture.initial with enabled := true, slicesOn := 15, phase := .running, codesBad := true })] },
      by decide +kernel⟩,
    ⟨0, 1,
      { up with clk := { up.clk with st := 0 }, apertures := [(0, { Aperture.initial with enabled := true, slicesOn := 15, phase := .running, slices := [(1, { SliceState.initial with stream := some { format := 0, left := none, block := 0, lost := false, stopping := false, started := true, epochMs := 0, offset := 0, buf := List.replicate 4000 (0, 0), gain0 := 0, blanked := false, parity := false, gainMoved := false, notchMoved := false } })] })] },
      { format := 0, left := none, block := 0, lost := false, stopping := false, started := true, epochMs := 0, offset := 0, buf := List.replicate 4000 (0, 0), gain0 := 0, blanked := false, parity := false, gainMoved := false, notchMoved := false },
      by decide +kernel⟩⟩

theorem test_witness_BankCommandsComplete : (∃ (p : _) (s : State), (Accepted specMemOwner p s) ∧ ((u8 p.params 0 ≤ 15) ∧ (u8
    p.params 1 = 1 ∨ 0x10 ≤ u8 p.params 1 ∧ u8 p.params 1 ≤ 0x1F) ∧ (u8 p.params 2 ≤ 1) ∧ (zeroAt p.params 3 1 = true)) ∧ ∃ t, t
    = (ready specMemOwner p s) ∧ (bankOf t (u8 p.params 0)).owner = 1 ∧ (u8 p.params 1 ≠ 1 → coreAllowed t (u8 p.params 1 -
    0x10) = true)) ∧ (∃ (p : _) (s : State), (Accepted specMemScrub p s) ∧ ((u8 p.params 0 ≤ 15) ∧ (u8 p.params 1 ≤ 1) ∧ (zeroAt
    p.params 2 2 = true) ∧ (u32 p.params 4 % 32 = 0) ∧ (u32 p.params 8 % 32 = 0) ∧ (32 ≤ u32 p.params 8) ∧ (u32 p.params 4 + u32
    p.params 8 ≤ bankSize)) ∧ ∃ t, t = (ready specMemScrub p s) ∧ (bankReady t (u8 p.params 0) = true) ∧ (t.scrub = none) ∧ (u8
    p.params 1 = 1 → (bankOf t (u8 p.params 0)).owner = 1)) ∧ (∃ (p : _) (s : State), (Accepted specMemStatus p s) ∧ (u8
    p.params 0 ≤ 15) ∧ (u8 p.params 1 ≤ 1) ∧ (zeroAt p.params 2 2 = true)) ∧ (∃ (b : Fin 16) (s : State), (mainRuns s = true) ∧
    (bankOf s b).powered = true ∧ (bankOf s b).ready = false) ∧ (∃ (b : Fin 16) (s : State), (bankOf s b).drain = true ∧
    (othersBusy s b (bankOf s b).owner = false)) ∧ (∃ (b : Fin 16) (s : State), (bankReady s b = true) ∧ (poisoned s (32768 * b
    + (bankOf s b).scrubPos) = false)) ∧ (∃ (s : State) (j : _), (s.scrub = some j) ∧ (j.clear = true)) ∧ (∃ (off : BitVec 24)
    (n : _) (s : State), ((pcieUp s = true) ∧ (0 < n) ∧ (off.toNat % 4 = 0) ∧ (n % 4 = 0) ∧ (badRequest off.toNat n = false)) ∧
    ∃ b, b = (off.toNat / bankSize) ∧ (bankReady s b = true) ∧ (bankOf s b).owner = 1 ∧ (bankOf s b).drain = false ∧ (bankOf s
    b).rotate = false ∧ (∀ g ∈ granulesOf off.toNat n, poisoned s g = false)) ∧ (∃ (off : BitVec 24) (bs : List Byte) (s :
    State), ((Memory.wf s.bankMem = true) ∧ (pcieUp s = true) ∧ (bs ≠ []) ∧ (off.toNat % 4 = 0) ∧ (bs.length % 4 = 0) ∧
    (badRequest off.toNat bs.length = false)) ∧ ∃ b, b = (off.toNat / bankSize) ∧ (bankReady s b = true) ∧ (bankOf s b).owner =
    1 ∧ (bankOf s b).drain = false) ∧ (∃ (b : Fin 16) (v : BitVec 32) (s : State), (pcieUp s = true) ∧ (bankOf s b).owner = 1 ∧
    (ownerValid s (bitsOf v.toNat 7 0) = true)) :=
  ⟨⟨mk specMemOwner.opcode [1, 0x10, 1, 0], up, accepted_mk _ _ _ (by decide +kernel), by decide +kernel, _, rfl,
      by decide +kernel⟩,
    ⟨mk specMemScrub.opcode ([1, 1, 0, 0] ++ le 4 (1048576 - 32) ++ le 4 32), up, accepted_mk _ _ _ (by decide +kernel),
      by decide +kernel, _, rfl, by decide +kernel⟩,
    ⟨mk specMemStatus.opcode [15, 1, 0, 0], up, accepted_mk _ _ _ (by decide +kernel), by decide +kernel⟩,
    ⟨1, { up with banks := [(1, { Bank.initial with powered := true, ready := false })] }, by decide +kernel⟩,
    ⟨1, { up with banks := [(1, { Bank.initial with powered := true, ready := true, drain := true })] }, by decide +kernel⟩,
    ⟨1, { up with banks := [(1, { Bank.initial with powered := true, ready := true, scrubPos := 32767 })] }, by decide +kernel⟩,
    ⟨{ up with scrub := some { bank := 1, clear := true, off := 0, len := 32, corrected := 0 } },
      { bank := 1, clear := true, off := 0, len := 32, corrected := 0 }, by decide +kernel⟩,
    ⟨0x100000, 256, { up with pcie.link := some { gen := 0, wide := false } }, by decide +kernel, _, rfl, by decide +kernel⟩,
    ⟨0x1FFFFC, [1, 2, 3, 4], { up with pcie.link := some { gen := 0, wide := false } }, by decide +kernel, _, rfl,
      by decide +kernel⟩,
    ⟨1, 0x10, { up with pcie.link := some { gen := 0, wide := false } }, by decide +kernel⟩⟩

theorem test_witness_AcquisitionCommandsComplete : (∃ (p : _) (s : State), (Accepted specAcqPlan p s) ∧ ∃ b, b = p.params ∧ ∃
    ts, ts = (chunks 16 (u8 b 0) (b.drop 8)) ∧ ((u8 b 0 ≤ 64) ∧ (u8 b 1 ≤ 2) ∧ (1 ≤ u8 b 2) ∧ (u8 b 2 ≤ 192) ∧ (1 ≤ u8 b 3) ∧
    (u8 b 4 ≤ 90) ∧ (u8 b 5 = 0 ∨ 10 ≤ u8 b 5 ∧ u8 b 5 ≤ 40) ∧ (zeroAt b 6 2 = true) ∧ (∀ t ∈ ts, acqTaskOk (u8 b 1) t = true) ∧
    (anyPair (fun x y => u8 x 0 == u8 y 0 && u8 x 1 == u8 y 1) ts = false)) ∧ ∃ t, t = (ready specAcqPlan p s) ∧ (t.acq.running
    = false)) ∧ (∃ (p : _) (s : State), (Accepted specAcqAid p s) ∧ ∃ b, b = p.params ∧ ∃ rs, rs = (chunks 32 (u8 b 0) (b.drop
    8)) ∧ ((u8 b 0 ≤ 127) ∧ (u8 b 1 ≤ 1) ∧ (zeroAt b 2 6 = true) ∧ (∀ r ∈ rs, aidRecordOk r = true) ∧ (anyPair sameAid rs =
    false)) ∧ ∃ t, t = (ready specAcqAid p s) ∧ ((∃ r ∈ rs, u8 r 0 = 1 ∧ u8 r 1 = 1) → syncIs1pps t = true) ∧ ∃ held, held =
    (rs.foldl (applyAid t.ms (nowMs t) p.obs.rxUs) (if u8 b 1 = 0 then HostAid.none else t.acq.aid)) ∧ (held.sats.length ≤ 64))
    ∧ (∃ (p : _) (s : State) (plan : _), (Accepted specAcqStart p s) ∧ ((u8 p.params 0 ≤ 1) ∧ (u8 p.params 1 ≤ 2) ∧ (zeroAt
    p.params 2 2 = true)) ∧ ∃ t, t = (ready specAcqStart p s) ∧ (t.acq.plan = some plan) ∧ (t.acq.running = false) ∧ (∀ k ∈
    plan.tasks, taskReady t k = true) ∧ (t.profile.env.duty ≠ 0) ∧ (∀ k ∈ plan.tasks, k.coh ≤ dutyAllowance t) ∧ (∀ k ∈
    plan.tasks, ∀ a ∈ maskBits 24 k.aprMask, t.profile.env.aprMask.testBit a = true)) ∧ (∃ (p : _) (s : State), (Accepted
    specAcqAbort p s) ∧ ∃ t, t = (ready specAcqAbort p s) ∧ (t.acq.running = true)) ∧ (∃ (p : _) (s : State), (Accepted
    specAcqAbort p s) ∧ ∃ t, t = (ready specAcqAbort p s) ∧ (t.acq.running = false)) ∧ (∃ (s : State), (s.acq.aborting = true) ∧
    (islandReady s 24 = false ∨ betweenBursts s = true)) ∧ (∃ (p : _) (s : State), (Accepted specAcqResults p s) ∧ (u8 p.params
    0 ≤ 124) ∧ (u8 p.params 1 ≤ 125) ∧ (zeroAt p.params 2 2 = true)) :=
  ⟨⟨mk specAcqPlan.opcode ([1, 1, 192, 1, 90, 40, 0, 0] ++ [0x01, 5, 1, 0] ++ le 3 0xFFFFFF ++ [10] ++ le 2 1 ++ le 2 100 ++ [3, 0, 0, 0]),
      up, accepted_mk _ _ _ (by decide +kernel), _, rfl, _, rfl, by decide +kernel, _, rfl, by decide +kernel⟩,
    ⟨mk specAcqAid.opcode ([1, 0, 0, 0, 0, 0, 0, 0] ++ [4, 0, 0, 0] ++ leI 4 (-2000000) ++ le 4 1 ++ zeros 20), up, accepted_mk
      _ _ _ (by decide +kernel), _, rfl, _, rfl, by decide +kernel, _, rfl, by decide +kernel, _, rfl, by decide +kernel⟩,
    ⟨mk specAcqStart.opcode [0, 0, 0, 0],
      { up with acq := { up.acq with plan := some { handoff := 0, chLimit := 4, passes := 1, elevMask := 0, xcMargin := 0, tasks := [{ signal := 1, sv := 5, prio := 1, flags := 0, aprMask := 1, coh := 10, noncoh := 1, doppHalf := 100, pfa := 3, ho := 0 }] } }, apertures := [(0, { Aperture.initial with enabled := true, slicesOn := 15, phase := .running })] },
      { handoff := 0, chLimit := 4, passes := 1, elevMask := 0, xcMargin := 0, tasks := [{ signal := 1, sv := 5, prio := 1, flags := 0, aprMask := 1, coh := 10, noncoh := 1, doppHalf := 100, pfa := 3, ho := 0 }] },
      accepted_mk _ _ _ (by decide +kernel), by decide +kernel, _, rfl, by decide +kernel⟩,
    ⟨mk specAcqAbort.opcode [], { up with acq := { up.acq with running := true } }, accepted_mk _ _ _ (by decide +kernel), _,
      rfl, by decide +kernel⟩,
    ⟨mk specAcqAbort.opcode [], up, accepted_mk _ _ _ (by decide +kernel), _, rfl, by decide +kernel⟩,
    ⟨{ up with acq.aborting := true, islands := { powered := 0, ready := 0 } }, by decide +kernel, (.inl (by decide +kernel))⟩,
    ⟨mk specAcqResults.opcode [124, 125, 0, 0], up, accepted_mk _ _ _ (by decide +kernel), by decide +kernel⟩⟩

theorem test_witness_AcquisitionEventsComplete : (∃ (s : State), (s.profile.sel ≠ 4) ∧ (s.epochMs % 100 = 0) ∧ (s.acq.windowAt ≠
    some s.epochMs) ∧ (islandReady s 24 = true) ∧ (s.bst.active = none)) ∧ (∃ (s : State), (s.profile.sel ≠ 4) ∧ (s.epochMs %
    100 = 0) ∧ (s.acq.windowAt ≠ some s.epochMs) ∧ (islandReady s 24 = false)) ∧ (∃ (task : Fin 64) (sv : Byte) (us : List
    CellUpset) (s : State) (plan : _) (k : _) (g : _) (c : _) (pow : _), ∃ ended, ended = (endedTogether s task sv.toNat) ∧ ∃ u,
    u = ({ s with acq.endedSegs := s.acq.endedSegs.filter (fun x => !ended.contains x) }) ∧ ((s.acq.plan = some plan) ∧ (taskOf
    s task = some k) ∧ (strongest twiceMedian (ended.map (upsetSegment us)) = some (g, c, pow))) ∧ ∃ z, z = (sat 0xFFFFFFFF
    (statistic (Config.openZ (draw u).1) k.noncoh (twiceMedian g) pow)) ∧ (reaches k.noncoh k.pfa z = false)) ∧ (∃ (task : Fin
    64) (sv : Byte) (us : List CellUpset) (r : Upset) (s : State) (plan : _) (k : _) (g : _) (c : _) (pow : _), ∃ ended, ended =
    (endedTogether s task sv.toNat) ∧ ∃ u, u = ({ s with acq.endedSegs := s.acq.endedSegs.filter (fun x => !ended.contains x) })
    ∧ ((s.acq.plan = some plan) ∧ (taskOf s task = some k) ∧ (strongest twiceMedian (ended.map (upsetSegment us)) = some (g, c,
    pow))) ∧ ∃ z, z = (sat 0xFFFFFFFF (statistic (Config.openZ (draw u).1) k.noncoh (twiceMedian g) pow)) ∧ ∃ cand, cand =
    (makeCand u plan task k (ended.map (upsetSegment us)) g c z) ∧ (reaches k.noncoh k.pfa z = true) ∧ (∃ q ∈ s.acq.sats, q.task
    = task.val ∧ q.sv = sv.toNat ∧ q.shut = false) ∧ (chainFails (candChain (g.sums.getD c CellSum.zero) (candRecord u cand 9
    255) r) = false) ∧ (plan.xcMargin = 0) ∧ (s.acq.report ≠ 2) ∧ (k.ho = 0)) ∧ (∃ (signal : Byte) (sv : Byte) (us : List
    CellUpset) (r : Upset) (s : State) (c : _) (g : _) (k : _) (pow : _), ((s.acq.cands.find? (fun x => x.signal == signal.toNat
    && x.sv == sv.toNat && dwellDone x) = some c) ∧ (strongest (fun _ => 1) ((c.dwell.getD []).map (upsetSegment us)) = some (g,
    k, pow))) ∧ ∃ z, z = (statistic (Config.openZ (draw s).1) c.noncoh c.med pow) ∧ ∃ chain, chain = (candChain (g.sums.getD k
    CellSum.zero) (candRecord s c 9 255) r) ∧ (chainFails chain = false) ∧ (reaches c.noncoh c.pfa z = true) ∧ (7 ≤ k) ∧ (k ≤ 9)
    ∧ (c.passed = 0)) ∧ (∃ (signal : Byte) (sv : Byte) (us : List CellUpset) (r : Upset) (s : State) (c : _) (g : _) (k : _)
    (pow : _), ((s.acq.cands.find? (fun x => x.signal == signal.toNat && x.sv == sv.toNat && dwellDone x) = some c) ∧ (strongest
    (fun _ => 1) ((c.dwell.getD []).map (upsetSegment us)) = some (g, k, pow))) ∧ ∃ z, z = (statistic (Config.openZ (draw s).1)
    c.noncoh c.med pow) ∧ ∃ chain, chain = (candChain (g.sums.getD k CellSum.zero) (candRecord s c 9 255) r) ∧ (chainFails chain
    = false) ∧ (reaches c.noncoh c.pfa z = false) ∧ (c.channel = none)) ∧ (∃ (signal : Byte) (sv : Byte) (s : State) (x : _),
    (signal ≠ 0) ∧ (x ∈ s.acq.aid.sats) ∧ (x.signal = signal.toNat) ∧ (x.sv = sv.toNat) ∧ (satLapsed s x = true)) ∧ (∃ (s :
    State) (w : _), (s.acq.aid.timeWaits = some w) ∧ (w.2.2 + 1500 ≤ nowMs s)) :=
  ⟨⟨up, by decide +kernel⟩,
    ⟨{ up with islands := { powered := 0, ready := 0 } }, by decide +kernel⟩,
    ⟨0, 5, [],
      { up with acq := { up.acq with plan := some { handoff := 0, chLimit := 4, passes := 1, elevMask := 0, xcMargin := 0, tasks := [{ signal := 1, sv := 5, prio := 1, flags := 0, aprMask := 1, coh := 10, noncoh := 1, doppHalf := 100, pfa := 3, ho := 0 }] }, running := true, sats := [{ task := 0, sv := 5, opened := true, started := [], shut := false }], endedSegs := [{ task := 0, signal := 1, sv := 5, apr := 0, bin := 3, coh := 10, lanes := 0, cells := 17, live := true, blocksLeft := 0, stepsLeft := 0, fine := false, startMs := 0, tx := 0, doppler := 50, feed := 0, sums := { CellSum.zero with pow := 256, powRes := 256 % 7 } :: List.replicate 16 { CellSum.zero with pow := 256, powRes := 4 }, endMs := 0 }] } },
      { handoff := 0, chLimit := 4, passes := 1, elevMask := 0, xcMargin := 0, tasks := [{ signal := 1, sv := 5, prio := 1, flags := 0, aprMask := 1, coh := 10, noncoh := 1, doppHalf := 100, pfa := 3, ho := 0 }] },
      { signal := 1, sv := 5, prio := 1, flags := 0, aprMask := 1, coh := 10, noncoh := 1, doppHalf := 100, pfa := 3, ho := 0 },
      { task := 0, signal := 1, sv := 5, apr := 0, bin := 3, coh := 10, lanes := 0, cells := 17, live := true, blocksLeft := 0, stepsLeft := 0, fine := false, startMs := 0, tx := 0, doppler := 50, feed := 0, sums := { CellSum.zero with pow := 256, powRes := 256 % 7 } :: List.replicate 16 { CellSum.zero with pow := 256, powRes := 4 }, endMs := 0 },
      0, 256, _, rfl, _, rfl, by decide +kernel, _, rfl, by decide +kernel⟩,
    ⟨0, 5, [], { flip := 0, errs := [] },
      { up with acq := { up.acq with plan := some { handoff := 0, chLimit := 4, passes := 1, elevMask := 0, xcMargin := 0, tasks := [{ signal := 1, sv := 5, prio := 1, flags := 0, aprMask := 1, coh := 10, noncoh := 1, doppHalf := 100, pfa := 3, ho := 0 }] }, running := true, sats := [{ task := 0, sv := 5, opened := true, started := [], shut := false }], endedSegs := [{ task := 0, signal := 1, sv := 5, apr := 0, bin := 3, coh := 10, lanes := 0, cells := 17, live := true, blocksLeft := 0, stepsLeft := 0, fine := false, startMs := 0, tx := 0, doppler := 50, feed := 0, sums := { CellSum.zero with pow := 25600, powRes := 25600 % 7 } :: List.replicate 16 { CellSum.zero with pow := 256, powRes := 4 }, endMs := 0 }] } },
      { handoff := 0, chLimit := 4, passes := 1, elevMask := 0, xcMargin := 0, tasks := [{ signal := 1, sv := 5, prio := 1, flags := 0, aprMask := 1, coh := 10, noncoh := 1, doppHalf := 100, pfa := 3, ho := 0 }] },
      { signal := 1, sv := 5, prio := 1, flags := 0, aprMask := 1, coh := 10, noncoh := 1, doppHalf := 100, pfa := 3, ho := 0 },
      { task := 0, signal := 1, sv := 5, apr := 0, bin := 3, coh := 10, lanes := 0, cells := 17, live := true, blocksLeft := 0, stepsLeft := 0, fine := false, startMs := 0, tx := 0, doppler := 50, feed := 0, sums := { CellSum.zero with pow := 25600, powRes := 25600 % 7 } :: List.replicate 16 { CellSum.zero with pow := 256, powRes := 4 }, endMs := 0 },
      0, 25600, _, rfl, _, rfl, by decide +kernel, _, rfl, _, rfl, by decide +kernel⟩,
    ⟨1, 5, [], { flip := 0, errs := [] },
      { up with acq := { up.acq with cands := [{ task := 0, signal := 1, sv := 5, apr := 0, coh := 10, noncoh := 1, pfa := 3, handoff := 0, chLimit := 4, z := 25600, atMs := 0, tx := 7, doppler := 50, binDoppler := 50, med := 512, fine := false, plan := 1, mask := 1, passed := 0, dwell := some [{ task := 0, signal := 1, sv := 5, apr := 0, bin := 3, coh := 10, lanes := 0, cells := 17, live := true, blocksLeft := 0, stepsLeft := 0, fine := false, startMs := 0, tx := 0, doppler := 50, feed := 0, sums := List.replicate 8 { CellSum.zero with pow := 256, powRes := 4 } ++ { CellSum.zero with pow := 25600, powRes := 25600 % 7 } :: List.replicate 8 { CellSum.zero with pow := 256, powRes := 4 }, endMs := 0 }], channel := none, waits := false }] } },
      { task := 0, signal := 1, sv := 5, apr := 0, coh := 10, noncoh := 1, pfa := 3, handoff := 0, chLimit := 4, z := 25600, atMs := 0, tx := 7, doppler := 50, binDoppler := 50, med := 512, fine := false, plan := 1, mask := 1, passed := 0, dwell := some [{ task := 0, signal := 1, sv := 5, apr := 0, bin := 3, coh := 10, lanes := 0, cells := 17, live := true, blocksLeft := 0, stepsLeft := 0, fine := false, startMs := 0, tx := 0, doppler := 50, feed := 0, sums := List.replicate 8 { CellSum.zero with pow := 256, powRes := 4 } ++ { CellSum.zero with pow := 25600, powRes := 25600 % 7 } :: List.replicate 8 { CellSum.zero with pow := 256, powRes := 4 }, endMs := 0 }], channel := none, waits := false },
      { task := 0, signal := 1, sv := 5, apr := 0, bin := 3, coh := 10, lanes := 0, cells := 17, live := true, blocksLeft := 0, stepsLeft := 0, fine := false, startMs := 0, tx := 0, doppler := 50, feed := 0, sums := List.replicate 8 { CellSum.zero with pow := 256, powRes := 4 } ++ { CellSum.zero with pow := 25600, powRes := 25600 % 7 } :: List.replicate 8 { CellSum.zero with pow := 256, powRes := 4 }, endMs := 0 },
      8, 25600, by decide +kernel, _, rfl, _, rfl, by decide +kernel⟩,
    ⟨1, 5, [], { flip := 0, errs := [] },
      { up with acq := { up.acq with cands := [{ task := 0, signal := 1, sv := 5, apr := 0, coh := 10, noncoh := 1, pfa := 3, handoff := 0, chLimit := 4, z := 25600, atMs := 0, tx := 7, doppler := 50, binDoppler := 50, med := 512, fine := false, plan := 1, mask := 1, passed := 0, dwell := some [{ task := 0, signal := 1, sv := 5, apr := 0, bin := 3, coh := 10, lanes := 0, cells := 17, live := true, blocksLeft := 0, stepsLeft := 0, fine := false, startMs := 0, tx := 0, doppler := 50, feed := 0, sums := List.replicate 8 { CellSum.zero with pow := 256, powRes := 4 } ++ { CellSum.zero with pow := 257, powRes := 257 % 7 } :: List.replicate 8 { CellSum.zero with pow := 256, powRes := 4 }, endMs := 0 }], channel := none, waits := false }] } },
      { task := 0, signal := 1, sv := 5, apr := 0, coh := 10, noncoh := 1, pfa := 3, handoff := 0, chLimit := 4, z := 25600, atMs := 0, tx := 7, doppler := 50, binDoppler := 50, med := 512, fine := false, plan := 1, mask := 1, passed := 0, dwell := some [{ task := 0, signal := 1, sv := 5, apr := 0, bin := 3, coh := 10, lanes := 0, cells := 17, live := true, blocksLeft := 0, stepsLeft := 0, fine := false, startMs := 0, tx := 0, doppler := 50, feed := 0, sums := List.replicate 8 { CellSum.zero with pow := 256, powRes := 4 } ++ { CellSum.zero with pow := 257, powRes := 257 % 7 } :: List.replicate 8 { CellSum.zero with pow := 256, powRes := 4 }, endMs := 0 }], channel := none, waits := false },
      { task := 0, signal := 1, sv := 5, apr := 0, bin := 3, coh := 10, lanes := 0, cells := 17, live := true, blocksLeft := 0, stepsLeft := 0, fine := false, startMs := 0, tx := 0, doppler := 50, feed := 0, sums := List.replicate 8 { CellSum.zero with pow := 256, powRes := 4 } ++ { CellSum.zero with pow := 257, powRes := 257 % 7 } :: List.replicate 8 { CellSum.zero with pow := 256, powRes := 4 }, endMs := 0 },
      8, 257, by decide +kernel, _, rfl, _, rfl, by decide +kernel⟩,
    ⟨1, 5,
      { up with acq := { up.acq with aid := { HostAid.none with time := some (0, 10, 0), sats := [{ signal := 1, sv := 5, gpsNs := 0, codePhase := 0, doppler := 0, codeUnc := 1, doppUnc := 1 }] } }, ms := 40000 },
      { signal := 1, sv := 5, gpsNs := 0, codePhase := 0, doppler := 0, codeUnc := 1, doppUnc := 1 }, by decide +kernel⟩,
    ⟨{ up with acq := { up.acq with aid := { HostAid.none with timeWaits := some (5, 10, 0) } }, ms := 1500 }, (5, 10, 0),
      by decide +kernel⟩⟩

theorem test_witness_TrackingCommandsComplete : (∃ (p : _) (s : State) (i : _), (Accepted specTrkAssign p s) ∧ ∃ b, b = p.params
    ∧ ∃ mask, mask = (uN 3 b 4) ∧ ((sigOf (u8 b 0) = some i) ∧ (svOk i (u8 b 1) = true) ∧ (mask ≠ 0) ∧ (u8 b 7 = 255 ∨ u8 b 7 <
    24 ∧ mask.testBit (u8 b 7) = true) ∧ (zeroAt b 9 3 = true)) ∧ ∃ t, t = (ready specTrkAssign p s) ∧ ((tracks t (u8 b 0) (u8 b
    1) = false) ∧ (∀ a ∈ maskBits 24 mask, aprAssignable t a = true ∧ (aprOf t a).slicesOn.testBit i.slice = true) ∧
    (assignedChannels t).length + 1 ≤ t.profile.env.channels ∧ (∀ a ∈ maskBits 24 mask, t.profile.env.aprMask.testBit a = true))
    ∧ ∃ (c : _), (u8 b 2 = c ∧ c ≤ 191 ∧ chanAssigned t c = false ∨ u8 b 2 = 255 ∧ lowestFree t = some c) ∧ (u8 b 3 = 1) ∧ (u8 b
    8 = 255) ∧ (u8 b 0 ≠ 0x14) ∧ (aidClose (aidedWindow t (u8 b 0) (u8 b 1) 0) = true)) ∧ (∃ (p : _) (s : State) (i : _),
    (Accepted specTrkAssign p s) ∧ ∃ b, b = p.params ∧ ∃ mask, mask = (uN 3 b 4) ∧ ((sigOf (u8 b 0) = some i) ∧ (svOk i (u8 b 1)
    = true) ∧ (mask ≠ 0) ∧ (u8 b 7 = 255 ∨ u8 b 7 < 24 ∧ mask.testBit (u8 b 7) = true) ∧ (zeroAt b 9 3 = true)) ∧ ∃ t, t =
    (ready specTrkAssign p s) ∧ ((tracks t (u8 b 0) (u8 b 1) = false) ∧ (∀ a ∈ maskBits 24 mask, aprAssignable t a = true ∧
    (aprOf t a).slicesOn.testBit i.slice = true) ∧ (assignedChannels t).length + 1 ≤ t.profile.env.channels ∧ (∀ a ∈ maskBits 24
    mask, t.profile.env.aprMask.testBit a = true)) ∧ ∃ (c : _), (u8 b 2 = c ∧ c ≤ 191 ∧ chanAssigned t c = false ∨ u8 b 2 = 255
    ∧ lowestFree t = some c) ∧ (u8 b 3 = 2) ∧ (u8 b 8 ≤ 191) ∧ (companionOk t (u8 b 8) (u8 b 0) (u8 b 1) = true)) ∧ (∃ (p : _)
    (s : State), (Accepted specTrkRelease p s) ∧ (u8 p.params 0 ≤ 191 ∨ u8 p.params 0 = 255) ∧ (zeroAt p.params 1 3 = true)) ∧
    (∃ (p : _) (s : State), (Accepted specTrkLoops p s) ∧ ∃ b, b = p.params ∧ ((u8 b 0 ≤ 191 ∨ u8 b 0 = 255) ∧ (u8 b 1 ≤ 1) ∧
    (u8 b 2 = 2 ∨ u8 b 2 = 3) ∧ (u8 b 3 = 1 ∨ u8 b 3 = 2) ∧ (10 ≤ u16 b 4) ∧ (u16 b 4 ≤ 500) ∧ (10 ≤ u16 b 6) ∧ (u16 b 6 ≤ 200)
    ∧ (5 ≤ u16 b 8) ∧ (u16 b 8 ≤ 1000) ∧ (5 ≤ u8 b 10) ∧ (u8 b 10 ≤ 200) ∧ (1 ≤ u8 b 11) ∧ (u8 b 11 ≤ 20) ∧ (10 ≤ u8 b 12) ∧ (u8
    b 12 ≤ 40) ∧ (u8 b 13 ≤ 100) ∧ (zeroAt b 14 2 = true) ∧ (u16 b 4 * u8 b 11 ≤ 3000) ∧ (u16 b 6 * u8 b 11 ≤ 3000)) ∧ ∃ t, t =
    (ready specTrkLoops p s) ∧ (∀ c ∈ chanTargets (u8 b 0) t, chanAssigned t c = true ∧ u8 b 11 ≤ cohFine (chanOf t c).signal
    (chanOf t c).sv)) ∧ (∃ (p : _) (s : State), (Accepted specTrkCorr p s) ∧ ∃ b, b = p.params ∧ ((u8 b 0 ≤ 191 ∨ u8 b 0 = 255)
    ∧ (u8 b 1 ≤ 3) ∧ (10 ≤ u16 b 2) ∧ (u16 b 2 ≤ 200) ∧ (20 ≤ u16 b 4) ∧ (u16 b 4 ≤ 400) ∧ (5 ≤ u16 b 6) ∧ (u16 b 6 ≤ 40) ∧ (u8
    b 8 ≤ 1) ∧ (zeroAt b 9 3 = true) ∧ (u16 b 6 < u16 b 2) ∧ (u16 b 2 < u16 b 4) ∧ (u8 b 1 = 2 → u16 b 4 = 2 * u16 b 2) ∧ (u8 b
    8 = 1 → u16 b 4 = 100)) ∧ ∃ t, t = (ready specTrkCorr p s) ∧ (∀ c ∈ chanTargets (u8 b 0) t, chanAssigned t c = true) ∧ (u8 b
    1 = 3 → t.profile.sel = 2)) ∧ (∃ (p : _) (s : State), (Accepted specTrkBurst p s) ∧ ∃ b, b = p.params ∧ ((zeroAt b 1 1 =
    true) ∧ (zeroAt b 7 1 = true) ∧ (u8 b 0 = 0 ∧ u16 b 2 = 0 ∧ u16 b 4 = 0 ∧ u8 b 6 = 0 ∨ u8 b 0 = 1 ∧ 20 ≤ u16 b 2 ∧ u16 b 2 ≤
    200 ∧ u16 b 4 + u16 b 2 ≤ 1000 ∧ 1 ≤ u8 b 6 ∧ u8 b 6 ≤ 10)) ∧ ∃ t, t = (ready specTrkBurst p s) ∧ (t.profile.sel = 4)) ∧ (∃
    (p : _) (s : State), (Accepted specTrkStatus p s) ∧ ∃ c, c = (u8 p.params 0) ∧ ((c ≤ 191) ∧ (zeroAt p.params 1 3 = true)) ∧
    ∃ t, t = (ready specTrkStatus p s) ∧ ∃ x, x = (chanOf t c) ∧ (x.state = .free)) ∧ (∃ (p : _) (s : State), (Accepted
    specTrkStatus p s) ∧ ∃ c, c = (u8 p.params 0) ∧ ((c ≤ 191) ∧ (zeroAt p.params 1 3 = true)) ∧ ∃ t, t = (ready specTrkStatus p
    s) ∧ ∃ x, x = (chanOf t c) ∧ (x.state ≠ .free)) ∧ (∃ (p : _) (s : State), (Accepted specTrkAnchor p s) ∧ ∃ a, a = (u8
    p.params 1) ∧ ((u8 p.params 0 ≤ 191 ∨ u8 p.params 0 = 255) ∧ (a ≤ 23 ∨ a = 255) ∧ (zeroAt p.params 2 2 = true)) ∧ ∃ t, t =
    (ready specTrkAnchor p s) ∧ (∀ c ∈ chanTargets (u8 p.params 0) t, chanAssigned t c = true ∧ (a ≠ 255 → (chanOf t
    c).aprMask.testBit a = true))) :=
  ⟨⟨mk specTrkAssign.opcode ([1, 5, 191, 1] ++ le 3 1 ++ [0, 255, 0, 0, 0]),
      { up with acq := { up.acq with aid := { HostAid.none with sats := [{ signal := 1, sv := 5, gpsNs := 0, codePhase := 0, doppler := 0, codeUnc := 1, doppUnc := 1 }] } }, apertures := [(0, { Aperture.initial with enabled := true, slicesOn := 15, phase := .running })] },
      (sigOf 1).get (by decide +kernel), accepted_mk _ _ _ (by decide +kernel), _, rfl, _, rfl, by decide +kernel, _, rfl,
      by decide +kernel, 191, by decide +kernel⟩,
    ⟨mk specTrkAssign.opcode ([0x02, 5, 255, 2] ++ le 3 1 ++ [255, 3, 0, 0, 0]),
      { up with chans := [(3, { Channel.free with state := .pll, signal := 1, sv := 5, aprMask := 1, anchor := 0 })], apertures := [(0, { Aperture.initial with enabled := true, slicesOn := 15, phase := .running })] },
      (sigOf 2).get (by decide +kernel), accepted_mk _ _ _ (by decide +kernel), _, rfl, _, rfl, by decide +kernel, _, rfl,
      by decide +kernel, 0, by decide +kernel⟩,
    ⟨mk specTrkRelease.opcode [255, 0, 0, 0],
      { up with chans := [(3, { Channel.free with state := .pll, signal := 1, sv := 5, aprMask := 1, anchor := 0 })] },
      accepted_mk _ _ _ (by decide +kernel), by decide +kernel⟩,
    ⟨mk specTrkLoops.opcode ([3, 1, 3, 2] ++ le 2 150 ++ le 2 150 ++ le 2 1000 ++ [200, 20, 40, 100, 0, 0]),
      { up with chans := [(3, { Channel.free with state := .pll, signal := 1, sv := 5, aprMask := 1, anchor := 0 })] },
      accepted_mk _ _ _ (by decide +kernel), _, rfl, by decide +kernel, _, rfl, by decide +kernel⟩,
    ⟨mk specTrkCorr.opcode ([3, 3] ++ le 2 50 ++ le 2 100 ++ le 2 40 ++ [1, 0, 0, 0]),
      { up with chans := [(3, { Channel.free with state := .pll, signal := 1, sv := 5, aprMask := 1, anchor := 0 })] },
      accepted_mk _ _ _ (by decide +kernel), _, rfl, by decide +kernel, _, rfl, by decide +kernel⟩,
    ⟨mk specTrkBurst.opcode ([1, 0] ++ le 2 200 ++ le 2 800 ++ [10, 0]), { up with profile := { up.profile with sel := 4 } },
      accepted_mk _ _ _ (by decide +kernel), _, rfl, by decide +kernel, _, rfl, by decide +kernel⟩,
    ⟨mk specTrkStatus.opcode [191, 0, 0, 0], up, accepted_mk _ _ _ (by decide +kernel), _, rfl, by decide +kernel, _, rfl, _,
      rfl, by decide +kernel⟩,
    ⟨mk specTrkStatus.opcode [3, 0, 0, 0],
      { up with chans := [(3, { Channel.free with state := .coast, signal := 1, sv := 5, aprMask := 1, anchor := 0 })] },
      accepted_mk _ _ _ (by decide +kernel), _, rfl, by decide +kernel, _, rfl, _, rfl, by decide +kernel⟩,
    ⟨mk specTrkAnchor.opcode [255, 23, 0, 0],
      { up with chans := [(3, { Channel.free with state := .coast, signal := 1, sv := 5, aprMask := 0xFFFFFF, anchor := 0 })] },
      accepted_mk _ _ _ (by decide +kernel), _, rfl, by decide +kernel, _, rfl, by decide +kernel⟩⟩

theorem test_witness_TrackingEventsComplete : (∃ (s : State), (s.epochMs % 100 = 0)) ∧ (∃ (c : Nat) (a : Nat) (s : State), ∃ x,
    x = (caOf s c a) ∧ (chanOf s c).anchor ≠ a ∧ (x.state = 2 ∨ x.state = 3) ∧ (x.means.n ≠ 0) ∧ (lagOut
    { x with lag := x.lag + roundDiv x.means.disc x.means.n, lagRate := lagRateOf (chanOf s c).signal (chanOf s c).sv x.resFreq }
    = false) ∧ (resOut x = false)) ∧ (∃ (s : State), (s.epochMs % 20 = 0)) ∧ (∃ (c : Fin 192) (s : State) (d : _), ((deputy s c
    = some d) ∧ (chanOf s c).pin = none ∧ (chanOf s c).handDue = none ∧ (50 ≤ (chanOf s c).exceed) ∧ (chanOf s c).exceedDeputy =
    d) ∧ (∀ t, (chanOf s c).lastVolMs = some t → t + 10000 ≤ s.ms)) ∧ (∃ (c : Fin 192) (a : Fin 24) (s : State) (q : _), ((caOf
    s c a).search = some q ∧ (20 ≤ q.count)) ∧ ∃ best, best = (fun n => bestPosition q n) ∧ ∃ hit, hit = (fun n => reaches 20 6
    (searchZ (Config.openZ (draw s).1) q.noise (q.power.getD (best n) 0))) ∧ ∃ n, n = (min 8 (2 * q.half + 1 - 8 * q.group)) ∧
    (q.found = none) ∧ (hit n = false)) ∧ (∃ (c : Fin 192) (a : Fin 24) (s : State) (q : _), ((caOf s c a).search = some q ∧ (20
    ≤ q.count)) ∧ ∃ best, best = (fun n => bestPosition q n) ∧ ∃ hit, hit = (fun n => reaches 20 6 (searchZ (Config.openZ (draw
    s).1) q.noise (q.power.getD (best n) 0))) ∧ ∃ n, n = (min 8 (2 * q.half + 1 - 8 * q.group)) ∧ (q.found = none) ∧ (hit n =
    true)) ∧ (∃ (c : Fin 192) (a : Fin 24) (s : State) (q : _), ((caOf s c a).search = some q ∧ (20 ≤ q.count)) ∧ ∃ best, best =
    (fun n => bestPosition q n) ∧ ∃ hit, hit = (fun n => reaches 20 6 (searchZ (Config.openZ (draw s).1) q.noise (q.power.getD
    (best n) 0))) ∧ ∃ (l : _), (q.found = some l) ∧ (hit 3 = false)) ∧ (∃ (c : Fin 192) (a : Fin 24) (s : State) (q : _), ((caOf
    s c a).search = some q ∧ (20 ≤ q.count)) ∧ ∃ best, best = (fun n => bestPosition q n) ∧ ∃ hit, hit = (fun n => reaches 20 6
    (searchZ (Config.openZ (draw s).1) q.noise (q.power.getD (best n) 0))) ∧ ∃ (l : _), (q.found = some l) ∧ (hit 3 = true)) ∧
    (∃ (c : Fin 192) (s : State), (chanOf s c).state = .pullIn ∧ (chanOf s c).since + 500 ≤ s.ms ∧ (chanOf s c).provisional =
    false) ∧ (∃ (c : Fin 192) (s : State), (chanOf s c).state = .pullIn ∨ (chanOf s c).state = .fll ∨ (chanOf s c).state = .pll
    ∧ (2 ≤ (chanOf s c).lossCount)) ∧ (∃ (c : Fin 192) (s : State), (chanOf s c).state = .coast ∧ (chanOf s c).coastMs + 100 *
    (chanOf s c).cfg.coast ≤ s.ms ∧ (chanOf s c).provisional = false) ∧ (∃ (c : Fin 192) (a : Fin 24) (s : State), (caOf s c
    a).state = 4 ∧ (chanOf s c).state ≠ .coast ∧ (chanOf s c).anchor ≠ a ∧ (caOf s c a).coastMs + 1000 ≤ s.ms) ∧ (∃ (s : State),
    (betweenBursts s = true) ∧ (s.burst.awake = false) ∧ (s.epochMs + 3) % 1000 = s.burst.phaseMs) ∧ (∃ (s : State), (s.burst.on
    = true) ∧ (s.burst.active = false) ∧ (s.burst.awake = true) ∧ (s.epochMs % 1000 = s.burst.phaseMs)) ∧
    (∃ s : State, s.burst.on = true ∧ s.burst.active = true ∧ s.epochMs % 1000 = (s.burst.phaseMs + s.burst.burstMs) % 1000) :=
  ⟨⟨up, by decide +kernel⟩,
    ⟨3, 1,
      { up with chans := [(3, { Channel.free with state := .pll, signal := 1, sv := 5, aprMask := 3, anchor := 0, aprs := [(1, { ChanApr.initial with state := 3, means := { CorrMeans.none with n := 10, disc := 50 } })] })] },
      _, rfl, by decide +kernel⟩,
    ⟨up, by decide +kernel⟩,
    ⟨3,
      { up with chans := [(3, { Channel.free with state := .pll, signal := 1, sv := 5, aprMask := 3, anchor := 0, exceed := 50, exceedDeputy := 1, aprs := [(1, { ChanApr.initial with state := 3, cn0s := [100] })] })], ms := 2000, apertures := [(1, { Aperture.initial with enabled := true, slicesOn := 15, phase := .running })] },
      1, by decide +kernel, (fun t h => by cases (show (none : Option Nat) = some t from h))⟩,
    ⟨3, 1,
      { up with chans := [(3, { Channel.free with state := .pll, signal := 1, sv := 5, aprMask := 3, anchor := 0, aprs := [(1, { ChanApr.initial with search := some { centre := 0, half := 10, group := 0, found := none, count := 20, power := [1, 1, 2], noise := 20, prompts := [] } })] })] },
      { centre := 0, half := 10, group := 0, found := none, count := 20, power := [1, 1, 2], noise := 20, prompts := [] },
      by decide +kernel, _, rfl, _, rfl, _, rfl, by decide +kernel⟩,
    ⟨3, 1,
      { up with chans := [(3, { Channel.free with state := .pll, signal := 1, sv := 5, aprMask := 3, anchor := 0, aprs := [(1, { ChanApr.initial with search := some { centre := 0, half := 10, group := 0, found := none, count := 20, power := [1, 1, 90], noise := 20, prompts := [] } })] })] },
      { centre := 0, half := 10, group := 0, found := none, count := 20, power := [1, 1, 90], noise := 20, prompts := [] },
      by decide +kernel, _, rfl, _, rfl, _, rfl, by decide +kernel⟩,
    ⟨3, 1,
      { up with chans := [(3, { Channel.free with state := .pll, signal := 1, sv := 5, aprMask := 3, anchor := 0, aprs := [(1, { ChanApr.initial with search := some { centre := 0, half := 10, group := 0, found := some 90, count := 20, power := [1, 1, 2], noise := 20, prompts := [] } })] })] },
      { centre := 0, half := 10, group := 0, found := some 90, count := 20, power := [1, 1, 2], noise := 20, prompts := [] },
      by decide +kernel, _, rfl, _, rfl, 90, by decide +kernel⟩,
    ⟨3, 1,
      { up with chans := [(3, { Channel.free with state := .pll, signal := 1, sv := 5, aprMask := 3, anchor := 0, aprs := [(1, { ChanApr.initial with search := some { centre := 0, half := 10, group := 0, found := some 90, count := 20, power := [1, 1, 90], noise := 20, prompts := [] } })] })] },
      { centre := 0, half := 10, group := 0, found := some 90, count := 20, power := [1, 1, 90], noise := 20, prompts := [] },
      by decide +kernel, _, rfl, _, rfl, 90, by decide +kernel⟩,
    ⟨3, { { up with chans := [(3, { Channel.free with state := .pullIn })] } with ms := 500 }, by decide +kernel⟩,
    ⟨3, { up with chans := [(3, { Channel.free with state := .pll, lossCount := 2 })] }, by decide +kernel⟩,
    ⟨3, { { up with chans := [(3, { Channel.free with state := .coast })] } with ms := 2000 }, by decide +kernel⟩,
    ⟨3, 1,
      { { up with chans := [(3, { Channel.free with state := .pll, signal := 1, sv := 5, aprMask := 3, anchor := 0, aprs := [(1, { ChanApr.initial with state := 4 })] })] } with ms := 1000 },
      by decide +kernel⟩,
    ⟨{ up with burst := { Burst.initial with on := true, active := false, awake := false, burstMs := 200, phaseMs := 300 }, epochMs := 297 },
      by decide +kernel⟩,
    ⟨{ up with burst := { Burst.initial with on := true, active := false, awake := true, burstMs := 200, phaseMs := 300 }, epochMs := 300 },
      by decide +kernel⟩,
    ⟨{ up with burst := { Burst.initial with on := true, active := true, awake := true, burstMs := 200, phaseMs := 300 }, epochMs := 500 }, by decide +kernel⟩⟩

theorem test_witness_CalibrationComplete : (∃ (p : _) (s : State), (Accepted specCalVoile p s) ∧ ∃ b, b = p.params ∧ ((u8 b 0 ≤
    2) ∧ (u8 b 1 ≤ 23 ∨ u8 b 1 = 255) ∧ (u8 b 2 ≤ 63) ∧ (1 ≤ u8 b 3) ∧ (u8 b 3 ≤ 60) ∧ (1 ≤ u8 b 4) ∧ (1 ≤ u8 b 5) ∧ (u8 b 5 ≤
    180) ∧ (u8 b 6 ≤ 15) ∧ (u8 b 0 ≠ 0 → u8 b 6 ≠ 0) ∧ (u8 b 7 ≤ 1)) ∧ ∃ t, t = (ready specCalVoile p s) ∧ (t.cal.change = none
    ∨ u8 b 0 = (t.cal.pendCfg.getD t.cal.cfg).mode)) ∧ (∃ (p : _) (s : State), (Accepted specCalStatus p s)) ∧ (∃ (p : _) (s :
    State), (Accepted specCalCommit p s) ∧ (zeroAt p.params 1 3 = true) ∧ ∃ t, t = (ready specCalCommit p s) ∧ (u8 p.params 0 =
    0) ∧ (t.cal.cfg.mode ≠ 0) ∧ (calCandidates t ≠ []) ∧ (t.cal.change = none)) ∧ (∃ (p : _) (s : State), (Accepted
    specCalCommit p s) ∧ (zeroAt p.params 1 3 = true) ∧ ∃ t, t = (ready specCalCommit p s) ∧ (u8 p.params 0 = 1) ∧ (t.cal.change
    ≠ none)) ∧ (∃ (p : _) (s : State), (Accepted specCalLoad p s) ∧ ∃ b, b = p.params ∧ ∃ es, es = (chunks 64 (u8 b 1) (b.drop
    8)) ∧ ((u8 b 1 ≤ 24) ∧ (zeroAt b 2 6 = true) ∧ (∀ e ∈ es, calEntryOk (u8 b 0) e = true) ∧ (sameApr es = false)) ∧ ∃ t, t =
    (ready specCalLoad p s) ∧ (u8 b 0 = 1) ∧ (t.cal.change = none)) ∧ (∃ (p : _) (s : State), (Accepted specCalLoad p s) ∧ ∃ b,
    b = p.params ∧ ∃ es, es = (chunks 64 (u8 b 1) (b.drop 8)) ∧ (u8 b 1 ≤ 24) ∧ (zeroAt b 2 6 = true) ∧ (∀ e ∈ es, calEntryOk
    (u8 b 0) e = true) ∧ (sameApr es = false) ∧ (u8 b 0 = 2)) ∧ (∃ (s : State), (s.cal.closed = none)) ∧ (∃ (s : State) (w : _),
    (s.cal.closed = some w) ∧ (w.report = false) ∧ (s.cal.cfg.mode ≠ 2) ∧ (w.spoilt = true)) ∧ (∃ (s : State) (w : _),
    (s.cal.closed = some w) ∧ (w.report = false) ∧ (s.cal.cfg.mode ≠ 2) ∧ (w.spoilt = false)) ∧ (∃ (s : State), (s.cal.writing =
    true)) :=
  ⟨⟨mk specCalVoile.opcode [2, 255, 63, 60, 1, 180, 15, 1], up, accepted_mk _ _ _ (by decide +kernel), _, rfl,
      by decide +kernel, _, rfl, by decide +kernel⟩,
    ⟨mk specCalStatus.opcode [], up, accepted_mk _ _ _ (by decide +kernel)⟩,
    ⟨mk specCalCommit.opcode [0, 0, 0, 0],
      { up with cal := { up.cal with cfg := { CalCfg.initial with mode := 1 }, ests := [(0, List.replicate 10 { delay := 5, phase := 1, sd := 1, sp := 1 })] } },
      accepted_mk _ _ _ (by decide +kernel), by decide +kernel, _, rfl, by decide +kernel⟩,
    ⟨mk specCalCommit.opcode [1, 0, 0, 0],
      { up with cal := { up.cal with change := some { cause := 3, next := CalTable.empty, epochs := 0, ran := 0, gone := 0, announced := false } } },
      accepted_mk _ _ _ (by decide +kernel), by decide +kernel, _, rfl, by decide +kernel⟩,
    ⟨mk specCalLoad.opcode ([1, 1, 0, 0, 0, 0, 0, 0] ++ [23, 1, 0, 0] ++ leI 2 (-400) ++ [0, 0] ++ leI 4 (-4096000) ++ zeros 52),
      up, accepted_mk _ _ _ (by decide +kernel), _, rfl, _, rfl, by decide +kernel, _, rfl, by decide +kernel⟩,
    ⟨mk specCalLoad.opcode ([2, 1, 0, 0, 0, 0, 0, 0] ++ [23, 8, 0, 0] ++ leI 2 1250 ++ [0, 0] ++ zeros 36 ++ leI 4 4096000 ++ zeros 16),
      up, accepted_mk _ _ _ (by decide +kernel), _, rfl, _, rfl, by decide +kernel⟩,
    ⟨up, by decide +kernel⟩,
    ⟨{ up with cal := { up.cal with cfg := { CalCfg.initial with mode := 1 }, closed := some { CalWindow.fresh with ref := some 0, spoilt := true, sums := [(5, [])] } } },
      { CalWindow.fresh with ref := some 0, spoilt := true, sums := [(5, [])] }, by decide +kernel⟩,
    ⟨{ up with cal := { up.cal with cfg := { CalCfg.initial with mode := 1 }, closed := some { CalWindow.fresh with ref := some 0, spoilt := false } } },
      { CalWindow.fresh with ref := some 0, spoilt := false }, by decide +kernel⟩,
    ⟨{ up with cal := { up.cal with writing := true } }, by decide +kernel⟩⟩

theorem test_witness_MeasurementCommandsComplete : (∃ (p : _) (s : State), (Accepted specMeasRate p s) ∧ ∃ r, r = (u16 p.params
    0) ∧ ∃ d, d = (u8 p.params 2) ∧ ((r ≠ 0) ∧ (1000 % r = 0) ∧ (d ≠ 0 → r % d = 0) ∧ (zeroAt p.params 3 1 = true)) ∧ ∃ t, t =
    (ready specMeasRate p s) ∧ (∀ v ∈ pvtDivs t, pvtFits r v = true) ∧ (r ≤ t.profile.env.measRate) ∧ (d ≠ 0 →
    t.profile.env.tulGroups ≠ 0 ∧ r ≤ t.profile.env.tulRate * d) ∧ (budgetBroken t
    { t with rates.rateHz := r, rates.tulDiv := d } = false)) ∧ (∃ (p : _) (s : State), (Accepted specTulGroup p s) ∧ ∃ b, b =
    p.params ∧ ∃ es, es = (chunks 16 (u8 b 2) (b.drop 16)) ∧ ∃ ms, ms = (es.map memberIn) ∧ ((u8 b 0 ≤ 3) ∧ (u8 b 4 ≤ 1) ∧
    (zeroAt b 5 1 = true) ∧ (zeroAt b 8 8 = true)) ∧ ∃ t, t = (ready specTulGroup p s) ∧ ((u8 b 0 < t.profile.env.tulGroups) ∧
    (∀ m ∈ ms, t.profile.env.aprMask.testBit m.apr = true) ∧ (u8 b 1 = 1) ∧ (2 ≤ u8 b 2) ∧ (u8 b 2 ≤ 24) ∧ (1 ≤ u16 b 6) ∧ (u16
    b 6 ≤ 1000) ∧ (∀ e ∈ es, memberOk e = true) ∧ (anyPair (fun x y => u8 x 0 == u8 y 0) es = false)) ∧ ∃ (r : _), (ms.find?
    (fun m => m.apr == u8 b 3 && !m.deformable) = some r) ∧ (∀ m ∈ ms, armDist2 m r ≤ 5000000 ^ 2)) ∧ (∃ (p : _) (s : State),
    (Accepted specTulGroup p s) ∧ ∃ b, b = p.params ∧ ∃ es, es = (chunks 16 (u8 b 2) (b.drop 16)) ∧ ∃ ms, ms = (es.map memberIn)
    ∧ ((u8 b 0 ≤ 3) ∧ (u8 b 4 ≤ 1) ∧ (zeroAt b 5 1 = true) ∧ (zeroAt b 8 8 = true)) ∧ ∃ t, t = (ready specTulGroup p s) ∧ (u8 b
    0 < t.profile.env.tulGroups) ∧ (∀ m ∈ ms, t.profile.env.aprMask.testBit m.apr = true) ∧ (u8 b 1 = 0) ∧ (u8 b 2 = 0) ∧ (u8 b
    3 = 0) ∧ (u16 b 6 = 0)) ∧ (∃ (p : _) (s : State), (Accepted specTulMode p s) ∧ ∃ b, b = p.params ∧ ((u8 b 0 ≤ 3 ∨ u8 b 0 =
    255) ∧ (u8 b 1 ≤ 2) ∧ (u8 b 2 ≤ 1) ∧ (u8 b 3 ≤ 100) ∧ (15 ≤ u8 b 4) ∧ (u8 b 4 ≤ 100) ∧ (u8 b 5 ≤ 60) ∧ (u8 b 6 ≠ 0) ∧ (u8 b
    6 ≤ 127) ∧ (zeroAt b 7 1 = true)) ∧ ∃ t, t = (ready specTulMode p s) ∧ (∀ k ∈ groupTargets t (u8 b 0), latestDef (groupOf t
    k) ≠ none)) ∧ (∃ (p : _) (s : State), (Accepted specTulResetAmb p s) ∧ ∃ g, g = (u8 p.params 0) ∧ ∃ a, a = (u8 p.params 1) ∧
    ((g ≤ 3 ∨ g = 255) ∧ (a ≤ 23 ∨ a = 255) ∧ (zeroAt p.params 2 2 = true)) ∧ ∃ t, t = (ready specTulResetAmb p s) ∧ ∃ gs, gs =
    ((groupTargets t g).filter (fun k => a == 255 || isMember (groupOf t k) a)) ∧ (g ≠ 255 → latestDef (groupOf t g) ≠ none) ∧
    (a ≠ 255 → gs ≠ [])) ∧ (∃ (p : _) (s : State) (fs : _), (Accepted specMeasCorrections p s) ∧ ∃ b, b = p.params ∧ ((u8 b 0 =
    1) ∧ (zeroAt b 1 1 = true) ∧ (1 ≤ u16 b 2) ∧ (u16 b 2 ≤ 4088) ∧ (zeroAt b 4 4 = true) ∧ (rtcmFrames 4096 (b.drop 8) = some
    fs)) ∧ ∃ t, t = (ready specMeasCorrections p s) ∧ (t.meas.nav.corrSrc = 1)) ∧ (∃ (p : _) (s : State), (Accepted
    specNavConfig p s) ∧ ∃ b, b = p.params ∧ ((u8 b 1 ≤ 3) ∧ (u8 b 2 ≤ 3) ∧ (u8 b 3 ≤ 60) ∧ (10 ≤ u8 b 4) ∧ (u8 b 4 ≤ 45) ∧ (u8
    b 5 ≠ 0) ∧ (u8 b 5 ≤ 127) ∧ (u8 b 6 ≤ 23 ∨ u8 b 6 = 255) ∧ (u8 b 7 ≤ 2) ∧ (2 ≤ u8 b 1 → u8 b 7 ≠ 0) ∧ (u8 b 7 = 2 → u8 b 8 ≤
    63) ∧ (u8 b 7 ≠ 2 → u8 b 8 = 0) ∧ (1 ≤ u8 b 9) ∧ (u8 b 9 ≤ 60) ∧ (zeroAt b 10 6 = true)) ∧ ∃ t, t = (ready specNavConfig p
    s) ∧ (pvtFits t.rates.rateHz (u8 b 0) = true) ∧ (∀ r d, t.meas.pendRates = some (r, d) → pvtFits r (u8 b 0) = true) ∧
    (budgetBroken t { t with rates.pvtDiv := u8 b 0 } = false)) :=
  ⟨⟨mk specMeasRate.opcode (le 2 20 ++ [2, 0]), up, accepted_mk _ _ _ (by decide +kernel), _, rfl, _, rfl, by decide +kernel,
      _, rfl, by decide +kernel⟩,
    ⟨mk specTulGroup.opcode ([0, 1, 2, 0, 1, 0] ++ le 2 1000 ++ zeros 8 ++ ([0, 0, 0, 0] ++ zeros 12) ++ ([1, 1] ++ le 2 10000 ++ leI 4 5000000 ++ zeros 8)),
      up, accepted_mk _ _ _ (by decide +kernel), _, rfl, _, rfl, _, rfl, by decide +kernel, _, rfl, by decide +kernel,
      { apr := 0, deformable := false, defLimit := 0, arm := (0, 0, 0) }, by decide +kernel⟩,
    ⟨mk specTulGroup.opcode (zeros 16), up, accepted_mk _ _ _ (by decide +kernel), _, rfl, _, rfl, _, rfl, by decide +kernel, _,
      rfl, by decide +kernel⟩,
    ⟨mk specTulMode.opcode [255, 2, 1, 100, 100, 60, 127, 0],
      { up with meas := { up.meas with groups := [(0, { TulGroup.none with defn := some { ref := 0, attitude := true, rigidTol := 5, members := [{ apr := 0, deformable := false, defLimit := 0, arm := (0, 0, 0) }, { apr := 23, deformable := false, defLimit := 0, arm := (1000, 0, 0) }] } })] } },
      accepted_mk _ _ _ (by decide +kernel), _, rfl, by decide +kernel, _, rfl, by decide +kernel⟩,
    ⟨mk specTulResetAmb.opcode [0, 23, 0, 0],
      { up with meas := { up.meas with groups := [(0, { TulGroup.none with defn := some { ref := 0, attitude := true, rigidTol := 5, members := [{ apr := 0, deformable := false, defLimit := 0, arm := (0, 0, 0) }, { apr := 23, deformable := false, defLimit := 0, arm := (1000, 0, 0) }] } })] } },
      accepted_mk _ _ _ (by decide +kernel), _, rfl, _, rfl, by decide +kernel, _, rfl, _, rfl, by decide +kernel⟩,
    ⟨mk specMeasCorrections.opcode ([1, 0, 6, 0, 0, 0, 0, 0] ++ [0xD3, 0, 0, 0x47, 0xEA, 0x4B]),
      { up with meas := { up.meas with nav := { NavCfg.initial with corrSrc := 1 } } },
      ((rtcmFrames 4096 [0xD3, 0, 0, 0x47, 0xEA, 0x4B]).get (by decide +kernel)), accepted_mk _ _ _ (by decide +kernel), _,
      rfl, by decide +kernel, _, rfl, by decide +kernel⟩,
    ⟨mk specNavConfig.opcode [10, 2, 3, 60, 45, 127, 23, 2, 63, 60, 0, 0, 0, 0, 0, 0], up, accepted_mk _ _ _
      (by decide +kernel), _, rfl, by decide +kernel, _, rfl, by decide +kernel,
      (fun r d h => by cases (show (none : Option (Nat × Nat)) = some (r, d) from h)), by decide +kernel⟩⟩

theorem test_witness_MeasurementEventsComplete : (∃ (c : Fin 192) (a : Fin 24) (s : State), (caOf s c a).dump ≠ [] ∧ (caOf s c
    a).committed = false) ∧ (∃ (s : State), ((isMeasEpoch s = true) ∧ (s.meas.cut = 0)) ∧ ∃ u, u = (readRecords
    { s with meas.cut := 1 }) ∧ ∃ cs, cs = (entryChannels u true) ∧ (∀ c ∈ cs, ∀ a ∈ chanAprs u c, lateRecord u c a = false)) ∧
    (∃ (s : State), (isMeasEpoch s = true) ∧ (s.meas.cut < 2)) ∧ (∃ (s : State) (p : _), ((isPvtEpoch s = true) ∧ (isTulEpoch s
    = false) ∧ (s.meas.cut < 2)) ∧ ∃ u, u = (readRecords { s with meas.cut := 2 }) ∧ (pvtPoint u = some p) ∧ ∃ n, n = u.meas.nav
    ∧ ∃ used, used = ((pvtWanted u p).filter (fun c => recordGood u c p)) ∧ (2 ≤ n.mode → corrAge u = none) ∧ (used ≠ [])) ∧ (∃
    (s : State), (isMeasEpoch s = true) ∧ (s.meas.cut < 3)) ∧ (∃ (s : State), (isMeasEpoch s = false ∨ s.meas.cut = 3)) :=
  ⟨⟨3, 0,
      { up with chans := [(3, { Channel.free with state := .pll, signal := 1, sv := 5, aprMask := 1, anchor := 0, provisional := false, aprs := [(0, { ChanApr.initial with dump := [1] })] })] },
      by decide +kernel⟩,
    ⟨{ up with chans := [(3, { Channel.free with state := .pll, signal := 1, sv := 5, aprMask := 1, anchor := 0, provisional := true, aprs := [(0, { ChanApr.initial with state := 2, dump := withCrc (zeros 60), committed := true })] })], apertures := [(0, { Aperture.initial with enabled := true, slicesOn := 15, phase := .running })], meas := { up.meas with cut := 0 } },
      by decide +kernel, _, rfl, _, rfl, by decide +kernel⟩,
    ⟨{ up with meas := { up.meas with cut := 0 } }, by decide +kernel⟩,
    ⟨{ up with chans := [(3, { Channel.free with state := .pll, signal := 1, sv := 5, aprMask := 1, anchor := 0, weekKnown := true, aprs := [(0, { ChanApr.initial with state := 2, cn0 := 450, dump := withCrc (zeros 60), committed := true })] })], apertures := [(0, { Aperture.initial with enabled := true, slicesOn := 15, phase := .running })], meas := { up.meas with cut := 0 } },
      0, by decide +kernel, _, rfl, by decide +kernel, _, rfl, _, rfl, by decide +kernel⟩,
    ⟨{ up with meas := { up.meas with cut := 2 } }, by decide +kernel⟩,
    ⟨{ up with meas := { up.meas with cut := 3 } }, by decide +kernel⟩⟩

theorem test_witness_TimeCommandsComplete : (∃ (p : _) (s : State), (Accepted specTimScale p s) ∧ ((u8 p.params 0 ≤ 4) ∧ (u8
    p.params 1 ≤ 2) ∧ (u8 p.params 2 ≤ 1) ∧ (zeroAt p.params 3 1 = true)) ∧ ∃ t, t = (ready specTimScale p s) ∧ (u8 p.params 1 ≠
    0 → syncIs1pps t = true) ∧ (t.nunar.st = 0 ∨ t.nunar.st = 1 ∧ t.nunar.slew = 0)) ∧ (∃ (p : _) (s : State), (Accepted
    specTimHoldover p s) ∧ ∃ b, b = p.params ∧ (u8 b 2 ≤ 1) ∧ (zeroAt b 3 1 = true) ∧ (1 ≤ u32 b 4) ∧ (u32 b 4 ≤ 4000000000)) ∧
    (∃ (p : _) (s : State), (Accepted specTimStepPolicy p s) ∧ ∃ b, b = p.params ∧ (u8 b 0 ≤ 1) ∧ (zeroAt b 1 1 = true) ∧ (10 ≤
    u16 b 2) ∧ (u16 b 2 ≤ 10000) ∧ (1 ≤ u16 b 4) ∧ (u16 b 4 ≤ 1000) ∧ (zeroAt b 6 2 = true)) ∧ (∃ (p : _) (s : State), (Accepted
    specTimDelays p s) ∧ ∃ b, b = p.params ∧ ∃ es, es = (chunks 8 (u8 b 0) (b.drop 8)) ∧ (u8 b 0 ≤ 24) ∧ (u8 b 1 ≤ 1) ∧ (zeroAt
    b 2 6 = true) ∧ (∀ e ∈ es, delayOk e = true) ∧ (anyPair (fun x y => u8 x 0 == u8 y 0 && u8 x 1 == u8 y 1) es = false)) ∧ (∃
    (p : _) (s : State), (Accepted specTimPulse p s) ∧ ∃ b, b = p.params ∧ ((u8 b 0 ≤ 1) ∧ (u8 b 1 ≤ 1) ∧ (u8 b 2 ≤ 1) ∧ (u8 b 3
    ≤ 1) ∧ (u32 b 4 ∈ pulsePeriods) ∧ (1 ≤ u32 b 8) ∧ (u32 b 8 ≤ 1000 * u32 b 4 - 1) ∧ (u32 b 8 ≤ 1000000) ∧ (i32 b 12).natAbs ≤
    500000000) ∧ ∃ t, t = (ready specTimPulse p s) ∧ (u8 b 0 = 1 → u8 b 1 = 1 → timecodeOn t = false)) ∧ (∃ (p : _) (s : State),
    (Accepted specTimTimecode p s) ∧ ∃ b, b = p.params ∧ ((u8 b 1 ≤ 7) ∧ (u8 b 2 ≤ 3) ∧ (zeroAt b 3 1 = true) ∧ (-48 ≤ i8 b 4) ∧
    (i8 b 4 ≤ 56) ∧ (zeroAt b 5 3 = true)) ∧ ∃ t, t = (ready specTimTimecode p s) ∧ (u8 b 0 = 0 ∧ u8 b 1 = 0 ∨ u8 b 0 = 1 ∧
    (tpOf t 1).mode ≠ 1 ∧ ∃ k, k < 16 ∧ coreAllowed t k = true ∧ (coreOf t k).gen = 0 ∧ ∀ j, k < j → j < 16 → coreAllowed t j =
    false)) ∧ (∃ (p : _) (s : State), (Accepted specTimEvent p s) ∧ ∃ b, b = p.params ∧ ((u8 b 0 ≤ 7) ∧ (zeroAt b 6 2 = true)) ∧
    ∃ t, t = (ready specTimEvent p s) ∧ ∃ x, x = (evtOf t (u8 b 0)) ∧ (u8 b 1 = 0) ∧ (u8 b 2 = 0) ∧ (u8 b 3 = 0) ∧ (u16 b 4 ≤
    128) ∧ (x.delivery ≠ 1)) ∧ (∃ (p : _) (s : State), (Accepted specTimEvent p s) ∧ ∃ b, b = p.params ∧ (u8 b 0 ≤ 7) ∧ (zeroAt
    b 6 2 = true) ∧ (u8 b 1 = 1) ∧ (u8 b 2 ≤ 3) ∧ (u8 b 3 ≤ 1) ∧ (u16 b 4 = 0)) :=
  ⟨⟨mk specTimScale.opcode [4, 2, 1, 0], { up with clk := { up.clk with fn := 2 } }, accepted_mk _ _ _ (by decide +kernel),
      by decide +kernel, _, rfl, by decide +kernel⟩,
    ⟨mk specTimHoldover.opcode (le 2 7 ++ [1, 0] ++ le 4 4000000000), up, accepted_mk _ _ _ (by decide +kernel), _, rfl,
      by decide +kernel⟩,
    ⟨mk specTimStepPolicy.opcode ([1, 0] ++ le 2 10000 ++ le 2 1000 ++ [0, 0]), up, accepted_mk _ _ _ (by decide +kernel), _,
      rfl, by decide +kernel⟩,
    ⟨mk specTimDelays.opcode ([1, 1, 0, 0, 0, 0, 0, 0] ++ [6, 0, 0, 0] ++ leI 4 (-1000000)), up, accepted_mk _ _ _
      (by decide +kernel), _, rfl, _, rfl, by decide +kernel⟩,
    ⟨mk specTimPulse.opcode ([1, 1, 1, 1] ++ le 4 60000 ++ le 4 1000000 ++ leI 4 (-500000000)), up, accepted_mk _ _ _
      (by decide +kernel), _, rfl, by decide +kernel, _, rfl, by decide +kernel⟩,
    ⟨mk specTimTimecode.opcode ([1, 7, 3, 0] ++ leI 1 (-48) ++ [0, 0, 0]), up, accepted_mk _ _ _ (by decide +kernel), _, rfl,
      by decide +kernel, _, rfl,
      (.inr ⟨by decide +kernel, by decide +kernel, 1, by decide +kernel, by decide +kernel, by decide +kernel, fun j h1 h2 => (show ∀ j : Fin 16, 1 < j.val → coreAllowed (ready specTimTimecode (mk specTimTimecode.opcode ([1, 7, 3, 0] ++ leI 1 (-48) ++ [0, 0, 0])) up) j = false from by decide +kernel) ⟨j, h2⟩ h1⟩)⟩,
    ⟨mk specTimEvent.opcode [7, 0, 0, 0, 128, 0, 0, 0], up, accepted_mk _ _ _ (by decide +kernel), _, rfl, by decide +kernel, _,
      rfl, _, rfl, by decide +kernel⟩,
    ⟨mk specTimEvent.opcode [7, 1, 3, 1, 0, 0, 0, 0], up, accepted_mk _ _ _ (by decide +kernel), _, rfl, by decide +kernel⟩⟩

theorem test_witness_EpochAndSecondComplete : (∃ (s : State), (epochsRun s = true) ∧ (s.nunar.running = true) ∧ (s.nunar.stepped
    = false) ∧ (stepDue s = false) ∧ (s.nunar.pendScale = none)) ∧ (∃ (v : NavObs) (u : Byte × Fin 3 × Nat), (v.utc = some u)) ∧
    (∃ (s : State), (epochsRun s = true) ∧ (s.nunar.running = true) ∧ (s.nunar.secDue = true) ∧ (s.power.retention = false)) ∧
    (∃ (o : SecondObs) (s : State), (epochsRun s = true) ∧ (s.nunar.running = true) ∧ (s.nunar.secDue = true) ∧
    (s.power.retention = false) ∧ (secondSource o s = none)) ∧ (∃ (o : SecondObs) (s : State), ((epochsRun s = true) ∧
    (s.nunar.running = true) ∧ (s.nunar.secDue = true) ∧ (s.power.retention = false)) ∧ ∃ (src : _) (x : _) (v : _),
    (secondSource o s = some (src, x, v))) ∧ (∃ (s : State) (d : _), (epochsRun s = true) ∧ (s.nunar.running = true) ∧
    (s.nunar.stepped = false) ∧ (s.nunar.pendScale = none) ∧ (s.nunar.step = some d) ∧ (s.epochMs + 1 = d.boundary)) ∧ (∃ (s :
    State), (s.nunar.st = 2) ∧ (s.nunar.slew = 0) ∧ (s.nunar.step = none)) ∧ (∃ (s : State), (s.nunar.st = 3) ∧
    (s.nunar.limitMin ≠ 0) ∧ (s.nunar.coastMs + 60000 * s.nunar.limitMin ≤ s.ms) ∧ (s.nunar.secDue = false) ∧ (s.nunar.lowered =
    false) ∧ (s.nunar.step = none)) :=
  ⟨⟨{ up with clk := { up.clk with st := 0 }, nunar := { up.nunar with running := true } }, by decide +kernel⟩,
    ⟨{ orbits := [], utc := some (18, 0, 0), offsets := [], auth := [] }, (18, 0, 0), by decide +kernel⟩,
    ⟨{ up with clk := { up.clk with st := 0 }, nunar := { up.nunar with running := true, secDue := true } }, by decide +kernel⟩,
    ⟨{ poisoned := false, corrected := false, residue := false },
      { up with clk := { up.clk with st := 0 }, nunar := { up.nunar with running := true, secDue := true } },
      by decide +kernel⟩,
    ⟨{ poisoned := false, corrected := false, residue := false },
      { up with clk := { up.clk with st := 0 }, nunar := { up.nunar with running := true, secDue := true, source := 2, sync := some 5 } },
      by decide +kernel, true, (-5), true, by decide +kernel⟩,
    ⟨{ up with clk := { up.clk with st := 0 }, nunar := { up.nunar with running := true, step := some { boundary := 1, due := 1, d := 35200000000 } } },
      { boundary := 1, due := 1, d := 35200000000 }, by decide +kernel⟩,
    ⟨{ up with clk := { up.clk with st := 0 }, nunar := { up.nunar with st := 2 } }, by decide +kernel⟩,
    ⟨{ up with clk := { up.clk with st := 0 }, nunar := { up.nunar with st := 3, limitMin := 1 }, ms := 60000 },
      by decide +kernel⟩⟩

theorem test_witness_PulseAndEventEdgesComplete :
    (∃ (o : Fin 2) (s : State) (i : Nat), s.burst.on = false ∧ s.power.retention = false ∧ nextEdge s o true 50 150 = some i) ∧
    (∃ (o : Fin 2) (s : State) (i : _), (s.burst.on = false) ∧ (s.power.retention = false) ∧ (nextEdge s o false 50 51 = some
    i)) ∧ (∃ (o : Fin 2) (s : State) (e : _), (firstEdge (tpOf s o).announced = some e) ∧ (e.due ≤ s.ms + 1) ∧ (e.frame =
    false)) ∧ (∃ (o : Fin 2) (s : State) (x : _), (tpOf s o).trail = some x) ∧ (∃ (n : Fin 8) (rising : Bool) (s : State),
    (evtOf s n).edge.testBit (if rising then 0 else 1) = false) ∧ (∃ (n : Fin 8) (rising : Bool) (g : Nat) (s : State), ∃ at',
    at' = (nearestGrid s.nunar.pos + (g : Int)) ∧ ((mainRuns s = true) ∧ (evtOf s n).edge.testBit (if rising then 0 else 1) =
    true ∧ (clockBypass s = false) ∧ (s.nunar.running = true)) ∧ (∀ l, (evtOf s n).last = some l → 352000 ≤ at' - l) ∧ (evtOf s
    n).fifo.length < 256) :=
  ⟨⟨0, { up with clk := { up.clk with st := 0 }, nunar := { up.nunar with running := true, st := 1, tp := [(0, { TpOut.initial with mode := 1, notice := true })] }, ms := 900, epochMs := 900 }, 100, by decide +kernel⟩,
    ⟨0,
      { up with clk := { up.clk with st := 0 }, nunar := { up.nunar with running := true, st := 1 }, ms := 950, epochMs := 950 },
      50, by decide +kernel⟩,
    ⟨0,
      { up with clk := { up.clk with st := 0 }, nunar := { up.nunar with running := true, tp := [(0, { TpOut.initial with mode := 1, announced := [{ label := 1000, due := 1000, pos := 0, off := 5, qerr := 0, notice := false, step := none, falling := false, frame := false }] })] }, ms := 999 },
      { label := 1000, due := 1000, pos := 0, off := 5, qerr := 0, notice := false, step := none, falling := false, frame := false },
      by decide +kernel⟩,
    ⟨1,
      { up with clk := { up.clk with st := 0 }, nunar := { up.nunar with tp := [(1, { TpOut.initial with trail := some (5, true), level := true })] } },
      (5, true), by decide +kernel⟩,
    ⟨7, true, up, by decide +kernel⟩,
    ⟨7, false, 351999,
      { up with clk := { up.clk with st := 0 }, nunar := { up.nunar with running := true, events := [(7, { EvtIn.initial with edge := 2, last := some (-1) })] } },
      _, rfl, by decide +kernel,
      (fun l h => by have h2 : (some (-1) : Option Int) = some l := h; injection h2 with h2; subst h2; decide +kernel),
      by decide +kernel⟩⟩

theorem test_witness_ClockCommandsComplete : (∃ (p : _) (s : State), (Accepted specClkRef p s) ∧ ∃ b, b = p.params ∧ (u8 b 0 ≤
    3) ∧ (u8 b 1 ≤ 1) ∧ (u8 b 2 ≤ 1) ∧ (zeroAt b 3 1 = true)) ∧ (∃ (p : _) (s : State), (Accepted specClkOut p s) ∧ ∃ b, b =
    p.params ∧ ∃ o, o = (u8 b 0) ∧ (o ≤ 3) ∧ (u8 b 2 ≤ 7) ∧ (zeroAt b 3 1 = true) ∧ (u8 b 1 = 0) ∧ (u32 b 4 = 0) ∧ (u32 b 8 =
    0)) ∧ (∃ (p : _) (s : State), (Accepted specClkOut p s) ∧ ∃ b, b = p.params ∧ ∃ o, o = (u8 b 0) ∧ ∃ div, div = (u32 b 4 * 2
    ^ 32 + u32 b 8) ∧ ((o ≤ 3) ∧ (u8 b 2 ≤ 7) ∧ (zeroAt b 3 1 = true)) ∧ ∃ t, t = (ready specClkOut p s) ∧ ∃ x, x = (clkOutOf t
    o) ∧ (1 ≤ u8 b 1) ∧ (u8 b 1 ≤ 4) ∧ (2 ≤ u32 b 4) ∧ (u32 b 4 ≤ 16777215) ∧ (1100 * 2 ^ 32 ≤ formatLimit (u8 b 1) * div) ∧
    (x.format = 0)) ∧ (∃ (p : _) (s : State), (Accepted specClkOut p s) ∧ ∃ b, b = p.params ∧ ∃ o, o = (u8 b 0) ∧ ∃ div, div =
    (u32 b 4 * 2 ^ 32 + u32 b 8) ∧ ((o ≤ 3) ∧ (u8 b 2 ≤ 7) ∧ (zeroAt b 3 1 = true)) ∧ ∃ t, t = (ready specClkOut p s) ∧ ∃ x, x =
    (clkOutOf t o) ∧ (1 ≤ u8 b 1) ∧ (u8 b 1 ≤ 4) ∧ (2 ≤ u32 b 4) ∧ (u32 b 4 ≤ 16777215) ∧ (1100 * 2 ^ 32 ≤ formatLimit (u8 b 1)
    * div) ∧ (x.format ≠ 0) ∧ (u8 b 2).testBit 0 = clkFollow x) ∧ (∃ (p : _) (s : State), (Accepted specClkRamp p s) ∧ ∃ b, b =
    p.params ∧ ∃ es, es = (chunks 8 (u8 b 2) (b.drop 8)) ∧ ∃ segs, segs = (es.map (fun e => (u32 e 0, u32 e 4))) ∧ (zeroAt b 4 4
    = true) ∧ (∀ e ∈ es, 1 ≤ u32 e 4 ∧ u32 e 4 ≤ 60000) ∧ (u8 b 0 = 1) ∧ (u8 b 1 = 255) ∧ (1 ≤ u8 b 2) ∧ (u8 b 2 ≤ 16) ∧ (u8 b 3
    = 0) ∧ (∀ e ∈ segs, e.1 ≤ 16777216) ∧ (segs.foldl (fun (m : Nat) e => m + e.1 * e.2) 0 = 2 ^ 24) ∧ (shapeLen segs ≤ 60000))
    ∧ (∃ (p : _) (s : State), (Accepted specClkRamp p s) ∧ ∃ b, b = p.params ∧ ∃ es, es = (chunks 8 (u8 b 2) (b.drop 8)) ∧ ∃
    sweep, sweep = (es.map (fun e => (i32 e 0, u32 e 4))) ∧ ((zeroAt b 4 4 = true) ∧ (∀ e ∈ es, 1 ≤ u32 e 4 ∧ u32 e 4 ≤ 60000))
    ∧ ∃ t, t = (ready specClkRamp p s) ∧ (u8 b 0 = 2) ∧ (u8 b 1 ≤ 3) ∧ (1 ≤ u8 b 2) ∧ (u8 b 2 ≤ 16) ∧ (u8 b 3 ≤ 1) ∧ (∀ e ∈
    sweep, e.1.natAbs ≤ 2000000000) ∧ (clkOutOn (clkOutOf t (u8 b 1)) = true) ∧ (sweepInside (yHAt t (u8 b 1) (sweepAhead t (u8
    b 3 == 1))) sweep = true)) ∧ (∃ (p : _) (s : State), (Accepted specClkRamp p s) ∧ ∃ b, b = p.params ∧ ∃ es, es = (chunks 8
    (u8 b 2) (b.drop 8)) ∧ ((zeroAt b 4 4 = true) ∧ (∀ e ∈ es, 1 ≤ u32 e 4 ∧ u32 e 4 ≤ 60000)) ∧ ∃ t, t = (ready specClkRamp p
    s) ∧ (u8 b 0 = 3) ∧ (u8 b 1 ≤ 3) ∧ (u8 b 2 = 0) ∧ (u8 b 3 = 0) ∧ (clkOutOn (clkOutOf t (u8 b 1)) = true)) ∧ (∃ (p : _) (s :
    State), (Accepted specClkSync p s) ∧ ∃ b, b = p.params ∧ ((u8 b 0 ≤ 2) ∧ (u8 b 1 ≤ 1) ∧ (u8 b 2 ≤ 15) ∧ (u8 b 3 ≤ 1) ∧ (u8 b
    2 = 0 → u8 b 3 = 0)) ∧ ∃ t, t = (ready specClkSync p s) ∧ (t.clk.fn = 2 → u8 b 0 ≠ 2 → t.nunar.source = 0) ∧ (u8 b 2 ≠ 0 →
    u8 b 3 = 0 → u8 b 0 ≠ 0) ∧ (u8 b 3 = 1 → t.nunar.st ≠ 5) ∧ (∀ o ∈ maskBits 4 (u8 b 2), clkOutOn (clkOutOf t o) = true)) ∧ (∃
    (p : _) (s : State), (Accepted specClkStatus p s)) :=
  ⟨⟨mk specClkRef.opcode [3, 1, 1, 0], up, accepted_mk _ _ _ (by decide +kernel), _, rfl, by decide +kernel⟩,
    ⟨mk specClkOut.opcode [3, 0, 7, 0, 0, 0, 0, 0, 0, 0, 0, 0], up, accepted_mk _ _ _ (by decide +kernel), _, rfl, _, rfl,
      by decide +kernel⟩,
    ⟨mk specClkOut.opcode ([3, 4, 7, 0] ++ le 4 16777215 ++ le 4 0xFFFFFFFF), up, accepted_mk _ _ _ (by decide +kernel), _, rfl,
      _, rfl, _, rfl, by decide +kernel, _, rfl, _, rfl, by decide +kernel⟩,
    ⟨mk specClkOut.opcode ([3, 4, 6, 0] ++ le 4 2 ++ le 4 0),
      { up with clk := { up.clk with outputs := [(3, { ClkOut.initial with format := 1, div := 2 ^ 40 })] } }, accepted_mk _ _
      _ (by decide +kernel), _, rfl, _, rfl, _, rfl, by decide +kernel, _, rfl, _, rfl, by decide +kernel⟩,
    ⟨mk specClkRamp.opcode ([1, 255, 1, 0, 0, 0, 0, 0] ++ le 4 16384 ++ le 4 1024), up, accepted_mk _ _ _ (by decide +kernel),
      _, rfl, _, rfl, _, rfl, by decide +kernel⟩,
    ⟨mk specClkRamp.opcode ([2, 3, 1, 0, 0, 0, 0, 0] ++ leI 4 (-2000000000) ++ le 4 50),
      { up with clk := { up.clk with outputs := [(3, { ClkOut.initial with format := 1, div := 2 ^ 40 })] } }, accepted_mk _ _
      _ (by decide +kernel), _, rfl, _, rfl, _, rfl, by decide +kernel, _, rfl, by decide +kernel⟩,
    ⟨mk specClkRamp.opcode [3, 3, 0, 0, 0, 0, 0, 0],
      { up with clk := { up.clk with outputs := [(3, { ClkOut.initial with format := 1, div := 2 ^ 40 })] } }, accepted_mk _ _
      _ (by decide +kernel), _, rfl, _, rfl, by decide +kernel, _, rfl, by decide +kernel⟩,
    ⟨mk specClkSync.opcode [1, 1, 8, 1],
      { up with clk := { up.clk with outputs := [(3, { ClkOut.initial with format := 1, div := 2 ^ 40 })] } }, accepted_mk _ _
      _ (by decide +kernel), _, rfl, by decide +kernel, _, rfl, by decide +kernel⟩,
    ⟨mk specClkStatus.opcode [], up, accepted_mk _ _ _ (by decide +kernel)⟩⟩

theorem test_witness_ClockEventsComplete : (∃ (khz : _) (s : State) (f : _), (mainRuns s = true) ∧ (s.clk.refPresent = false) ∧
    (windowFreq s khz = some f) ∧ (s.clk.goodWindows = 0)) ∧ (∃ (khz : _) (s : State) (f : _), (mainRuns s = true) ∧
    (s.clk.refPresent = false) ∧ (windowFreq s khz = some f) ∧ (s.clk.goodWindows ≠ 0) ∧ (s.clk.refFreq = f) ∧ (s.clk.wasPresent
    = true)) ∧ (∃ (khz : _) (s : State) (f : _), (mainRuns s = true) ∧ (s.clk.refPresent = false) ∧ (windowFreq s khz = some f)
    ∧ (s.clk.goodWindows ≠ 0) ∧ (s.clk.refFreq = f) ∧ (s.clk.wasPresent = false)) ∧ (∃ (khz : _) (s : State), (mainRuns s =
    true) ∧ (s.clk.refPresent = true) ∧ (windowFreq s khz = none) ∧ (s.clk.st = 0)) ∧ (∃ (count : _) (s : State), (mainRuns s =
    true) ∧ (s.clk.st = 0) ∧ (countErr s count ≤ 2)) ∧ (∃ (count : _) (s : State), (mainRuns s = true) ∧ (s.clk.st = 0) ∧ (2 <
    countErr s count)) ∧ (∃ (count : _) (s : State), (mainRuns s = true) ∧ (s.clk.st = 3) ∧ (s.clk.seq.step = 3) ∧
    (s.clk.seq.good = 1) ∧ (countErr s count ≤ 1)) ∧ (∃ (s : State), (mainRuns s = true) ∧ (s.clk.st = 2)) ∧ (∃ (s : State),
    (mainRuns s = true) ∧ (s.clk.st = 4)) ∧ (∃ (o : Fin 4) (s : State), (mainRuns s = true) ∧ (clkOutOf s o).sweep = some []) ∧
    (∃ (s : State) (al : _), (mainRuns s = true) ∧ (s.clk.align = some al) ∧ (al.src = 0) ∧ (al.seen = none) ∧ (al.armedMs +
    2000 ≤ nowMs s)) ∧ (∃ (o : Fin 4) (g : Nat) (s : State), ((mainRuns s = true) ∧ (clkOutOn (clkOutOf s o) = true) ∧
    (clockBypass s = false) ∧ (s.nunar.running = true) ∧ (s.clk.align = none)) ∧ ∃ e, e = ((clkOutOf s o).next.getD
    ((nearestGrid s.nunar.pos + (g : Int)) * gridOne)) ∧ (e < s.nunar.pos + s.nunar.plan)) ∧ (∃ (o : Fin 4) (g : Nat) (s :
    State), ((mainRuns s = true) ∧ (clkOutOn (clkOutOf s o) = true) ∧ (clockBypass s = false) ∧ (s.nunar.running = true) ∧
    (s.clk.align = none)) ∧ ∃ e, e = ((clkOutOf s o).next.getD ((nearestGrid s.nunar.pos + (g : Int)) * gridOne)) ∧ (e <
    s.nunar.pos + s.nunar.plan) ∧ ∃ (f : _) (d : _), (clkOutOf s o).pend = some (f, d)) ∧ (∃ (o : Fin 4) (g : Nat) (s : State),
    ((mainRuns s = true) ∧ (clkOutOn (clkOutOf s o) = true) ∧ (clockBypass s = false) ∧ (s.nunar.running = true) ∧ (s.clk.align
    = none)) ∧ ∃ e, e = ((clkOutOf s o).next.getD ((nearestGrid s.nunar.pos + (g : Int)) * gridOne)) ∧ (s.nunar.pos +
    s.nunar.plan ≤ e)) ∧ (∃ (rising : Bool) (s : State), (mainRuns s = true) ∧ (¬ (s.clk.edge = 0 ↔ rising = true))) ∧ (∃
    (rising : Bool) (s : State), (mainRuns s = true) ∧ (s.clk.edge = 0 ↔ rising = true) ∧ (s.clk.fn = 0)) ∧ (∃ (rising : Bool)
    (s : State), (mainRuns s = true) ∧ (s.clk.edge = 0 ↔ rising = true) ∧ (s.clk.fn ≠ 0) ∧ (clockBypass s = false) ∧
    (s.nunar.running = true)) :=
  ⟨⟨10000, { up with clk := { up.clk with st := 2 } },
      ((windowFreq { up with clk := { up.clk with st := 2 } } 10000).get (by decide +kernel)), by decide +kernel⟩,
    ⟨10000,
      { up with clk := { up.clk with st := 2, wasPresent := true, goodWindows := 1, refFreq := (windowFreq up 10000).getD 0 } },
      ((windowFreq up 10000).getD 0), by decide +kernel⟩,
    ⟨10000,
      { up with clk := { up.clk with st := 1, wasPresent := false, goodWindows := 1, refFreq := (windowFreq up 10000).getD 0 } },
      ((windowFreq up 10000).getD 0), by decide +kernel⟩,
    ⟨11201, { up with clk := { up.clk with st := 0, refPresent := true, refFreq := 1 } }, by decide +kernel⟩,
    ⟨(clkExpected { up with clk := { up.clk with st := 0, freq := 1, refPresent := true, refFreq := 1 } } + 2),
      { up with clk := { up.clk with st := 0, freq := 1, refPresent := true, refFreq := 1 } }, by decide +kernel⟩,
    ⟨(clkExpected { up with clk := { up.clk with st := 0, freq := 1, refPresent := true, refFreq := 1 } } - 3),
      { up with clk := { up.clk with st := 0, freq := 1, refPresent := true, refFreq := 1 } }, by decide +kernel⟩,
    ⟨(clkExpected { up with clk := { up.clk with st := 3, freq := 1, refPresent := true, refFreq := 1, seq := { LockSeq.start with step := 3, good := 1 } } } - 1),
      { up with clk := { up.clk with st := 3, freq := 1, refPresent := true, refFreq := 1, seq := { LockSeq.start with step := 3, good := 1 } } },
      by decide +kernel⟩,
    ⟨{ up with clk := { up.clk with st := 2 } }, by decide +kernel⟩,
    ⟨{ up with clk := { up.clk with st := 4 } }, by decide +kernel⟩,
    ⟨3, { up with clk := { up.clk with outputs := [(3, { ClkOut.initial with sweep := some [] })] } }, by decide +kernel⟩,
    ⟨{ up with clk := { up.clk with align := some { outputs := 8, src := 0, second := 0, seen := none, armedMs := 0 } }, ms := 2000 },
      { outputs := 8, src := 0, second := 0, seen := none, armedMs := 0 }, by decide +kernel⟩,
    ⟨3, 5,
      { up with clk := { up.clk with st := 0, outputs := [(3, { ClkOut.initial with format := 1, div := 2 ^ 40, next := none })] }, nunar := { up.nunar with running := true, plan := 35200000 * 2 ^ 32 } },
      by decide +kernel, _, rfl, by decide +kernel⟩,
    ⟨3, 5,
      { up with clk := { up.clk with st := 0, outputs := [(3, { ClkOut.initial with format := 1, div := 2 ^ 40, next := some 7, pend := some (2, 2 ^ 41) })] }, nunar := { up.nunar with running := true, plan := 35200000 * 2 ^ 32 } },
      by decide +kernel, _, rfl, by decide +kernel, 2, (2 ^ 41), by decide +kernel⟩,
    ⟨3, 5,
      { up with clk := { up.clk with st := 0, outputs := [(3, { ClkOut.initial with format := 1, div := 2 ^ 40, next := some (35200000 * 2 ^ 32) })] }, nunar := { up.nunar with running := true, plan := 35200000 * 2 ^ 32 } },
      by decide +kernel, _, rfl, by decide +kernel⟩,
    ⟨false, up, by decide +kernel⟩,
    ⟨true, up, by decide +kernel⟩,
    ⟨true, { up with clk := { up.clk with st := 0, fn := 2 }, nunar := { up.nunar with running := true } }, by decide +kernel⟩⟩

theorem test_witness_LinkCommandsComplete : (∃ (p : _) (s : State), (Accepted specLnkChannels p s) ∧ ∃ b, b = p.params ∧ ∃ es,
    es = (chunks 8 (u8 b 0) (b.drop 8)) ∧ ((u8 b 0 ≤ 64) ∧ (u8 b 1 ≤ 1) ∧ (zeroAt b 2 6 = true) ∧ (∀ e ∈ es, linkChOk e = true)
    ∧ (anyPair (fun x y => u8 x 0 == u8 y 0) es = false)) ∧ ∃ t, t = (ready specLnkChannels p s) ∧ (t.link.role = 0)) ∧ (∃ (p :
    _) (s : State), (Accepted specLnkCal p s) ∧ ∃ i, i = (u8 p.params 0) ∧ (zeroAt p.params 2 2 = true) ∧ ∃ t, t = (ready
    specLnkCal p s) ∧ (i = 255 ∨ i ≤ 63 ∧ (linkChOf t i).isSome = true) ∧ (u8 p.params 1 = 0)) ∧ (∃ (p : _) (s : State),
    (Accepted specLnkCal p s) ∧ ∃ i, i = (u8 p.params 0) ∧ (zeroAt p.params 2 2 = true) ∧ ∃ t, t = (ready specLnkCal p s) ∧ (i =
    255 ∨ i ≤ 63 ∧ (linkChOf t i).isSome = true) ∧ (u8 p.params 1 = 1) ∧ (i ≠ 255) ∧ (t.link.synth.op ≠ 4)) ∧ (∃ (p : _) (s :
    State), (Accepted specLnkCal p s) ∧ ∃ i, i = (u8 p.params 0) ∧ (zeroAt p.params 2 2 = true) ∧ ∃ t, t = (ready specLnkCal p
    s) ∧ (i = 255 ∨ i ≤ 63 ∧ (linkChOf t i).isSome = true) ∧ (u8 p.params 1 = 2)) ∧ (∃ (p : _) (s : State), (Accepted
    specLnkTxpower p s) ∧ ∃ b, b = p.params ∧ (2 ≤ u8 b 1) ∧ (-88 ≤ i8 b 0) ∧ (i8 b 0 ≤ 32) ∧ (u8 b 1 ≤ 16) ∧ (1 ≤ u8 b 2) ∧ (u8
    b 2 ≤ 50) ∧ (zeroAt b 3 1 = true)) ∧ (∃ (p : _) (s : State), (Accepted specLnkDiversity p s) ∧ ∃ b, b = p.params ∧ ((u8 b 0
    ≤ 2) ∧ (u8 b 1 ≤ 3) ∧ (u8 b 2 ≤ 1) ∧ (zeroAt b 3 1 = true)) ∧ ∃ t, t = (ready specLnkDiversity p s) ∧ (t.link.role = 0 ∨ u8
    b 1 = t.link.polarity ∧ u8 b 2 = t.link.lnaCtrl)) ∧ (∃ (p : _) (s : State), (Accepted specLnkStatus p s)) ∧ (∃ (p : _) (s :
    State), (Accepted specLnkRole p s) ∧ ∃ b, b = p.params ∧ (u8 b 0 ≤ 3) ∧ (u8 b 1 ≤ 63) ∧ (u8 b 2 ≤ 15) ∧ (u8 b 3 ≤ 126) ∧
    (zeroAt b 4 4 = true) ∧ (u8 b 0 = 0 → u8 b 1 = 0 ∧ u8 b 2 = 0) ∧ (u8 b 0 = 0)) ∧ (∃ (p : _) (s : State), (Accepted
    specLnkRole p s) ∧ ∃ b, b = p.params ∧ ((u8 b 0 ≤ 3) ∧ (u8 b 1 ≤ 63) ∧ (u8 b 2 ≤ 15) ∧ (u8 b 3 ≤ 126) ∧ (zeroAt b 4 4 =
    true) ∧ (u8 b 0 = 0 → u8 b 1 = 0 ∧ u8 b 2 = 0)) ∧ ∃ t, t = (ready specLnkRole p s) ∧ (u8 b 0 ≠ 0) ∧ (t.link.role = 0 ∨
    t.link.role = u8 b 0) ∧ (t.profile.env.link = true)) ∧ (∃ (p : _) (s : State), (Accepted specLnkSchedule p s) ∧ ∃ b, b =
    p.params ∧ ∃ es, es = ((chunks 8 (u8 b 0) (b.drop 8)).map slotOfEntry) ∧ ((u8 b 0 ≤ 64) ∧ (u8 b 1 ≤ 1) ∧ (u16 b 2 ≠ 0) ∧
    (anyPair (fun x y => x.slot == y.slot) es = false)) ∧ ∃ t, t = (ready specLnkSchedule p s) ∧ ∃ ahead, ahead = ((u32 b 4 + 2
    ^ 32 - currentSf t) % 2 ^ 32) ∧ (u32 b 4 = 0 ∨ ahead ≠ 0 ∧ ahead ≤ 2 ^ 31 ∧ sfPos p.obs.subUs t + 10000 ≤ ahead * 100000) ∧
    ∃ old, old = (if u8 b 1 = 0 then [] else ((t.link.sched.map (·.slots)).getD []).filter (fun x => !es.any (fun e => e.slot ==
    x.slot))) ∧ ∃ slots, slots = (old ++ es) ∧ (∀ x ∈ slots, slotOk t x = true) ∧ (slots.filter (·.beacon)).length ≤ 1 ∧
    (anyPair (slotsClash t) slots = false) ∧ (t.link.role ≠ 0) ∧ (t.link.role = 2 → ∀ x ∈ slots, x.beacon = true → x.node ≠
    t.link.nodeId)) ∧ (∃ (p : _) (s : State), (Accepted specLnkSend p s) ∧ ∃ b, b = p.params ∧ ((u8 b 0 ≤ 63) ∧ (u8 b 1 ≤ 1) ∧
    (u8 b 2 ≤ 15) ∧ (zeroAt b 3 1 = true)) ∧ ∃ t, t = (ready specLnkSend p s) ∧ ∃ pl, pl = (b.drop 8) ∧ ∃ named, named = (u32 b
    4) ∧ (named ≠ 0 → (named + 2 ^ 32 - currentSf t) % 2 ^ 32 ≤ 2 ^ 31 ∧ unaligned t = false ∧ ∀ y, txSlotAt t (u8 b 0) named =
    some y → occurrenceAhead p t named y = true) ∧ ∃ (sf : _) (x : _), ((calPending t = false) ∧ (t.link.holdFailed = false) ∧
    (assignSf p t (u8 b 0) named = some sf) ∧ (txSlotAt t (u8 b 0) sf = some x) ∧ (x.beacon = false) ∧ (airSym x.rate (linkWidth
    t x.ch) pl.length ≤ x.maxSym) ∧ (t.link.role ≠ 0) ∧ (u8 b 1 = 1 → t.link.role = 1) ∧ (u8 b 2 = t.link.gen)) ∧ (∀ d, nodeOf t
    t.link.nodeId = some d → d.gen = u8 b 2) ∧ (t.link.queue.length < 32)) ∧ (∃ (p : _) (s : State), (Accepted specLnkSend p s)
    ∧ (u8 p.params 0 ≤ 63) ∧ (u8 p.params 1 ≤ 1) ∧ (u8 p.params 2 ≤ 15) ∧ (zeroAt p.params 3 1 = true) ∧ (calPending (ready
    specLnkSend p s) = true) ∧ (ready specLnkSend p s).link.holdFailed = false) ∧ (∃ (p : _) (s : State), (Accepted specLnkNodes
    p s) ∧ ∃ b, b = p.params ∧ ∃ es, es = (chunks 12 (u8 b 0) (b.drop 8)) ∧ (u8 b 0 ≤ 64) ∧ (u8 b 1 ≤ 1) ∧ (zeroAt b 2 6 = true)
    ∧ (∀ e ∈ es, nodeOk e = true) ∧ (anyPair (fun x y => u8 x 0 == u8 y 0) es = false)) ∧ (∃ (p : _) (s : State), (Accepted
    specLnkRxcfg p s) ∧ ∃ b, b = p.params ∧ (16 ≤ u8 b 0) ∧ (u8 b 0 ≤ 60) ∧ (u8 b 1 ≤ 3) ∧ (u8 b 2 ≤ 7) ∧ (zeroAt b 3 1 = true)
    ∧ (1 ≤ u16 b 4) ∧ (u16 b 4 ≤ 1000) ∧ (zeroAt b 6 2 = true)) :=
  ⟨⟨mk specLnkChannels.opcode ([1, 1, 0, 0, 0, 0, 0, 0] ++ [63, 2, 3] ++ leI 1 (-88) ++ le 4 915000000), up, accepted_mk _ _ _
      (by decide +kernel), _, rfl, _, rfl, by decide +kernel, _, rfl, by decide +kernel⟩,
    ⟨mk specLnkCal.opcode [255, 0, 0, 0],
      { up with clk := { up.clk with st := 0 }, link := { up.link with channels := [(0, some { width := 0, flags := 3, cap := 10, freqHz := 868000000 }), (63, some { width := 2, flags := 3, cap := -88, freqHz := 915000000 })] } },
      accepted_mk _ _ _ (by decide +kernel), _, rfl, by decide +kernel, _, rfl, by decide +kernel⟩,
    ⟨mk specLnkCal.opcode [63, 1, 0, 0],
      { up with clk := { up.clk with st := 0 }, link := { up.link with channels := [(0, some { width := 0, flags := 3, cap := 10, freqHz := 868000000 }), (63, some { width := 2, flags := 3, cap := -88, freqHz := 915000000 })] } },
      accepted_mk _ _ _ (by decide +kernel), _, rfl, by decide +kernel, _, rfl, by decide +kernel⟩,
    ⟨mk specLnkCal.opcode [63, 2, 0, 0],
      { up with clk := { up.clk with st := 0 }, link := { up.link with channels := [(0, some { width := 0, flags := 3, cap := 10, freqHz := 868000000 }), (63, some { width := 2, flags := 3, cap := -88, freqHz := 915000000 })] } },
      accepted_mk _ _ _ (by decide +kernel), _, rfl, by decide +kernel, _, rfl, by decide +kernel⟩,
    ⟨mk specLnkTxpower.opcode (leI 1 (-88) ++ [16, 50, 0]), up, accepted_mk _ _ _ (by decide +kernel), _, rfl,
      by decide +kernel⟩,
    ⟨mk specLnkDiversity.opcode [2, 3, 1, 0], up, accepted_mk _ _ _ (by decide +kernel), _, rfl, by decide +kernel, _, rfl,
      by decide +kernel⟩,
    ⟨mk specLnkStatus.opcode [], up, accepted_mk _ _ _ (by decide +kernel)⟩,
    ⟨mk specLnkRole.opcode [0, 0, 0, 126, 0, 0, 0, 0], up, accepted_mk _ _ _ (by decide +kernel), _, rfl, by decide +kernel⟩,
    ⟨mk specLnkRole.opcode [3, 63, 15, 126, 0, 0, 0, 0], up, accepted_mk _ _ _ (by decide +kernel), _, rfl, by decide +kernel,
      _, rfl, by decide +kernel⟩,
    ⟨mk specLnkSchedule.opcode ([1, 0] ++ le 2 7 ++ le 4 0 ++ [63, 63, 63, 8] ++ le 2 6 ++ le 2 1100),
      { up with clk := { up.clk with st := 0 }, link := { up.link with channels := [(0, some { width := 0, flags := 3, cap := 10, freqHz := 868000000 }), (63, some { width := 2, flags := 3, cap := -88, freqHz := 915000000 })], role := 2, nodeId := 63 } },
      accepted_mk _ _ _ (by decide +kernel), _, rfl, _, rfl, by decide +kernel, _, rfl, _, rfl, by decide +kernel, _, rfl, _,
      rfl, by decide +kernel⟩,
    ⟨mk specLnkSend.opcode ([5, 1, 3, 0, 0, 0, 0, 0] ++ [1, 2, 3]),
      { up with clk := { up.clk with st := 0 }, link := { up.link with channels := [(0, some { width := 0, flags := 3, cap := 10, freqHz := 868000000 }), (63, some { width := 2, flags := 3, cap := -88, freqHz := 915000000 })], role := 1, nodeId := 1, gen := 3, inForce := { role := 1, node := 1, gen := 3, network := 0 }, sched := some { id := 1, slots := [{ slot := 5, ch := 0, node := 1, rate := 0, offset := 1000, maxSym := 200, beacon := false }] } }, nunar := { up.nunar with running := true, st := 1 } },
      accepted_mk _ _ _ (by decide +kernel), _, rfl, by decide +kernel, _, rfl, _, rfl, _, rfl,
      (fun h => absurd (by decide +kernel) h), 0,
      { slot := 5, ch := 0, node := 1, rate := 0, offset := 1000, maxSym := 200, beacon := false }, by decide +kernel,
      (fun d h => by cases (show (none : Option LinkNode) = some d from h)), by decide +kernel⟩,
    ⟨mk specLnkSend.opcode ([63, 1, 15, 0, 0, 0, 0, 0]),
      { up with clk := { up.clk with st := 0 }, link := { up.link with synth := { Synth.initial with op := 4 } } },
      accepted_mk _ _ _ (by decide +kernel), by decide +kernel⟩,
    ⟨mk specLnkNodes.opcode ([1, 1, 0, 0, 0, 0, 0, 0] ++ [63, 15, 1, 0] ++ leI 4 (-10000000) ++ zeros 4), up, accepted_mk _ _ _
      (by decide +kernel), _, rfl, _, rfl, by decide +kernel⟩,
    ⟨mk specLnkRxcfg.opcode [60, 3, 7, 0, 232, 3, 0, 0], up, accepted_mk _ _ _ (by decide +kernel), _, rfl, by decide +kernel⟩⟩

theorem test_witness_LinkTransmitEventsComplete : (∃ (n : Fin 64) (s : State) (x : _), (txSlot s n = some x) ∧ (synthFree s =
    true) ∧ (synthEntry s x.ch).st ≠ 1 ∧ (lockedOn s x.ch = false)) ∧ (∃ (n : Fin 64) (s : State) (x : _), (txSlot s n = some x)
    ∧ (synthFree s = true) ∧ (lockedOn s x.ch = true)) ∧ (∃ (n : Fin 64) (s : State) (x : _), (txSlot s n = some x) ∧ (linkUp s
    = true) ∧ (synthTested s = false) ∧ (s.link.synth.op ≠ 4) ∧ (synthEntry s x.ch).st ≠ 0 ∧ (lockedOn s x.ch = false) ∧
    (s.link.driver = true)) ∧ (∃ (n : Fin 64) (s : State) (x : _), (txSlot s n = some x) ∧ (linkUp s = true) ∧ (synthTested s =
    false) ∧ (s.link.synth.op ≠ 4) ∧ (synthEntry s x.ch).st ≠ 0 ∧ (lockedOn s x.ch = false) ∧ (s.link.driver = false)) ∧ (∃ (us
    : Fin 1000) (s : State) (i : _), (rampNear us.val s = false) ∧ (synthFree s = true) ∧ (s.link.synth.waiting = []) ∧
    (backgroundNext us s = some i)) ∧ (∃ (us : Fin 1000) (s : State) (i : _), ((rampNear us.val s = false) ∧ (synthFree s =
    true)) ∧ ∃ (is : _), (s.link.synth.waiting = i :: is) ∧ (linkChOf s i).isSome = true ∧ (s.link.lpa = false) ∧ (∀ j ∈ is,
    (linkChOf s j).isSome = true)) ∧ (∃ (c : SynthCodes) (s : State) (ch : _), (linkUp s = true) ∧ (clockBypass s = false) ∧
    (s.link.synth.locked = false) ∧ (s.link.synth.op ≤ 2) ∧ (s.link.synth.ch = some ch) ∧ (lockContinuous s c.evals = true)) ∧
    (∃ (c : SynthCodes) (s : State) (ch : _), (linkUp s = true) ∧ (clockBypass s = false) ∧ (s.link.synth.locked = false) ∧
    (s.link.synth.op = 4) ∧ (s.link.synth.ch = some ch) ∧ (s.link.synth.calOk = false) ∧ (s.ecsol.held = []) ∧ (lockContinuous s
    c.evals = true)) ∧ (∃ (s : State) (ch : _), (s.link.synth.op = 4) ∧ (s.link.synth.ch = some ch) ∧ (s.link.synth.waiting =
    []) ∧ (s.link.synth.calOk = true)) ∧ (∃ (s : State) (ch : _), (s.link.synth.op = 4) ∧ (s.link.synth.ch = some ch) ∧
    (s.link.synth.waiting = []) ∧ (s.link.synth.calOk = false) ∧ (s.ecsol.held = [])) ∧ (∃ (s : State), (linkUp s = true)) ∧ (∃
    (n : Fin 64) (w : LinkAdc) (v : _) (x : _) (f : _) (q : _), ∃ s, s = (linkFeed w v) ∧ (txSlot s n = some x) ∧ (linkUp s =
    true) ∧ (frameFor s x = some (f, q)) ∧ (s.link.rampDone.contains n.val = false) ∧ (lockedOn s x.ch = true) ∧ (s.link.recv =
    none)) ∧ (∃ (n : Fin 64) (s : State) (x : _) (f : _), ((txSlot s n = some x) ∧ (linkUp s = true) ∧ (s.link.rampDone.contains
    n.val = false) ∧ (s.link.tx = none) ∧ (s.link.pendPower = none)) ∧ ∃ u, u =
    ({ s with link.rampDone := s.link.rampDone ++ [n.val] }) ∧ (frameFor u x = some (f, true)) ∧ ∃ (errs : List Nat), (∀ e ∈
    errs, e ≤ 2) ∧ (lockedOn s x.ch = true) ∧ (s.link.synth.op ≠ 4)) ∧ (∃ (n : Fin 64) (s : State) (x : _) (f : _), ((txSlot s n
    = some x) ∧ (linkUp s = true) ∧ (s.link.rampDone.contains n.val = false) ∧ (s.link.tx = none) ∧ (s.link.pendPower = none)) ∧
    ∃ u, u = ({ s with link.rampDone := s.link.rampDone ++ [n.val] }) ∧ (frameFor u x = some (f, true)) ∧ ∃ (errs : List Nat),
    (∀ e ∈ errs, e ≤ 2) ∧ (lockedOn s x.ch = false ∨ s.link.synth.op = 4) ∧ (s.link.synth.waiting = [])) ∧ (∃ (n : Fin 64) (s :
    State) (x : _) (f : _), ((txSlot s n = some x) ∧ (linkUp s = true) ∧ (s.link.rampDone.contains n.val = false) ∧ (s.link.tx =
    none) ∧ (s.link.pendPower = none)) ∧ ∃ u, u = ({ s with link.rampDone := s.link.rampDone ++ [n.val] }) ∧ (frameFor u x =
    some (f, true)) ∧ ∃ (errs : List Nat), (∃ e ∈ errs, 2 < e) ∧ (s.link.synth.waiting = [])) ∧ (∃ (s : State) (a : AirFrame),
    (s.link.tx = some a) ∧ (s.link.role ≠ 0)) ∧ (∃ (s : State) (a : AirFrame) (eval : Nat × Nat), (s.link.tx = some a) ∧
    (s.link.role ≠ 0) ∧ (evalInside s eval = true)) ∧ (∃ (s : State) (a : AirFrame) (eval : Nat × Nat), (s.link.tx = some a) ∧
    (s.link.role ≠ 0) ∧ (evalInside s eval = false)) ∧ (∃ (s : State), (s.link.tx = none) ∧ (s.link.synth.waiting = []) ∧
    (s.link.hopDue = none)) ∧ (∃ (s : State), ((s.link.tx = none) ∧ (s.link.synth.waiting = [])) ∧ ∃ (ch : _), (s.link.hopDue =
    some ch) ∧ (linkUp s = true) ∧ (synthTested s = false) ∧ (s.link.synth.op ≠ 4) ∧ (synthEntry s ch).st ≠ 0 ∧ (lockedOn s ch =
    false)) ∧ (∃ (w : LinkAdc) (v : _), ∃ s, s = (linkFeed w v) ∧ (s.link.tx = none) ∧ (s.link.lpa = false) ∧ (s.link.txWindow =
    true)) :=
  ⟨⟨5,
      { up with clk := { up.clk with st := 0 }, link := { up.link with channels := [(0, some { width := 0, flags := 3, cap := 10, freqHz := 868000000 }), (63, some { width := 2, flags := 3, cap := -88, freqHz := 915000000 })], role := 1, nodeId := 1, gen := 3, inForce := { role := 1, node := 1, gen := 3, network := 0 }, sched := some { id := 1, slots := [{ slot := 5, ch := 0, node := 1, rate := 0, offset := 1000, maxSym := 200, beacon := false }] } } },
      { slot := 5, ch := 0, node := 1, rate := 0, offset := 1000, maxSym := 200, beacon := false }, by decide +kernel⟩,
    ⟨5,
      { up with clk := { up.clk with st := 0 }, link := { up.link with channels := [(0, some { width := 0, flags := 3, cap := 10, freqHz := 868000000 }), (63, some { width := 2, flags := 3, cap := -88, freqHz := 915000000 })], role := 1, nodeId := 1, gen := 3, inForce := { role := 1, node := 1, gen := 3, network := 0 }, sched := some { id := 1, slots := [{ slot := 5, ch := 0, node := 1, rate := 0, offset := 1000, maxSym := 200, beacon := false }] }, synth := { Synth.initial with op := 3, ch := some 0, locked := true } } },
      { slot := 5, ch := 0, node := 1, rate := 0, offset := 1000, maxSym := 200, beacon := false }, by decide +kernel⟩,
    ⟨5,
      { up with clk := { up.clk with st := 0 }, link := { up.link with channels := [(0, some { width := 0, flags := 3, cap := 10, freqHz := 868000000 }), (63, some { width := 2, flags := 3, cap := -88, freqHz := 915000000 })], role := 1, nodeId := 1, gen := 3, inForce := { role := 1, node := 1, gen := 3, network := 0 }, sched := some { id := 1, slots := [{ slot := 5, ch := 0, node := 1, rate := 0, offset := 1000, maxSym := 200, beacon := false }] }, entries := [(0, { SynthEntry.invalid with st := 2 })], driver := true } },
      { slot := 5, ch := 0, node := 1, rate := 0, offset := 1000, maxSym := 200, beacon := false }, by decide +kernel⟩,
    ⟨5,
      { up with clk := { up.clk with st := 0 }, link := { up.link with channels := [(0, some { width := 0, flags := 3, cap := 10, freqHz := 868000000 }), (63, some { width := 2, flags := 3, cap := -88, freqHz := 915000000 })], role := 1, nodeId := 1, gen := 3, inForce := { role := 1, node := 1, gen := 3, network := 0 }, sched := some { id := 1, slots := [{ slot := 5, ch := 0, node := 1, rate := 0, offset := 1000, maxSym := 200, beacon := false }] }, entries := [(0, { SynthEntry.invalid with st := 2 })] } },
      { slot := 5, ch := 0, node := 1, rate := 0, offset := 1000, maxSym := 200, beacon := false }, by decide +kernel⟩,
    ⟨999,
      { up with clk := { up.clk with st := 0 }, link := { up.link with channels := [(0, some { width := 0, flags := 3, cap := 10, freqHz := 868000000 }), (63, some { width := 2, flags := 3, cap := -88, freqHz := 915000000 })], role := 1, nodeId := 1, gen := 3, inForce := { role := 1, node := 1, gen := 3, network := 0 }, sched := some { id := 1, slots := [{ slot := 5, ch := 0, node := 1, rate := 0, offset := 1000, maxSym := 200, beacon := false }] } } },
      0, by decide +kernel⟩,
    ⟨999,
      { up with clk := { up.clk with st := 0 }, link := { up.link with channels := [(0, some { width := 0, flags := 3, cap := 10, freqHz := 868000000 }), (63, some { width := 2, flags := 3, cap := -88, freqHz := 915000000 })], role := 1, nodeId := 1, gen := 3, inForce := { role := 1, node := 1, gen := 3, network := 0 }, sched := some { id := 1, slots := [{ slot := 5, ch := 0, node := 1, rate := 0, offset := 1000, maxSym := 200, beacon := false }] }, synth := { Synth.initial with waiting := [0] } } },
      0, by decide +kernel, [], by decide +kernel⟩,
    ⟨{ band := 7, cap := 200, pa := 31, evals := List.replicate 8 (0, 1) },
      { up with clk := { up.clk with st := 0 }, link := { up.link with synth := { Synth.initial with op := 2, ch := some 0, locked := false } } },
      0, by decide +kernel⟩,
    ⟨{ band := 7, cap := 200, pa := 31, evals := List.replicate 8 (0, 1) },
      { up with clk := { up.clk with st := 0 }, link := { up.link with synth := { Synth.initial with op := 4, ch := some 0, locked := false } } },
      0, by decide +kernel⟩,
    ⟨{ up with clk := { up.clk with st := 0 }, link := { up.link with synth := { Synth.initial with op := 4, ch := some 0, calOk := true, locked := true } } },
      0, by decide +kernel⟩,
    ⟨{ up with clk := { up.clk with st := 0 }, link := { up.link with synth := { Synth.initial with op := 4, ch := some 0, locked := false } } },
      0, by decide +kernel⟩,
    ⟨{ up with clk := { up.clk with st := 0 }, link := { up.link with channels := [(0, some { width := 0, flags := 3, cap := 10, freqHz := 868000000 }), (63, some { width := 2, flags := 3, cap := -88, freqHz := 915000000 })] } },
      by decide +kernel⟩,
    ⟨5, { g := 0, a := [], b := [] },
      { up with clk := { up.clk with st := 0 }, link := { up.link with channels := [(0, some { width := 0, flags := 3, cap := 10, freqHz := 868000000 }), (63, some { width := 2, flags := 3, cap := -88, freqHz := 915000000 })], role := 1, nodeId := 1, gen := 3, inForce := { role := 1, node := 1, gen := 3, network := 0 }, sched := some { id := 1, slots := [{ slot := 5, ch := 0, node := 1, rate := 0, offset := 1000, maxSym := 200, beacon := false }] }, synth := { Synth.initial with op := 3, ch := some 0, locked := true }, queue := [{ slot := 5, type := 1, gen := 3, sf := 0, payload := [1, 2, 3] }] } },
      { slot := 5, ch := 0, node := 1, rate := 0, offset := 1000, maxSym := 200, beacon := false },
      { slot := 5, type := 1, gen := 3, sf := 0, payload := [1, 2, 3] }, true, _, rfl, by decide +kernel⟩,
    ⟨5,
      { up with clk := { up.clk with st := 0 }, link := { up.link with channels := [(0, some { width := 0, flags := 3, cap := 10, freqHz := 868000000 }), (63, some { width := 2, flags := 3, cap := -88, freqHz := 915000000 })], role := 1, nodeId := 1, gen := 3, inForce := { role := 1, node := 1, gen := 3, network := 0 }, sched := some { id := 1, slots := [{ slot := 5, ch := 0, node := 1, rate := 0, offset := 1000, maxSym := 200, beacon := false }] }, synth := { Synth.initial with op := 3, ch := some 0, locked := true }, queue := [{ slot := 5, type := 1, gen := 3, sf := 0, payload := [1, 2, 3] }] } },
      { slot := 5, ch := 0, node := 1, rate := 0, offset := 1000, maxSym := 200, beacon := false },
      { slot := 5, type := 1, gen := 3, sf := 0, payload := [1, 2, 3] }, by decide +kernel, _, rfl, by decide +kernel, [2],
      by decide +kernel⟩,
    ⟨5,
      { up with clk := { up.clk with st := 0 }, link := { up.link with channels := [(0, some { width := 0, flags := 3, cap := 10, freqHz := 868000000 }), (63, some { width := 2, flags := 3, cap := -88, freqHz := 915000000 })], role := 1, nodeId := 1, gen := 3, inForce := { role := 1, node := 1, gen := 3, network := 0 }, sched := some { id := 1, slots := [{ slot := 5, ch := 0, node := 1, rate := 0, offset := 1000, maxSym := 200, beacon := false }] }, queue := [{ slot := 5, type := 1, gen := 3, sf := 0, payload := [1, 2, 3] }] } },
      { slot := 5, ch := 0, node := 1, rate := 0, offset := 1000, maxSym := 200, beacon := false },
      { slot := 5, type := 1, gen := 3, sf := 0, payload := [1, 2, 3] }, by decide +kernel, _, rfl, by decide +kernel, [],
      by decide +kernel⟩,
    ⟨5,
      { up with clk := { up.clk with st := 0 }, link := { up.link with channels := [(0, some { width := 0, flags := 3, cap := 10, freqHz := 868000000 }), (63, some { width := 2, flags := 3, cap := -88, freqHz := 915000000 })], role := 1, nodeId := 1, gen := 3, inForce := { role := 1, node := 1, gen := 3, network := 0 }, sched := some { id := 1, slots := [{ slot := 5, ch := 0, node := 1, rate := 0, offset := 1000, maxSym := 200, beacon := false }] }, synth := { Synth.initial with op := 3, ch := some 0, locked := true }, queue := [{ slot := 5, type := 1, gen := 3, sf := 0, payload := [1, 2, 3] }] } },
      { slot := 5, ch := 0, node := 1, rate := 0, offset := 1000, maxSym := 200, beacon := false },
      { slot := 5, type := 1, gen := 3, sf := 0, payload := [1, 2, 3] }, by decide +kernel, _, rfl, by decide +kernel, [0, 3],
      by decide +kernel⟩,
    ⟨{ up with clk := { up.clk with st := 0 }, link := { up.link with channels := [(0, some { width := 0, flags := 3, cap := 10, freqHz := 868000000 }), (63, some { width := 2, flags := 3, cap := -88, freqHz := 915000000 })], role := 1, nodeId := 1, gen := 3, inForce := { role := 1, node := 1, gen := 3, network := 0 }, sched := some { id := 1, slots := [{ slot := 5, ch := 0, node := 1, rate := 0, offset := 1000, maxSym := 200, beacon := false }] }, tx := some { frame := { slot := 5, type := 1, gen := 3, sf := 0, payload := [1, 2, 3] }, slot := { slot := 5, ch := 0, node := 1, rate := 0, offset := 1000, maxSym := 200, beacon := false }, report := true, symbols := [], wave := [], power := 0 } } },
      { frame := { slot := 5, type := 1, gen := 3, sf := 0, payload := [1, 2, 3] }, slot := { slot := 5, ch := 0, node := 1, rate := 0, offset := 1000, maxSym := 200, beacon := false }, report := true, symbols := [], wave := [], power := 0 },
      by decide +kernel⟩,
    ⟨{ up with clk := { up.clk with st := 0 }, link := { up.link with channels := [(0, some { width := 0, flags := 3, cap := 10, freqHz := 868000000 }), (63, some { width := 2, flags := 3, cap := -88, freqHz := 915000000 })], role := 1, nodeId := 1, gen := 3, inForce := { role := 1, node := 1, gen := 3, network := 0 }, sched := some { id := 1, slots := [{ slot := 5, ch := 0, node := 1, rate := 0, offset := 1000, maxSym := 200, beacon := false }] }, tx := some { frame := { slot := 5, type := 1, gen := 3, sf := 0, payload := [1, 2, 3] }, slot := { slot := 5, ch := 0, node := 1, rate := 0, offset := 1000, maxSym := 200, beacon := false }, report := true, symbols := [], wave := [], power := 0 } } },
      { frame := { slot := 5, type := 1, gen := 3, sf := 0, payload := [1, 2, 3] }, slot := { slot := 5, ch := 0, node := 1, rate := 0, offset := 1000, maxSym := 200, beacon := false }, report := true, symbols := [], wave := [], power := 0 },
      (1, 880000), by decide +kernel⟩,
    ⟨{ up with clk := { up.clk with st := 0 }, link := { up.link with channels := [(0, some { width := 0, flags := 3, cap := 10, freqHz := 868000000 }), (63, some { width := 2, flags := 3, cap := -88, freqHz := 915000000 })], role := 1, nodeId := 1, gen := 3, inForce := { role := 1, node := 1, gen := 3, network := 0 }, sched := some { id := 1, slots := [{ slot := 5, ch := 0, node := 1, rate := 0, offset := 1000, maxSym := 200, beacon := false }] }, tx := some { frame := { slot := 5, type := 1, gen := 3, sf := 0, payload := [1, 2, 3] }, slot := { slot := 5, ch := 0, node := 1, rate := 0, offset := 1000, maxSym := 200, beacon := false }, report := true, symbols := [], wave := [], power := 0 } } },
      { frame := { slot := 5, type := 1, gen := 3, sf := 0, payload := [1, 2, 3] }, slot := { slot := 5, ch := 0, node := 1, rate := 0, offset := 1000, maxSym := 200, beacon := false }, report := true, symbols := [], wave := [], power := 0 },
      (1, 879999), by decide +kernel⟩,
    ⟨{ up with clk := { up.clk with st := 0 }, link := { up.link with channels := [(0, some { width := 0, flags := 3, cap := 10, freqHz := 868000000 }), (63, some { width := 2, flags := 3, cap := -88, freqHz := 915000000 })], role := 1, nodeId := 1, gen := 3, inForce := { role := 1, node := 1, gen := 3, network := 0 }, sched := some { id := 1, slots := [{ slot := 5, ch := 0, node := 1, rate := 0, offset := 1000, maxSym := 200, beacon := false }] }, lpa := true } },
      by decide +kernel⟩,
    ⟨{ up with clk := { up.clk with st := 0 }, link := { up.link with channels := [(0, some { width := 0, flags := 3, cap := 10, freqHz := 868000000 }), (63, some { width := 2, flags := 3, cap := -88, freqHz := 915000000 })], role := 1, nodeId := 1, gen := 3, inForce := { role := 1, node := 1, gen := 3, network := 0 }, sched := some { id := 1, slots := [{ slot := 5, ch := 0, node := 1, rate := 0, offset := 1000, maxSym := 200, beacon := false }] }, entries := [(0, { SynthEntry.invalid with st := 1 })], lpa := true, driver := true, hopDue := some 0 } },
      by decide +kernel, 0, by decide +kernel⟩,
    ⟨{ g := 0, a := [], b := [] },
      { up with clk := { up.clk with st := 0 }, link := { up.link with channels := [(0, some { width := 0, flags := 3, cap := 10, freqHz := 868000000 }), (63, some { width := 2, flags := 3, cap := -88, freqHz := 915000000 })], role := 1, nodeId := 1, gen := 3, inForce := { role := 1, node := 1, gen := 3, network := 0 }, sched := some { id := 1, slots := [{ slot := 5, ch := 0, node := 1, rate := 0, offset := 1000, maxSym := 200, beacon := false }] }, txWindow := true } },
      _, rfl, by decide +kernel⟩⟩

theorem test_witness_LinkReceiveEventsComplete : (∃ (x : LinkAdc) (n : Nat) (s : State), ∃ u, u = (linkFeed x s) ∧ ∃ (r : _),
    (u.link.recv = some r) ∧ (r.phase = 0) ∧ (r.start + n ≤ u.link.rxN)) ∧ (∃ (x : LinkAdc) (s : State), ((linkUp s = true) ∧
    (clockBypass s = false) ∧ (linkRole s ≠ 0)) ∧ ∃ u, u = (linkFeed x s) ∧ (u.link.recv = none) ∧ (u.link.txWindow = false)) ∧
    (∃ (x : LinkAdc) (s : State), ∃ u, u = (linkFeed x s) ∧ ∃ (r : _), (u.link.recv = some r) ∧ (r.phase = 2)) ∧ (∃ (x :
    LinkAdc) (s : State), ∃ u, u = (linkFeed x s) ∧ ∃ (r : _), ((u.link.recv = some r) ∧ (r.phase = 1)) ∧ ∃ now, now =
    (symbolsEnd (rxWidth u) (airSig (rxWidth u)) r) ∧ (now ≤ u.link.rxN)) ∧ (∃ (x : LinkAdc) (s : State), ∃ u, u = (linkFeed x
    s) ∧ ∃ (r : _), ((u.link.recv = some r) ∧ (r.phase = 1)) ∧ ∃ now, now = (symbolsEnd (rxWidth u) (airSig (rxWidth u)) r) ∧
    (u.link.rxN < now)) ∧ (∃ (x : LinkAdc) (s : State), ∃ u, u = (linkFeed x s) ∧ ∃ (r : _), (u.link.recv = some r) ∧ (r.phase =
    2) ∧ (symbolsEnd (rxWidth u) (airSig (rxWidth u) + airSym r.hdr.rate (rxWidth u) r.hdr.length) r ≤ u.link.rxN) ∧ (roverFree
    u = false) ∧ (r.hdr.type = 0)) ∧ (∃ (n : Fin 64) (x : LinkAdc) (s : State), ∃ u, u = (linkFeed x s) ∧ ∃ (y : _), (linkSlot u
    n = some y)) ∧ (∃ (n : Fin 64) (x : LinkAdc) (s : State), ∃ u, u = (linkFeed x s) ∧ (linkSlot u n = none)) ∧ (∃ (x :
    LinkAdc) (v : _), ∃ s, s = (linkFeed x v) ∧ (linkUp s = true) ∧ (s.nunar.running = true) ∧ (s.link.sfMs ≠ some s.ms) ∧
    (roverFree s = false) ∧ (s.epochMs % 100 = 0) ∧ (s.link.pendRole = none) ∧ (s.link.pendSched = none)) :=
  ⟨⟨{ g := 0, a := [], b := [] }, 80,
      { up with clk := { up.clk with st := 0 }, link := { up.link with channels := [(0, some { width := 0, flags := 3, cap := 10, freqHz := 868000000 })], role := 1, nodeId := 1, gen := 3, inForce := { role := 1, node := 1, gen := 3, network := 0 }, sched := some { id := 1, slots := [{ slot := 5, ch := 0, node := 2, rate := 0, offset := 1000, maxSym := 200, beacon := false }] }, tuned := some 0, rxSlot := some 5, rxN := 80, recv := some { phase := 0, start := 0, ninth := 0, port := 0, steps := 0, restarted := false, watch := [], hdr := { rate := 0, length := 0, node := 2, gen := 0, type := 0, slot := 5 }, unsched := false, rssi := -200, snr := 0, cfo := 0, air := 0, timing := 0, sf := 0 } } },
      _, rfl,
      { phase := 0, start := 0, ninth := 0, port := 0, steps := 0, restarted := false, watch := [], hdr := { rate := 0, length := 0, node := 2, gen := 0, type := 0, slot := 5 }, unsched := false, rssi := -200, snr := 0, cfo := 0, air := 0, timing := 0, sf := 0 },
      by decide +kernel⟩,
    ⟨{ g := 0, a := [], b := [] },
      { up with clk := { up.clk with st := 0 }, link := { up.link with channels := [(0, some { width := 0, flags := 3, cap := 10, freqHz := 868000000 })], role := 1, nodeId := 1, gen := 3, inForce := { role := 1, node := 1, gen := 3, network := 0 }, sched := some { id := 1, slots := [{ slot := 5, ch := 0, node := 2, rate := 0, offset := 1000, maxSym := 200, beacon := false }] } } },
      by decide +kernel, _, rfl, by decide +kernel⟩,
    ⟨{ g := 0, a := [], b := [] },
      { up with clk := { up.clk with st := 0 }, link := { up.link with channels := [(0, some { width := 0, flags := 3, cap := 10, freqHz := 868000000 })], role := 1, nodeId := 1, gen := 3, inForce := { role := 1, node := 1, gen := 3, network := 0 }, sched := some { id := 1, slots := [{ slot := 5, ch := 0, node := 2, rate := 0, offset := 1000, maxSym := 200, beacon := false }] }, tuned := some 0, rxSlot := some 5, rxN := 0, recv := some { phase := 2, start := 0, ninth := 0, port := 0, steps := 0, restarted := false, watch := [], hdr := { rate := 0, length := 0, node := 2, gen := 0, type := 0, slot := 5 }, unsched := false, rssi := -200, snr := 0, cfo := 0, air := 0, timing := 0, sf := 0 } } },
      _, rfl,
      { phase := 2, start := 0, ninth := 0, port := 0, steps := 0, restarted := false, watch := [], hdr := { rate := 0, length := 0, node := 2, gen := 0, type := 0, slot := 5 }, unsched := false, rssi := -200, snr := 0, cfo := 0, air := 0, timing := 0, sf := 0 },
      by decide +kernel⟩,
    ⟨{ g := 0, a := [], b := [] },
      { up with clk := { up.clk with st := 0 }, link := { up.link with channels := [(0, some { width := 0, flags := 3, cap := 10, freqHz := 868000000 })], role := 1, nodeId := 1, gen := 3, inForce := { role := 1, node := 1, gen := 3, network := 0 }, sched := some { id := 1, slots := [{ slot := 5, ch := 0, node := 2, rate := 0, offset := 1000, maxSym := 200, beacon := false }] }, tuned := some 0, rxSlot := some 5, rxN := 100000, recv := some { phase := 1, start := 0, ninth := 0, port := 0, steps := 0, restarted := false, watch := [], hdr := { rate := 0, length := 0, node := 2, gen := 0, type := 0, slot := 5 }, unsched := false, rssi := -200, snr := 0, cfo := 0, air := 0, timing := 0, sf := 0 } } },
      _, rfl,
      { phase := 1, start := 0, ninth := 0, port := 0, steps := 0, restarted := false, watch := [], hdr := { rate := 0, length := 0, node := 2, gen := 0, type := 0, slot := 5 }, unsched := false, rssi := -200, snr := 0, cfo := 0, air := 0, timing := 0, sf := 0 },
      by decide +kernel, _, rfl, by decide +kernel⟩,
    ⟨{ g := 0, a := [], b := [] },
      { up with clk := { up.clk with st := 0 }, link := { up.link with channels := [(0, some { width := 0, flags := 3, cap := 10, freqHz := 868000000 })], role := 1, nodeId := 1, gen := 3, inForce := { role := 1, node := 1, gen := 3, network := 0 }, sched := some { id := 1, slots := [{ slot := 5, ch := 0, node := 2, rate := 0, offset := 1000, maxSym := 200, beacon := false }] }, tuned := some 0, rxSlot := some 5, rxN := 0, recv := some { phase := 1, start := 0, ninth := 0, port := 0, steps := 0, restarted := false, watch := [], hdr := { rate := 0, length := 0, node := 2, gen := 0, type := 0, slot := 5 }, unsched := false, rssi := -200, snr := 0, cfo := 0, air := 0, timing := 0, sf := 0 } } },
      _, rfl,
      { phase := 1, start := 0, ninth := 0, port := 0, steps := 0, restarted := false, watch := [], hdr := { rate := 0, length := 0, node := 2, gen := 0, type := 0, slot := 5 }, unsched := false, rssi := -200, snr := 0, cfo := 0, air := 0, timing := 0, sf := 0 },
      by decide +kernel, _, rfl, by decide +kernel⟩,
    ⟨{ g := 0, a := [], b := [] },
      { up with clk := { up.clk with st := 0 }, link := { up.link with channels := [(0, some { width := 0, flags := 3, cap := 10, freqHz := 868000000 })], role := 1, nodeId := 1, gen := 3, inForce := { role := 1, node := 1, gen := 3, network := 0 }, sched := some { id := 1, slots := [{ slot := 5, ch := 0, node := 2, rate := 0, offset := 1000, maxSym := 200, beacon := false }] }, tuned := some 0, rxSlot := some 5, rxN := 100000, recv := some { phase := 2, start := 0, ninth := 0, port := 0, steps := 0, restarted := false, watch := [], hdr := { rate := 0, length := 9, node := 2, gen := 0, type := 0, slot := 5 }, unsched := false, rssi := -200, snr := 0, cfo := 0, air := 0, timing := 0, sf := 0 } } },
      _, rfl,
      { phase := 2, start := 0, ninth := 0, port := 0, steps := 0, restarted := false, watch := [], hdr := { rate := 0, length := 9, node := 2, gen := 0, type := 0, slot := 5 }, unsched := false, rssi := -200, snr := 0, cfo := 0, air := 0, timing := 0, sf := 0 },
      by decide +kernel⟩,
    ⟨5, { g := 0, a := [], b := [] },
      { up with clk := { up.clk with st := 0 }, link := { up.link with channels := [(0, some { width := 0, flags := 3, cap := 10, freqHz := 868000000 })], role := 1, nodeId := 1, gen := 3, inForce := { role := 1, node := 1, gen := 3, network := 0 }, sched := some { id := 1, slots := [{ slot := 5, ch := 0, node := 2, rate := 0, offset := 1000, maxSym := 200, beacon := false }] } } },
      _, rfl, { slot := 5, ch := 0, node := 2, rate := 0, offset := 1000, maxSym := 200, beacon := false }, by decide +kernel⟩,
    ⟨6, { g := 0, a := [], b := [] },
      { up with clk := { up.clk with st := 0 }, link := { up.link with channels := [(0, some { width := 0, flags := 3, cap := 10, freqHz := 868000000 })], role := 1, nodeId := 1, gen := 3, inForce := { role := 1, node := 1, gen := 3, network := 0 }, sched := some { id := 1, slots := [{ slot := 5, ch := 0, node := 2, rate := 0, offset := 1000, maxSym := 200, beacon := false }] } } },
      _, rfl, by decide +kernel⟩,
    ⟨{ g := 0, a := [], b := [] },
      { up with clk := { up.clk with st := 0 }, link := { up.link with channels := [(0, some { width := 0, flags := 3, cap := 10, freqHz := 868000000 })], role := 1, nodeId := 1, gen := 3, inForce := { role := 1, node := 1, gen := 3, network := 0 }, sched := some { id := 1, slots := [{ slot := 5, ch := 0, node := 2, rate := 0, offset := 1000, maxSym := 200, beacon := false }] } }, nunar := { up.nunar with running := true }, ms := 7 },
      _, rfl, by decide +kernel⟩⟩

theorem test_witness_KernelCommandsComplete : (∃ (p : _) (s : State), (Accepted specKrnLoad p s) ∧ ∃ b, b = p.params ∧ ∃ k, k =
    (u8 b 0) ∧ ∃ ws, ws = (slotWords (b.drop 12)) ∧ ((k ≤ 15) ∧ (u8 b 1 ≤ 2) ∧ (1 ≤ u16 b 2) ∧ (u16 b 2 ≤ 1020) ∧ (u32 b 4 + u16
    b 2 ≤ targetSize (u8 b 1)) ∧ (zeroAt b 8 4 = true) ∧ (∀ w ∈ ws, w < 2 ^ 24)) ∧ ∃ t, t = (ready specKrnLoad p s) ∧
    (coreActive (coreOf t k) = false) ∧ (coreOf t k).phase ≠ .quarantined ∧ (coreSpare t k = false) ∧ (coreTaken (coreOf t k) k
    = false)) ∧ (∃ (p : _) (s : State), (Accepted specKrnStart p s) ∧ ∃ k, k = (u8 p.params 0) ∧ ∃ f, f = (u8 p.params 1) ∧ ((k
    ≤ 15) ∧ (f = 0 ∨ f = 1 ∨ f = 3) ∧ (zeroAt p.params 2 6 = true)) ∧ ∃ t, t = (ready specKrnStart p s) ∧ ∃ c, c = (coreOf t k)
    ∧ (coreActive c = false) ∧ (c.phase ≠ .quarantined) ∧ (coreTaken c k = false) ∧ (tget 0 c.image.high 2 ≠ 0) ∧ (descOk
    c.image = true) ∧ (reservedCore t k = false) ∧ (bstOf t (38 + k)).result ≠ 2 ∧ (∀ r ∈ descRings c.image, kOwns t k (slotBank
    (r.ring - 0x400000)) = true) ∧ (coreAllowed t k = true)) ∧ (∃ (p : _) (s : State), (Accepted specKrnStop p s) ∧ ∃ k, k = (u8
    p.params 0) ∧ ∃ g, g = (u16 p.params 2) ∧ (zeroAt p.params 1 1 = true) ∧ ∃ t, t = (ready specKrnStop p s) ∧ (k = 255 ∧ g = 0
    ∨ k ≤ 15 ∧ (g = 0 ∨ g = (coreOf t k).gen))) ∧ (∃ (p : _) (s : State), (Accepted specKrnStatus p s) ∧ ∃ k, k = (u8 p.params
    0) ∧ (k ≤ 15) ∧ (zeroAt p.params 1 3 = true)) ∧ (∃ (p : _) (s : State), (Accepted specKrnSpares p s) ∧ ∃ m, m = (u16
    p.params 0) ∧ (zeroAt p.params 2 2 = true) ∧ ∃ t, t = (ready specKrnSpares p s) ∧ (∀ k ∈ maskBits 16 m, coreActive (coreOf t
    k) = false ∧ coreTaken (coreOf t k) k = false ∧ reservedCore t k = false ∧ coreAllowed t k = true)) ∧ (∃ (p : _) (s :
    State), (Accepted specKrnMailbox p s) ∧ ∃ b, b = p.params ∧ ∃ k, k = (u8 b 0) ∧ ∃ ws, ws = (slotWords (b.drop 8)) ∧ ((k ≤
    15) ∧ (u8 b 4 ≤ 64) ∧ (zeroAt b 5 3 = true) ∧ (∀ w ∈ ws, w < 2 ^ 24)) ∧ ∃ t, t = (ready specKrnMailbox p s) ∧ ∃ c, c =
    (coreOf t k) ∧ (coreActive c = true) ∧ (u16 b 2 = 0 ∨ u16 b 2 = c.gen) ∧ (u8 b 1 = 0) ∧ (u8 b 4 ≠ 0) ∧ (c.inbox = [])) ∧ (∃
    (p : _) (s : State), (Accepted specKrnMailbox p s) ∧ ∃ b, b = p.params ∧ ∃ k, k = (u8 b 0) ∧ ∃ ws, ws = (slotWords (b.drop
    8)) ∧ ((k ≤ 15) ∧ (u8 b 4 ≤ 64) ∧ (zeroAt b 5 3 = true) ∧ (∀ w ∈ ws, w < 2 ^ 24)) ∧ ∃ t, t = (ready specKrnMailbox p s) ∧ ∃
    c, c = (coreOf t k) ∧ (coreActive c = true) ∧ (u16 b 2 = 0 ∨ u16 b 2 = c.gen) ∧ (u8 b 1 = 1)) :=
  ⟨⟨mk specKrnLoad.opcode ([15, 0] ++ le 2 1 ++ le 4 16383 ++ zeros 4 ++ le 4 0xFFFFFF), up, accepted_mk _ _ _
      (by decide +kernel), _, rfl, _, rfl, _, rfl, by decide +kernel, _, rfl, by decide +kernel⟩,
    ⟨mk specKrnStart.opcode [1, 3, 0, 0, 0, 0, 0, 0],
      { up with kernels := { up.kernels with cores := [(1, { Core.initial with image := { Image.empty with desc := [(0, 10), (1, 100)], high := [(2, 32)] } })] } },
      accepted_mk _ _ _ (by decide +kernel), _, rfl, _, rfl, by decide +kernel, _, rfl, _, rfl, by decide +kernel⟩,
    ⟨mk specKrnStop.opcode [15, 0, 1, 0],
      { up with kernels := { up.kernels with cores := [(15, { running (.ctl .nop) with outboxN := 3 })] } }, accepted_mk _ _ _
      (by decide +kernel), _, rfl, _, rfl, by decide +kernel, _, rfl, by decide +kernel⟩,
    ⟨mk specKrnStatus.opcode [15, 0, 0, 0], up, accepted_mk _ _ _ (by decide +kernel), _, rfl, by decide +kernel⟩,
    ⟨mk specKrnSpares.opcode [2, 0, 0, 0], up, accepted_mk _ _ _ (by decide +kernel), _, rfl, by decide +kernel, _, rfl,
      by decide +kernel⟩,
    ⟨mk specKrnMailbox.opcode ([15, 0, 1, 0, 1, 0, 0, 0] ++ le 4 0xFFFFFF),
      { up with kernels := { up.kernels with cores := [(15, { running (.ctl .nop) with outboxN := 3 })] } }, accepted_mk _ _ _
      (by decide +kernel), _, rfl, _, rfl, _, rfl, by decide +kernel, _, rfl, _, rfl, by decide +kernel⟩,
    ⟨mk specKrnMailbox.opcode [15, 1, 0, 0, 64, 0, 0, 0],
      { up with kernels := { up.kernels with cores := [(15, { running (.ctl .nop) with outboxN := 3 })] } }, accepted_mk _ _ _
      (by decide +kernel), _, rfl, _, rfl, _, rfl, by decide +kernel, _, rfl, _, rfl, by decide +kernel⟩⟩

theorem test_witness_KernelPortEventsComplete : (∃ (k : Fin 16) (s : State), ((coreOf s k).phase = .running ∨ (coreOf s k).phase
    = .waiting)) ∧ (∃ (k : Fin 16) (s : State), ((coreOf s k).phase = .running ∨ (coreOf s k).phase = .waiting)) ∧ (∃ (k : Fin
    16) (s : State), ((coreOf s k).phase = .running ∨ (coreOf s k).phase = .waiting)) ∧ (∃ (k : Fin 16) (s : State), ((coreOf s
    k).phase = .running ∨ (coreOf s k).phase = .waiting)) ∧ (∃ (k : Fin 16) (s : State), ((coreOf s k).phase = .running ∨
    (coreOf s k).phase = .waiting) ∧ (12 ≤ k.val)) ∧ (∃ (c : Core) (v : _), (c.emitStat ≠ 1) ∧ (v ≤ 4096) ∧ (emitFits c v =
    true)) ∧ (∃ (c : Core) (v : _), (c.outboxN = 0) ∧ (1 ≤ v) ∧ (v ≤ 64)) ∧ (∃ (k : Fin 16) (s : State), ∃ c, c = (coreOf s k) ∧
    ∃ b, b = (slotBank (c.emitAddr - 0x400000)) ∧ ∃ addr, addr = (slotAddr (c.emitAddr - 0x400000)) ∧ (c.emitStat = 1) ∧
    (bankWaits s k b = false) ∧ (c.emitGen = c.gen) ∧ (c.gen ≠ 0) ∧ (bankServes s k b = true) ∧ (∀ g ∈ granulesOf addr
    c.emitLen, poisoned s g = false)) ∧ (∃ (k : Fin 16) (errs : List Nat) (s : State) (d : _) (rest : _), (takeDelivery k
    s.kernels.deliveries = some (d, rest)) ∧ ∃ b, b = (slotBank ((subRing (coreOf s k) d.ring).ring - 0x400000)) ∧ ∃ u, u =
    (putEntry k d.ring d errs { s with kernels.deliveries := rest }) ∧ (bankWaits s k b = false) ∧ (d.gen = (coreOf s k).gen) ∧
    (d.gen ≠ 0) ∧ (d.kind ≠ 1) ∧ (subRing (coreOf u k) d.ring).wr ≠ (subRing (coreOf s k) d.ring).wr) ∧ (∃ (k : Fin 16) (errs :
    List Nat) (s : State) (d : _) (rest : _), (takeDelivery k s.kernels.deliveries = some (d, rest)) ∧ ∃ b, b = (slotBank
    ((subRing (coreOf s k) d.ring).ring - 0x400000)) ∧ ∃ u, u = (putEntry k d.ring d errs { s with kernels.deliveries := rest })
    ∧ (bankWaits s k b = false) ∧ (d.gen = (coreOf s k).gen) ∧ (d.gen ≠ 0) ∧ (d.kind ≠ 1) ∧ (subRing (coreOf u k) d.ring).wr =
    (subRing (coreOf s k) d.ring).wr) ∧ (∃ (k : Fin 16) (s : State) (t : _) (rest : _), ∃ m, m = ((coreOf s k).image) ∧ (m.due =
    t :: rest)) ∧ (∃ (k : Fin 16) (stall : _) (s : State) (p : _) (rest : _), ((coreOf s k).posted = p :: rest ∧ (bankWaits s k
    (slotBank p.slot) = false)) ∧ ∃ u, u = (modCore k (fun c =>
    { c with posted := rest, cyc := if 8 ≤ c.posted.length then (c.cyc + stall) % 2 ^ 24 else c.cyc }) s) ∧ (p.gen = (coreOf u
    k).gen) ∧ (p.gen ≠ 0) ∧ (bankServes s k (slotBank p.slot) = true)) ∧ (∃ (k : Fin 16) (errs : _) (s : State) (l : _) (i : _),
    ∃ c, c = (coreOf s k) ∧ ∃ g, g = (granuleOf (slotAddr l.slot)) ∧ ((c.stalled = some l) ∧ (kAtPc k c = some i) ∧ (c.posted =
    []) ∧ (bankWaits s k (slotBank l.slot) = false) ∧ (bankServes s k (slotBank l.slot) = true)) ∧ ∃ u, u = ((decodeGranule g
    errs s).1) ∧ ∃ w, w = (ofLe (bankBytes u (slotAddr l.slot) 4)) ∧ ∃ (v : _),
    (v = (match l.part with | none => BitVec.ofNat 24 (w % 2 ^ 24) | some q => slotPart w q))) ∧ (∃ (k : Fin 16) (s : State),
    (islandReady s (26 + k) = true) ∧ (coreOf s k).phase = .running ∧ (kIrqDue (coreOf s k) = true)) :=
  ⟨⟨0, (withCore 0 (running (.ctl .nop))), (.inl (by decide +kernel))⟩,
    ⟨0, (withCore 0 (running (.ctl .nop))), (.inl (by decide +kernel))⟩,
    ⟨0, (withCore 0 (running (.ctl .nop))), (.inl (by decide +kernel))⟩,
    ⟨0, (withCore 0 (running (.ctl .nop))), (.inl (by decide +kernel))⟩,
    ⟨15, (withCore 15 (running (.ctl .nop))), (.inl (by decide +kernel)), by decide +kernel⟩,
    ⟨{ running (.ctl .nop) with emitAddr := 0x440000 }, 4096, by decide +kernel⟩,
    ⟨{ running (.ctl .nop) with emitAddr := 0x440000 }, 64, by decide +kernel⟩,
    ⟨0, (withCore 0 { running (.ctl .nop) with emitAddr := 0x440000, emitStat := 1, emitGen := 1, emitLen := 33 }), _, rfl, _,
      rfl, _, rfl, by decide +kernel⟩,
    ⟨0, [],
      { (withCore 0 { running (.ctl .nop) with rings := [(0, { kind := 2, filter := 0, apr := 0, ring := 0x440000, len := 64, wr := 0, rd := 0, seqNo := 0 })] }) with kernels.deliveries := [{ core := 0, ring := 0, gen := 1, kind := 2, dump := false, id := 0, cls := 0, inst := 0, chain := 0, body := [] }] },
      { core := 0, ring := 0, gen := 1, kind := 2, dump := false, id := 0, cls := 0, inst := 0, chain := 0, body := [] }, [],
      by decide +kernel, _, rfl, _, rfl, by decide +kernel⟩,
    ⟨0, [],
      { (withCore 0 { running (.ctl .nop) with rings := [(0, { kind := 2, filter := 0, apr := 0, ring := 0x440000, len := 4, wr := 0, rd := 0, seqNo := 0 })] }) with kernels.deliveries := [{ core := 0, ring := 0, gen := 1, kind := 2, dump := false, id := 0, cls := 0, inst := 0, chain := 0, body := [] }] },
      { core := 0, ring := 0, gen := 1, kind := 2, dump := false, id := 0, cls := 0, inst := 0, chain := 0, body := [] }, [],
      by decide +kernel, _, rfl, _, rfl, by decide +kernel⟩,
    ⟨0, (withCore 0 { Core.initial with image := { Image.empty with due := [1] } }), 1, [], _, rfl, by decide +kernel⟩,
    ⟨0, 0,
      (withCore 0 { running (.ctl .nop) with posted := [{ slot := 0x40000, val := 5, tag := false, part := none, gen := 1 }] }),
      { slot := 0x40000, val := 5, tag := false, part := none, gen := 1 }, [], by decide +kernel, _, rfl, by decide +kernel⟩,
    ⟨0, 0, (withCore 0 { running (.ld 3 4 0 0) with stalled := some { dest := 3, slot := 0x40000, part := none } }),
      { dest := 3, slot := 0x40000, part := none }, .ld 3 4 0 0, _, rfl, _, rfl, by decide +kernel, _, rfl, _, rfl, 0,
      by decide +kernel⟩,
    ⟨0, (withCore 0 { running (.ctl .nop) with ie := true, irqPend := 1, irqEn := 1 }), by decide +kernel⟩⟩

theorem test_witness_KernelLifeEventsComplete : (∃ (k : Fin 16) (s : State), (coreOf s k).phase = .starting) ∧ (∃ (k : Fin 16)
    (s : State), ∃ c, c = (coreOf s k) ∧ (c.watchdog = true) ∧ (3 ≤ c.misses) ∧ (c.gen ≠ 0) ∧ (c.eligible = false) ∧ (c.posted =
    [])) ∧ (∃ (k : Fin 16) (s : State) (sp : Nat), (coreOf s k).watchdog = true ∧ 3 ≤ (coreOf s k).misses ∧ (coreOf s k).gen ≠ 0
    ∧ (coreOf s k).eligible = true ∧ (coreOf s k).posted = [] ∧ spareFor (postKernel 4 k (coreOf s k).gen 0 0 (faultBytes s
    (coreOf s k) { code := 4, seg := 255, access := 255, reg := 255, pc := (coreOf s k).pc, word2 := 0, off := 0 }) (modCore k
    (fun x =>
    { kStopped .quarantined x with faultRec := faultBytes s (coreOf s k) { code := 4, seg := 255, access := 255, reg := 255, pc := (coreOf s k).pc, word2 := 0, off := 0 }, gen := 0, posted := [] })
    s)) k = some sp) ∧ (∃ (k : Fin 16) (s : State) (j : _) (gen : _),
    (upto 16).find? (fun j => match (coreOf s j).failFrom with | some (old, _) => old == k.val | none => false) = some j ∧
    (coreOf s j).failFrom = some (k.val, gen) ∧ (j = k.val)) ∧ (∃ (k : Fin 16) (s : State) (j : _) (gen : _),
    (upto 16).find? (fun j => match (coreOf s j).failFrom with | some (old, _) => old == k.val | none => false) = some j ∧
    (coreOf s j).failFrom = some (k.val, gen) ∧ (j ≠ k.val)) ∧ (∃ (k : Fin 16) (s : State), ∃ c, c = (coreOf s k) ∧ (c.phase =
    .waiting) ∧ (c.irqPend &&& c.irqEn ≠ 0)) ∧ (∃ (k : Fin 16) (s : State) (f : _), (kIssues s k = true) ∧ (kFetch k (coreOf s
    k) = .fault f)) :=
  ⟨⟨0, (withCore 0 { running (.ctl .nop) with phase := .starting }), by decide +kernel⟩,
    ⟨0, (withCore 0 { running (.ctl .nop) with watchdog := true, misses := 3 }), _, rfl, by decide +kernel⟩,
    ⟨0, { (withCore 0 { running (.ctl .nop) with watchdog := true, misses := 3, eligible := true }) with kernels.spares := 2 }, 1, by decide +kernel,
      by decide +kernel, by decide +kernel, by decide +kernel, by decide +kernel, by decide +kernel⟩,
    ⟨0, (withCore 0 { Core.initial with failFrom := some (0, 1) }), 0, 1, by decide +kernel⟩,
    ⟨1, (withCore 0 { Core.initial with failFrom := some (1, 1) }), 0, 1, by decide +kernel⟩,
    ⟨0, (withCore 0 { running (.ctl .wait) with phase := .waiting, irqPend := 1, irqEn := 1 }), _, rfl, by decide +kernel⟩,
    ⟨0, (withCore 0 { running (.ctl .nop) with prog := [(0, 0x914881)] }), (illegalFault 0 0), by decide +kernel⟩⟩

theorem test_witness_KernelArithmeticRowsComplete : (∃ (f : _) (op : _), (f, op) ∈ [(Instr.kAdd, KAlu.add), (.kSub, .sub),
    (.kAdds, .adds), (.kSubs, .subs), (.kAnd, .and), (.kOr, .or), (.kXor, .xor), (.kMul, .mul), (.kMulh, .mulh), (.kMin, .min),
    (.kMax, .max), (.kMinu, .minu), (.kMaxu, .maxu), (.kAddbcd, .addbcd), (.kSubbcd, .subbcd), (.kLsl, .lsl), (.kLsr, .lsr),
    (.kAsr, .asr), (.kAsls, .asls)] ∧ ∃ (k : Fin 16) (d : Fin 8) (a : Fin 8) (b : Fin 8) (s : State) (w2 : _), (Issues k (.alu
    op d a b) w2 s)) ∧ (∃ (f : _) (op : _), (f, op) ∈ [(Instr.kNeg, KUna.neg), (.kNegs, .negs), (.kAbs, .abs), (.kAbss, .abss),
    (.kNot, .not), (.kCls, .cls), (.kClz, .clz), (.kDadj, .dadj), (.kDbin, .dbin)] ∧ ∃ (k : Fin 16) (d : Fin 8) (a : Fin 8) (s :
    State) (w2 : _), (Issues k (.una op d a) w2 s)) ∧ (∃ (f : _) (op : _), (f, op) ∈ [(Instr.kLslImm, KShi.lsl), (.kLsrImm,
    .lsr), (.kAsrImm, .asr), (.kAslsImm, .asls)] ∧ ∃ (k : Fin 16) (d : Fin 8) (a : Fin 8) (amt : BitVec 7) (s : State) (w2 : _),
    (Issues k (.shi op d a amt.toNat) w2 s)) ∧ (∃ (f : _) (op : _), (f, op) ∈ [(Instr.kExtu, KExt.extu), (.kExts, .exts),
    (.kIns, .ins)] ∧ ∃ (k : Fin 16) (d : Fin 8) (a : Fin 8) (pos : Fin 24) (w : Fin 24) (s : State) (w2 : _), (Issues k (.ext op
    d a pos w) w2 s)) ∧ (∃ (f : _) (sg : _), (f, sg) ∈ [(Instr.kDiv, true), (.kDivu, false)] ∧ ∃ (k : Fin 16) (d : Fin 4) (a :
    Fin 8) (b : Fin 8) (s : State) (w2 : _), (Issues k (.div sg (2 * d) a b) w2 s)) ∧ (∃ (k : Fin 16) (d : Fin 8) (a : Fin 8) (i
    : BitVec 13) (s : State) (w2 : _), (Issues k (.addi d a i.toNat) w2 s)) ∧ (∃ (k : Fin 16) (d : Fin 8) (a : Fin 8) (i :
    BitVec 13) (s : State) (w2 : _), (Issues k (.addpi d a i.toNat) w2 s)) ∧ (∃ (k : Fin 16) (d : Fin 8) (i : BitVec 16) (s :
    State) (w2 : _), (Issues k (.movi d i.toNat) w2 s)) ∧ (∃ (k : Fin 16) (rd : Fin 64) (rs : Fin 64) (s : State) (w2 : _),
    (Issues k (.movr rd rs) w2 s) ∧ (32 ≤ rd.val ∧ rd.val < 36 ∧ 32 ≤ rs.val ∧ rs.val < 36)) ∧ (∃ (k : Fin 16) (rd : Fin 64) (rs
    : Fin 64) (s : State) (w2 : _), (Issues k (.movr rd rs) w2 s) ∧ (¬ (32 ≤ rd.val ∧ rd.val < 36 ∧ 32 ≤ rs.val ∧ rs.val < 36)))
    ∧ (∃ (k : Fin 16) (rd : Fin 64) (i : BitVec 24) (s : State) (w2 : _), (Issues k (.movil rd i.toNat) w2 s)) :=
  ⟨⟨Instr.kAdd, KAlu.add, (List.mem_cons_self), 0, 7, 6, 5, (withCore 0 (running (.alu .add 7 6 5))), 0, ⟨by decide +kernel,
      by decide +kernel⟩⟩,
    ⟨Instr.kNeg, KUna.neg, (List.mem_cons_self), 0, 7, 6, (withCore 0 (running (.una .neg 7 6))), 0, ⟨by decide +kernel,
      by decide +kernel⟩⟩,
    ⟨Instr.kLslImm, KShi.lsl, (List.mem_cons_self), 0, 7, 6, 24, (withCore 0 (running (.shi .lsl 7 6 24))), 0,
      ⟨by decide +kernel, by decide +kernel⟩⟩,
    ⟨Instr.kExtu, KExt.extu, (List.mem_cons_self), 0, 7, 6, 1, 22, (withCore 0 (running (.ext .extu 7 6 1 22))), 0,
      ⟨by decide +kernel, by decide +kernel⟩⟩,
    ⟨Instr.kDiv, true, (List.mem_cons_self), 0, 3, 6, 5, (withCore 0 (running (.div true 6 6 5))), 0, ⟨by decide +kernel,
      by decide +kernel⟩⟩,
    ⟨0, 7, 6, 0x1FFF, (withCore 0 (running (.addi 7 6 0x1FFF))), 0, ⟨by decide +kernel, by decide +kernel⟩⟩,
    ⟨0, 7, 6, 0x1FFF, (withCore 0 (running (.addpi 7 6 0x1FFF))), 0, ⟨by decide +kernel, by decide +kernel⟩⟩,
    ⟨0, 7, 0x8000, (withCore 0 (running (.movi 7 0x8000))), 0, ⟨by decide +kernel, by decide +kernel⟩⟩,
    ⟨0, 35, 32, (withCore 0 (running (.movr 35 32))), 0, ⟨by decide +kernel, by decide +kernel⟩, by decide +kernel⟩,
    ⟨0, 55, 7, (withCore 0 (running (.movr 55 7))), 0, ⟨by decide +kernel, by decide +kernel⟩, by decide +kernel⟩,
    ⟨0, 7, 0x800000, (withCore 0 (running (.movil 7 0x800000))), 0x800000, ⟨by decide +kernel, by decide +kernel⟩⟩⟩

theorem test_witness_KernelAccumulatorRowsComplete : (∃ (f : _) (op : _), (f, op) ∈ [(Instr.kMpy, KMul.mpy), (.kMac, .mac),
    (.kMsu, .msu), (.kMpyi, .mpyi), (.kMaci, .maci), (.kMsui, .msui)] ∧ ∃ (k : Fin 16) (n : Fin 4) (a : Fin 8) (b : Fin 8) (s :
    State) (w2 : _), (Issues k (.mul op n a b) w2 s)) ∧ (∃ (f : _) (op : _), (f, op) ∈ [(Instr.kClra, KAcu.clra), (.kNega,
    .nega), (.kNegas, .negas), (.kAbsa, .absa), (.kAbsas, .absas), (.kRnda, .rnda), (.kSata, .sata)] ∧ ∃ (k : Fin 16) (n : Fin
    4) (s : State) (w2 : _), (Issues k (.acu op n) w2 s)) ∧ (∃ (f : _) (op : _), (f, op) ∈ [(Instr.kMova, KAcb.mova), (.kAdda,
    .adda), (.kSuba, .suba)] ∧ ∃ (k : Fin 16) (n : Fin 4) (m : Fin 4) (s : State) (w2 : _), (Issues k (.acb op n m) w2 s)) ∧ (∃
    (f : _) (sat : Bool), (f, sat) ∈ [(Instr.kAsha, false), (.kAshas, true)] ∧ ∃ (k : Fin 16) (n : Fin 4) (amt : BitVec 7) (s :
    State) (w2 : _), (Issues k (.asha sat n amt.toNat) w2 s)) ∧ (∃ (f : _) (sat : Bool), (f, sat) ∈ [(Instr.kAshar, false),
    (.kAshasr, true)] ∧ ∃ (k : Fin 16) (n : Fin 4) (a : Fin 8) (s : State) (w2 : _), (Issues k (.ashar sat n a) w2 s)) ∧ (∃ (k :
    Fin 16) (n : Fin 4) (pc : Fin 8) (ps : Fin 8) (s : State) (w2 : _), (Issues k (.ftap n pc ps) w2 s) ∧ ∃ c, c = (coreOf s k)
    ∧ ∃ cs, cs = (tget (0, 0) c.segs 0) ∧ ∃ ds, ds = (tget (0, 0) c.segs (segOf ps)) ∧ ∃ co, co = ((kReg c (8 + pc)).v.toNat) ∧
    ∃ xo, xo = ((kReg c (8 + ps)).v.toNat) ∧ ∃ wo, wo = ((circular (kReg c (8 + ps)).v (kReg c (16 + ps)).v (kReg c (24 + ps)).v
    1).toNat) ∧ (kReg c (8 + pc)).t = false ∧ (kReg c (8 + ps)).t = false ∧ (co < cs.2) ∧ (xo < ds.2) ∧ (wo < ds.2) ∧ (ds.1 + xo
    < 0x10000) ∧ (ds.1 + wo < 0x10000)) :=
  ⟨⟨Instr.kMpy, KMul.mpy, (List.mem_cons_self), 0, 3, 7, 6, (withCore 0 (running (.mul .mpy 3 7 6))), 0, ⟨by decide +kernel,
      by decide +kernel⟩⟩,
    ⟨Instr.kClra, KAcu.clra, (List.mem_cons_self), 0, 3, (withCore 0 (running (.acu .clra 3))), 0, ⟨by decide +kernel,
      by decide +kernel⟩⟩,
    ⟨Instr.kMova, KAcb.mova, (List.mem_cons_self), 0, 3, 2, (withCore 0 (running (.acb .mova 3 2))), 0, ⟨by decide +kernel,
      by decide +kernel⟩⟩,
    ⟨Instr.kAsha, false, (List.mem_cons_self), 0, 3, 0x41, (withCore 0 (running (.asha false 3 0x41))), 0, ⟨by decide +kernel,
      by decide +kernel⟩⟩,
    ⟨Instr.kAshar, false, (List.mem_cons_self), 0, 3, 7, (withCore 0 (running (.ashar false 3 7))), 0, ⟨by decide +kernel,
      by decide +kernel⟩⟩,
    ⟨0, 3, 0, 1,
      (withCore 0 { running (.ftap 3 0 1) with regs := [(8, { v := 99, t := false }), (9, { v := 998, t := false })] }), 0,
      ⟨by decide +kernel, by decide +kernel⟩, _, rfl, _, rfl, _, rfl, _, rfl, _, rfl, _, rfl, by decide +kernel⟩⟩

theorem test_witness_KernelMemoryRowsComplete : (∃ (k : Fin 16) (d : Fin 8) (p : Fin 8) (m : Fin 5) (i : BitVec 10) (s : State)
    (w2 : _), ∃ c, c = (coreOf s k) ∧ ∃ g, g = (tget (0, 0) c.segs (segOf p)) ∧ ∃ o, o = (kOffset c p m i.toNat 10) ∧ ((kReg c
    (8 + p)).t = false ∧ (o < g.2)) ∧ (Issues k (.ld d p m i.toNat) w2 s) ∧ (g.1 + o < 0x400000)) ∧ (∃ (k : Fin 16) (d : Fin 8)
    (p : Fin 8) (m : Fin 5) (i : BitVec 10) (s : State) (w2 : _), ∃ c, c = (coreOf s k) ∧ ∃ g, g = (tget (0, 0) c.segs (segOf
    p)) ∧ ∃ o, o = (kOffset c p m i.toNat 10) ∧ ((kReg c (8 + p)).t = false ∧ (o < g.2)) ∧ (Issues k (.ld d p m i.toNat) w2 s) ∧
    (0x400000 ≤ g.1 + o) ∧ (g.1 + o < 0x800000)) ∧ (∃ (k : Fin 16) (d : Fin 8) (p : Fin 8) (m : Fin 5) (i : BitVec 10) (s :
    State) (w2 : _), ∃ c, c = (coreOf s k) ∧ ∃ g, g = (tget (0, 0) c.segs (segOf p)) ∧ ∃ o, o = (kOffset c p m i.toNat 10) ∧
    ((kReg c (8 + p)).t = false ∧ (o < g.2)) ∧ (Issues k (.st d p m i.toNat) w2 s) ∧ (g.1 + o < 0x400000)) ∧ (∃ (k : Fin 16) (d
    : Fin 8) (p : Fin 8) (m : Fin 5) (i : BitVec 10) (s : State) (w2 : _), ∃ c, c = (coreOf s k) ∧ ∃ g, g = (tget (0, 0) c.segs
    (segOf p)) ∧ ∃ o, o = (kOffset c p m i.toNat 10) ∧ ((kReg c (8 + p)).t = false ∧ (o < g.2)) ∧ (Issues k (.st d p m i.toNat)
    w2 s) ∧ (0x400000 ≤ g.1 + o) ∧ (g.1 + o < 0x800000) ∧ (c.posted.length < 8)) ∧ (∃ (k : Fin 16) (r : Fin 64) (p : Fin 8) (m :
    Fin 5) (i : BitVec 7) (s : State) (w2 : _), ∃ c, c = (coreOf s k) ∧ ∃ g, g = (tget (0, 0) c.segs (segOf p)) ∧ ∃ o, o =
    (kOffset c p m i.toNat 7) ∧ ((kReg c (8 + p)).t = false ∧ (o < g.2) ∧ (g.1 + o < 0x400000)) ∧ (Issues k (.ldr r p m i.toNat)
    w2 s)) ∧ (∃ (k : Fin 16) (r : Fin 64) (p : Fin 8) (m : Fin 5) (i : BitVec 7) (s : State) (w2 : _), ∃ c, c = (coreOf s k) ∧ ∃
    g, g = (tget (0, 0) c.segs (segOf p)) ∧ ∃ o, o = (kOffset c p m i.toNat 7) ∧ ((kReg c (8 + p)).t = false ∧ (o < g.2) ∧ (g.1
    + o < 0x400000)) ∧ (Issues k (.str r p m i.toNat) w2 s)) ∧ (∃ (k : Fin 16) (d : Fin 8) (p : Fin 8) (q : Fin 10) (i : BitVec
    9) (s : State) (w2 : _), ∃ c, c = (coreOf s k) ∧ ∃ g, g = (tget (0, 0) c.segs (segOf p)) ∧ ∃ o, o = (kOffset c p 0 i.toNat
    9) ∧ ((kReg c (8 + p)).t = false ∧ (o < g.2) ∧ (g.1 + o < 0x400000)) ∧ (Issues k (.ldx d p q i.toNat) w2 s)) ∧ (∃ (k : Fin
    16) (d : Fin 8) (p : Fin 8) (q : Fin 6) (i : BitVec 9) (s : State) (w2 : _), ∃ c, c = (coreOf s k) ∧ ∃ g, g = (tget (0, 0)
    c.segs (segOf p)) ∧ ∃ o, o = (kOffset c p 0 i.toNat 9) ∧ ((kReg c (8 + p)).t = false ∧ (o < g.2) ∧ (g.1 + o < 0x400000)) ∧
    (Issues k (.stx d p q i.toNat) w2 s)) ∧ (∃ (k : Fin 16) (d : Fin 8) (p : Fin 8) (m : Fin 2) (i : BitVec 10) (s : State) (w2
    : _), ∃ c, c = (coreOf s k) ∧ ∃ g, g = (tget (0, 0) c.segs 0) ∧ ∃ o, o = (kOffset c p m i.toNat 10) ∧ ((kReg c (8 + p)).t =
    false ∧ (o < g.2)) ∧ (Issues k (.ldc d p m i.toNat) w2 s)) :=
  ⟨⟨0, 7, 2, 0, 0, (withCore 0 { running (.ld 7 2 0 0) with regs := [(10, { v := 999, t := false })] }), 0, _, rfl, _, rfl, _,
      rfl, by decide +kernel, ⟨by decide +kernel, by decide +kernel⟩, by decide +kernel⟩,
    ⟨0, 7, 4, 0, 0, (withCore 0 { running (.ld 7 4 0 0) with regs := [(12, { v := 262143, t := false })] }), 0, _, rfl, _, rfl,
      _, rfl, by decide +kernel, ⟨by decide +kernel, by decide +kernel⟩, by decide +kernel⟩,
    ⟨0, 7, 2, 1, 0x3FF, (withCore 0 { running (.st 7 2 1 0x3FF) with regs := [(10, { v := 999, t := false })] }), 0, _, rfl, _,
      rfl, _, rfl, by decide +kernel, ⟨by decide +kernel, by decide +kernel⟩, by decide +kernel⟩,
    ⟨0, 7, 4, 1, 1, (withCore 0 { running (.st 7 4 1 1) with regs := [(12, { v := 262143, t := false })] }), 0, _, rfl, _, rfl,
      _, rfl, by decide +kernel, ⟨by decide +kernel, by decide +kernel⟩, by decide +kernel⟩,
    ⟨0, 55, 2, 0, 0x7F, (withCore 0 { running (.ldr 55 2 0 0x7F) with regs := [(10, { v := 999, t := false })] }), 0, _, rfl, _,
      rfl, _, rfl, by decide +kernel, ⟨by decide +kernel, by decide +kernel⟩⟩,
    ⟨0, 55, 2, 0, 0x7F, (withCore 0 { running (.str 55 2 0 0x7F) with regs := [(10, { v := 999, t := false })] }), 0, _, rfl, _,
      rfl, _, rfl, by decide +kernel, ⟨by decide +kernel, by decide +kernel⟩⟩,
    ⟨0, 7, 2, 9, 0x1FF, (withCore 0 { running (.ldx 7 2 9 0x1FF) with regs := [(10, { v := 999, t := false })] }), 0, _, rfl, _,
      rfl, _, rfl, by decide +kernel, ⟨by decide +kernel, by decide +kernel⟩⟩,
    ⟨0, 7, 2, 5, 0x1FF, (withCore 0 { running (.stx 7 2 5 0x1FF) with regs := [(10, { v := 999, t := false })] }), 0, _, rfl, _,
      rfl, _, rfl, by decide +kernel, ⟨by decide +kernel, by decide +kernel⟩⟩,
    ⟨0, 7, 2, 1, 1, (withCore 0 { running (.ldc 7 2 1 1) with regs := [(10, { v := 99, t := false })] }), 0, _, rfl, _, rfl, _,
      rfl, by decide +kernel, ⟨by decide +kernel, by decide +kernel⟩⟩⟩

theorem test_witness_KernelControlRowsComplete : (∃ (k : Fin 16) (s : State) (w2 : _), (Issues k (.ctl .nop) w2 s)) ∧ (∃ (k :
    Fin 16) (s : State) (w2 : _), (Issues k (.ctl .ei) w2 s)) ∧ (∃ (k : Fin 16) (s : State) (w2 : _), (Issues k (.ctl .di) w2
    s)) ∧ (∃ (k : Fin 16) (s : State) (w2 : _), (Issues k (.ctl .fence) w2 s) ∧ (coreOf s k).posted = []) ∧ (∃ (k : Fin 16) (s :
    State) (w2 : _), (Issues k (.ctl .wait) w2 s)) ∧ (∃ (k : Fin 16) (s : State) (w2 : _), (Issues k (.ctl .halt) w2 s) ∧ ∃ x, x
    = (kComplete (coreOf s k) [] (coreBase s k) ((coreOf s k).pc + 1) false 1) ∧ (x.2 = none)) ∧ (∃ (k : Fin 16) (s : State) (w2
    : _), ∃ c, c = (coreOf s k) ∧ ∃ lim, lim = ((tget (0, 0) c.segs 0).2) ∧ (Issues k (.ctl .ret) w2 s) ∧ (kReg c rLK).t = false
    ∧ (kReg c rLK).v.toNat < lim) ∧ (∃ (k : Fin 16) (s : State) (w2 : _), ∃ c, c = (coreOf s k) ∧ ∃ lim, lim = ((tget (0, 0)
    c.segs 0).2) ∧ (Issues k (.ctl .reti) w2 s) ∧ (c.ipc < lim)) ∧ (∃ (k : Fin 16) (s : State) (w2 : _), ∃ c, c = (coreOf s k) ∧
    ∃ lim, lim = ((tget (0, 0) c.segs 0).2) ∧ ∃ (p : Fin 8), ((kReg c (8 + p)).t = false ∧ (kReg c (8 + p)).v.toNat < lim) ∧
    (Issues k (.jr p) w2 s)) ∧ (∃ (k : Fin 16) (s : State) (w2 : _), ∃ c, c = (coreOf s k) ∧ ∃ lim, lim = ((tget (0, 0) c.segs
    0).2) ∧ ∃ (p : Fin 8), ((kReg c (8 + p)).t = false ∧ (kReg c (8 + p)).v.toNat < lim) ∧ (Issues k (.callr p) w2 s)) ∧ (∃ (k :
    Fin 16) (s : State) (w2 : _), ∃ c, c = (coreOf s k) ∧ ∃ lim, lim = ((tget (0, 0) c.segs 0).2) ∧ ∃ (t : BitVec 14), (t.toNat
    < lim) ∧ (Issues k (.j t.toNat) w2 s)) ∧ (∃ (k : Fin 16) (s : State) (w2 : _), ∃ c, c = (coreOf s k) ∧ ∃ lim, lim = ((tget
    (0, 0) c.segs 0).2) ∧ ∃ (t : BitVec 14), (t.toNat < lim) ∧ (Issues k (.call t.toNat) w2 s)) ∧ (∃ (k : Fin 16) (s : State)
    (w2 : _) (cc : KCond), ∃ c, c = (coreOf s k) ∧ ∃ lim, lim = ((tget (0, 0) c.segs 0).2) ∧ ∃ (a : Fin 16) (b : Fin 16) (off :
    BitVec 8), (Issues k (.br cc a b off.toNat) w2 s) ∧ (kReg c a).t = false ∧ (kReg c b).t = false ∧ (kCond cc (kReg c a).v
    (kReg c b).v = true) ∧ (kRel { k := k, c := c, w2 := 0 } off.toNat < lim)) ∧ (∃ (k : Fin 16) (s : State) (w2 : _) (cc :
    KCond), ∃ c, c = (coreOf s k) ∧ ∃ (a : Fin 16) (b : Fin 16) (off : BitVec 8), (Issues k (.br cc a b off.toNat) w2 s) ∧ (kReg
    c a).t = false ∧ (kReg c b).t = false ∧ (kCond cc (kReg c a).v (kReg c b).v = false)) ∧ (∃ (k : Fin 16) (s : State) (w2 : _)
    (cc : KCond), ∃ c, c = (coreOf s k) ∧ ∃ lim, lim = ((tget (0, 0) c.segs 0).2) ∧ ∃ (a : Fin 16) (i : BitVec 12) (t : BitVec
    14), (Issues k (.bri cc a i.toNat t.toNat) w2 s) ∧ (kReg c a).t = false ∧ (kCond cc (kReg c a).v (i.signExtend 24) = true) ∧
    (t.toNat < lim)) ∧ (∃ (k : Fin 16) (s : State) (w2 : _) (cc : KCond), ∃ c, c = (coreOf s k) ∧ ∃ (a : Fin 16) (i : BitVec 12)
    (t : BitVec 14), (Issues k (.bri cc a i.toNat t.toNat) w2 s) ∧ (kReg c a).t = false ∧ (kCond cc (kReg c a).v (i.signExtend
    24) = false)) ∧ (∃ (k : Fin 16) (s : State) (w2 : _) (cc : KCond), ∃ c, c = (coreOf s k) ∧ ∃ lim, lim = ((tget (0, 0) c.segs
    0).2) ∧ ∃ (a : Fin 4) (off : BitVec 8), (Issues k (.bra cc a off.toNat) w2 s) ∧ (kAccOf c a).t = false ∧ (kCondAcc cc
    (kAccOf c a).v = true) ∧ (kRel { k := k, c := c, w2 := 0 } off.toNat < lim)) ∧ (∃ (k : Fin 16) (s : State) (w2 : _) (cc :
    KCond), ∃ c, c = (coreOf s k) ∧ ∃ (a : Fin 4) (off : BitVec 8), (Issues k (.bra cc a off.toNat) w2 s) ∧ (kAccOf c a).t =
    false ∧ (kCondAcc cc (kAccOf c a).v = false)) ∧ (∃ (k : Fin 16) (s : State) (w2 : _) (j : _), ∃ c, c = (coreOf s k) ∧ ((c.pc
    + 1 < (tget (0, 0) c.segs 0).2) ∧ (kTwoWords (kWordAt c (c.pc + 1)) = false) ∧ (kDecode (decide (12 ≤ k.val)) (c.pc + 1)
    (kWordAt c (c.pc + 1)) 0 = some j) ∧ (kRepeatable j = true) ∧ (kLoopEnd c = false)) ∧ ∃ (n : BitVec 12), (Issues k (.rep
    n.toNat) w2 s)) ∧ (∃ (k : Fin 16) (s : State) (w2 : _) (j : _), ∃ c, c = (coreOf s k) ∧ ((c.pc + 1 < (tget (0, 0) c.segs
    0).2) ∧ (kTwoWords (kWordAt c (c.pc + 1)) = false) ∧ (kDecode (decide (12 ≤ k.val)) (c.pc + 1) (kWordAt c (c.pc + 1)) 0 =
    some j) ∧ (kRepeatable j = true) ∧ (kLoopEnd c = false)) ∧ ∃ (d : Fin 8), (Issues k (.repr d) w2 s) ∧ (kReg c d).t = false)
    ∧
    (∃ (k : Fin 16) (s : State) (w2 : Nat) (e : BitVec 14) (n : BitVec 16), kLoopEnd (coreOf s k) = false ∧ Issues k (.loopImm n.toNat e.toNat) w2 s)
    ∧ (∃ (k : Fin 16) (s : State) (w2 : _) (e : BitVec 14), ∃ c, c = (coreOf s k) ∧ (kLoopEnd c = false) ∧ ∃ (d : Fin 8),
    (Issues k (.loopReg d e.toNat) w2 s) ∧ (kReg c d).t = false) :=
  ⟨⟨0, (withCore 0 (running (.ctl .nop))), 0, ⟨by decide +kernel, by decide +kernel⟩⟩,
    ⟨0, (withCore 0 (running (.ctl .ei))), 0, ⟨by decide +kernel, by decide +kernel⟩⟩,
    ⟨0, (withCore 0 (running (.ctl .di))), 0, ⟨by decide +kernel, by decide +kernel⟩⟩,
    ⟨0, (withCore 0 (running (.ctl .fence))), 0, ⟨by decide +kernel, by decide +kernel⟩, by decide +kernel⟩,
    ⟨0, (withCore 0 (running (.ctl .wait))), 0, ⟨by decide +kernel, by decide +kernel⟩⟩,
    ⟨0, (withCore 0 (running (.ctl .halt))), 0, ⟨by decide +kernel, by decide +kernel⟩, _, rfl, by decide +kernel⟩,
    ⟨0, (withCore 0 { running (.ctl .ret) with regs := [(52, { v := 99, t := false })] }), 0, _, rfl, _, rfl,
      ⟨by decide +kernel, by decide +kernel⟩, by decide +kernel⟩,
    ⟨0, (withCore 0 { running (.ctl .reti) with ipc := 99 }), 0, _, rfl, _, rfl, ⟨by decide +kernel, by decide +kernel⟩,
      by decide +kernel⟩,
    ⟨0, (withCore 0 { running (.jr 7) with regs := [(15, { v := 99, t := false })] }), 0, _, rfl, _, rfl, 7, by decide +kernel,
      ⟨by decide +kernel, by decide +kernel⟩⟩,
    ⟨0, (withCore 0 { running (.callr 7) with regs := [(15, { v := 99, t := false })] }), 0, _, rfl, _, rfl, 7,
      by decide +kernel, ⟨by decide +kernel, by decide +kernel⟩⟩,
    ⟨0, (withCore 0 (running (.j 99))), 0, _, rfl, _, rfl, 99, by decide +kernel, ⟨by decide +kernel, by decide +kernel⟩⟩,
    ⟨0, (withCore 0 (running (.call 99))), 0, _, rfl, _, rfl, 99, by decide +kernel, ⟨by decide +kernel, by decide +kernel⟩⟩,
    ⟨0, (withCore 0 (running (.br .eq 7 15 20))), 0, .eq, _, rfl, _, rfl, 7, 15, 20, ⟨by decide +kernel, by decide +kernel⟩,
      by decide +kernel⟩,
    ⟨0, (withCore 0 (running (.br .ne 7 15 0x7F))), 0, .ne, _, rfl, 7, 15, 0x7F, ⟨by decide +kernel, by decide +kernel⟩,
      by decide +kernel⟩,
    ⟨0, (withCore 0 (running (.bri .ge 15 0xFFF 99))), ((kEncode (.bri .ge 15 0xFFF 99)).2), .ge, _, rfl, _, rfl, 15, 0xFFF, 99,
      ⟨by decide +kernel, by decide +kernel⟩, by decide +kernel⟩,
    ⟨0, (withCore 0 (running (.bri .eq 15 0xFFF 99))), ((kEncode (.bri .eq 15 0xFFF 99)).2), .eq, _, rfl, 15, 0xFFF, 99,
      ⟨by decide +kernel, by decide +kernel⟩, by decide +kernel⟩,
    ⟨0, (withCore 0 (running (.bra .eq 3 20))), 0, .eq, _, rfl, _, rfl, 3, 20, ⟨by decide +kernel, by decide +kernel⟩,
      by decide +kernel⟩,
    ⟨0, (withCore 0 (running (.bra .ne 3 20))), 0, .ne, _, rfl, 3, 20, ⟨by decide +kernel, by decide +kernel⟩,
      by decide +kernel⟩,
    ⟨0,
      (withCore 0 { running (.rep 0xFFF) with prog := [(0, BitVec.ofNat 24 (kEncode (.rep 0xFFF)).1), (1, BitVec.ofNat 24 (kEncode (.alu .add 7 6 5)).1)] }),
      0, .alu .add 7 6 5, _, rfl, by decide +kernel, 0xFFF, ⟨by decide +kernel, by decide +kernel⟩⟩,
    ⟨0,
      (withCore 0 { running (.repr 7) with prog := [(0, BitVec.ofNat 24 (kEncode (.repr 7)).1), (1, BitVec.ofNat 24 (kEncode (.alu .add 7 6 5)).1)], regs := [(7, { v := 5, t := false })] }),
      0, .alu .add 7 6 5, _, rfl, by decide +kernel, 7, ⟨by decide +kernel, by decide +kernel⟩, by decide +kernel⟩,
    ⟨0, (withCore 0 (running (.loopImm 0 50))), (kEncode (.loopImm 0 50)).2, 50, 0, by decide +kernel, by decide +kernel, by decide +kernel⟩,
    ⟨0, (withCore 0 (running (.loopReg 7 50))), ((kEncode (.loopReg 7 50)).2), 50, _, rfl, by decide +kernel, 7,
      ⟨by decide +kernel, by decide +kernel⟩, by decide +kernel⟩⟩

theorem test_witness_ByteStreamInputComplete : (∃ (bs : List Byte) (old : List Byte) (s : State), ((hostUp s = true) ∧ (portOf s
    .spi).asm = old.map some ∧ (bs ≠ [])) ∧ (Unfinished (old ++ bs))) ∧ (∃ (addr : BitVec 7) (bs : List Byte) (old : List Byte)
    (s : State), ((hostUp s = true) ∧ (addr.toNat = s.power.muslinAddr) ∧ (portOf s .muslin).asm = old.map some ∧ (bs ≠ [])) ∧
    (Unfinished (old ++ bs)) ∧ (portBlocked s .muslin = true → old.length + bs.length ≤ 4096)) ∧ (∃ (u : Uart) (b : Byte) (old :
    List Byte) (s : State), ((hostUp s = true) ∧ (tget none s.ecsol.uartRate (uartIdx u) ≠ none) ∧ (portOf s (uartPort u)).asm =
    old.map some) ∧ (Unfinished (old ++ [b]))) ∧ (∃ (u : Uart) (s : State), (hostUp s = true) ∧ (tget none s.ecsol.uartRate
    (uartIdx u) ≠ none)) ∧ (∃ (u : Uart) (lowPs : Nat) (s : State) (r : Nat), (hostUp s = true) ∧ (tget none s.ecsol.uartRate
    (uartIdx u) = none) ∧ (tget none s.ecsol.uartFormer (uartIdx u) = none) ∧ (r ∈ uartRates) ∧ (97 * 10 ^ 12 ≤ 100 * (lowPs *
    r)) ∧ (100 * (lowPs * r) ≤ 103 * 10 ^ 12) ∧ (portOf s (uartPort u)).asm = []) ∧ (∃ (u : Uart) (s : State) (r : Nat), (hostUp
    s = true) ∧ (tget none s.ecsol.uartRate (uartIdx u) = some r) ∧ (portOf s (uartPort u)).asm = []) ∧ (∃ (u : Uart) (bs : List
    Byte) (s : State), ((hostUp s = true) ∧ (tget none s.ecsol.uartRate (uartIdx u) = none) ∧ (portOf s (uartPort u)).asm =
    (0xA7 :: bs).map some) ∧ (Unfinished (0xA7 :: bs)) ∧ (0xA7 ∉ bs)) ∧ (∃ (code : Byte) (s : State), (mainRuns s = true) ∧
    (code ∉ ([0x02, 0x32, 0x03, 0x6B, 0x05] : List Byte))) ∧ (∃ (port : HostPort) (s : State), (portOf s port).asm = []) ∧ (∃
    (port : HostPort) (s : State), (portOf s port).asm ≠ [] ∧ (hostUp s = true)) ∧ (∃ (port : HostPort) (s : State), ∃ (bs :
    List Byte), ((port ≠ .pcie) ∧ (hostUp s = true) ∧ (portOf s port).asm = (0xA7 :: bs).map some) ∧ (Unfinished (0xA7 :: bs)) ∧
    (0xA7 ∉ bs)) :=
  ⟨⟨[0, 0, 0], [0xA7], { up with ecsol.ports := [(0, { PortState.initial with asm := [some 0xA7] })] }, by decide +kernel,
      (by unfold Unfinished; decide +kernel)⟩,
    ⟨0x3B, [0xA7], [], up, by decide +kernel, (by unfold Unfinished; decide +kernel), by decide +kernel⟩,
    ⟨.u1, 0, [0xA7],
      { up with ecsol.uartRate := [(2, some 115200)], ecsol.ports := [(2, { PortState.initial with asm := [some 0xA7] })] },
      by decide +kernel, (by unfold Unfinished; decide +kernel)⟩,
    ⟨.u0, { up with ecsol.uartRate := [(1, some 115200)] }, by decide +kernel⟩,
    ⟨.u0, 8680555, up, 115200, by decide +kernel⟩,
    ⟨.u0, { up with ecsol.uartRate := [(1, some 12000000)] }, 12000000, by decide +kernel⟩,
    ⟨.u0, [1], { up with ecsol.ports := [(1, { PortState.initial with asm := [some 0xA7, some 1] })] }, by decide +kernel,
      (by unfold Unfinished; decide +kernel), by decide +kernel⟩,
    ⟨0x9F, up, by decide +kernel⟩,
    ⟨.spi, up, by decide +kernel⟩,
    ⟨.spi, { up with ecsol.ports := [(0, { PortState.initial with asm := [some 0xA7] })] }, by decide +kernel⟩,
    ⟨.spi, { up with ecsol.ports := [(0, { PortState.initial with asm := [some 0xA7, some 1, some 2] })] }, [1, 2],
      by decide +kernel, (by unfold Unfinished; decide +kernel), by decide +kernel⟩⟩

theorem test_witness_ByteStreamOutputComplete : (∃ (s : State), (mainRuns s = true) ∧ (∀ it ∈ (portOf s .spi).outq, it.sent <
    it.bytes.length)) ∧ (∃ (addr : BitVec 7) (s : State), (hostUp s = true) ∧ (addr.toNat = s.power.muslinAddr) ∧ (∀ it ∈
    (portOf s .muslin).outq, it.sent < it.bytes.length)) ∧ (∃ (u : Uart) (s : State) (it : QItem) (rest : _), (tget none
    s.ecsol.uartRate (uartIdx u) ≠ none) ∧ (portOf s (uartPort u)).outq = it :: rest ∧ (it.sent < it.bytes.length)) ∧ (∃ (s :
    State), (mainRuns s = true)) ∧ (∃ (s : State), (portOf s .muslin).outq = []) :=
  ⟨⟨{ up with ecsol.ports := [(0, { PortState.initial with outq := [{ cls := 0, bytes := [1, 2, 3], sent := 1 }] })] },
      by decide +kernel⟩,
    ⟨0x3B, { up with ecsol.ports := [(4, { PortState.initial with outq := [{ cls := 0, bytes := [1, 2, 3], sent := 1 }] })] },
      by decide +kernel⟩,
    ⟨.u0,
      { up with ecsol.ports := [(1, { PortState.initial with outq := [{ cls := 0, bytes := [1, 2, 3], sent := 1 }] })], ecsol.uartRate := [(1, some 115200)] },
      { cls := 0, bytes := [1, 2, 3], sent := 1 }, [], by decide +kernel⟩,
    ⟨up, by decide +kernel⟩,
    ⟨up, by decide +kernel⟩⟩

theorem test_witness_UnknownOpcodeAndLockExpiryComplete : (∃ (op : BitVec 16) (p : _) (s : State), (opSpecOf op.toNat = none) ∧
    (hostUp s = true) ∧ (portBlocked s p.port = false) ∧ (p.crc.toNat = crc32c (cmdBytes op.toNat p)) ∧ (cacheFind s op.toNat p
    = none) ∧ (outstanding s p.port < 8) ∧ (s.ecsol.held = []) ∧ (s.ecsol.window = .none) ∧ (bitsOf p.flags.toNat 7 4 = 0) ∧
    (cmdAuth p = true ∨ cmdSlot p = 0)) ∧ (∃ (slot : Fin 4) (s : State) (t : _), (slotOf s slot).lockUntil = some t ∧
    (instantReached t s = true)) ∧ (∃ (slot : Fin 4) (s : State) (t : _), (slotOf s slot).lockUntil = some t ∧ (instantReached t
    s = false)) ∧ (∃ (slot : Fin 4) (s : State), (slotOf s slot).lockUntil = none) :=
  ⟨⟨0x7F7F, mk 0x7F7F [1], up, (Option.isNone_iff_eq_none.mp (by decide +kernel)), by decide +kernel⟩,
    ⟨3,
      { up with ms := 1000, clk := { up.clk with st := 0 }, security.slots := [(3, { KeySlot.empty with lockUntil := some 1000 })] },
      1000, by decide +kernel⟩,
    ⟨3,
      { up with ms := 999, clk := { up.clk with st := 0 }, security.slots := [(3, { KeySlot.empty with lockUntil := some 1000 })] },
      1000, by decide +kernel⟩,
    ⟨3, up, by decide +kernel⟩⟩

theorem test_witness_PcieRegisterCommandsComplete : (∃ (s : State), (pcieUp s = true) ∧ (slotsWaiting s = 0)) ∧ (∃ (s : State),
    (pcieUp s = true) ∧ (slotsWaiting s = 0)) ∧ (∃ (s : State), (pcieUp s = true) ∧ (s.pcie.cmdEn = false) ∧ (s.pcie.ringEn =
    0)) ∧ (∃ (tail : Fin 16) (s : State), (pcieUp s = true) ∧ (hostUp s = true) ∧ (8 < (tail.val + 16 - s.pcie.head) % 16)) ∧ (∃
    (tail : Fin 16) (s : State), (pcieUp s = true) ∧ (hostUp s = true) ∧ (tail.val + 16 - s.pcie.head) % 16 ≤ 8 ∧ (s.pcie.cmdEn
    = false)) ∧ (∃ (s : State), (pcieUp s = true)) ∧ (∃ (s : State), (pcieUp s = true)) ∧ (∃ (s : State), (pcieUp s = true)) ∧
    (∃ (s : State), (pcieUp s = true)) ∧ (∃ (s : State), (pcieUp s = true)) ∧ (∃ (n : Fin 4) (s : State), (pcieUp s = true) ∧
    (s.pcie.ringEn.testBit n = false)) ∧ (∃ (n : Fin 4) (v : BitVec 32) (s : State), (pcieUp s = true) ∧ (s.pcie.ringEn.testBit
    n = false) ∧ (bitsOf v.toNat 27 24 ≤ 10)) ∧ (∃ (n : Fin 4) (s : State), (pcieUp s = true) ∧ (s.pcie.ringEn.testBit n =
    true)) ∧ (∃ (off : BitVec 16) (s : State), (pcieUp s = true) ∧ (off.toNat % 4 = 0) ∧ (0x4000 ≤ off.toNat)) :=
  ⟨⟨{ up with pcie := { up.pcie with link := some { gen := 0, wide := false } } }, by decide +kernel⟩,
    ⟨{ up with pcie := { up.pcie with link := some { gen := 0, wide := false } } }, by decide +kernel⟩,
    ⟨{ up with pcie := { up.pcie with link := some { gen := 0, wide := false } } }, by decide +kernel⟩,
    ⟨9, { up with pcie := { up.pcie with link := some { gen := 0, wide := false }, cmdEn := true } }, by decide +kernel⟩,
    ⟨8, { up with pcie := { up.pcie with link := some { gen := 0, wide := false } } }, by decide +kernel⟩,
    ⟨{ up with pcie := { up.pcie with link := some { gen := 0, wide := false }, irqStatus := 0x43 } }, by decide +kernel⟩,
    ⟨{ up with pcie := { up.pcie with link := some { gen := 0, wide := false }, framing := 3 } }, by decide +kernel⟩,
    ⟨{ up with pcie := { up.pcie with link := some { gen := 0, wide := false }, rings := [(3, { Ring.initial with drops := 5 })] } },
      by decide +kernel⟩,
    ⟨{ up with pcie := { up.pcie with link := some { gen := 0, wide := false }, irqStatus := 1 } }, by decide +kernel⟩,
    ⟨{ up with pcie := { up.pcie with link := some { gen := 0, wide := false } } }, by decide +kernel⟩,
    ⟨3, { up with pcie := { up.pcie with link := some { gen := 0, wide := false } } }, by decide +kernel⟩,
    ⟨3, 0x0A000000, { up with pcie := { up.pcie with link := some { gen := 0, wide := false } } }, by decide +kernel⟩,
    ⟨3, { up with pcie := { up.pcie with link := some { gen := 0, wide := false }, ringEn := 8 } }, by decide +kernel⟩,
    ⟨0xFFFC, { up with pcie := { up.pcie with link := some { gen := 0, wide := false } } }, by decide +kernel⟩⟩

theorem test_witness_PcieEventsComplete : (∃ (n : Fin 4) (s : State) (it : _) (rest : _), ((pcieUp s = true) ∧ (slotsWaiting s =
    0) ∧ (ringOf s n).outq = it :: rest ∧ (ringOf s n).fault = false ∧ (s.pcie.ringEn.testBit n = true)) ∧ ∃ r, r = (ringOf s n)
    ∧ ∃ len, len = (padded it.bytes.length) ∧ (entryTakes r len + 64 ≤ ringFree r)) ∧ (∃ (n : Fin 4) (s : State), (ringOf s
    n).waiting = true) ∧ (∃ (n : Fin 4) (s : State), (pcieUp s = true) ∧ (ringOf s n).fault = false ∧ (s.pcie.ringEn.testBit n =
    true) ∧ (ringOf s n).outq ≠ [] ∧ (portOf s .pcie).dropArmed = false ∨ (∀ it ∈ (ringOf s n).outq, it.cls ≠ 1)) ∧ (∃ (n : Fin
    4) (s : State), (pcieUp s = true) ∧ (ringOf s n).fault = false ∧ (s.pcie.ringEn.testBit n = true) ∧ (ringOf s n).outq ≠ [] ∧
    (portOf s .pcie).dropArmed = true ∧ (∃ it ∈ (ringOf s n).outq, it.cls = 1)) ∧ (∃ (s : State), (mainRuns s = true)) ∧ (∃ (s :
    State), (mainRuns s = true)) :=
  ⟨⟨3,
      { up with pcie := { up.pcie with link := some { gen := 0, wide := false }, ringEn := 8, rings := [(3, { Ring.initial with outq := [{ cls := 0, bytes := [1, 2, 3], sent := 0 }] })] } },
      { cls := 0, bytes := [1, 2, 3], sent := 0 }, [], by decide +kernel, _, rfl, _, rfl, by decide +kernel⟩,
    ⟨3,
      { up with pcie := { up.pcie with link := some { gen := 0, wide := false }, rings := [(3, { Ring.initial with waiting := true })] } },
      by decide +kernel⟩,
    ⟨3,
      { up with pcie := { up.pcie with link := some { gen := 0, wide := false }, ringEn := 8, rings := [(3, { Ring.initial with outq := [{ cls := 0, bytes := [1, 2, 3], sent := 0 }] })] } },
      by decide +kernel⟩,
    ⟨3,
      { { up with pcie := { up.pcie with link := some { gen := 0, wide := false }, ringEn := 8, rings := [(3, { Ring.initial with outq := [{ cls := 1, bytes := [1, 2, 3], sent := 0 }] })] } } with ecsol.ports := [(3, { PortState.initial with dropArmed := true })] },
      by decide +kernel⟩,
    ⟨up, by decide +kernel⟩,
    ⟨up, by decide +kernel⟩⟩

theorem test_witness_PowerStateEventsComplete : (∃ (s : State), (s.power.mode = .off)) ∧ (∃ (s : State), (s.power.armed = true)
    ∧ (s.power.seq = none) ∧ (s.power.wake.sources.testBit 0 = true)) ∧ (∃ (s : State), ((s.power.armed = true) ∧ (s.power.seq =
    none) ∧ (s.power.wake.sources.testBit 1 = true)) ∧ ∃ (addr : BitVec 7), (addr.toNat = s.power.wake.addr)) ∧ (∃ (s : State),
    (s.power.armed = true) ∧ (s.power.seq = none) ∧ (s.power.wake.sources.testBit 2 = true) ∧ (s.power.wake.timekeep = true)) ∧
    (∃ (s : State) (q : _), (s.power.armed = true) ∧ (s.power.seq = some q) ∧ (q.restart = false) ∧
    (s.power.wake.sources.testBit 0 = true)) ∧ (∃ (s : State), (s.power.armed = false ∨ s.power.seq ≠ none)) ∧ (∃ (s : State),
    (s.power.armed = true) ∧ (s.power.seq = none) ∧ (s.power.wake.sources.testBit 2 = true)) ∧ (∃ (s : State),
    (s.power.parkPending = true)) ∧ (∃ (s : State) (q : _), (s.power.seq = some q) ∧ (q.restart = false) ∧ (sequenceRipe q s =
    true) ∧ (s.power.latched = 0)) ∧ (∃ (stopMs : _) (s : State), (s.power.mode = .stop) ∧ (s.power.latched ≠ 0) ∧ (1 ≤ stopMs))
    ∧ (∃ (s : State), (s.power.mode = .run)) ∧ (∃ (s : State), (s.power.mode = .run) ∧ (s.power.inReset = true)) ∧ (∃ (s :
    State), (s.power.mode = .run) ∧ (s.power.inReset = false)) ∧ (∃ (s : State) (o : _) (t : _), (s.security.op = some o) ∧
    (o.doneMs = some t) ∧ (instantReached (t + 10) s = true)) ∧ (∃ (s : State) (q : _), (s.power.seq = some q) ∧ (q.restart =
    true) ∧ (sequenceRipe q s = true)) ∧ (∃ (s : State), (s.power.mode = .run) ∧ (s.power.inReset = false) ∧ (s.power.fwReady =
    false) ∧ (s.power.cause ≠ 5)) :=
  ⟨⟨{ up with power := { up.power with mode := .off } }, by decide +kernel⟩,
    ⟨{ up with power := { up.power with armed := true } }, by decide +kernel⟩,
    ⟨{ up with power := { up.power with armed := true } }, by decide +kernel, 0x3B, by decide +kernel⟩,
    ⟨{ up with power := { up.power with armed := true, wake := { WakeCfg.initial with sources := 4, timekeep := true, alarmS := 1 } } },
      by decide +kernel⟩,
    ⟨{ up with power := { up.power with armed := true, seq := some { restart := false, reply := some (.spi, 5), atMs := 3 } } },
      { restart := false, reply := some (.spi, 5), atMs := 3 }, by decide +kernel⟩,
    ⟨{ up with power := { up.power with tcValid := true } }, (.inl (by decide +kernel))⟩,
    ⟨{ up with power := { up.power with armed := true, wake := { WakeCfg.initial with sources := 4, timekeep := true, alarmS := 1 } } },
      by decide +kernel⟩,
    ⟨{ up with power := { up.power with parkPending := true } }, by decide +kernel⟩,
    ⟨{ up with power := { up.power with seq := some { restart := false, reply := some (.spi, 5), atMs := 3 } } },
      { restart := false, reply := some (.spi, 5), atMs := 3 }, by decide +kernel⟩,
    ⟨5000, { up with power := { up.power with mode := .stop, latched := 1 } }, by decide +kernel⟩,
    ⟨up, by decide +kernel⟩,
    ⟨{ up with power := { up.power with inReset := true } }, by decide +kernel⟩,
    ⟨up, by decide +kernel⟩,
    ⟨{ up with security.op := some { zeroize := true, erase := true, scope := 3, burn := none, erased := true, doneMs := some 5 }, ms := 15 },
      { zeroize := true, erase := true, scope := 3, burn := none, erased := true, doneMs := some 5 }, 5, by decide +kernel⟩,
    ⟨{ up with power := { up.power with seq := some { restart := true, reply := some (.spi, 5), atMs := 3 } } },
      { restart := true, reply := some (.spi, 5), atMs := 3 }, by decide +kernel⟩,
    ⟨{ up with power := { up.power with fwReady := false } }, by decide +kernel⟩⟩

theorem test_witness_SelfTestSecurityAndIslandEventsComplete : (∃ (s : State) (r : _), (hostUp s = true) ∧ (s.bst.active = some
    r)) ∧ (∃ (s : State), (hostUp s = true) ∧ (s.bst.active = none)) ∧ (∃ (s : State) (r : _), ((s.bst.active = some r) ∧
    (r.block < 38 ∨ 54 ≤ r.block)) ∧ ∃ x, x = (bstOf s r.block) ∧ ∃ w, w = (x.workDone + sliceWork r.block r.budget x.workDone)
    ∧ (w < blockWork r.block)) ∧ (∃ (s : State) (o : _) (l : _), (s.security.op = some o) ∧ (o.erase = true) ∧ (o.erased =
    false) ∧ (o.burn = some l) ∧ (s.security.life ≠ .blank) ∧ (o.scope.testBit 0 = false)) ∧ (∃ (s : State) (o : _) (l : _),
    (s.security.op = some o) ∧ (o.burn = some l) ∧ (o.erase = true → o.erased = true) ∧ (o.doneMs = none) ∧ (o.zeroize = false))
    ∧ (∃ (i : Fin 43) (s : State), (islandOn s i = true) ∧ (s.islands.ready.testBit i = false) ∧ (24 ≤ i.val ∧ i.val ≠ 42)) ∧ (∃
    (i : Fin 43) (s : State), (islandOn s i = true) ∧ (s.islands.ready.testBit i = false) ∧ (i.val < 24) ∧ (clockBypass s =
    false)) ∧ (∃ (code : Byte) (cls : Byte) (inst : Byte) (s : State) (e : _), (logHeld s.errlog).find? (fun e => sameKind
    code.toNat cls.toNat inst.toNat e) = some e ∧ (e.unreported = true) ∧ (∀ t, e.sentMs = some t → instantReached (t + 1000) s
    = true)) :=
  ⟨⟨{ up with bst.active := some { block := 56, slice := 1, mode := 0, budget := 50 } },
      { block := 56, slice := 1, mode := 0, budget := 50 }, by decide +kernel⟩,
    ⟨up, by decide +kernel⟩,
    ⟨{ up with bst.active := some { block := 25, slice := 1, mode := 0, budget := 50 } },
      { block := 25, slice := 1, mode := 0, budget := 50 }, by decide +kernel, _, rfl, _, rfl, by decide +kernel⟩,
    ⟨{ up with security.op := some { zeroize := false, erase := true, scope := 2, burn := some .provisioned, erased := false, doneMs := none } },
      { zeroize := false, erase := true, scope := 2, burn := some .provisioned, erased := false, doneMs := none },
      .provisioned, by decide +kernel⟩,
    ⟨{ up with security.op := some { zeroize := false, erase := true, scope := 2, burn := some .provisioned, erased := true, doneMs := none } },
      { zeroize := false, erase := true, scope := 2, burn := some .provisioned, erased := true, doneMs := none },
      .provisioned, by decide +kernel⟩,
    ⟨25, { up with islands.ready := 0 }, by decide +kernel⟩,
    ⟨23, { up with clk.st := 0, islands.ready := 0 }, by decide +kernel⟩,
    ⟨0x46, 10, 0,
      { up with errlog.entries := [{ code := 0x46, sev := 1, cls := 10, inst := 0, count := 2, reset := 0, first := 0, last := 1, unreported := true, sentMs := none }] },
      { code := 0x46, sev := 1, cls := 10, inst := 0, count := 2, reset := 0, first := 0, last := 1, unreported := true, sentMs := none },
      by decide +kernel⟩⟩

theorem test_witness_StepRunsTheFrontCommand : ∃ (s : State), (s.pending = []) :=
  ⟨up, by decide +kernel⟩

theorem test_witness_MasterIndexIsThatOfTheSpec : ∃ (op : Nat), (∀ sp ∈ opSpecs, sp.opcode ≠ op) :=
  ⟨0, by decide +kernel⟩

theorem test_witness_ZeroLengthOnlyWithoutParameters : (∃ sp ∈ opSpecs, ∃ (p : Packet), (p.params = []) ∧ (lengthOk sp p =
    true)) ∧ (∃ sp ∈ opSpecs, ∃ p, sp.minLen = 0 ∧ sp.maxLen = 0 ∧ lengthOk sp p = true) :=
  ⟨⟨specSysStatus, by simp [opSpecs, opSpecsLow], mk 0x0102 [], by decide +kernel⟩,
    ⟨specSysStatus, (by simp [opSpecs, opSpecsLow]), mk 0x0102 [], by decide +kernel, by decide +kernel, by decide +kernel⟩⟩

theorem test_witness_ChecksAreMadeInOrder : ∃ (sp : OpSpec) (p : Packet) (s : State), (hostUp s = true) ∧ (portBlocked s p.port
    = false) ∧ (p.crc.toNat = crc32c (cmdBytes sp.opcode p)) ∧ (cacheFind s sp.opcode p = none) :=
  ⟨specSysIdentify, mk 0x0101 [], up, by decide +kernel⟩

theorem test_witness_RejectedCommandsChangeOnlyRecords : (∃ (sp : OpSpec) (p : Packet) (s : State) (st : Status), (Accepted sp p
    s) ∧ (sp.act p (ready sp p s) = .reject st)) ∧ (∃ (sp : OpSpec) (p : Packet) (s : State) (st : Status), (Accepted sp p s) ∧
    (sp.act p (ready sp p s) = .reject st)) ∧ (∃ (sp : OpSpec) (p : Packet) (s : State), (hostUp s = true) ∧ (portBlocked s
    p.port = false) ∧ (p.crc.toNat ≠ crc32c (cmdBytes sp.opcode p) ∨ cacheFind s sp.opcode p = none ∧ (8 ≤ outstanding s p.port
    ∨ s.ecsol.window ≠ .none ∨ s.ecsol.held = [] ∧ (bitsOf p.flags.toNat 7 4 ≠ 0 ∨ (cmdAuth p = false ∧ cmdSlot p ≠ 0) ∨
    permitted s.security.life sp.opcode = false ∨ (cmdAuth p = false ∧ sp.critical = true ∧ authNeeded s.security.life = true) ∨
    (cmdAuth p = true ∧ (slotOf s (cmdSlot p)).lockUntil ≠ none))))) :=
  ⟨⟨specOutFilter, mk specOutFilter.opcode [31, 9, 0, 0, 0, 0, 0, 0], up, .badValue, (accepted_mk _ _ _ (by decide +kernel)),
      (rfl)⟩,
    ⟨specOutFilter, mk specOutFilter.opcode [31, 9, 0, 0, 0, 0, 0, 0], up, .badValue, (accepted_mk _ _ _ (by decide +kernel)),
      (rfl)⟩,
    ⟨specSysIdentify, { mk 0x0101 [] with flags := 0x12 }, up, by decide +kernel⟩⟩

theorem test_witness_SendingAndLoggingFrame : ∃ (p : Packet) (q : HostPort), (q ≠ p.port) :=
  ⟨mk 0x0101 [], .u1, by decide +kernel⟩

theorem test_witness_RepliesFollowTheReplyFlag : (∃ (p : Packet), (cmdReply p = false)) ∧ (∃ (p : Packet), (cmdReply p = false))
    ∧ (∃ (p : Packet), ∃ (st : Status), (st ≠ .ok ∨ cmdReply p = true) ∧ (p.port ≠ .pcie)) ∧ (∃ (p : Packet), ∃ (st : Status),
    (st ≠ .ok ∨ cmdReply p = true) ∧ (p.port = .pcie)) :=
  ⟨⟨{ mk 0x0101 [] with flags := 0 }, by decide +kernel⟩,
    ⟨{ mk 0x0101 [] with flags := 0 }, by decide +kernel⟩,
    ⟨mk 0x0101 [], .ok, by decide +kernel⟩,
    ⟨{ mk 0x0101 [] with port := .pcie }, .ok, by decide +kernel⟩⟩

theorem test_witness_ReplyCacheTakesAndReplaces : (∃ (st : Status), (st = .busy ∨ st = .authLocked ∨ st = .crcFail)) ∧ (∃ (p :
    Packet) (st : Status) (s : State), ∃ old, old = ((portOf s p.port).cache) ∧ (¬ (st = .busy ∨ st = .authLocked ∨ st =
    .crcFail)) ∧ (old.length ≤ 8)) ∧ (∃ (p : Packet) (st : Status) (s : State), ∃ old, old = ((portOf s p.port).cache) ∧ ((¬ (st
    = .busy ∨ st = .authLocked ∨ st = .crcFail)) ∧ (old.length ≤ 8)) ∧ ∃ (q : HostPort), (q ≠ p.port)) ∧ (∃ (op : Nat) (p :
    Packet) (st : Status) (chain : Nat) (payload : List Byte) (key : Option (List Byte)) (s : State), ∃ old, old = ((portOf s
    p.port).cache) ∧ ∃ e : CacheEntry, e =
    ({ seq := p.seq.toNat, opcode := op, crc := p.crc.toNat, reply := replyBytes op p st chain payload key, ok := st == .ok }) ∧
    (¬ (st = .busy ∨ st = .authLocked ∨ st = .crcFail)) ∧ (old.length ≤ 8) ∧ (∀ c ∈ old, c.seq ≠ e.seq)) ∧ (∃ (op : Nat) (p :
    Packet) (st : Status) (chain : Nat) (payload : List Byte) (key : Option (List Byte)) (s : State), ∃ old, old = ((portOf s
    p.port).cache) ∧ ∃ e : CacheEntry, e =
    ({ seq := p.seq.toNat, opcode := op, crc := p.crc.toNat, reply := replyBytes op p st chain payload key, ok := st == .ok }) ∧
    (¬ (st = .busy ∨ st = .authLocked ∨ st = .crcFail)) ∧ (old.length ≤ 8) ∧ (∃ c ∈ old, c.seq = e.seq)) :=
  ⟨⟨.busy, by decide +kernel⟩,
    ⟨mk 0x0101 [], .ok, up, _, rfl, by decide +kernel⟩,
    ⟨mk 0x0101 [], .ok, up, _, rfl, by decide +kernel, .u0, by decide +kernel⟩,
    ⟨0x0101, mk 0x0101 [], .ok, 0, [], none, up, _, rfl, _, rfl, by decide +kernel⟩,
    ⟨0x0101, mk 0x0101 [], .ok, 0, [], none,
      { up with ecsol.ports := [(0, { PortState.initial with cache := [{ seq := 1, opcode := 0x0101, crc := 0, reply := [], ok := true }] })] },
      _, rfl, _, rfl, by decide +kernel⟩⟩

theorem test_witness_RetransmissionsAreAnsweredFromTheCache : (∃ (op : Nat) (p : Packet) (st : Status) (chain : Nat) (payload :
    List Byte) (key : Option (List Byte)) (s : State), (¬ (st = .busy ∨ st = .authLocked ∨ st = .crcFail)) ∧ ∃ t, t = (finish op
    p st chain payload key s) ∧ (hostUp t = true) ∧ (portBlocked t p.port = false) ∧ (p.crc.toNat = crc32c (cmdBytes op p))) ∧
    (∃ (op : Nat) (p : Packet) (st : Status) (chain : Nat) (payload : List Byte) (key : Option (List Byte)) (s : State), (¬ (st
    = .busy ∨ st = .authLocked ∨ st = .crcFail)) ∧ ∃ t, t = (finish op p st chain payload key s) ∧ ((hostUp t = true) ∧
    (portBlocked t p.port = false) ∧ (p.crc.toNat = crc32c (cmdBytes op p))) ∧ ∃ (sp : OpSpec), (sp.opcode = op)) ∧ (∃ (op :
    Nat) (p : Packet) (st : Status) (chain : Nat) (payload : List Byte) (key : Option (List Byte)) (s : State), (¬ (st = .busy ∨
    st = .authLocked ∨ st = .crcFail)) ∧ ∃ t, t = (finish op p st chain payload key s) ∧ ((hostUp t = true) ∧ (portBlocked t
    p.port = false) ∧ (p.crc.toNat = crc32c (cmdBytes op p))) ∧ ∃ (sp : OpSpec), (sp.opcode = op)) :=
  ⟨⟨0x0101, mk 0x0101 [], .ok, 0, [], none, up, by decide +kernel, _, rfl, by decide +kernel⟩,
    ⟨0x0101, mk 0x0101 [], .ok, 0, [], none, up, by decide +kernel, _, rfl, by decide +kernel, specSysIdentify,
      by decide +kernel⟩,
    ⟨0x0101, mk 0x0101 [], .ok, 0, [], none, up, by decide +kernel, _, rfl, by decide +kernel, specSysIdentify,
      by decide +kernel⟩⟩

theorem test_witness_RepliesHaveTheLayoutOfTheSpec : ∃ (key : Option (List Byte)) (k : List Byte), key = some k :=
  ⟨some (zeros 32), zeros 32, rfl⟩

theorem test_witness_WrongTagsCountAndTheEighthLocks : (∃ (sp : OpSpec) (p : Packet) (s : State), hostUp s = true ∧ portBlocked
    s p.port = false ∧ p.crc.toNat = crc32c (cmdBytes sp.opcode p) ∧ cacheFind s sp.opcode p = none ∧ outstanding s p.port < 8 ∧
    s.ecsol.held = [] ∧ s.ecsol.window = .none ∧ bitsOf p.flags.toNat 7 4 = 0 ∧ permitted s.security.life sp.opcode = true ∧
    cmdAuth p = true ∧ (slotOf s (cmdSlot p)).lockUntil = none ∧ (slotOf s (cmdSlot p)).state = 1 ∧ 7 ≤ (slotOf s (cmdSlot
    p)).failures ∧ (le 16 p.tag.toNat ≠ tagOf (slotOf s (cmdSlot p)).key (cmdSigned sp.opcode p) ∨ p.counter.toNat ≤ (slotOf s
    (cmdSlot p)).highWater)) ∧ (∃ (sp : OpSpec) (p : Packet) (s : State), hostUp s = true ∧ portBlocked s p.port = false ∧
    p.crc.toNat = crc32c (cmdBytes sp.opcode p) ∧ cacheFind s sp.opcode p = none ∧ outstanding s p.port < 8 ∧ s.ecsol.held = []
    ∧ s.ecsol.window = .none ∧ bitsOf p.flags.toNat 7 4 = 0 ∧ permitted s.security.life sp.opcode = true ∧ cmdAuth p = true ∧
    ((slotOf s (cmdSlot p)).lockUntil ≠ none ∨ (slotOf s (cmdSlot p)).state ≠ 1)) :=
  ⟨⟨specSysStatus, signed 0x0102 [] 0, keyed 7, by decide +kernel⟩,
    ⟨specSysStatus, signed 0x0102 [] 0, up, by decide +kernel⟩⟩

theorem test_witness_QueriesChangeNothing : (∃ sp ∈ [specSysIdentify, specSysStatus, specSysErrlogRead, specPrfQuery,
    specAprStatus, specAcqResults, specTrkStatus, specCalStatus, specClkStatus, specLnkStatus, specKrnStatus, specBstResults,
    specSecCounterQuery], ∃ (p : Packet) (s : State), (Accepted sp p s)) ∧ (∃ (p : Packet) (s : State), u8 p.params 1 = 0) :=
  ⟨⟨specSysStatus, by simp, mk specSysStatus.opcode [], up, accepted_mk _ _ _ (by decide +kernel)⟩,
    ⟨mk specMemStatus.opcode [0, 0, 0, 0], up, by decide +kernel⟩⟩

theorem test_witness_PacketBytesRunTheirCommand : (∃ (op : BitVec 16) (p : Packet) (s : State), (p.port = .spi) ∧
    (p.params.length ≤ 4096) ∧ (cmdAuth p = false → p.counter = 0 ∧ p.tag = 0) ∧ (p.crc.toNat = crc32c (cmdBytes op.toNat p)) ∧
    (hostUp s = true) ∧ (portBlocked s .spi = false) ∧ (portOf s .spi).asm = []) ∧ (∃ (port : HostPort) (s : State), (portOf s
    port).asm = []) ∧ (∃ (op : BitVec 16) (p : Packet) (s : State), ((p.port = .pcie) ∧ (p.params.length ≤ 4096) ∧ (cmdAuth p =
    false → p.counter = 0 ∧ p.tag = 0) ∧ (p.crc.toNat = crc32c (cmdBytes op.toNat p)) ∧ (pcieUp s = true) ∧ (hostUp s = true) ∧
    (s.pcie.cmdEn = true) ∧ (s.pcie.head < 16) ∧ (s.pcie.tail = s.pcie.head)) ∧ ∃ bs, bs = (cmdBytes op.toNat p ++ le 4
    p.crc.toNat) ∧ (tgetMany 0 s.pcie.slots (6144 * (s.pcie.head % 8)) bs.length = bs) ∧ (portBlocked
    { s with pcie.tail := (s.pcie.head + 1) % 16 } .pcie = false)) :=
  ⟨⟨0x0102, mk 0x0102 [], up, by decide +kernel⟩,
    ⟨.spi, up, by decide +kernel⟩,
    ⟨0x0102, { mk 0x0102 [] with port := .pcie }, (slotted 0x0102 (mk 0x0102 [])), by decide +kernel, _, rfl, by decide +kernel⟩⟩

theorem test_witness_QueuesShedOnlyClassTwo : (∃ (it : QItem), (it.sent = 0)) ∧ (∃ (cap : Nat) (it : QItem) (q : List QItem), ∃
    x, x = (acceptMsg cap it q) ∧ (x.2.1 = true)) ∧ (∃ (cap : Nat) (it : QItem) (q : List QItem), ∃ x, x = (acceptMsg cap it q)
    ∧ (it.cls ≠ 1) ∧ (x.2.1 = false)) ∧ (∃ (cap : Nat) (it : QItem), (cap < it.bytes.length)) ∧ (∃ (it : QItem), (it.sent = 0) ∧
    (it.cls = 2)) :=
  ⟨⟨{ cls := 0, bytes := [1, 2, 3], sent := 0 }, by decide +kernel⟩,
    ⟨6, { cls := 1, bytes := [1, 2, 3], sent := 0 },
      [{ cls := 1, bytes := [1, 2, 3], sent := 2 }, { cls := 2, bytes := [1, 2, 3], sent := 0 }], _, rfl, by decide +kernel⟩,
    ⟨5, { cls := 0, bytes := [1, 2, 3], sent := 0 }, [{ cls := 1, bytes := [1, 2, 3], sent := 0 }], _, rfl, by decide +kernel⟩,
    ⟨2, { cls := 1, bytes := [1, 2, 3], sent := 0 }, by decide +kernel⟩,
    ⟨{ cls := 2, bytes := [1, 2, 3], sent := 0 }, by decide +kernel⟩⟩

theorem test_witness_ErrorLogKeepsItsCapacity : (∃ (s : State) (code : Nat) (cls : Nat) (inst : Nat), (s.errlog.entries.length ≤
    127) ∧ (s.errlog.entries.Pairwise (fun a b => ¬ sameKind a.code a.cls a.inst b = true))) ∧ (∃ (s : State) (code : Nat) (cls
    : Nat) (inst : Nat), (s.errlog.entries.length ≤ 127) ∧ (s.errlog.entries.Pairwise (fun a b => ¬ sameKind a.code a.cls a.inst
    b = true)) ∧ ∃ e ∈ s.errlog.entries, (sameKind code cls inst e = true)) ∧ (∃ (s : State) (code : Nat) (sev : Nat) (cls :
    Nat) (inst : Nat), (s.errlog.entries.length ≤ 127) ∧ (s.errlog.entries.Pairwise (fun a b => ¬ sameKind a.code a.cls a.inst b
    = true)) ∧ ∃ e ∈ s.errlog.entries, (sameKind code cls inst e = false) ∧ (sev ≤ e.sev)) ∧ (∃ (s : State) (code : Nat) (cls :
    Nat) (inst : Nat), (s.errlog.entries.length ≤ 127) ∧ (s.errlog.entries.Pairwise (fun a b => ¬ sameKind a.code a.cls a.inst b
    = true)) ∧ (∀ e ∈ s.errlog.entries, sameKind code cls inst e = false) ∧ (s.errlog.entries.length < 127)) :=
  ⟨⟨{ up with errlog.entries := [{ code := 0x46, sev := 1, cls := 10, inst := 0, count := 2, reset := 0, first := 0, last := 1, unreported := true, sentMs := none }] },
      0x47, 10, 0, by decide +kernel, (by simp)⟩,
    ⟨{ up with errlog.entries := [{ code := 0x46, sev := 1, cls := 10, inst := 0, count := 2, reset := 0, first := 0, last := 1, unreported := true, sentMs := none }] },
      0x46, 10, 0, by decide +kernel, (by simp),
      { code := 0x46, sev := 1, cls := 10, inst := 0, count := 2, reset := 0, first := 0, last := 1, unreported := true, sentMs := none },
      List.mem_cons_self, by decide +kernel⟩,
    ⟨{ up with errlog.entries := [{ code := 0x46, sev := 1, cls := 10, inst := 0, count := 2, reset := 0, first := 0, last := 1, unreported := true, sentMs := none }] },
      0x47, 1, 10, 0, by decide +kernel, (by simp),
      { code := 0x46, sev := 1, cls := 10, inst := 0, count := 2, reset := 0, first := 0, last := 1, unreported := true, sentMs := none },
      List.mem_cons_self, by decide +kernel⟩,
    ⟨{ up with errlog.entries := [{ code := 0x46, sev := 1, cls := 10, inst := 0, count := 2, reset := 0, first := 0, last := 1, unreported := true, sentMs := none }] },
      0x47, 10, 0, by decide +kernel, (by simp), by decide +kernel⟩⟩

theorem test_witness_ResetsAndWakesLeaveTheDefaults : (∃ (s : State) (q : StopSeq), s.power.seq = some q ∧ sequenceRipe q s =
    true ∧ q.restart = true) ∧ (∃ (s : State) (q : StopSeq), s.power.seq = some q ∧ sequenceRipe q s = true ∧ q.restart = false
    ∧ s.power.latched = 0) ∧ (∃ (s : State) (o : SecOp) (m : Nat), s.security.op = some o ∧ o.doneMs = some m ∧ instantReached
    (m + 10) s = true) ∧ ((∃ s : State, s.power.mode = .off) ∧ ∃ s : State, s.power.mode = .run ∧ s.power.inReset = false) ∧ (∃
    (t : State) (ms : Nat), 1 ≤ ms ∧ t.power.mode = .stop ∧ t.power.latched ≠ 0 ∧ t.profile = State.reset.profile ∧ (∀ b, 1 ≤ b
    → (bankOf t b).owner = 1 ∧ (bankOf t b).rotate = false) ∧ (∀ q, (portOf t q).cache = [] ∧ (portOf t q).outq = [] ∧ (portOf t
    q).msgSeq = 0) ∧ (∀ n, (ringOf t n).outq = []) ∧ t.rates.rateHz = 10 ∧ t.rates.tulDiv = 0 ∧ t.bankMem = [] ∧ (∀ k, (coreOf t
    k).phase = .idle) ∧ (∀ k, (slotOf t k).lockUntil = none ∧ (slotOf t k).failures = 0)) :=
  ⟨⟨{ up with power.seq := some { restart := true, reply := some (.spi, 5), atMs := 3 } }, { restart := true, reply := some (.spi, 5), atMs := 3 }, by decide +kernel⟩,
    ⟨{ up with power.seq := some { restart := false, reply := some (.spi, 5), atMs := 3 } }, { restart := false, reply := some (.spi, 5), atMs := 3 }, by decide +kernel⟩,
    ⟨{ up with ms := 15, security.op := some { zeroize := true, erase := true, scope := 3, burn := none, erased := true, doneMs := some 5 } }, _, 5, rfl, by decide +kernel⟩,
    ⟨⟨{ up with power.mode := .off }, rfl⟩, up, by decide +kernel⟩,
    ⟨{ State.reset with power := { State.reset.power with mode := .stop, latched := 1 } }, 1, by decide, rfl, by decide, rfl, (fun b hb => match b, hb with | 1, _ | 2, _ | 3, _ => by decide | n + 4, _ => by simp [bankOf, tget, State.reset, Bank.survey, Bank.initial]), (fun _ => ⟨rfl, rfl, rfl⟩), (fun _ => rfl), rfl, rfl, rfl, (fun _ => rfl), fun _ => ⟨rfl, rfl⟩⟩⟩

theorem test_witness_BankBytesReadBack : (∃ (addr : Nat) (bytes : List Byte), ∃ (a : Nat), (addr ≤ a) ∧ (a < addr +
    bytes.length)) ∧ (∃ (addr : Nat) (bytes : List Byte), ∃ (a : Nat), (a < addr ∨ addr + bytes.length ≤ a)) ∧ (∃ (addr : Nat)
    (bytes : List Byte), ∃ (g : Nat), (addr ≤ 32 * g) ∧ (32 * g + 32 ≤ addr + bytes.length)) ∧ (∃ (addr : Nat) (bytes : List
    Byte), ∃ (g : Nat), (32 * g + 32 ≤ addr ∨ addr + bytes.length ≤ 32 * g)) ∧ (∃ (addr : Nat) (bytes : List Byte) (s : State),
    ∃ (g : Nat), (poisoned s g = true) ∧ (¬ (addr ≤ 32 * g ∧ 32 * g + 32 ≤ addr + bytes.length))) :=
  ⟨⟨30, [1, 2, 3], 32, by decide +kernel⟩,
    ⟨30, [1, 2, 3], 33, by decide +kernel⟩,
    ⟨32, (zeros 32), 1, by decide +kernel⟩,
    ⟨32, (zeros 31), 2, by decide +kernel⟩,
    ⟨32, (zeros 31), { up with poison := [(1, true)] }, 1, by decide +kernel⟩⟩

theorem test_witness_OwnersAloneWriteTheirBank : (∃ (off : BitVec 24) (bs : List Byte) (fe : Bool) (errs : List Nat) (s t :
    State), exec (.bar2Write off bs fe errs) s = .next t ∧ (bankOf s (off.toNat / 1048576)).owner ≠ 1) ∧ (∃ (b : Fin 16) (v :
    BitVec 32) (s t : State), exec (.ownerWrite b v) s = .next t ∧ (bankOf s b).owner ≠ 1) ∧ (∃ (k : Fin 16) (stall errs : Nat)
    (s t : State), exec (.postedStoreCommit k stall errs) s = .next t ∧ (coreOf s k).posted ≠ [] ∧ ∀ p ∈ (coreOf s k).posted,
    (bankOf s (p.slot / 262144)).owner ≠ 0x10 + k.val) :=
  ⟨⟨0x000000, [1, 2, 3, 4], true, [], { up with pcie.link := some { gen := 0, wide := false } }, _, rfl, by decide +kernel⟩,
    ⟨0, 0x10, { up with pcie.link := some { gen := 0, wide := false } }, _, rfl, by decide +kernel⟩,
    ⟨0, 0, 0, withCore 0 { running (.ctl .nop) with posted := [{ slot := 0x80000, val := 5, tag := false, part := none, gen := 1 }] }, _, rfl, by decide +kernel, by decide +kernel⟩⟩

theorem test_witness_EveryStepKeepsTheBankInvariant : ∃ (s t : State), BanksOk s ∧ step s = .next t :=
  ⟨{ up with pending := [.cmdEn true quietObs] }, _, ⟨by decide +kernel, by decide +kernel, by decide +kernel⟩, rfl⟩

theorem test_witness_KernelCodecAgrees : (∃ (tr : Bool) (pc : Nat) (i : KInstr), (kWellFormed tr pc i = true)) ∧ (∃ (tr : Bool)
    (pc : Nat) (w : Nat) (v : Nat) (i : KInstr), (w < 2 ^ 24) ∧ (v < 2 ^ 24) ∧ (kDecode tr pc w v = some i)) :=
  ⟨⟨false, 0, .alu .add 7 6 5, by decide +kernel⟩,
    ⟨false, 0, 0x69FFFD, 0, ((kDecode false 0 0x69FFFD 0).get (by decide +kernel)), by decide +kernel⟩⟩

theorem test_witness_ModeZeroIgnoresBaseAndLength : ∃ (c : Core) (c' : Core) (p : Fin 8) (w : Nat) (i : Nat), (w ∈ [7, 9, 10]) ∧
    (i < 2 ^ w) ∧ (kReg c (8 + p)).v = (kReg c' (8 + p)).v :=
  ⟨(running (.ctl .nop)), { running (.ctl .nop) with regs := [(18, { v := 5, t := true })] }, 2, 10, 1023, by decide +kernel⟩

theorem test_witness_KernelArithmeticIsExact : (∃ (a : BitVec 24) (b : BitVec 24), (b ≠ 0) ∧ (¬ (a = 0x800000 ∧ b = 0xFFFFFF)))
    ∧ (∃ (b : BitVec 24), (24 ≤ b.toInt)) ∧ (∃ (b : BitVec 24), (0 ≤ b.toInt) ∧ (b.toInt < 24)) ∧ (∃ (a : BitVec 24) (b : BitVec
    24), (bcdBad a = false) ∧ (bcdBad b = false)) ∧ (∃ (a : BitVec 24), (a ≠ 0)) :=
  ⟨⟨0x800000, 0x000001, by decide +kernel⟩,
    ⟨24, by decide +kernel⟩,
    ⟨23, by decide +kernel⟩,
    ⟨0x999999, 0x000001, by decide +kernel⟩,
    ⟨1, by decide +kernel⟩⟩

theorem test_witness_AccumulatorsHoldLongSums : (∃ (l : List (BitVec 24 × BitVec 24)), ∃ z, z = ((l.map (fun x => 2 * (x.1.toInt
    * x.2.toInt))).sum) ∧ (-2 ^ 55 ≤ z) ∧ (z < 2 ^ 55)) ∧ (∃ (l : List (BitVec 24 × BitVec 24)), (l.length ≤ 255)) :=
  ⟨⟨[(0x800000, 0x800000)], _, rfl, by decide +kernel⟩,
    ⟨[(0x800000, 0x800000)], by decide +kernel⟩⟩

theorem test_witness_KernelRowsTouchOneCore : (∃ (k : Fin 16) (i : KInstr) (c1 : Core) (pc : Nat) (taken : Bool) (cycles : Nat)
    (s : State), ∃ x, x = (kComplete (coreOf s k) (kWrites i) c1 pc taken cycles) ∧ (x.2 = none) ∧ (¬ (x.1.stopDue = true ∧
    x.1.rep = none))) ∧ (∃ (k : Fin 16) (i : KInstr) (c1 : Core) (pc : Nat) (taken : Bool) (cycles : Nat) (s : State), ∃ x, x =
    (kComplete (coreOf s k) (kWrites i) c1 pc taken cycles) ∧ ((x.2 = none) ∧ (¬ (x.1.stopDue = true ∧ x.1.rep = none))) ∧ ∃ (j
    : Nat), (j ≠ k.val)) :=
  ⟨⟨0, .alu .add 7 6 5, (running (.ctl .nop)), 1, false, 1, (withCore 0 (running (.ctl .nop))), _, rfl, by decide +kernel⟩,
    ⟨0, .alu .add 7 6 5, (running (.ctl .nop)), 1, false, 1, (withCore 0 (running (.ctl .nop))), _, rfl, by decide +kernel, 1,
      by decide +kernel⟩⟩

end Sys2Proof.Tests
end

/-! SUPPORT. What the statements about the architecture need of the model: the banks' poison, the order of a packet's checks, what a
reset leaves, and what the commands of profiles and power answer. -/
namespace Sys2Proof.Laws

open Sys2Proof.Machine Sys2Proof.Safety

/-! ### Lists of indices and folds over them -/

@[simp] theorem mem_upto {n i : Nat} : i ∈ upto n ↔ i < n := by
  induction n with
  | zero => simp [upto]
  | succ n ih => simp only [upto, List.mem_append, ih, List.mem_singleton]; omega

@[simp] theorem mem_maskBits {n m i : Nat} : i ∈ maskBits n m ↔ i < n ∧ m.testBit i = true := by
  simp [maskBits]

/-- What every step of a fold keeps holds after the fold. -/
theorem foldS_keeps {α σ : Type} {P : σ → Prop} (f : α → σ → σ) (hf : ∀ a s, P s → P (f a s)) (l : List α) {s : σ} (hs : P s) :
    P (foldS f l s) :=
  List.foldlRecOn (motive := P) l _ hs (fun t ht a _ => hf a t ht)

/-- Below every index of a table, an index reads as the default. -/
theorem tget_of_above {α : Type} (d : α) {n k : Nat} {t : Tab α} (h : Above n t) (hk : k < n) : tget d t k = d := by
  induction t with
  | nil => rfl
  | cons x t ih =>
    obtain ⟨j, v⟩ := x
    have hj : n ≤ j := h (j, v) (List.mem_cons_self ..)
    simp only [tget, show k ≠ j by omega, if_false]
    exact ih (fun y hy => h y (List.mem_cons_of_mem _ hy))

/-! ### The poison of the banks' granules (01 R34, R35; 15 R582) -/

theorem mem_granulesOf {addr n g : Nat} : g ∈ granulesOf addr n ↔ n ≠ 0 ∧ addr / 32 ≤ g ∧ g ≤ (addr + n - 1) / 32 := by
  unfold granulesOf granuleOf
  by_cases hn : n = 0
  · simp [hn]
  · simp only [hn, if_false, List.mem_map, mem_upto, not_false_eq_true, ne_eq, true_and]
    constructor
    · rintro ⟨k, hk, rfl⟩; omega
    · rintro ⟨h1, h2⟩; exact ⟨g - addr / 32, by omega, by omega⟩

@[simp] theorem poisoned_setPoison_self (g : Nat) (x : Bool) (s : State) : poisoned (setPoison g x s) g = x :=
  tget_tset_self false s.poison g x

theorem poisoned_setPoison_ne {g h : Nat} (x : Bool) (s : State) (hne : h ≠ g) :
    poisoned (setPoison g x s) h = poisoned s h :=
  tget_tset_ne false s.poison x hne

theorem Sends.poison {s t : State} (h : Sends s t) : t.poison = s.poison := by
  have := congrArg State.poison h.quiet; exact this

/-- Decoding leaves the poison of every granule alone, or poisons the one that it decodes (01 R34). -/
theorem decodeGranule_poison (g errs : Nat) (s : State) :
    (decodeGranule g errs s).1.poison = s.poison ∨ (decodeGranule g errs s).1.poison = (setPoison g true s).poison := by
  unfold decodeGranule
  simp only
  split
  · exact .inl rfl
  · split
    · exact .inl rfl
    · split
      · exact .inl rfl
      · exact .inr ((sends_postStatus _ _ _ _).poison.trans (sends_logErr _ _ _ _ _).poison)

theorem poisoned_decodeGranule_ne {g h : Nat} (errs : Nat) (s : State) (hne : h ≠ g) :
    poisoned (decodeGranule g errs s).1 h = poisoned s h := by
  rcases decodeGranule_poison g errs s with e | e
  · exact congrArg (tget false · h) e
  · exact (congrArg (tget false · h) e).trans (poisoned_setPoison_ne true s hne)

theorem poisoned_decodeGranule_of_poisoned {g h : Nat} (errs : Nat) {s : State} (hp : poisoned s h = true) :
    poisoned (decodeGranule g errs s).1 h = true := by
  by_cases hne : h = g
  · subst hne
    rcases decodeGranule_poison h errs s with e | e
    · exact (congrArg (tget false · h) e).trans hp
    · exact (congrArg (tget false · h) e).trans (poisoned_setPoison_self h true s)
  · rw [poisoned_decodeGranule_ne errs s hne, hp]

theorem poisoned_decodeGranules_out {gs : List Nat} {h : Nat} (errs : List Nat) (s : State) (hout : h ∉ gs) :
    poisoned (decodeGranules gs errs s).1 h = poisoned s h := by
  induction gs generalizing errs s with
  | nil => rfl
  | cons g gs ih =>
    simp only [List.mem_cons, not_or] at hout
    exact (ih errs.tail _ hout.2).trans (poisoned_decodeGranule_ne _ s hout.1)

theorem poisoned_decodeGranules_of_poisoned (gs : List Nat) {h : Nat} (errs : List Nat) {s : State} (hp : poisoned s h = true) :
    poisoned (decodeGranules gs errs s).1 h = true := by
  induction gs generalizing errs s with
  | nil => exact hp
  | cons g gs ih => exact ih errs.tail (poisoned_decodeGranule_of_poisoned _ hp)

/-- The granule lies wholly inside the `n` bytes from `addr`. -/
def writtenWhole (addr n g : Nat) : Bool := decide (addr ≤ 32 * g ∧ 32 * g + 32 ≤ addr + n)

/-- What a write leaves of a granule's poison: the tag of the data, and its old poison where the write is partial. -/
def tagGranule (addr n : Nat) (tag : Bool) (g : Nat) (s : State) : State :=
  setPoison g (tag || (!writtenWhole addr n g && poisoned s g)) s

theorem poisoned_tagGranule_self (addr n : Nat) (tag : Bool) (g : Nat) (s : State) :
    poisoned (tagGranule addr n tag g s) g = (tag || (!writtenWhole addr n g && poisoned s g)) :=
  poisoned_setPoison_self g _ s

theorem poisoned_tagGranule_ne (addr n : Nat) (tag : Bool) {g h : Nat} (s : State) (hne : h ≠ g) :
    poisoned (tagGranule addr n tag g s) h = poisoned s h :=
  poisoned_setPoison_ne _ s hne

theorem poisoned_foldTag_out (addr n : Nat) (tag : Bool) {gs : List Nat} {h : Nat} (s : State) (hout : h ∉ gs) :
    poisoned (foldS (tagGranule addr n tag) gs s) h = poisoned s h := by
  induction gs generalizing s with
  | nil => rfl
  | cons g gs ih =>
    simp only [List.mem_cons, not_or] at hout
    exact (ih _ hout.2).trans (poisoned_tagGranule_ne addr n tag s hout.1)

theorem poisoned_foldTag_whole {addr n : Nat} (tag : Bool) {gs : List Nat} {h : Nat} (s : State) (hin : h ∈ gs)
    (hw : writtenWhole addr n h = true) : poisoned (foldS (tagGranule addr n tag) gs s) h = tag := by
  induction gs generalizing s with
  | nil => simp at hin
  | cons g gs ih =>
    by_cases hgs : h ∈ gs
    · exact ih _ hgs
    · obtain rfl : h = g := by simpa [hgs] using hin
      have last := poisoned_foldTag_out addr n tag (tagGranule addr n tag h s) hgs
      rw [poisoned_tagGranule_self, hw] at last
      exact last.trans (by simp)

theorem poisoned_foldTag_of_poisoned {addr n : Nat} (tag : Bool) {h : Nat} (gs : List Nat) {s : State}
    (hw : writtenWhole addr n h = false) (hp : poisoned s h = true) : poisoned (foldS (tagGranule addr n tag) gs s) h = true := by
  refine foldS_keeps (P := fun t => poisoned t h = true) _ (fun g t ht => ?_) gs hp
  by_cases hne : h = g
  · subst hne; rw [poisoned_tagGranule_self, hw, ht]; simp
  · rw [poisoned_tagGranule_ne addr n tag t hne, ht]

/-- The poison after a bank write: the granules written in part are decoded, and each granule touched then takes its tag. -/
theorem poisoned_writeBank (addr : Nat) (bytes : List Byte) (tag : Bool) (errs : List Nat) (s : State) (g : Nat) :
    poisoned (writeBank addr bytes tag errs s) g =
      poisoned (foldS (tagGranule addr bytes.length tag) (granulesOf addr bytes.length)
        (decodeGranules ((granulesOf addr bytes.length).filter (fun g => !writtenWhole addr bytes.length g)) errs s).1) g :=
  rfl

/-! ### The command engine's checks, in the order of 02 R63 -/

theorem authNeeded_iff (l : LifeCycle) : authNeeded l = true ↔ l = .provisioned ∨ l = .deployed := by
  simp [authNeeded]

/-- Step 7: the first of its checks that fails, and what it counts (02 R84, R91, R94 to R97). -/
theorem authStep_eq (sp : OpSpec) (p : Packet) (s : State) :
    authStep sp p s =
      if cmdAuth p = false ∧ sp.critical = true ∧ (s.security.life = .provisioned ∨ s.security.life = .deployed) then
        .inl (.authRequired, s)
      else if cmdAuth p = true ∧ (slotOf s (cmdSlot p)).lockUntil ≠ none then .inl (.authLocked, s)
      else if cmdAuth p = true ∧ (slotOf s (cmdSlot p)).state ≠ 1 then .inl (.authFail, s)
      else if cmdAuth p = true ∧ le 16 p.tag.toNat ≠ tagOf (slotOf s (cmdSlot p)).key (cmdSigned sp.opcode p) then
        .inl (.authFail, countFailure (cmdSlot p) s)
      else if cmdAuth p = true ∧ p.counter.toNat ≤ (slotOf s (cmdSlot p)).highWater then
        .inl (.counterStale, countFailure (cmdSlot p) s)
      else .inr (signKey s p, if cmdAuth p then modSlot (cmdSlot p) (fun x => { x with failures := 0 }) s else s) := by
  unfold authStep signKey
  cases cmdAuth p
  · simp [authNeeded_iff]
  · simp [Option.isSome_iff_ne_none]

/-- Steps 8 and 9 of a packet that step 7 has answered (02 R63). -/
def afterAuth (sp : OpSpec) (p : Packet) : (Status × State) ⊕ (Option (List Byte) × State) → State
  | .inl (st, t) => finish sp.opcode p st 0 [] none t
  | .inr (key, t) =>
    if lengthOk sp p = false then finish sp.opcode p .badLength 0 [] key t
    else match islandStep sp p t with
      | some st => finish sp.opcode p st 0 [] key t
      | none => reachCmd sp p key t

/-- Steps 4 to 9: FLAGS and the life cycle come before step 7, and the rest after it (02 R63). -/
theorem checkCmd_eq (sp : OpSpec) (p : Packet) (s : State) :
    checkCmd sp p s =
      if bitsOf p.flags.toNat 7 4 ≠ 0 ∨ (cmdAuth p = false ∧ cmdSlot p ≠ 0) then finish sp.opcode p .badValue 0 [] none s
      else if permitted s.security.life sp.opcode = false then finish sp.opcode p .lifecycle 0 [] none s
      else afterAuth sp p (authStep sp p s) := by
  simp only [checkCmd, Bool.not_eq_true']
  rfl

/-- A new packet with a right CRC: the room, the queue and the window of step 3 come before the later steps (02 R63, R68, R667). -/
theorem runCmd_of_new {sp : OpSpec} {p : Packet} {s : State} (hup : hostUp s = true) (hport : portBlocked s p.port = false)
    (hcrc : p.crc.toNat = crc32c (cmdBytes sp.opcode p)) (hnew : cacheFind s sp.opcode p = none) :
    runCmd sp p s =
      if 8 ≤ outstanding s p.port then finish sp.opcode p .busy 0 [] none (wakeFirmware s)
      else if s.ecsol.held ≠ [] ∧ s.ecsol.window = .none then queueBehind sp.opcode p (wakeFirmware s)
      else if s.ecsol.window ≠ .none then finish sp.opcode p .badState 0 [] none (wakeFirmware s)
      else checkCmd sp p (wakeFirmware s) := by
  have hcache : cacheFind (wakeFirmware s) sp.opcode p = none := hnew
  simp only [runCmd, frontCmd, hup, hport, hcrc, fromCache, hcache, windowStep, Bool.not_true, Bool.or_self, Bool.false_eq_true,
    if_false, ne_eq, not_true_eq_false, Bool.not_eq_true', List.isEmpty_eq_false_iff]
  rfl

/-! ### The key slots through a main-domain reset (02 R98, 16 R611) -/

/-- A slot without failures counted and not locked; its key, state and high-water mark stay. -/
def clearedSlot (x : KeySlot) : KeySlot := { x with failures := 0, lockUntil := none }

/-- The slots that a main-domain reset leaves. -/
def clearedSlots (slots : Tab KeySlot) : Tab KeySlot :=
  slots.foldl (fun t x => tset KeySlot.empty t x.1 (clearedSlot x.2)) []

theorem clearedSlots_unlocked (slots : Tab KeySlot) (k : Nat) :
    (tget KeySlot.empty (clearedSlots slots) k).lockUntil = none ∧ (tget KeySlot.empty (clearedSlots slots) k).failures = 0 := by
  refine List.foldlRecOn (motive := fun t => (tget KeySlot.empty t k).lockUntil = none ∧ (tget KeySlot.empty t k).failures = 0)
    slots _ ⟨rfl, rfl⟩ (fun t ht x _ => ?_)
  by_cases hk : k = x.1
  · subst hk; rw [tget_tset_self]; exact ⟨rfl, rfl⟩
  · rw [tget_tset_ne _ _ _ hk]; exact ht

/-- Clearing the slots of a canonical table onto `acc` gives every slot listed its cleared form, and leaves the others. -/
theorem tget_foldl_cleared (slots acc : Tab KeySlot) (k : Nat) (h : tabWf KeySlot.empty slots = true) :
    tget KeySlot.empty (slots.foldl (fun t x => tset KeySlot.empty t x.1 (clearedSlot x.2)) acc) k =
      if tget KeySlot.empty slots k = KeySlot.empty then tget KeySlot.empty acc k
      else clearedSlot (tget KeySlot.empty slots k) := by
  induction slots generalizing acc with
  | nil => simp [tget]
  | cons x slots ih =>
    obtain ⟨j, v⟩ := x
    obtain ⟨hv, habove, hwf⟩ := (tabWf_cons ..).1 h
    rw [List.foldl_cons, ih _ hwf]
    by_cases hk : k = j
    · subst hk
      simp [tget_of_above KeySlot.empty habove (Nat.lt_succ_self k), tget, hv]
    · simp [tget, hk, tget_tset_ne KeySlot.empty acc (clearedSlot v) hk]

theorem tget_clearedSlots (slots : Tab KeySlot) (k : Nat) (h : tabWf KeySlot.empty slots = true) :
    tget KeySlot.empty (clearedSlots slots) k = clearedSlot (tget KeySlot.empty slots k) := by
  rw [clearedSlots, tget_foldl_cleared slots [] k h]
  split
  · rename_i he; rw [he]; rfl
  · rfl

/-! ### The defaults that every reset leaves (16 R606, R611) -/

/-- The profile, the banks' owners, caches, queues, rates, cores and locks are at their defaults. -/
def AtDefaults (t : State) : Prop :=
  t.profile = State.reset.profile ∧ (∀ b, 1 ≤ b → (bankOf t b).owner = 1 ∧ (bankOf t b).rotate = false)
    ∧ (∀ q, (portOf t q).cache = [] ∧ (portOf t q).outq = [] ∧ (portOf t q).msgSeq = 0) ∧ (∀ n, (ringOf t n).outq = [])
    ∧ t.rates.rateHz = 10 ∧ t.rates.tulDiv = 0 ∧ t.bankMem = [] ∧ (∀ k, (coreOf t k).phase = .idle)
    ∧ (∀ k, (slotOf t k).lockUntil = none ∧ (slotOf t k).failures = 0)

/-- The keys, states and high-water marks of a canonical table of slots are those of before. -/
def KeepsKeys (s t : State) : Prop :=
  tabWf KeySlot.empty s.security.slots = true →
    ∀ k, (slotOf t k).state = (slotOf s k).state ∧ (slotOf t k).key = (slotOf s k).key ∧ (slotOf t k).highWater = (slotOf s k).highWater

theorem KeepsKeys.of_cleared {s t : State} (h : t.security.slots = clearedSlots s.security.slots) : KeepsKeys s t := by
  intro hwf k
  have hk : slotOf t k = clearedSlot (slotOf s k) := by
    rw [slotOf, h]; exact tget_clearedSlots _ k hwf
  rw [hk]; exact ⟨rfl, rfl, rfl⟩

theorem AtDefaults.modPort {t : State} (p : HostPort) {f : PortState → PortState}
    (hf : ∀ x, (f x).cache = x.cache ∧ (f x).outq = x.outq ∧ (f x).msgSeq = x.msgSeq) (h : AtDefaults t) :
    AtDefaults (modPort p f t) := by
  obtain ⟨hprofile, hbanks, hports, hrest⟩ := h
  refine ⟨hprofile, hbanks, fun q => ?_, hrest⟩
  by_cases hq : q = p
  · subst hq; rw [portOf_modPort_self, (hf _).1, (hf _).2.1, (hf _).2.2]; exact hports q
  · rw [portOf_modPort_ne _ _ hq]; exact hports q

/-- The routes after a reset are those of 12 R488 and no others. -/
theorem reset_routed_iff (m : Nat) : (routeOf State.reset m).ports ≠ 0 ↔ m ∈ [0x86, 0x87, 0x8D, 0x8E, 0x8F] := by
  by_cases hm : m ∈ [0x86, 0x87, 0x8D, 0x8E, 0x8F]
  · refine iff_of_true ?_ hm
    simp only [List.mem_cons, List.not_mem_nil, or_false] at hm
    rcases hm with rfl | rfl | rfl | rfl | rfl <;> decide
  · refine iff_of_false (fun hports => hports ?_) hm
    simp only [List.mem_cons, List.not_mem_nil, or_false, not_or] at hm
    obtain ⟨h86, h87, h8D, h8E, h8F⟩ := hm
    have hoff : routeOf State.reset m = Route.off := by
      simp only [routeOf, State.reset, Ecsol.initial, tget, h86, h87, h8D, h8E, h8F, if_false]
    rw [hoff]; rfl

theorem bankOf_reset (b : Nat) (hb : 1 ≤ b) : (bankOf State.reset b).owner = 1 ∧ (bankOf State.reset b).rotate = false := by
  match b, hb with
  | 1, _ | 2, _ | 3, _ => exact ⟨rfl, rfl⟩
  | n + 4, _ => simp [bankOf, tget, State.reset, Bank.survey, Bank.initial]

/-- What a main-domain reset leaves, but for MRAM: the defaults and the cleared slots. -/
theorem atDefaults_of_reset {t : State} (hprofile : t.profile = State.reset.profile) (hbanks : t.banks = State.reset.banks)
    (hecsol : t.ecsol = State.reset.ecsol) (hpcie : t.pcie = State.reset.pcie) (hrates : t.rates = State.reset.rates)
    (hmem : t.bankMem = []) (hcores : t.kernels.cores = []) (slots : Tab KeySlot) (hslots : t.security.slots = clearedSlots slots) :
    AtDefaults t := by
  refine ⟨hprofile, fun b hb => ?_, fun q => ?_, fun n => ?_, ?_, ?_, hmem, fun k => ?_, fun k => ?_⟩
  · rw [bankOf, hbanks]; exact bankOf_reset b hb
  · rw [portOf, hecsol]; exact ⟨rfl, rfl, rfl⟩
  · rw [ringOf, hpcie]; rfl
  · rw [hrates]; rfl
  · rw [hrates]; rfl
  · rw [coreOf, hcores]; rfl
  · rw [slotOf, hslots]; exact clearedSlots_unlocked slots k

theorem AtDefaults.keepMram {t : State} (s : State) (h : AtDefaults t) : AtDefaults (keepMram s t) := h

/-- The defaults hold, and the key slots are `slots`. -/
def DefaultsWith (slots : Tab KeySlot) (t : State) : Prop := AtDefaults t ∧ t.security.slots = slots

/-- A reset that keeps the error log keeps whether a port's next class 1 discard makes an entry (12 R463, 16 R611). -/
def rearm (s : State) (p : HostPort) (u : State) : State := modPort p (fun x => { x with dropArmed := (portOf s p).dropArmed }) u

theorem rearm_keeps (s : State) {slots : Tab KeySlot} (p : HostPort) (u : State) (h : DefaultsWith slots u) :
    DefaultsWith slots (rearm s p u) :=
  ⟨h.1.modPort p (fun _ => ⟨rfl, rfl, rfl⟩), h.2⟩

/-- A main-domain reset leaves the defaults, and the slots cleared of failures and locks (02 R98, 16 R611). -/
theorem resetMain_leaves (keepLog : Bool) (s : State) :
    DefaultsWith (clearedSlots s.security.slots) (resetMain keepLog s) := by
  unfold resetMain
  extract_lets r slots _ _ _ _ fresh withArms
  have hfresh : DefaultsWith (clearedSlots s.security.slots) fresh :=
    ⟨atDefaults_of_reset rfl rfl rfl rfl rfl rfl rfl s.security.slots rfl, rfl⟩
  have harms : DefaultsWith (clearedSlots s.security.slots) withArms := by
    clear_value fresh
    simp only [withArms]
    split
    · exact foldS_keeps (rearm s) (rearm_keeps s) allPorts hfresh
    · exact hfresh
  clear_value withArms
  exact ⟨harms.1.keepMram s, harms.2⟩

/-- What every reset leaves: the defaults, and the keys of before. -/
def ResetLeaves (s t : State) : Prop := AtDefaults t ∧ KeepsKeys s t

/-- A main-domain reset with new power registers leaves the defaults and keeps the keys. -/
theorem resetMain_resetLeaves (keepLog : Bool) (s : State) (w : Power) : ResetLeaves s { resetMain keepLog s with power := w } :=
  ⟨(resetMain_leaves keepLog s).1, .of_cleared (resetMain_leaves keepLog s).2⟩

theorem resetWith_resetLeaves (cause detail : Nat) (keepLog : Bool) (s : State) : ResetLeaves s (resetWith cause detail keepLog s) :=
  resetMain_resetLeaves keepLog s _

/-! ### When each row resets, falls into Stop or wakes -/

theorem pinReset_of_run {s : State} (detail : Nat) (h : s.power.mode = .run) : pinReset detail s = resetWith 3 detail true s :=
  if_pos h

theorem fwWatchdog_of_run {s : State} (proc : Nat) (h : s.power.mode = .run) (hout : s.power.inReset = false) :
    fwWatchdog proc s = resetWith 5 proc true s :=
  if_pos ⟨h, by simp [hout]⟩

theorem sysRestartReset_of_ripe {s : State} {q : StopSeq} (hseq : s.power.seq = some q) (hre : q.restart = true)
    (hripe : sequenceRipe q s = true) : sysRestartReset s = resetWith 4 0 true s := by
  simp [sysRestartReset, hseq, hre, hripe]

theorem pwrEnFall_of_ripe {s : State} {q : StopSeq} (hseq : s.power.seq = some q) (hre : q.restart = false)
    (hripe : sequenceRipe q s = true) (hlatch : s.power.latched = 0) :
    ∃ w : Power, w.mode = .stop ∧ pwrEnFall s = { resetMain false s with power := w } :=
  ⟨{ (resetMain false s).power with mode := .stop, pwrEn := false, armed := true }, rfl,
    by simp [pwrEnFall, hseq, hre, hripe, hlatch]⟩

theorem securityReset_of_due {s : State} {o : SecOp} {m : Nat} (hop : s.security.op = some o) (hdone : o.doneMs = some m)
    (hdue : instantReached (m + 10) s = true) :
    securityReset s = resetWith 6 (if o.zeroize then 2 else 1) false { s with security.op := none } := by
  simp [securityReset, hop, hdone, hdue]

theorem vbatPowerOn_of_off {s : State} (h : s.power.mode = .off) :
    ∃ w : Power, vbatPowerOn s = { resetMain false s with power := w } :=
  ⟨_, if_pos h⟩

/-- A wake changes the power registers alone (16 R605). -/
theorem pwrEnRise_of_latched {s : State} {ms : Nat} (hstop : s.power.mode = .stop) (hlatch : s.power.latched ≠ 0) (hms : 1 ≤ ms) :
    ∃ w : Power, w.mode = .run ∧ pwrEnRise ms s = { s with power := w } :=
  ⟨_, rfl, if_pos ⟨hstop, hlatch, hms⟩⟩

/-! ### A row whose packet is accepted -/

/-- A row that runs its command answers what the command commits. -/
theorem exec_of_act_ok {i : Instr} {sp : OpSpec} {p : Packet} {s t : State} {chain : Nat} {payload : List Byte}
    (hrow : exec i s = .next (runCmd sp p s)) (h : Accepted sp p s) (ha : sp.act p (ready sp p s) = .ok chain payload t) :
    exec i s = .next (committed sp p s chain payload t) := by
  rw [hrow, runCmd_ok h ha]

/-! ### Profiles (01 R44, R47 to R49) -/

/-- Every profile's column holds SB0. -/
theorem column_holds_bank0 (n : Nat) : (column n).bankMask.testBit 0 = true := by
  unfold column; split <;> rfl

theorem tryProfile_fits {sel : Nat} {custom : Bool} {e : Envelope} {s : State} (h0 : e.bankMask.testBit 0 = true)
    (hwork : workFits s e = true)
    (hbudget : budgetBroken s { s with profile := { sel := sel, custom := custom, env := e } } = false) :
    tryProfile sel custom e s = done (takeProfile sel custom e s) := by
  simp [tryProfile, h0, hwork, hbudget]

theorem prfSelectAct_fits {p : Packet} {s : State} (hsel : u8 p.params 0 ≤ 4) (hzero : zeroAt p.params 1 3 = true)
    (hwork : workFits s (column (u8 p.params 0)) = true)
    (hbudget : budgetBroken s { s with profile := { sel := u8 p.params 0, custom := false, env := column (u8 p.params 0) } } = false) :
    prfSelectAct p s = done (takeProfile (u8 p.params 0) false (column (u8 p.params 0)) s) := by
  simp [prfSelectAct, Nat.not_lt.2 hsel, hzero, tryProfile_fits (column_holds_bank0 _) hwork hbudget]

theorem prfCustomAct_fits {p : Packet} {s : State} (hok : customOk p.params = true) (hinside : insideColumn (envIn p.params) = true)
    (h0 : (envIn p.params).bankMask.testBit 0 = true) (hwork : workFits s (envIn p.params) = true)
    (hbudget : budgetBroken s { s with profile := { sel := (envIn p.params).base, custom := true, env := envIn p.params } } = false) :
    prfCustomAct p s = done (takeProfile (envIn p.params).base true (envIn p.params) s) := by
  simp [prfCustomAct, hok, hinside, tryProfile_fits h0 hwork hbudget]

/-! ### PWR_ISLANDS (01 R25, R26, R30) -/

theorem testBit_setBit_true (m i j : Nat) : (setBit m i true).testBit j = (m.testBit j || decide (i = j)) := by
  simp [setBit, Nat.one_shiftLeft, Nat.testBit_two_pow]

theorem islandOn_foldPowerOn (l : List Nat) (s : State) (i : Nat) :
    islandOn (foldS islandPowerOn l s) i = (islandOn s i || decide (i ∈ l)) := by
  induction l generalizing s with
  | nil => simp [foldS]
  | cons j l ih =>
    have hj : islandOn (islandPowerOn j s) i = (islandOn s i || decide (j = i)) := testBit_setBit_true ..
    rw [show foldS islandPowerOn (j :: l) s = foldS islandPowerOn l (islandPowerOn j s) from rfl, ih, hj]
    simp [Bool.or_assoc, eq_comm]

/-- Powering islands on changes the register of powered islands alone. -/
theorem foldPowerOn_frame (l : List Nat) (s : State) :
    foldS islandPowerOn l s = { s with islands := (foldS islandPowerOn l s).islands }
      ∧ (foldS islandPowerOn l s).islands.ready = s.islands.ready := by
  induction l generalizing s with
  | nil => exact ⟨rfl, rfl⟩
  | cons j l ih => exact ih (islandPowerOn j s)

/-- The islands of a PWR_ISLANDS that are not on. -/
def newIslands (p : Packet) (s : State) : List Nat := (maskBits 43 (u64 p.params 0)).filter (fun i => !countsOn s i)

theorem mem_newIslands {p : Packet} {s : State} {i : Nat} :
    i ∈ newIslands p s ↔ i < 43 ∧ (u64 p.params 0).testBit i = true ∧ countsOn s i = false := by
  simp [newIslands, and_assoc]

theorem pwrIslandsAct_report {p : Packet} {s : State} (hzero : zeroAt p.params 9 3 = true) (hact : u8 p.params 8 = 2)
    (hmask : u64 p.params 0 = 0) : pwrIslandsAct p s = answer (islandsReply s) s := by
  simp [pwrIslandsAct, hzero, hact, hmask]

theorem pwrIslandsAct_off {p : Packet} {s : State} (hrange : u64 p.params 0 < 2 ^ 43) (hzero : zeroAt p.params 9 3 = true)
    (hact : u8 p.params 8 = 0) (hidle : ∀ i ∈ maskBits 43 (u64 p.params 0), countsOn s i = true → islandBusy s i = false) :
    pwrIslandsAct p s = answer (islandsReply (foldS islandOff (maskBits 43 (u64 p.params 0)) s))
      (foldS islandOff (maskBits 43 (u64 p.params 0)) s) := by
  have hbusy : (maskBits 43 (u64 p.params 0)).any (fun i => countsOn s i && islandBusy s i) = false := by
    rw [List.any_eq_false]
    intro i hi hb
    rw [Bool.and_eq_true] at hb
    exact absurd (hidle i hi hb.1) (by simp [hb.2])
  have hrange' : ¬ 2 ^ 43 ≤ u64 p.params 0 := Nat.not_le.2 hrange
  simp only [pwrIslandsAct, hrange', hzero, hact, hbusy]
  rfl

theorem pwrIslandsAct_on {p : Packet} {s : State} (hrange : u64 p.params 0 < 2 ^ 43) (hzero : zeroAt p.params 9 3 = true)
    (hact : u8 p.params 8 = 1)
    (hfit : ∀ i ∈ newIslands p s, islandAllowed s.profile.env i = true ∧ (i < 24 →
      ((upto 24).filter (countsOn s)).length + ((newIslands p s).filter (fun j => decide (j < 24))).length ≤ aprCount s.profile.env)) :
    pwrIslandsAct p s = answer (islandsReply (foldS islandPowerOn (newIslands p s) s)) (foldS islandPowerOn (newIslands p s) s) := by
  have hallowed : (newIslands p s).any (fun i => !islandAllowed s.profile.env i) = false := by
    rw [List.any_eq_false]
    intro i hi
    simp [(hfit i hi).1]
  have hcount : ((newIslands p s).any (fun i => decide (i < 24)) && decide (aprCount s.profile.env <
      ((upto 24).filter (countsOn s)).length + ((newIslands p s).filter (fun i => decide (i < 24))).length)) = false := by
    rw [Bool.and_eq_false_imp, List.any_eq_true]
    rintro ⟨i, hi, h24⟩
    exact decide_eq_false (Nat.not_lt.2 ((hfit i hi).2 (of_decide_eq_true h24)))
  have hrange' : ¬ 2 ^ 43 ≤ u64 p.params 0 := Nat.not_le.2 hrange
  unfold newIslands at *
  simp only [pwrIslandsAct, hrange', hzero, hact, hallowed, hcount]
  rfl

/-! ### Wake sources, stop, restart and parking (16 R595, R601, R602, R614, R615) -/

theorem pwrWakeCfgAct_ok {p : Packet} {s : State} (hlow : 0x08 ≤ u8 p.params 0) (hhigh : u8 p.params 0 ≤ 0x77)
    (hsrc : u8 p.params 1 ≤ 7) (hkeep : u8 p.params 2 ≤ 1) (hppm : 1 ≤ u8 p.params 3) (hppm' : u8 p.params 3 ≤ 200)
    (halarm : (u8 p.params 1).testBit 2 = true ↔ u32 p.params 4 ≠ 0) (htimer : (u8 p.params 1).testBit 2 = true → u8 p.params 2 = 1) :
    pwrWakeCfgAct p s = done { s with
      power.wake := { addr := u8 p.params 0, sources := u8 p.params 1, timekeep := u8 p.params 2 == 1, rtcPpm := u8 p.params 3,
                      alarmS := u32 p.params 4 },
      power.tcValid := s.power.tcValid && u8 p.params 2 == 1 } := by
  have hsame : ((u8 p.params 1).testBit 2 != (u32 p.params 4 != 0)) = false := by
    rw [bne_eq_false_iff_eq, Bool.eq_iff_iff, halarm, bne_iff_ne]
  have hclock : ((u8 p.params 1).testBit 2 && u8 p.params 2 == 0) = false := by
    rw [Bool.and_eq_false_imp]
    intro h
    rw [htimer h]; rfl
  have hppm0 : (u8 p.params 3 == 0) = false := beq_eq_false_iff_ne.2 (by omega)
  simp [pwrWakeCfgAct, Nat.not_lt.2 hlow, Nat.not_lt.2 hhigh, Nat.not_lt.2 hsrc, Nat.not_lt.2 hkeep, hppm0, Nat.not_lt.2 hppm',
    hsame, hclock]

theorem enterSequence_parkPending (restart park : Bool) (p : Packet) (s : State) :
    (enterSequence restart park p s).power.parkPending = true ↔ park = true ∧ nothingToPark s = false := by
  simp [enterSequence]

theorem pwrStopAct_ok {p : Packet} {s : State} (hpark : u8 p.params 0 ≤ 1) (hzero : zeroAt p.params 1 3 = true)
    (hsources : s.power.wake.sources ≠ 0) (hmram : mramBusy s = false) (hseq : s.power.seq = none)
    (hseen : p.obs.wakeSeen.toNat &&& s.power.wake.sources = 0) :
    pwrStopAct p s = done { enterSequence false (u8 p.params 0 == 1) p s with power.armed := true, power.latched := 0 } := by
  have hsome : (s.power.wake.sources == 0) = false := beq_eq_false_iff_ne.2 hsources
  simp [pwrStopAct, Nat.not_lt.2 hpark, hzero, hsome, hmram, hseq, hseen]

theorem sysRestartAct_ok {p : Packet} {s : State} (hpark : u8 p.params 0 ≤ 1) (hzero : zeroAt p.params 1 3 = true)
    (hmram : mramBusy s = false) (hseq : s.power.seq = none) :
    sysRestartAct p s = done (enterSequence true (u8 p.params 0 == 1) p s) := by
  simp [sysRestartAct, Nat.not_lt.2 hpark, hzero, hmram, hseq]

theorem sysParkAct_invalidate {p : Packet} {s : State} (hzero : zeroAt p.params 1 3 = true) (hact : u8 p.params 0 = 1) :
    sysParkAct p s = answer (zeros 4) { s with
      power.parked0 := { s.power.parked0 with valid := false }, power.parked1 := { s.power.parked1 with valid := false } } := by
  simp [sysParkAct, hzero, hact]

theorem sysParkAct_write {p : Packet} {s : State} (hzero : zeroAt p.params 1 3 = true) (hact : u8 p.params 0 = 0)
    (hsome : nothingToPark s = false) :
    sysParkAct p s = answer (le 1 (sat 255 ((parkContent s).orbits.filter (fun o => !o.almanac)).length)
      ++ le 1 (sat 255 ((parkContent s).orbits.filter (·.almanac)).length)
      ++ le 1 (b2n (parkContent s).pos.isSome + 2 * b2n (parkContent s).osc.isSome + 4 * b2n (parkContent s).utc.isSome) ++ [0])
      (writePark s) := by
  simp [sysParkAct, hzero, hact, hsome]

end Sys2Proof.Laws

/-! The statements about the architecture (01), settled. -/
namespace Sys2Proof.Proofs

open Sys2Proof.Machine Sys2Proof.Safety Sys2Proof.Laws

/-- Settles O52: every row that resets, or falls into Stop, is a main-domain reset with new power registers; a wake changes the power
registers alone. -/
theorem resetsAndWakesLeaveTheDefaults : Obligations.ResetsAndWakesLeaveTheDefaults := by
  refine ⟨fun s hrun => ⟨?pin, ?rail, fun proc hout => ?watchdog⟩,
    fun s q hseq hripe => ⟨fun hre => ?restart, fun hre hlatch => ?fall⟩, fun s o m hop hdone hdue => ?security,
    fun s hoff => ?powerOn, fun s ms hstop hlatch hms hd => ?wake⟩
  case pin => exact ⟨_, congrArg Host.Outcome.next (pinReset_of_run 0 hrun), resetWith_resetLeaves ..⟩
  case rail => exact ⟨_, congrArg Host.Outcome.next (pinReset_of_run 1 hrun), resetWith_resetLeaves ..⟩
  case watchdog => exact ⟨_, congrArg Host.Outcome.next (fwWatchdog_of_run proc hrun hout), resetWith_resetLeaves ..⟩
  case restart => exact ⟨_, congrArg Host.Outcome.next (sysRestartReset_of_ripe hseq hre hripe), resetWith_resetLeaves ..⟩
  case fall =>
    obtain ⟨w, hw, heq⟩ := pwrEnFall_of_ripe hseq hre hripe hlatch
    exact ⟨_, congrArg Host.Outcome.next heq, hw, resetMain_resetLeaves false s w⟩
  case security => exact ⟨_, congrArg Host.Outcome.next (securityReset_of_due hop hdone hdue), resetWith_resetLeaves ..⟩
  case powerOn =>
    obtain ⟨w, heq⟩ := vbatPowerOn_of_off hoff
    exact ⟨_, congrArg Host.Outcome.next heq, resetMain_resetLeaves false s w⟩
  case wake =>
    obtain ⟨w, hw, heq⟩ := pwrEnRise_of_latched hstop hlatch hms
    exact ⟨_, congrArg Host.Outcome.next heq, hw, hd, fun _ _ => ⟨rfl, rfl, rfl⟩⟩

/-- Settles O53: the bytes by the laws of the banks' memory, the poison by following each granule through the decoding of the partly
written granules and the tagging of all. -/
theorem bankBytesReadBack : Obligations.BankBytesReadBack := by
  intro addr bytes tag errs s
  refine ⟨fun a h1 h2 => writeBank_in addr bytes tag errs s ⟨h1, h2⟩, fun a h => writeBank_out addr bytes tag errs s h,
    fun g h1 h2 => ?whole, fun g h => ?untouched, fun g hp hw => ?partly⟩
  case whole =>
    rw [poisoned_writeBank]
    exact poisoned_foldTag_whole tag _ (mem_granulesOf.2 (by omega)) (by simp [writtenWhole, h1, h2])
  case untouched =>
    have hout : g ∉ granulesOf addr bytes.length := fun hg => by have := mem_granulesOf.1 hg; omega
    rw [poisoned_writeBank, poisoned_foldTag_out _ _ _ _ hout,
      poisoned_decodeGranules_out _ _ (fun hg => hout (List.mem_filter.1 hg).1)]
  case partly =>
    rw [poisoned_writeBank]
    exact poisoned_foldTag_of_poisoned tag _ (by simpa [writtenWhole] using hw) (poisoned_decodeGranules_of_poisoned _ errs hp)

/-- Settles O3: each accepted form passes its command's own checks, and the row commits what the command then answers. -/
theorem profileAndPowerCommandsComplete : Obligations.ProfileAndPowerCommandsComplete := by
  refine ⟨fun p s h hsel hzero => ?select, fun p s h hok => ?custom, fun p s h => ?query,
    fun p s h hrange hzero => ⟨fun hact hmask => ?report, fun hact hidle => ?off, fun hact hfit => ?on⟩,
    fun p s h hlow hhigh hsrc hkeep hppm hppm' halarm htimer => ?wakeCfg,
    fun p s h hpark hzero hsources hmram hseq hseen => ?stop, fun p s h hpark hzero hmram hseq => ?restart,
    fun p s h hzero => ⟨fun hact => ?invalidate, fun hact hsome => ?park⟩⟩
  case select => exact fun hwork hbudget => exec_of_act_ok rfl h (prfSelectAct_fits hsel hzero hwork hbudget)
  case custom => exact fun hinside h0 hwork hbudget => exec_of_act_ok rfl h (prfCustomAct_fits hok hinside h0 hwork hbudget)
  case query => exact exec_of_act_ok rfl h rfl
  case report => exact exec_of_act_ok rfl h (pwrIslandsAct_report hzero hact hmask)
  case off => exact exec_of_act_ok rfl h (pwrIslandsAct_off hrange hzero hact hidle)
  case on =>
    refine ⟨_, exec_of_act_ok rfl h (pwrIslandsAct_on hrange hzero hact hfit), (foldPowerOn_frame _ _).1, (foldPowerOn_frame _ _).2,
      fun i => ?_⟩
    rw [islandOn_foldPowerOn]
    congr 1
    rw [Bool.eq_iff_iff]
    simp [mem_newIslands, and_assoc]
  case wakeCfg => exact exec_of_act_ok rfl h (pwrWakeCfgAct_ok hlow hhigh hsrc hkeep hppm hppm' halarm htimer)
  case stop =>
    refine ⟨_, exec_of_act_ok rfl h (pwrStopAct_ok hpark hzero hsources hmram hseq hseen), rfl, rfl, rfl, rfl, rfl, ?_⟩
    exact (enterSequence_parkPending false (u8 p.params 0 == 1) p (ready specPwrStop p s)).trans (by simp)
  case restart =>
    refine ⟨_, exec_of_act_ok rfl h (sysRestartAct_ok hpark hzero hmram hseq), rfl, rfl, rfl, ?_⟩
    exact (enterSequence_parkPending true (u8 p.params 0 == 1) p (ready specSysRestart p s)).trans (by simp)
  case invalidate => exact exec_of_act_ok rfl h (sysParkAct_invalidate hzero hact)
  case park => exact exec_of_act_ok rfl h (sysParkAct_write hzero hact hsome)

/-- Settles O39: each value is read off State.reset; the routes are those of the default table and no others. -/
theorem resetLeavesTheValuesOfTheSpec : Obligations.ResetLeavesTheValuesOfTheSpec := by
  have hislands : State.reset.islands.powered = 2 ^ 43 ∧ State.reset.islands.ready = 2 ^ 43 := by decide
  have hbanks : (upto 16).map (fun b => ((bankOf State.reset b).powered, (bankOf State.reset b).owner, (bankOf State.reset b).rotate))
      = (true, 0, false) :: List.replicate 3 (true, 1, false) ++ List.replicate 12 (false, 1, false) := by decide
  have hbanksOk : BanksOk State.reset := ⟨rfl, rfl, rfl⟩
  exact ⟨hislands, rfl, rfl, hbanks,
    -- rates and Nunar
    rfl, rfl, rfl, rfl,
    -- ports, rings and routes
    fun _ => ⟨rfl, rfl, rfl, rfl⟩, fun _ => rfl, rfl, rfl, rfl, reset_routed_iff,
    -- power, error log and key slots
    rfl, rfl, rfl, rfl, fun _ => rfl,
    -- self-test, apertures and Voile
    rfl, fun _ => rfl, fun _ => rfl, rfl,
    -- channels, cores, Damask and link
    fun _ => rfl, fun _ => rfl, rfl, rfl, rfl, rfl, rfl, hbanksOk⟩

/-- Settles O40: the checks of steps 3, 4 to 6, 7 and 8 to 9, each said by its own law, are the statement's own chain. -/
theorem checksAreMadeInOrder : Obligations.ChecksAreMadeInOrder := by
  intro sp p s hup hport hcrc hnew
  have hslot : slotOf (wakeFirmware s) (cmdSlot p) = slotOf s (cmdSlot p) := rfl
  have hlife : (wakeFirmware s).security.life = s.security.life := rfl
  dsimp only
  rw [runCmd_of_new hup hport hcrc hnew, checkCmd_eq, authStep_eq, hslot, hlife]
  simp only [apply_ite (afterAuth sp p)]
  rfl

end Sys2Proof.Proofs

/-! SUPPORT. What the statements about the apertures need of the model: what their commands ask, how a transfer unit crosses, and what
each row of theirs leaves. -/
namespace Sys2Proof.Laws

open Sys2Proof.Machine Sys2Proof.Safety

/-! ### The aperture commands: what their own checks ask (03 R115, R121, R127, R130, R136, R139) -/

/-- A field that addresses one of several, or all of them by 255, is in range. -/
theorem address_inRange {v m : Nat} (h : v ≤ m ∨ v = 255) : (decide (m < v) && v != 255) = false := by
  rcases h with h | h
  · simp [Nat.not_lt.2 h]
  · simp [h]

theorem aprEnableAct_ok {p : Packet} {s : State} (hsome : u32 p.params 0 ≠ 0) (hmask : u32 p.params 0 < 2 ^ 24)
    (hslices : u8 p.params 5 ≤ 15)
    (hact : u8 p.params 4 = 0 ∧ u8 p.params 5 = 0 ∨ u8 p.params 4 = 1 ∧ u8 p.params 5 ≠ 0) (hzero : zeroAt p.params 6 2 = true)
    (hstream : ∀ a ∈ maskBits 24 (u32 p.params 0), streamLost s a (u8 p.params 5) = false)
    (hfit : u8 p.params 4 = 1 → (∀ a ∈ maskBits 24 (u32 p.params 0), s.profile.env.aprMask.testBit a = true) ∧
      ((upto 24).filter (fun a => aprEnabledNext (aprOf s a) || (maskBits 24 (u32 p.params 0)).contains a)).length
        ≤ aprCount s.profile.env) :
    aprEnableAct p s = done (foldS (fun a u => modApr a (fun x => { x with pendEnable := some (u8 p.params 5) }) u)
      (maskBits 24 (u32 p.params 0)) s) := by
  have hsome' : (u32 p.params 0 == 0) = false := beq_eq_false_iff_ne.2 hsome
  have hmask' : decide (2 ^ 24 ≤ u32 p.params 0) = false := decide_eq_false (Nat.not_le.2 hmask)
  have hkept : (maskBits 24 (u32 p.params 0)).any (fun a => streamLost s a (u8 p.params 5)) = false := by
    simpa [List.any_eq_false] using hstream
  simp only [aprEnableAct, hsome', hmask', hkept]
  rcases hact with ⟨hoff, hnone⟩ | ⟨hon, hrun⟩
  · -- disable: SLICES is 0, and the envelope is not asked
    simp [hoff, hnone, hzero]
  · -- enable: inside the envelope
    obtain ⟨hallowed, hcount⟩ := hfit hon
    have hrun' : (u8 p.params 5 == 0) = false := beq_eq_false_iff_ne.2 hrun
    have hinside : (maskBits 24 (u32 p.params 0)).any (fun a => !s.profile.env.aprMask.testBit a) = false := by
      simpa [List.any_eq_false] using hallowed
    simp only [hrun', hinside, decide_eq_false (Nat.not_lt.2 hcount)]
    simp [Nat.not_lt.2 hslices, hon, hzero]

/-- The settings of a slice that APR_CONFIG names (03 R130). -/
def aprConfigSlice (p : Packet) : SliceCfg :=
  { agcMode := u8 p.params 2, agcTarget := u8 p.params 3, agcTc := u8 p.params 4, jiAlert := u8 p.params 5,
    fixedGain := i16 p.params 6, noiseRef := if u16 p.params 8 = 0x8000 then none else some (i16 p.params 8) }

theorem aprConfigAct_ok {p : Packet} {s : State} (hapr : u8 p.params 0 ≤ 23 ∨ u8 p.params 0 = 255)
    (hslice : u8 p.params 1 ≤ 3 ∨ u8 p.params 1 = 255) (hmode : u8 p.params 2 ≤ 2) (htarget : 4 ≤ u8 p.params 3)
    (htarget' : u8 p.params 3 ≤ 16) (htc : u8 p.params 4 ≤ 10) (hgain : -24 ≤ i16 p.params 6) (hgain' : i16 p.params 6 ≤ 192)
    (href : u16 p.params 8 = 0x8000 ∨ -384 ≤ i16 p.params 8 ∧ i16 p.params 8 ≤ 0) (hdb : 3 ≤ u8 p.params 10)
    (hdb' : u8 p.params 10 ≤ 30) (hzero : zeroAt p.params 11 1 = true) (hclip : u16 p.params 12 ≠ 0)
    (hzero' : zeroAt p.params 14 2 = true) :
    aprConfigAct p s = done
      (foldS (fun a u => foldS (fun i v => modSlice a i (fun x => { x with pendCfg := some (aprConfigSlice p) }) v)
          (sliceTargets (u8 p.params 1)) (modApr a (fun x => { x with pendNosig := some (u8 p.params 10, u16 p.params 12) }) u))
        (aprTargets (u8 p.params 0) s) s) := by
  have hclip' : (u16 p.params 12 == 0) = false := beq_eq_false_iff_ne.2 hclip
  have hrange : (!(u16 p.params 8 == 0x8000) && (decide (i16 p.params 8 < -384) || decide (0 < i16 p.params 8))) = false := by
    rcases href with h | ⟨h1, h2⟩
    · simp [h]
    · simp [Int.not_lt.2 h1, Int.not_lt.2 h2]
  simp only [aprConfigAct, address_inRange hapr, address_inRange hslice, hrange, hclip']
  simp [aprConfigSlice, Nat.not_lt.2 hmode, Nat.not_lt.2 htarget, Nat.not_lt.2 htarget', Nat.not_lt.2 htc, Int.not_lt.2 hgain,
    Int.not_lt.2 hgain', Nat.not_lt.2 hdb, Nat.not_lt.2 hdb', hzero, hzero']

/-- The notch that APR_NOTCH names, before it takes effect (03 R121). -/
def aprNotchNew (p : Packet) : Notch :=
  { mode := u8 p.params 3, freq := i32 p.params 4, width := u8 p.params 8, depth := u8 p.params 9, rateK := u8 p.params 10,
    thresh := u8 p.params 11, engaged := false, est := 0, line := none, lowFor := 0, ramp := 0, mem := (0, 0) }

theorem aprNotchAct_ok {p : Packet} {s : State} (hok : notchRangesOk p.params = true)
    (hshared : u8 p.params 0 ≠ 255 ∨ u8 p.params 3 = 2 →
      ∀ a ∈ aprTargets (u8 p.params 0) s, notchModeNext s a (u8 p.params 1) (u8 p.params 2) ≠ 3) :
    aprNotchAct p s = done
      (foldS (fun a u => modSlice a (u8 p.params 1)
          (fun x => { x with pendNotches := tset none x.pendNotches (u8 p.params 2) (some (aprNotchNew p)) }) u)
        (aprTargets (u8 p.params 0) s) s) := by
  have hleft : ((u8 p.params 0 != 255 || u8 p.params 3 == 2)
      && (aprTargets (u8 p.params 0) s).any (fun a => notchModeNext s a (u8 p.params 1) (u8 p.params 2) == 3)) = false := by
    rw [Bool.and_eq_false_imp]
    intro h
    simpa [List.any_eq_false] using hshared (by simpa using h)
  simp only [aprNotchAct, hok, hleft]
  rfl

/-- The blanker that APR_BLANK names (03 R115). -/
def aprBlankNew (p : Packet) : Blanker :=
  { mode := u8 p.params 1, thresh := u8 p.params 2, slices := u8 p.params 3, pre := u8 p.params 4, post := u8 p.params 5,
    run := u8 p.params 6 }

theorem aprBlankAct_ok {p : Packet} {s : State} (hapr : u8 p.params 0 ≤ 23 ∨ u8 p.params 0 = 255)
    (hzero : zeroAt p.params 7 1 = true)
    (hranges : u8 p.params 1 = 0 ∧ zeroAt p.params 2 5 = true ∨
      (u8 p.params 1 = 1 ∧ 16 ≤ u8 p.params 2 ∧ u8 p.params 2 ≤ 127 ∨ u8 p.params 1 = 2 ∧ 12 ≤ u8 p.params 2 ∧ u8 p.params 2 ≤ 60)
      ∧ 1 ≤ u8 p.params 3 ∧ u8 p.params 3 ≤ 15 ∧ u8 p.params 4 ≤ 50 ∧ u8 p.params 5 ≤ 200 ∧ 1 ≤ u8 p.params 6
      ∧ u8 p.params 6 ≤ 16) :
    aprBlankAct p s = done (foldS (fun a u => modApr a (fun x => { x with pendBlanker := some (aprBlankNew p) }) u)
      (aprTargets (u8 p.params 0) s) s) := by
  simp only [aprBlankAct, address_inRange hapr, hzero]
  rcases hranges with ⟨hmode, hoff⟩ | ⟨⟨hmode, hlow, hhigh⟩ | ⟨hmode, hlow, hhigh⟩, hslices, hslices', hpre, hpost, hrun, hrun'⟩
  · simp [hmode, hoff, aprBlankNew]
  · simp [hmode, hlow, hhigh, hslices, hslices', hpre, hpost, hrun, hrun', aprBlankNew]
  · simp [hmode, hlow, hhigh, hslices, hslices', hpre, hpost, hrun, hrun', aprBlankNew]

theorem aprStatusAct_ok {p : Packet} {s : State} (hmask : u32 p.params 0 < 2 ^ 24) :
    aprStatusAct p s = answer
      (le 3 (bitsMask (enabledApertures s)) ++ le 1 (maskBits 24 (u32 p.params 0)).length
        ++ (maskBits 24 (u32 p.params 0)).flatMap (aprEntry s))
      (foldS (fun a u => modApr a (fun x => { x with faults := setBit x.faults 4 false }) u) (maskBits 24 (u32 p.params 0)) s) := by
  simp only [aprStatusAct, decide_eq_false (Nat.not_le.2 hmask), rejectIf_false]

/-- The stream that APR_STREAM starts, before its first epoch (03 R139). -/
def aprStreamNew (p : Packet) : IqStream :=
  { format := u8 p.params 3, left := if u32 p.params 4 = 0 then none else some (u32 p.params 4), block := 0, lost := false,
    stopping := false, started := false, epochMs := 0, offset := 0, buf := [], gain0 := 0, blanked := false, parity := false,
    gainMoved := false, notchMoved := false }

/-- The state in which the stream of APR_STREAM stands on its slice. -/
def aprStreamOn (p : Packet) (s : State) : State :=
  modSlice (u8 p.params 0) (u8 p.params 1) (fun x => { x with stream := some (aprStreamNew p) }) s

theorem aprStreamAct_start {p : Packet} {s : State} (hapr : u8 p.params 0 ≤ 23) (hslice : u8 p.params 1 ≤ 3)
    (hformat : u8 p.params 3 ≤ 1) (hact : u8 p.params 2 = 1) (hrun : aprRunning s (u8 p.params 0) = true)
    (hon : (aprOf s (u8 p.params 0)).slicesOn.testBit (u8 p.params 1) = true)
    (hfree : (sliceOf s (u8 p.params 0) (u8 p.params 1)).stream = none) (hlink : s.pcie.link.isSome = true)
    (hcount : (iqStreams (aprStreamOn p s)).length ≤ s.profile.env.iqSlices) (hbudget : budgetBroken s (aprStreamOn p s) = false) :
    aprStreamAct p s = done (aprStreamOn p s) := by
  have hlink' : s.pcie.link.isNone = false := by
    rw [← Option.not_isSome, hlink]; rfl
  unfold aprStreamOn aprStreamNew at *
  simp [aprStreamAct, Nat.not_lt.2 hapr, Nat.not_lt.2 hslice, Nat.not_lt.2 hformat, hact, hrun, hon, hfree, hlink',
    Nat.not_lt.2 hcount, hbudget]

/-- A stream under a stop: one that has begun ends with the block in progress, one that has not is gone (03 R139). -/
def iqStopped : Option IqStream → Option IqStream
  | some y => if y.started then some { y with stopping := true } else none
  | none => none

theorem aprStreamAct_stop {p : Packet} {s : State} (hapr : u8 p.params 0 ≤ 23) (hslice : u8 p.params 1 ≤ 3)
    (hact : u8 p.params 2 = 0) (hformat : u8 p.params 3 = 0) (hcount : u32 p.params 4 = 0) :
    aprStreamAct p s =
      done (modSlice (u8 p.params 0) (u8 p.params 1) (fun x => { x with stream := iqStopped x.stream }) s) := by
  simp only [aprStreamAct, Nat.not_lt.2 hapr, Nat.not_lt.2 hslice, hact, hformat, hcount]
  rfl

/-! ### One aperture, one slice -/

@[simp] theorem aprOf_modApr_self (a : Nat) (f : Aperture → Aperture) (s : State) : aprOf (modApr a f s) a = f (aprOf s a) := by
  simp [aprOf, modApr]

@[simp] theorem aprOf_modSlice_self (a i : Nat) (f : SliceState → SliceState) (s : State) :
    aprOf (modSlice a i f s) a = { aprOf s a with slices := tmod SliceState.initial (aprOf s a).slices i f } :=
  aprOf_modApr_self ..

@[simp] theorem sliceOf_modSlice_self (a i : Nat) (f : SliceState → SliceState) (s : State) :
    sliceOf (modSlice a i f s) a i = f (sliceOf s a i) := by
  simp [sliceOf, modSlice]

/-- A change of a slice is what it makes of that slice as it stands. -/
theorem modSlice_congr {a i : Nat} {f g : SliceState → SliceState} {s : State} (h : f (sliceOf s a i) = g (sliceOf s a i)) :
    modSlice a i f s = modSlice a i g s := by
  show modSlice a i (fun _ => f (sliceOf s a i)) s = modSlice a i (fun _ => g (sliceOf s a i)) s
  rw [h]

/-! ### Events and faults of an aperture (03 R134, R135, R137) -/

theorem Sends.apertures {s t : State} (h : Sends s t) : t.apertures = s.apertures := by
  have := congrArg State.apertures h.quiet; exact this

theorem Sends.aprOf {s t : State} (h : Sends s t) (a : Nat) : aprOf t a = aprOf s a := by
  simp only [Machine.aprOf, h.apertures]

/-- What the events and faults of an aperture leave alone: its slices and the count of its parity blanks. -/
def aprSamples (x : Aperture) : Tab SliceState × Nat := (x.slices, x.parityBlanks)

@[simp] theorem aprSamples_aprEvent (kind a slice detail : Nat) (value : Int) (s : State) :
    aprSamples (aprOf (aprEvent kind a slice detail value s) a) = aprSamples (aprOf s a) := by
  unfold aprEvent
  dsimp only
  split
  · rw [(sends_postStatus ..).aprOf, aprOf_modApr_self]; rfl
  · rw [aprOf_modApr_self]; rfl

@[simp] theorem aprSamples_aprRaise (a bit : Nat) (s : State) :
    aprSamples (aprOf (aprRaise a bit s) a) = aprSamples (aprOf s a) := by
  unfold aprRaise
  split
  · rfl
  · rw [aprSamples_aprEvent, aprOf_modApr_self]; rfl

/-- A fault that ends the aperture's running is raised: its state is fault from now on (03 R135). -/
theorem aprRaise_stopping {a bit : Nat} {s : State} (hbit : bit = 0 ∨ bit = 2 ∨ bit = 3)
    (hclear : (aprOf s a).faults.testBit bit = false) :
    aprRaise a bit s =
      aprEvent 3 a 255 bit 0 (modApr a (fun x => { x with faults := setBit x.faults bit true, inFault := true }) s) := by
  rcases hbit with rfl | rfl | rfl <;> simp [aprRaise, hclear]

/-- OVERLOAD is raised beside the aperture's state (03 R135). -/
theorem aprRaise_overload {a : Nat} {s : State} (hclear : (aprOf s a).faults.testBit 1 = false) :
    aprRaise a 1 s =
      aprEvent 3 a 255 1 0 (modApr a (fun x => { x with faults := setBit x.faults 1 true, inFault := x.inFault }) s) := by
  simp [aprRaise, hclear]

theorem aprClear_of_set {a bit : Nat} {s : State} (hset : (aprOf s a).faults.testBit bit = true) :
    aprClear a bit s = aprEvent 4 a 255 bit 0 (modApr a (fun x => { x with faults := setBit x.faults bit false }) s) :=
  if_pos hset

/-! ### The bits of a transfer unit (03 R111) -/

theorem unitWord_lt (l : List (BitVec 6 × BitVec 6)) : unitWord l < 2 ^ (12 * l.length) := by
  induction l with
  | nil => decide
  | cons v t ih =>
    have h1 := v.1.isLt
    have h2 := v.2.isLt
    rw [unitWord, List.length_cons, Nat.mul_succ, Nat.pow_add]
    omega

/-- The samples of a unit read back from its word. -/
theorem unitOf_unitWord (l : List (BitVec 6 × BitVec 6)) : unitOf l.length (unitWord l) = l := by
  induction l with
  | nil => rfl
  | cons v t ih =>
    obtain ⟨x, y⟩ := v
    have hx := x.isLt
    have hy := y.isLt
    have htail : (x.toNat + 64 * y.toNat + 4096 * unitWord t) / 4096 = unitWord t := by omega
    have hfirst : BitVec.ofNat 6 (x.toNat + 64 * y.toNat + 4096 * unitWord t) = x :=
      BitVec.eq_of_toNat_eq (by simp only [BitVec.toNat_ofNat]; omega)
    have hsecond : BitVec.ofNat 6 ((x.toNat + 64 * y.toNat + 4096 * unitWord t) / 64) = y :=
      BitVec.eq_of_toNat_eq (by simp only [BitVec.toNat_ofNat]; omega)
    simp only [unitWord, List.length_cons, unitOf, htail, hfirst, hsecond, ih]

/-- A word of zeros spells a unit of zeros: what a blanked unit holds. -/
theorem unitOf_zero (n : Nat) : unitOf n 0 = List.replicate n (0, 0) := by
  induction n with
  | zero => rfl
  | succ n ih => simp only [unitOf, Nat.zero_div, ih, List.replicate_succ]; rfl

theorem notchUnit_length (i : Nat) (zs : List DdcSample) (t : Tab Notch) : (notchUnit i zs t).1.length = zs.length := by
  induction zs generalizing t with
  | nil => rfl
  | cons z zs ih => simp only [notchUnit, List.length_cons, ih]

/-! ### Parity over the crossing (03 R111) -/

theorem parityOf_succ (n w : Nat) : parityOf (n + 1) w = (parityOf n w + (w.testBit n).toNat) % 2 := by
  simp only [parityOf, popcount, maskBits, upto, List.filter_append, List.length_append]
  cases hb : w.testBit n <;> simp [hb]

theorem parityOf_zero_or_one (n w : Nat) : parityOf n w = 0 ∨ parityOf n w = 1 := Nat.mod_two_eq_zero_or_one _

/-- A flipped bit changes the parity where it is one of the bits counted. -/
theorem parityOf_flip (n k w : Nat) : parityOf n (w ^^^ 2 ^ k) = (parityOf n w + (decide (k < n)).toNat) % 2 := by
  induction n with
  | zero => rfl
  | succ n ih =>
    rw [parityOf_succ, ih, parityOf_succ, Nat.testBit_xor, Nat.testBit_two_pow]
    rcases Nat.lt_trichotomy k n with h | rfl | h
    · simp [h, Nat.ne_of_lt h, Nat.lt_succ_of_lt h]; omega
    · cases w.testBit k
      · simp
      · simp; omega
    · simp [Nat.not_lt.2 (Nat.le_of_lt h), (Nat.ne_of_lt h).symm, show ¬ k < n + 1 by omega]

/-- The parity of the low bits does not see the bits above them. -/
theorem parityOf_add_high {n w : Nat} (b : Nat) (hw : w < 2 ^ n) : parityOf n (w + 2 ^ n * b) = parityOf n w := by
  have hbits : ∀ i ∈ upto n, (w + 2 ^ n * b).testBit i = w.testBit i := by
    intro i hi
    rw [Nat.add_comm, Nat.testBit_two_pow_mul_add b hw, if_pos (mem_upto.1 hi)]
  simp only [parityOf, popcount, maskBits, List.filter_congr hbits]

/-- A word sent with its parity bit above it has even parity. -/
theorem parityOf_withParity {n w : Nat} (hw : w < 2 ^ n) : parityOf (n + 1) (w + 2 ^ n * parityOf n w) = 0 := by
  have hbit : (w + 2 ^ n * parityOf n w).testBit n = (parityOf n w).testBit 0 := by
    rw [Nat.add_comm, Nat.testBit_two_pow_mul_add _ hw]; simp
  rw [parityOf_succ, parityOf_add_high _ hw, hbit]
  rcases parityOf_zero_or_one n w with h | h <;> rw [h] <;> rfl

/-- The parity bit on top of a word disagrees with the word where word and bit together have odd parity. -/
theorem parity_disagrees {n g : Nat} (hg : g < 2 ^ (n + 1)) : (parityOf n g != g / 2 ^ n) = (parityOf (n + 1) g == 1) := by
  have htop : g / 2 ^ n < 2 := Nat.div_lt_of_lt_mul (by rwa [← Nat.pow_succ])
  have hbit := Nat.le_one_iff_eq_zero_or_eq_one.1 (Nat.le_of_lt_succ htop)
  rw [parityOf_succ, Nat.testBit_eq_decide_div_mod_eq]
  rcases parityOf_zero_or_one n g with h | h <;> rcases hbit with h' | h' <;> rw [h, h'] <;> rfl

/-- The parity bit lengthens a word by one bit. -/
theorem withParity_lt {n w : Nat} (hw : w < 2 ^ n) : w + 2 ^ n * parityOf n w < 2 ^ (n + 1) := by
  rw [Nat.pow_succ]
  rcases parityOf_zero_or_one n w with h | h <;> rw [h] <;> omega

/-- Below its parity bit the word stands as it was. -/
theorem withParity_low {n w : Nat} (hw : w < 2 ^ n) : (w + 2 ^ n * parityOf n w) % 2 ^ n = w := by
  rw [Nat.add_mul_mod_self_left, Nat.mod_eq_of_lt hw]

/-- A single bit of a crossing lies inside the crossing. -/
theorem flip_inside {n k : Nat} (hk : k < n) : 2 ^ k % 2 ^ n = 2 ^ k :=
  Nat.mod_eq_of_lt (Nat.pow_lt_pow_right Nat.one_lt_two hk)

/-- The parity bit agrees with the word that it was sent with. -/
theorem parity_undisturbed {n w : Nat} (hw : w < 2 ^ n) :
    (parityOf n (w + 2 ^ n * parityOf n w) != (w + 2 ^ n * parityOf n w) / 2 ^ n) = false := by
  rw [parity_disagrees (withParity_lt hw), parityOf_withParity hw]; rfl

/-- One flipped bit of a word or of its parity bit makes the two disagree. -/
theorem parity_one_flip {n w k : Nat} (hw : w < 2 ^ n) (hk : k < n + 1) :
    (parityOf n ((w + 2 ^ n * parityOf n w) ^^^ 2 ^ k) != ((w + 2 ^ n * parityOf n w) ^^^ 2 ^ k) / 2 ^ n) = true := by
  have hgot := Nat.xor_lt_two_pow (withParity_lt hw) (Nat.pow_lt_pow_right Nat.one_lt_two hk)
  rw [parity_disagrees hgot, parityOf_flip, parityOf_withParity hw, decide_eq_true hk]; rfl

/-- A unit that crosses undisturbed arrives as sent, and its parity agrees. -/
theorem crossUnit_undisturbed {w : Nat} (hw : w < 2 ^ 384) : crossUnit w 0 = (w, false) := by
  simp only [crossUnit, Nat.zero_mod, Nat.xor_zero, withParity_low hw, parity_undisturbed hw]

/-- A unit of which one bit changes on the way, the parity bit included, fails its parity. -/
theorem crossUnit_one_flip {w k : Nat} (hw : w < 2 ^ 384) (hk : k < 385) : (crossUnit w (2 ^ k)).2 = true := by
  simp only [crossUnit, flip_inside hk, parity_one_flip hw hk]

/-! ### A unit crosses to the consumers (01 R20; 03 R111, R112) -/

/-- The slice's next 32 samples as the consumers are to get them: notched, scaled and requantised (03 R112). -/
def sentUnit (a i : Nat) (s : State) : List (BitVec 6 × BitVec 6) :=
  (notchUnit i ((sliceOf s a i).fifo.take 32) (sliceOf s a i).notches).1.map (requantPair (sliceOf s a i).gain)

theorem sentUnit_length {a i : Nat} {s : State} (hfull : 32 ≤ (sliceOf s a i).fifo.length) : (sentUnit a i s).length = 32 := by
  rw [sentUnit, List.length_map, notchUnit_length, List.length_take, Nat.min_eq_left hfull]

/-- The word of that unit as it is sent (03 R111). -/
def sentWord (a i : Nat) (s : State) : Nat := unitWord (sentUnit a i s)

theorem sentWord_lt {a i : Nat} {s : State} (hfull : 32 ≤ (sliceOf s a i).fifo.length) : sentWord a i s < 2 ^ 384 := by
  have h := unitWord_lt (sentUnit a i s)
  rwa [sentUnit_length hfull, show 12 * 32 = 384 from rfl] at h

theorem unitOf_sentWord {a i : Nat} {s : State} (hfull : 32 ≤ (sliceOf s a i).fifo.length) :
    unitOf 32 (sentWord a i s) = sentUnit a i s := by
  have h := unitOf_unitWord (sentUnit a i s)
  rwa [sentUnit_length hfull] at h

/-- The crossings, of P1 and of P2, on which a unit fails its parity. -/
def crossFails (a i : Nat) (u : TransferUnit) (s : State) : Nat :=
  b2n (crossUnit (sentWord a i s) u.flip1).2 + b2n (crossUnit (sentWord a i s) u.flip2).2

/-- What the consumers take of a unit, and what the count of parity blanks becomes. -/
theorem unitCross_unit (a i : Nat) (u : TransferUnit) (s : State) :
    (sliceOf (unitCross a i u s) a i).unit
        = unitOf 32 (if crossFails a i u s != 0 then 0 else (crossUnit (sentWord a i s) u.flip1).1)
      ∧ (aprOf (unitCross a i u s) a).parityBlanks = sat 65535 ((aprOf s a).parityBlanks + crossFails a i u s) := by
  have hkept : ∀ l t, aprSamples (aprOf (foldS (fun (_ : Nat) t => logErr 0x0E 3 0x03 a (aprRaise a 4 t)) l t) a)
      = aprSamples (aprOf t a) := by
    intro l t
    refine foldS_keeps (P := fun v => aprSamples (aprOf v a) = aprSamples (aprOf t a)) _ (fun _ v hv => ?_) l rfl
    rw [(sends_logErr ..).aprOf, aprSamples_aprRaise, hv]
  unfold unitCross
  extract_lets x zs blanked p pre post w c1 fails bad unit use taken counted
  obtain ⟨hslices, hblanks⟩ := Prod.mk.inj (hkept (upto fails) counted)
  have hunit : (sliceOf counted a i).unit = unitOf 32 (if fails != 0 then 0 else (crossUnit w u.flip1).1) := by
    simp only [counted, taken, sliceOf, aprOf_modApr_self, aprOf_modSlice_self, tget_tmod_self, unit, bad, c1]
  have hcount : (aprOf counted a).parityBlanks = sat 65535 ((aprOf s a).parityBlanks + fails) := by
    simp only [counted, taken, aprOf_modApr_self, aprOf_modSlice_self]
  have hw : sentWord a i s = w := rfl
  have hfails : crossFails a i u s = fails := rfl
  rw [hw, hfails, sliceOf, hslices, hblanks]
  exact ⟨hunit, hcount⟩

/-- A unit that crosses undisturbed on both paths reaches the consumers as it was made. -/
theorem unitCross_undisturbed {a i : Nat} {u : TransferUnit} {s : State} (hfull : 32 ≤ (sliceOf s a i).fifo.length)
    (h1 : u.flip1 = 0) (h2 : u.flip2 = 0) :
    (sliceOf (unitCross a i u s) a i).unit = sentUnit a i s
      ∧ (aprOf (unitCross a i u s) a).parityBlanks = sat 65535 (aprOf s a).parityBlanks := by
  have hcross := crossUnit_undisturbed (sentWord_lt hfull)
  have hnone : crossFails a i u s = 0 := by rw [crossFails, h1, h2, hcross]; rfl
  obtain ⟨hunit, hcount⟩ := unitCross_unit a i u s
  rw [hnone, h1, hcross] at hunit
  rw [hnone] at hcount
  exact ⟨hunit.trans (unitOf_sentWord hfull), hcount⟩

/-- A unit of which one bit changes on P1 reaches no consumer: it is blanked whole and counted (01 R20). -/
theorem unitCross_one_flip {a i k : Nat} {u : TransferUnit} {s : State} (hfull : 32 ≤ (sliceOf s a i).fifo.length) (hk : k < 385)
    (h1 : u.flip1 = 2 ^ k) (h2 : u.flip2 = 0) :
    (sliceOf (unitCross a i u s) a i).unit = List.replicate 32 (0, 0)
      ∧ (aprOf (unitCross a i u s) a).parityBlanks = sat 65535 ((aprOf s a).parityBlanks + 1) := by
  have hword := sentWord_lt hfull
  have hone : crossFails a i u s = 1 := by
    rw [crossFails, h1, h2, crossUnit_one_flip hword hk, crossUnit_undisturbed hword]; rfl
  obtain ⟨hunit, hcount⟩ := unitCross_unit a i u s
  rw [hone] at hunit hcount
  exact ⟨hunit.trans (unitOf_zero 32), hcount⟩

/-! ### The rows of the sample path (03 R112, R117, R122, R128) -/

/-- The aperture after its ADC stream has moved on by the samples of a row (03 R112). -/
def adcMoved (a : Nat) (u : TransferUnit) (s : State) : State :=
  modApr a (fun x => u.adc.foldl (fun y b => adcFeed s.front b y) x) s

theorem sliceTransfer_waits {a i : Nat} {u : TransferUnit} {s : State} (hadc : adcRuns s a = true)
    (hon : (aprOf s a).slicesOn.testBit i = true) (hfew : (sliceOf (adcMoved a u s) a i).fifo.length < 32) :
    sliceTransfer a i u s = adcMoved a u s := by
  have hunit : sliceUnit a i u s = (adcMoved a u s, false) := by
    simp only [sliceUnit, hadc, hon, Bool.and_self, if_true]
    exact if_pos hfew
  simp [sliceTransfer, hunit]

theorem sliceTransfer_crosses {a i : Nat} {u : TransferUnit} {s : State} (hadc : adcRuns s a = true)
    (hon : (aprOf s a).slicesOn.testBit i = true) (hfull : 32 ≤ (sliceOf (adcMoved a u s) a i).fifo.length) :
    sliceTransfer a i u s = modSlice a i (fun y => { y with unitPos := y.unitPos + 32 }) (voileUnit a i (damaskUnit a i
      (trackUnit a i (unitCross a i u (scanLines a i (adcMoved a u s)))))) := by
  have hunit : sliceUnit a i u s = (unitCross a i u (scanLines a i (adcMoved a u s)), true) := by
    simp only [sliceUnit, hadc, hon, Bool.and_self, if_true]
    exact if_neg (Nat.not_lt.2 hfull)
  simp [sliceTransfer, hunit]

theorem notchRelease_due {a i n : Nat} {s : State} (heng : (notchOf s a i n).engaged = true) (hmode : 2 ≤ (notchOf s a i n).mode)
    (hlow : sliceRate i / 1000 ≤ (notchOf s a i n).lowFor) :
    notchRelease a i n s = foldS (fun b t => aprEvent 8 b i n ((notchOf s a i n).est / 65536)
      (notchMark b i (modNotch b i n (fun z => { z with engaged := false }) t))) (notchPeers s a i n) s :=
  if_pos ⟨heng, hmode, hlow⟩

/-- The AGC's running mean square after an update (03 R122). -/
def agcAvgNew (x : SliceState) : Nat := agcMean (if x.agcFast then 0 else x.cfg.agcTc) x.agcAvg x.agcSum x.agcN

/-- The gain after an update whose running mean square is `avg` (03 R122, R123). -/
def agcGain (x : SliceState) (avg : Nat) : Nat := match x.cfg.agcMode with
  | 0 =>
    if (x.gain : Int) < agcIdeal x.cfg.agcTarget avg then x.gain + 1
    else if agcIdeal x.cfg.agcTarget avg < x.gain then x.gain - 1 else x.gain
  | 2 => (x.cfg.fixedGain + 24).toNat
  | _ => x.gain

theorem agcGain_auto {x : SliceState} (h : x.cfg.agcMode = 0) (avg : Nat) :
    agcGain x avg = if (x.gain : Int) < agcIdeal x.cfg.agcTarget avg then x.gain + 1
      else if agcIdeal x.cfg.agcTarget avg < x.gain then x.gain - 1 else x.gain := by
  simp only [agcGain, h]

theorem agcGain_held {x : SliceState} (h : x.cfg.agcMode = 1) (avg : Nat) : agcGain x avg = x.gain := by
  simp only [agcGain, h]

theorem agcGain_fixed {x : SliceState} (h : x.cfg.agcMode = 2) (avg : Nat) : agcGain x avg = (x.cfg.fixedGain + 24).toNat := by
  simp only [agcGain, h]

/-- The slice after an AGC update (03 R122). -/
def agcMoved (x : SliceState) : SliceState :=
  { x with
    agcAvg := some (agcAvgNew x), agcSum := 0, agcN := 0, gain := agcGain x (agcAvgNew x),
    stream := x.stream.map (fun st => { st with gainMoved := st.gainMoved || agcGain x (agcAvgNew x) != x.gain }) }

theorem agcUpdate_moves {a i : Nat} {s : State} (hadc : adcRuns s a = true) (hon : (aprOf s a).slicesOn.testBit i = true)
    (hsome : (sliceOf s a i).agcN ≠ 0) :
    agcUpdate a i s = modSlice a i (fun _ => agcMoved (sliceOf s a i)) s := by
  simp only [agcUpdate, hadc, hon, Bool.and_self, if_true]
  exact modSlice_congr (if_neg hsome)

theorem agcTcSwitch_due {a : Nat} {s : State} (hphase : (aprOf s a).phase = .settling)
    (hms : instantReached ((aprOf s a).sinceMs + 1) s = true) :
    agcTcSwitch a s = foldS (fun i t => modSlice a i (fun x => { x with agcFast := false }) t) [0, 1, 2, 3] s :=
  if_pos ⟨hphase, hms⟩

theorem apertureRunning_due {a : Nat} {s : State} (hphase : (aprOf s a).phase = .settling)
    (hfree : aprFaulted (aprOf s a) = false) :
    apertureRunning a s = aprEvent 1 a 255 0 0 (modApr a (fun x => { x with phase := .running, sinceMs := s.ms }) s) :=
  if_pos ⟨hphase, by rw [hfree]; rfl⟩

theorem noiseRefLearnt_due {a i : Nat} {s : State} (hrun : aprRunning s a = true) (hnone : noiseRef (sliceOf s a i) = none)
    (hfull : 1000 ≤ (sliceOf s a i).samples.length) :
    noiseRefLearnt a i s = aprEvent 9 a i 0 (medianLevel (sliceOf s a i).samples)
      (modSlice a i (fun y => { y with learnt := some (medianLevel (sliceOf s a i).samples), samples := [] }) s) :=
  if_pos ⟨hrun, hnone, hfull⟩

theorem jiAlertClear_due {a i : Nat} {s : State} (halert : (sliceOf s a i).alert = true) (hlow : 100 ≤ (sliceOf s a i).jiLow) :
    jiAlertClear a i s =
      aprEvent 6 a i 0 (sliceOf s a i).ji (modSlice a i (fun y => { y with alert := false, jiLow := 0 }) s) :=
  if_pos ⟨halert, hlow⟩

/-! ### Raw IQ blocks (03 R140 to R142) -/

/-- The MSG_IQ of the block that a stream holds. -/
def iqMsg (a i : Nat) (st : IqStream) (s : State) : Msg :=
  { msg2 s 0x8D 0x03 a (iqPayload s a i st) with chain := if st.parity then 0x10 else 0 }

/-- The block of MSG_IQ is lost: its route names the PCIe rings, and its ring has not taken it (03 R142). -/
def iqLost (a i : Nat) (st : IqStream) (s : State) : Bool :=
  !decide ((ringOf s (routeOf s 0x8D).ring).outq.length
      < (ringOf (post (iqMsg a i st s) s) (routeOf s 0x8D).ring).outq.length)
    && (routeOf s 0x8D).ports.testBit 3

theorem iqBlock_full {a i : Nat} {s : State} {st : IqStream} (hst : (sliceOf s a i).stream = some st)
    (hfull : 4000 ≤ st.buf.length) :
    iqBlock a i s =
      modSlice a i (fun x => { x with stream := iqAdvance (iqLost a i st s) st }) (post (iqMsg a i st s) s) := by
  simp only [iqBlock, hst, Nat.not_lt.2 hfull, if_false]
  rfl

end Sys2Proof.Laws

/-! The statements about the apertures (03), settled. -/
namespace Sys2Proof.Proofs

open Sys2Proof.Machine Sys2Proof.Safety Sys2Proof.Laws

/-- Settles O4: each accepted form passes its command's own checks, and the row commits what the command then answers. -/
theorem apertureCommandsComplete : Obligations.ApertureCommandsComplete := by
  refine ⟨fun p s h hsome hmask hslices hact hzero hstream hfit => ?enable,
    fun p s h hapr hslice hmode htarget htarget' htc hgain hgain' href hdb hdb' hzero hclip hzero' => ?config,
    fun p s h hok hshared => ?notch, fun p s h hapr hzero hranges => ?blank, fun p s h hmask => ?status,
    fun p s h hapr hslice hformat => ⟨fun hact hrun hon hfree hlink hcount hbudget => ?start,
      fun hact hformat hcount => ?stop⟩⟩
  case enable => exact exec_of_act_ok rfl h (aprEnableAct_ok hsome hmask hslices hact hzero hstream hfit)
  case config =>
    exact exec_of_act_ok rfl h
      (aprConfigAct_ok hapr hslice hmode htarget htarget' htc hgain hgain' href hdb hdb' hzero hclip hzero')
  case notch => exact exec_of_act_ok rfl h (aprNotchAct_ok hok hshared)
  case blank => exact exec_of_act_ok rfl h (aprBlankAct_ok hapr hzero hranges)
  case status => exact exec_of_act_ok rfl h (aprStatusAct_ok hmask)
  case start => exact exec_of_act_ok rfl h (aprStreamAct_start hapr hslice hformat hact hrun hon hfree hlink hcount hbudget)
  case stop => exact exec_of_act_ok rfl h (aprStreamAct_stop hapr hslice hact hformat hcount)

/-- Settles O5: the row of each event, on a state that meets its condition, is the branch that its law names; the parity of a unit is
followed bit by bit through its crossing. -/
theorem apertureEventsComplete : Obligations.ApertureEventsComplete := by
  refine ⟨fun a i u s hadc hon => ⟨fun hfew => ?waits, fun hfull => ?crosses⟩,
    fun a i u s hfull h2 => ⟨fun h1 => unitCross_undisturbed hfull h1 h2, fun k hk h1 => unitCross_one_flip hfull hk h1 h2⟩,
    fun a i n s heng hmode hlow => ?release, fun a i s hadc hon hsome => ?agc, fun a s hphase hms => ?tcSwitch,
    fun a s hburst hphase hfree => ?running, fun a i s hrun hnone hfull => ?learnt, fun a i s halert hlow => ?alertClear,
    fun a s hen hlow hclear => ?noSignal, fun a s hms hset => ?signal, fun a s hen hms hclear => ?overload,
    fun a s hms hset => ?noOverload, fun a s hready hbad hclear => ?adcFault, fun a i s st hst hfull => ?iqBlock⟩
  case waits => exact congrArg Host.Outcome.next (sliceTransfer_waits hadc hon hfew)
  case crosses => exact congrArg Host.Outcome.next (sliceTransfer_crosses hadc hon hfull)
  case release => exact congrArg Host.Outcome.next (notchRelease_due heng hmode hlow)
  case agc =>
    exact ⟨_, congrArg Host.Outcome.next (agcUpdate_moves hadc hon hsome), rfl, rfl, fun h => agcGain_auto h _,
      fun h => agcGain_held h _, fun h => agcGain_fixed h _⟩
  case tcSwitch => exact congrArg Host.Outcome.next (agcTcSwitch_due hphase hms)
  case running =>
    exact congrArg Host.Outcome.next ((if_neg (by simp [hburst])).trans (apertureRunning_due hphase hfree))
  case learnt => exact congrArg Host.Outcome.next (noiseRefLearnt_due hrun hnone hfull)
  case alertClear => exact congrArg Host.Outcome.next (jiAlertClear_due halert hlow)
  case noSignal =>
    exact congrArg Host.Outcome.next ((if_pos ⟨hen, hlow⟩).trans (aprRaise_stopping (.inl rfl) hclear))
  case signal => exact congrArg Host.Outcome.next ((if_pos hms).trans (aprClear_of_set hset))
  case overload => exact congrArg Host.Outcome.next ((if_pos ⟨hen, hms⟩).trans (aprRaise_overload hclear))
  case noOverload => exact congrArg Host.Outcome.next ((if_pos hms).trans (aprClear_of_set hset))
  case adcFault =>
    exact congrArg Host.Outcome.next ((if_pos ⟨hready, hbad⟩).trans (aprRaise_stopping (.inr (.inl rfl)) hclear))
  case iqBlock => exact ⟨_, congrArg Host.Outcome.next (iqBlock_full hst hfull)⟩

end Sys2Proof.Proofs

/-! SUPPORT. What the statements about Damask need of the model: what its commands ask, the end of an aborted plan, and what each row of its
events leaves. -/
namespace Sys2Proof.Laws

open Sys2Proof.Machine Sys2Proof.Safety

/-! ### The acquisition commands: what their own checks ask (04 R163 to R166, R182 to R186) -/

/-- The 16-byte task entries of ACQ_PLAN (04 R165). -/
def acqEntries (p : Packet) : List (List Byte) := chunks 16 (u8 p.params 0) (p.params.drop 8)

/-- The plan that ACQ_PLAN spells (04 R165). -/
def acqPlanNew (p : Packet) : AcqPlan :=
  { handoff := u8 p.params 1, chLimit := u8 p.params 2, passes := u8 p.params 3, elevMask := u8 p.params 4, xcMargin := u8 p.params 5,
    tasks := (acqEntries p).map acqTaskIn }

theorem acqPlanAct_ok {p : Packet} {s : State} (hn : u8 p.params 0 ≤ 64) (hhandoff : u8 p.params 1 ≤ 2) (hlim : 1 ≤ u8 p.params 2)
    (hlim' : u8 p.params 2 ≤ 192) (hpasses : 1 ≤ u8 p.params 3) (helev : u8 p.params 4 ≤ 90)
    (hmargin : u8 p.params 5 = 0 ∨ 10 ≤ u8 p.params 5 ∧ u8 p.params 5 ≤ 40) (hzero : zeroAt p.params 6 2 = true)
    (htasks : ∀ t ∈ acqEntries p, acqTaskOk (u8 p.params 1) t = true)
    (hdistinct : anyPair (fun x y => u8 x 0 == u8 y 0 && u8 x 1 == u8 y 1) (acqEntries p) = false) (hidle : s.acq.running = false) :
    acqPlanAct p s = done { s with
      acq.plan := if u8 p.params 0 = 0 then none else some (acqPlanNew p), acq.ended := false, acq.sats := [], acq.endedSegs := [] } := by
  have hgood : (acqEntries p).any (fun t => !acqTaskOk (u8 p.params 1) t) = false := by
    simpa [List.any_eq_false] using htasks
  have hmargin' : (u8 p.params 5 != 0 && (decide (u8 p.params 5 < 10) || decide (40 < u8 p.params 5))) = false := by
    rcases hmargin with h | ⟨h1, h2⟩
    · simp [h]
    · simp [Nat.not_lt.2 h1, Nat.not_lt.2 h2]
  unfold acqPlanNew acqEntries at *
  simp [acqPlanAct, Nat.not_lt.2 hn, Nat.not_lt.2 hhandoff, Nat.ne_of_gt hlim, Nat.not_lt.2 hlim', Nat.ne_of_gt hpasses,
    Nat.not_lt.2 helev, hmargin', hzero, hgood, hdistinct, hidle]

/-- The 32-byte records of ACQ_AID (04 R163). -/
def acqAidRecords (p : Packet) : List (List Byte) := chunks 32 (u8 p.params 0) (p.params.drop 8)

/-- The records held after ACQ_AID: its own over those of before, or over none (04 R163, R164). -/
def acqAidHeld (p : Packet) (s : State) : HostAid :=
  (acqAidRecords p).foldl (applyAid s.ms (nowMs s) p.obs.rxUs) (if u8 p.params 1 = 0 then HostAid.none else s.acq.aid)

theorem acqAidAct_ok {p : Packet} {s : State} (hn : u8 p.params 0 ≤ 127) (hmode : u8 p.params 1 ≤ 1)
    (hzero : zeroAt p.params 2 6 = true) (hrecs : ∀ r ∈ acqAidRecords p, aidRecordOk r = true)
    (hdistinct : anyPair sameAid (acqAidRecords p) = false)
    (hsync : (∃ r ∈ acqAidRecords p, u8 r 0 = 1 ∧ u8 r 1 = 1) → syncIs1pps s = true) (hroom : (acqAidHeld p s).sats.length ≤ 64) :
    acqAidAct p s = done { s with acq.aid := acqAidHeld p s } := by
  have hgood : (acqAidRecords p).any (fun r => !aidRecordOk r) = false := by
    simpa [List.any_eq_false] using hrecs
  have hedge : ((acqAidRecords p).any (fun r => u8 r 0 == 1 && u8 r 1 == 1) && !syncIs1pps s) = false := by
    rw [Bool.and_eq_false_imp, List.any_eq_true]
    rintro ⟨r, hr, h⟩
    rw [hsync ⟨r, hr, by simpa using h⟩]; rfl
  have hfits : decide (64 < (acqAidHeld p s).sats.length) = false := decide_eq_false (Nat.not_lt.2 hroom)
  unfold acqAidHeld acqAidRecords at *
  simp only [acqAidAct, hedge, hfits, hgood, hdistinct, hzero, decide_eq_false (Nat.not_lt.2 hn), decide_eq_false (Nat.not_lt.2 hmode)]
  rfl

/-- The state in which ACQ_START begins pass 1: the plan runs, and its counters are empty (04 R182). -/
def acqStarted (p : Packet) (s : State) : State :=
  { s with
    acq.running := true, acq.aborting := false, acq.ended := false, acq.report := u8 p.params 1,
    acq.results := if u8 p.params 0 = 1 then [] else s.acq.results,
    acq.dropped := [], acq.tasksEnded := [], acq.laneSteps := [], acq.candCount := 0, acq.activeMs := 0,
    acq.plans := s.acq.plans + 1, acq.startedMs := s.ms + 1, acq.segs := [], acq.endedSegs := [] }

theorem acqStartAct_ok {p : Packet} {s : State} {plan : AcqPlan} (hclear : u8 p.params 0 ≤ 1) (hreport : u8 p.params 1 ≤ 2)
    (hzero : zeroAt p.params 2 2 = true) (hplan : s.acq.plan = some plan) (hidle : s.acq.running = false)
    (hready : ∀ k ∈ plan.tasks, taskReady s k = true) (hduty : s.profile.env.duty ≠ 0)
    (hcoh : ∀ k ∈ plan.tasks, k.coh ≤ dutyAllowance s)
    (haprs : ∀ k ∈ plan.tasks, ∀ a ∈ maskBits 24 k.aprMask, s.profile.env.aprMask.testBit a = true) :
    acqStartAct p s = done (beginPass 1 (acqStarted p s)) := by
  have hready' : plan.tasks.any (fun k => !taskReady s k) = false := by
    simpa [List.any_eq_false] using hready
  have hcoh' : plan.tasks.any (fun k => decide (dutyAllowance s < k.coh)) = false := by
    simpa [List.any_eq_false] using hcoh
  have haprs' : plan.tasks.any (fun k => (maskBits 24 k.aprMask).any (fun a => !s.profile.env.aprMask.testBit a)) = false := by
    rw [List.any_eq_false]
    intro k hk
    simpa [List.any_eq_false] using haprs k hk
  have hduty' : (s.profile.env.duty == 0) = false := beq_eq_false_iff_ne.2 hduty
  simp only [acqStartAct, acqStarted, hplan, hready', hcoh', haprs', hduty', hidle, hzero, decide_eq_false (Nat.not_lt.2 hclear),
    decide_eq_false (Nat.not_lt.2 hreport)]
  rfl

theorem acqAbortAct_running {p : Packet} {s : State} (h : s.acq.running = true) :
    acqAbortAct p s = done { s with acq.aborting := true } :=
  congrArg done (if_pos h)

theorem acqAbortAct_idle {p : Packet} {s : State} (h : s.acq.running = false) : acqAbortAct p s = done s :=
  congrArg done (if_neg (by simp [h]))

theorem acqResultsAct_ok {p : Packet} {s : State} (hfirst : u8 p.params 0 ≤ 124) (hcount : u8 p.params 1 ≤ 125)
    (hzero : zeroAt p.params 2 2 = true) :
    acqResultsAct p s = answer (le 1 (acqStateCode s) ++ le 1 s.acq.results.length
      ++ le 1 ((s.acq.results.drop (u8 p.params 0)).take (u8 p.params 1)).length ++ zeros 1
      ++ ((s.acq.results.drop (u8 p.params 0)).take (u8 p.params 1)).flatten) s := by
  simp [acqResultsAct, Nat.not_lt.2 hfirst, Nat.not_lt.2 hcount, hzero]

/-! ### The end of a plan (04 R179, R184) -/

theorem Sends.acq {s t : State} (h : Sends s t) : t.acq = s.acq := by
  have := congrArg State.acq h.quiet; exact this

theorem Sends.islands {s t : State} (h : Sends s t) : t.islands = s.islands := by
  have := congrArg State.islands h.quiet; exact this

theorem Sends.burst {s t : State} (h : Sends s t) : t.burst = s.burst := by
  have := congrArg State.burst h.quiet; exact this

/-- Committing records of Damask only sends. -/
theorem sends_postAcq (chain : Nat) (recs : List (List Byte)) (s : State) : Sends s (postAcq chain recs s) := by
  unfold postAcq
  split
  · exact .refl s
  · exact sends_post ..

/-- The end of a plan leaves the candidates and the dwells that have ended (04 R184). -/
theorem endPlan_keeps (taskCause planCause : Nat) (s : State) :
    (endPlan taskCause planCause s).acq.cands = s.acq.cands
      ∧ (endPlan taskCause planCause s).acq.endedSegs = s.acq.endedSegs := by
  show (postAcq 0 _ s).acq.cands = _ ∧ (postAcq 0 _ s).acq.endedSegs = _
  rw [(sends_postAcq ..).acq]
  exact ⟨rfl, rfl⟩

theorem islandReady_endPlan (taskCause planCause : Nat) (s : State) (i : Nat) :
    islandReady (endPlan taskCause planCause s) i = islandReady s i :=
  congrArg (fun (x : Islands) => x.powered.testBit i && x.ready.testBit i) (sends_postAcq ..).islands

theorem betweenBursts_endPlan (taskCause planCause : Nat) (s : State) :
    betweenBursts (endPlan taskCause planCause s) = betweenBursts s :=
  congrArg (fun (x : Burst) => x.on && !x.active) (sends_postAcq ..).burst

/-- A plan under an abort ends with the step; where Damask does not run, that is the whole step (04 R179, R184). -/
theorem acqStep_aborting {s : State} (habort : s.acq.aborting = true) (hstill : islandReady s 24 = false ∨ betweenBursts s = true) :
    acqStep s = endPlan 4 2 s := by
  have hrests : (!islandReady s 24 || betweenBursts s) = true := by
    rcases hstill with h | h <;> simp [h]
  rw [acqStep, habort]
  simp only [if_true, islandReady_endPlan, betweenBursts_endPlan, hrests]

/-! ### The duty window (04 R148) -/

theorem dutyAllowance_nominal {s : State} (hsel : s.profile.sel ≠ 4) : dutyAllowance s = s.profile.env.duty := by
  rw [dutyAllowance, dutyWindow, if_neg hsel]
  exact Nat.mul_div_cancel_left _ (by omega)

/-- Outside Burst a window is 100 ms, with the profile's share of it. -/
theorem beginWindow_nominal {s : State} (hsel : s.profile.sel ≠ 4) :
    beginWindow s = { s with acq.used := 0, acq.windowAt := some s.epochMs, acq.windowLen := 100, acq.allow := s.profile.env.duty } := by
  rw [beginWindow, dutyAllowance_nominal hsel, dutyWindow, if_neg hsel]

/-- A window begins, and where Damask is ready and not under self-test its blocks start. -/
theorem dutyWindowRow_begins {s : State} (hsel : s.profile.sel ≠ 4) (hms : s.epochMs % 100 = 0)
    (hnew : s.acq.windowAt ≠ some s.epochMs) :
    (islandReady s 24 = true → s.bst.active = none → dutyWindowRow s = startBlocks (beginWindow s))
      ∧ (islandReady s 24 = false → dutyWindowRow s = beginWindow s) := by
  have hready : islandReady (beginWindow s) 24 = islandReady s 24 := rfl
  have hslice : (beginWindow s).bst.active = s.bst.active := rfl
  constructor
  · intro hon hnone
    simp [dutyWindowRow, hsel, hms, hnew, hready, hslice, hon, hnone]
  · intro hoff
    simp [dutyWindowRow, hsel, hms, hnew, hready, hoff]

/-! ### The end of a search dwell (04 R152 to R154, R168) -/

/-- The segments that ended together are taken out of those that wait for their statistic. -/
def endedTaken (task sv : Nat) (s : State) : State :=
  { s with acq.endedSegs := s.acq.endedSegs.filter (fun x => !(endedTogether s task sv).contains x) }

/-- The satellite has no candidate of this pass yet. -/
def satOpen (s : State) (task sv : Nat) : Bool := s.acq.sats.any (fun q => q.task == task && q.sv == sv && !q.shut)

theorem satOpen_iff {s : State} {task sv : Nat} :
    satOpen s task sv = true ↔ ∃ q ∈ s.acq.sats, q.task = task ∧ q.sv = sv ∧ q.shut = false := by
  simp [satOpen, and_assoc]

/-- Z of the strongest cell of a search dwell of a task, as DWELL_END holds it (04 R152). -/
def dwellZ (s : State) (k : AcqTask) (g : Segment) (pow : Nat) : Nat :=
  sat 0xFFFFFFFF (statistic (Config.openZ (draw s).1) k.noncoh (twiceMedian g) pow)

/-- The chain status of a candidate whose strongest cell is cell `c` of segment `g` (04 R180). -/
def cellChain (s : State) (g : Segment) (c : Nat) (cand : Candidate) (r : Upset) : Nat :=
  candChain (g.sums.getD c CellSum.zero) (candRecord s cand 9 255) r

section
variable {task sv : Nat} {us : List CellUpset} {r : Upset} {left : Nat} {s : State} {plan : AcqPlan} {k : AcqTask} {g : Segment}
  {c pow : Nat} (hplan : s.acq.plan = some plan) (htask : taskOf s task = some k)
  (hstrong : strongest twiceMedian ((endedTogether s task sv).map (upsetSegment us)) = some (g, c, pow))
include hplan htask hstrong

/-- A satellite whose strongest cell stays below the threshold forms no candidate (04 R154). -/
theorem dwellEnd_below (hlow : reaches k.noncoh k.pfa (dwellZ (endedTaken task sv s) k g pow) = false) :
    dwellEnd task sv us r left s = (draw (endedTaken task sv s)).2 := by
  unfold dwellEnd
  extract_lets segs _ u live d segs'
  have hplan' : u.acq.plan = some plan := hplan
  have htask' : taskOf u task = some k := htask
  simp only [hplan', htask', segs', segs, hstrong]
  exact if_neg (fun h => Bool.false_ne_true (hlow.symm.trans (Bool.and_eq_true_iff.1 h).2))

/-- A satellite without a candidate whose strongest cell reaches the threshold, with sound checks, forms one (04 R154, R168). -/
theorem dwellEnd_forms {cand : Candidate}
    (hcand : cand = makeCand (endedTaken task sv s) plan task k ((endedTogether s task sv).map (upsetSegment us)) g c
      (dwellZ (endedTaken task sv s) k g pow))
    (hhigh : reaches k.noncoh k.pfa (dwellZ (endedTaken task sv s) k g pow) = true) (hopen : satOpen s task sv = true)
    (hsound : chainFails (cellChain (endedTaken task sv s) g c cand r) = false) :
    dwellEnd task sv us r left s = formCand plan k left (cellChain (endedTaken task sv s) g c cand r) cand
      (shutSat task sv (draw (endedTaken task sv s)).2) := by
  subst hcand
  unfold dwellEnd
  extract_lets segs _ u live d segs'
  have hplan' : u.acq.plan = some plan := hplan
  have htask' : taskOf u task = some k := htask
  simp only [hplan', htask', segs', segs, hstrong]
  exact (if_pos (Bool.and_eq_true_iff.2 ⟨hopen, hhigh⟩)).trans (if_neg (ne_true_of_eq_false hsound))

end

/-- Without a margin for cross-correlation, a report of every candidate or a threshold for hand-off, a candidate is held and no more. -/
theorem formCand_held {p : AcqPlan} {k : AcqTask} (left chain : Nat) (c : Candidate) {s : State} (hmargin : p.xcMargin = 0)
    (hreport : s.acq.report ≠ 2) (hho : k.ho = 0) :
    formCand p k left chain c s = { s with acq.cands := s.acq.cands ++ [c] } := by
  simp [formCand, crossCorrelated, hmargin, hreport, hho]

/-! ### The end of a verification dwell (04 R152, R170, R171) -/

section
variable {signal sv : Nat} {us : List CellUpset} {r : Upset} {left : Nat} {s : State} {c : Candidate} {g : Segment} {k pow : Nat}
  (hfind : s.acq.cands.find? (fun x => x.signal == signal && x.sv == sv && dwellDone x) = some c)
  (hstrong : strongest (fun _ => 1) ((c.dwell.getD []).map (upsetSegment us)) = some (g, k, pow))
  (hsound : chainFails (cellChain s g k c r) = false)
include hfind hstrong hsound

/-- A first dwell that reaches the threshold within a cell and a bin of the candidate is counted (04 R171). -/
theorem verificationEnd_first (hhigh : reaches c.noncoh c.pfa (statistic (Config.openZ (draw s).1) c.noncoh c.med pow) = true)
    (hnear : 7 ≤ k ∧ k ≤ 9) (hnone : c.passed = 0) :
    verificationEnd signal sv us r left s = modCand c (fun x => { x with passed := 1, dwell := none }) (draw s).2 := by
  simp only [verificationEnd, hfind, hstrong]
  exact (if_neg (ne_true_of_eq_false hsound)).trans
    ((if_pos (Bool.and_eq_true_iff.2 ⟨hhigh, decide_eq_true hnear⟩)).trans (if_neg (by omega)))

/-- A dwell that stays below the threshold ends a candidate without channel, with outcome 4 (04 R172). -/
theorem verificationEnd_fails (hlow : reaches c.noncoh c.pfa (statistic (Config.openZ (draw s).1) c.noncoh c.med pow) = false)
    (hchan : c.channel = none) :
    verificationEnd signal sv us r left s = endCand c 4 (cellChain s g k c r) 255 (draw s).2 := by
  simp only [verificationEnd, hfind, hstrong, hchan]
  exact (if_neg (ne_true_of_eq_false hsound)).trans
    (if_neg (fun h => Bool.false_ne_true (hlow.symm.trans (Bool.and_eq_true_iff.1 h).1)))

end

/-! ### Aiding records that lapse (04 R162) -/

theorem aidLapse_satellite {signal sv : Nat} {s : State} {x : SatAid} (hsig : signal ≠ 0) (hx : x ∈ s.acq.aid.sats)
    (hsignal : x.signal = signal) (hsv : x.sv = sv) (hlapsed : satLapsed s x = true) :
    aidLapse signal sv s = postAcq 0 [lapseRecord s 5 2 sv] { s with
      acq.aid.sats := s.acq.aid.sats.filter (fun y => !(y.signal == signal && y.sv == sv && satLapsed s y)) } := by
  have hmine : s.acq.aid.sats.any (fun y => y.signal == signal && y.sv == sv && satLapsed s y) = true :=
    List.any_eq_true.2 ⟨x, hx, by simp [hsignal, hsv, hlapsed]⟩
  rw [aidLapse, if_neg hsig]
  exact if_pos hmine

theorem aidLapse_time {sv : Nat} {s : State} {w : Nat × Nat × Nat} (hwaits : s.acq.aid.timeWaits = some w)
    (hlate : w.2.2 + 1500 ≤ nowMs s) :
    aidLapse 0 sv s = postAcq 0 [lapseRecord s 1 1 0] { s with acq.aid.timeWaits := none } := by
  have hlate' : timeLate s = true := by simp [timeLate, hwaits, hlate]
  simp [aidLapse, hlate', lapseTime, hwaits]

end Sys2Proof.Laws

/-! The statements about acquisition (04), settled. -/
namespace Sys2Proof.Proofs

open Sys2Proof.Machine Sys2Proof.Safety Sys2Proof.Laws

/-- Settles O7: each accepted form passes its command's own checks, and the row commits what the command then answers; the aborted plan
ends with the step, by the frame of sending. -/
theorem acquisitionCommandsComplete : Obligations.AcquisitionCommandsComplete := by
  refine ⟨fun p s h hn hhandoff hlim hlim' hpasses helev hmargin hzero htasks hdistinct hidle => ?plan,
    fun p s h hn hmode hzero hrecs hdistinct hsync hroom => ?aid,
    fun p s plan h hclear hreport hzero hplan hidle hready hduty hcoh haprs => ?start,
    fun p s h => ⟨fun hrun => ?abort, fun hidle => ?nothing⟩, fun s habort hstill => ?ends,
    fun p s h hfirst hcount hzero => ?results⟩
  case plan =>
    exact exec_of_act_ok rfl h
      (acqPlanAct_ok hn hhandoff hlim hlim' hpasses helev hmargin hzero htasks hdistinct hidle)
  case aid => exact exec_of_act_ok rfl h (acqAidAct_ok hn hmode hzero hrecs hdistinct hsync hroom)
  case start =>
    exact exec_of_act_ok rfl h (acqStartAct_ok hclear hreport hzero hplan hidle hready hduty hcoh haprs)
  case abort => exact exec_of_act_ok rfl h (acqAbortAct_running (p := p) hrun)
  case nothing => exact exec_of_act_ok rfl h (acqAbortAct_idle (p := p) hidle)
  case ends =>
    have hstep := acqStep_aborting habort hstill
    exact ⟨hstep, hstep ▸ endPlan_keeps 4 2 s⟩
  case results => exact exec_of_act_ok rfl h (acqResultsAct_ok hfirst hcount hzero)

/-- Settles O8: the row of each event, on a state that meets its condition, is the branch that its law names. -/
theorem acquisitionEventsComplete : Obligations.AcquisitionEventsComplete := by
  refine ⟨fun s hsel hms hnew => ⟨fun hon hnone => ?window, fun hoff => ?windowOff⟩,
    fun task sv us r left s plan k g c pow hplan htask hstrong => ⟨fun hlow => ?below,
      fun hhigh hopen hsound hmargin hreport hho => ?forms⟩,
    fun signal sv us r left s c g k pow hfind hstrong hsound => ⟨fun hhigh hge hle hnone => ?first, fun hlow hchan => ?fails⟩,
    fun signal sv s x hsig hx hsignal hsv hlapsed => ?satellite, fun sv s w hwaits hlate => ?time⟩
  case window =>
    exact congrArg Host.Outcome.next
      (((dutyWindowRow_begins hsel hms hnew).1 hon hnone).trans (congrArg startBlocks (beginWindow_nominal hsel)))
  case windowOff =>
    exact congrArg Host.Outcome.next (((dutyWindowRow_begins hsel hms hnew).2 hoff).trans (beginWindow_nominal hsel))
  case below => exact congrArg Host.Outcome.next (dwellEnd_below hplan htask hstrong hlow)
  case forms =>
    exact congrArg Host.Outcome.next ((dwellEnd_forms hplan htask hstrong rfl hhigh (satOpen_iff.2 hopen) hsound).trans
      (formCand_held _ _ _ hmargin hreport hho))
  case first =>
    exact congrArg Host.Outcome.next (verificationEnd_first hfind hstrong hsound hhigh ⟨hge, hle⟩ hnone)
  case fails => exact congrArg Host.Outcome.next (verificationEnd_fails hfind hstrong hsound hlow hchan)
  case satellite =>
    have hsig' : signal.toNat ≠ 0 := fun h => hsig (BitVec.eq_of_toNat_eq h)
    exact congrArg Host.Outcome.next (aidLapse_satellite hsig' hx hsignal hsv hlapsed)
  case time => exact congrArg Host.Outcome.next (aidLapse_time hwaits hlate)

end Sys2Proof.Proofs

/-! SUPPORT. What the statement about the clock's events needs of the model: what each row of theirs leaves. -/
namespace Sys2Proof.Laws

open Sys2Proof.Machine Sys2Proof.Safety

/-- A row that works only while the main domain runs answers, while it runs, what its work leaves. -/
theorem next_of_mainRuns {s t u : State} (h : mainRuns s = true) (hwork : t = u) :
    (.next (if mainRuns s then t else s) : Host.Outcome State Fault Refusal) = .next u :=
  congrArg Host.Outcome.next ((if_pos h).trans hwork)

/-! ### The reference monitor (09 R365, R369, R373) -/

/-- The monitor's windows change no more of the clock than the time they measure (log 73). -/
@[simp] theorem monitorTime_clk (s : State) :
    (monitorTime s).clk = { s.clk with bypassUs := if s.nunar.running then s.clk.bypassUs else s.clk.bypassUs + 10 } := by
  unfold monitorTime; split <;> rfl

@[simp] theorem windowFreq_monitorTime (s : State) (khz : Nat) : windowFreq (monitorTime s) khz = windowFreq s khz := by
  unfold monitorTime; split <;> rfl

section
variable {khz f : Nat} {s : State}

/-- The first good window is kept with its frequency. -/
theorem refMonitor_first (habsent : s.clk.refPresent = false) (hf : windowFreq s khz = some f) (hnone : s.clk.goodWindows = 0) :
    refMonitor khz (monitorTime s) = { monitorTime s with clk.goodWindows := 1, clk.refFreq := f } := by
  simp [refMonitor, hf, habsent, hnone]

/-- The second good window of one frequency finds the reference. -/
theorem refMonitor_second (habsent : s.clk.refPresent = false) (hf : windowFreq s khz = some f) (hsome : s.clk.goodWindows ≠ 0)
    (hsame : s.clk.refFreq = f) :
    refMonitor khz (monitorTime s) = refFound f { monitorTime s with clk.goodWindows := 2 } := by
  simp [refMonitor, hf, habsent, hsome, hsame]

theorem refMonitor_outside (hpresent : s.clk.refPresent = true) (hf : windowFreq s khz = none) :
    refMonitor khz (monitorTime s) = refAbsent (monitorTime s) := by
  simp [refMonitor, hf, hpresent]

end

theorem refFound_again {f : Nat} {s : State} (hwas : s.clk.wasPresent = true) :
    refFound f s = { clkEvent 4 none 0 0 { s with clk.refPresent := true, clk.refFreq := f, clk.wasPresent := true } with clk.st := 2 } :=
  if_pos hwas

theorem refFound_anew {f : Nat} {s : State} (hwas : s.clk.wasPresent = false) :
    refFound f s =
      startLock (clkEvent 4 none 0 0 { s with clk.refPresent := true, clk.refFreq := f, clk.wasPresent := true }) :=
  if_neg (by simp [hwas])

/-- A locked clock whose reference goes absent switches to the bypass clock. -/
theorem refAbsent_locked {s : State} (hst : s.clk.st = 0) :
    refAbsent s = bypassSwitch 2 1 (clkEvent 3 none 0 0 { s with clk.refPresent := false, clk.goodWindows := 0, clk.refFreq := 0 }) :=
  if_pos (beq_iff_eq.2 hst)

/-! ### The lock (09 R366, R368, R369, R373) -/

theorem lockWindow_kept {count : Nat} {s : State} (hst : s.clk.st = 0) (hnear : countErr s count ≤ 2) :
    lockWindow count s = { s with clk.lockCount := count } :=
  (if_pos hst).trans (if_neg (Nat.not_lt.2 hnear))

theorem lockWindow_lost {count : Nat} {s : State} (hst : s.clk.st = 0) (hfar : 2 < countErr s count) :
    lockWindow count s = bypassSwitch 1 (if s.clk.refPresent then 2 else 1) { s with clk.lockCount := count } :=
  (if_pos hst).trans (if_pos hfar)

/-- After the search, a window goes on with steps 2 and 3. -/
theorem lockWindow_declaring {count : Nat} {s : State} (hst : s.clk.st = 3) (hstep : s.clk.seq.step ≠ 1) :
    lockWindow count s = declareWindow count { s with clk.lockCount := count } :=
  (if_neg (by omega)).trans ((if_pos hst).trans (if_neg hstep))

/-- The second window within 1 of step 3 declares lock. -/
theorem declareWindow_second {count : Nat} {s : State} (hstep : s.clk.seq.step = 3) (hgood : s.clk.seq.good = 1)
    (hnear : countErr s count ≤ 1) : declareWindow count s = declareLock s :=
  (if_neg (by omega)).trans ((if_pos hnear).trans (if_pos (by omega)))

theorem holdoffExpiry_held {s : State} (h : s.clk.st = 2) : holdoffExpiry s = startLock s := if_pos h

theorem lockRetry_failed {s : State} (h : s.clk.st = 4) : lockRetry s = startLock s := if_pos h

/-! ### Sweeps and alignment (09 R384, R386) -/

theorem hostSweepComplete_ended {o : Nat} {s : State} (h : (clkOutOf s o).sweep = some []) :
    hostSweepComplete o s = clkEvent 7 (some o) 0 0 (modClkOut o (fun x => { x with sweep := none }) s) := by
  simp [hostSweepComplete, h]

theorem cancelAlign_armed {s : State} {al : Align} (h : s.clk.align = some al) :
    cancelAlign s = foldS (fun o t => clkEvent 6 (some o) 0 0 t) (maskBits 4 al.outputs) { s with clk.align := none } := by
  simp only [cancelAlign, h]

/-- An alignment to SYNC_IN that 2 s pass without an edge is cancelled. -/
theorem alignmentExpiry_due {s : State} {al : Align} (hal : s.clk.align = some al) (hsrc : al.src = 0) (hseen : al.seen = none)
    (hold : al.armedMs + 2000 ≤ nowMs s) : alignmentExpiry s = cancelAlign s := by
  simp [alignmentExpiry, hal, hsrc, hseen, instantReached, hold]

/-! ### On-time edges (09 R375, R376) -/

@[simp] theorem clkOutOf_modClkOut_self (o : Nat) (f : ClkOut → ClkOut) (s : State) :
    clkOutOf (modClkOut o f s) o = f (clkOutOf s o) := by
  simp [clkOutOf, modClkOut]

@[simp] theorem placeOut_placed (e : Int) (x : ClkOut) : (placeOut e x).placed = nearestGrid e := by
  unfold placeOut; dsimp only; split <;> rfl

/-- A FORMAT and D that wait take effect where the edge is placed. -/
theorem placeOut_takes {e : Int} {x : ClkOut} {f d : Nat} (h : x.pend = some (f, d)) :
    (placeOut e x).format = f ∧ (placeOut e x).div = d ∧ (placeOut e x).pend = none := by
  have htaken : takeFormat x = { x with format := f, div := d, pend := none, aligned := false, carry := 0 } := by
    simp only [takeFormat, h]
  unfold placeOut
  rw [htaken]
  dsimp only
  split <;> exact ⟨rfl, rfl, rfl⟩

/-- The output's edge at `e` and the spacing to its next, where no alignment is armed. -/
theorem outEdgeAt_free {o : Nat} {e : Int} {s : State} (halign : s.clk.align = none) :
    outEdgeAt o e s =
      let u := modClkOut o (placeOut e) s
      let sp := outSpacing (outOffset u o ((e - s.nunar.pos) * 1000 / s.nunar.plan).toNat) (clkOutOf u o)
      modClkOut o (fun x => { x with next := some (e + sp.1 + 0), carry := sp.2 }) u := by
  have hmove : ∀ period, alignMove (modClkOut o (placeOut e) s) o e period = none := by
    intro period
    have halign' : (modClkOut o (placeOut e) s).clk.align = none := halign
    simp only [alignMove, halign']
  simp only [outEdgeAt, hmove]
  rfl

/-- The next on-time edge of a running output is placed where it lies in the millisecond in progress. -/
theorem clkOutEdge_locked {o g : Nat} {s : State} (hon : clkOutOn (clkOutOf s o) = true) (hlocked : clockBypass s = false)
    (hrun : s.nunar.running = true) :
    clkOutEdge o g s =
      let e := (clkOutOf s o).next.getD ((nearestGrid s.nunar.pos + (g : Int)) * gridOne)
      if e < s.nunar.pos + s.nunar.plan then outEdgeAt o e s else s := by
  simp [clkOutEdge, hon, hlocked, hrun]

/-! ### SYNC_IN edges (09 R385, R386; 08 R331; 04 R162) -/

theorem edgeSelected_iff {edge : Nat} {rising : Bool} : ((edge == 0) != rising) = false ↔ (edge = 0 ↔ rising = true) := by
  rw [bne_eq_false_iff_eq, Bool.eq_iff_iff, beq_iff_eq]

theorem syncInEdge_otherPolarity {rising : Bool} {g : Nat} {s : State} (h : ¬ (s.clk.edge = 0 ↔ rising = true)) :
    syncInEdge rising g s = s :=
  if_pos (by rwa [← edgeSelected_iff, Bool.not_eq_false] at h)

/-- The state after an edge has been counted (09 R385). -/
def syncCounted (s : State) : State := { s with clk.syncEdges := (s.clk.syncEdges + 1) % 2 ^ 32 }

theorem syncInEdge_counted {rising : Bool} {g : Nat} {s : State} (hedge : s.clk.edge = 0 ↔ rising = true) (hfn : s.clk.fn = 0) :
    syncInEdge rising g s = syncCounted s := by
  simp [syncInEdge, edgeSelected_iff.2 hedge, hfn, syncCounted]

/-- The place of a SYNC_IN edge `g` grid units after the last epoch. -/
def syncPlace (g : Nat) (s : State) : Int := nearestGrid s.nunar.pos + (g : Int)

/-- The instant of that edge, tagged less the delay of SYNC_IN, in ps of the scale (08 R331). -/
def syncInstant (g : Nat) (s : State) : Int := gridInstant s (syncPlace g s) - timDelay s 5 0

/-- How far that instant lies after the last epoch, ns (04 R162). -/
def syncNs (g : Nat) (s : State) : Int := syncInstant g s / 1000 - (s.epochMs : Int) * 1000000

/-- The alignments to SYNC_IN that are armed see their first edge (09 R386). -/
def syncAligned (g : Nat) (s : State) : State :=
  { syncCounted s with clk.align := s.clk.align.map (fun a =>
      if a.src = 0 ∧ a.seen.isNone then
        { a with seen := some (syncPlace g s * gridOne - psToGrid s.nunar (timDelay s 5 0)) }
      else a) }

/-- The edge kept of the epoch, where there is one, is no further from its second than one `d` after its own (08 R331). -/
def edgeKept (d : Int) : Option Int → Bool
  | some e => decide (e.natAbs ≤ d.natAbs)
  | none => false

/-- A time record that waits in time names an edge `ns` after the last epoch (04 R162). -/
def timeNamed (ns : Int) (s : State) : State := match s.acq.aid.timeWaits with
  | some w => if timeLate s then s else { s with acq.aid.time := some (w.1 - ns, w.2.1, s.ms), acq.aid.timeWaits := none }
  | none => s

/-- Naming an edge changes the records held and nothing else. -/
theorem timeNamed_eq (ns : Int) (s : State) : ∃ aid, timeNamed ns s = { s with acq.aid := aid } := by
  unfold timeNamed
  split
  · split <;> exact ⟨_, rfl⟩
  · exact ⟨s.acq.aid, rfl⟩

theorem timeNamed_waiting (ns : Int) {s : State} {w : Nat × Nat × Nat} (hwaits : s.acq.aid.timeWaits = some w)
    (hlate : timeLate s = false) : (timeNamed ns s).acq.aid.time = some (w.1 - ns, w.2.1, s.ms) := by
  simp [timeNamed, hwaits, hlate]

/-- An edge of a 1PPS signal is measured against the second, unless the epoch has a nearer one. -/
def syncMeasured (g : Nat) (s : State) : State :=
  if edgeKept (afterSecond (syncInstant g s)) s.nunar.sync then syncAligned g s
  else { syncAligned g s with nunar.sync := some (afterSecond (syncInstant g s)) }

/-- Measuring an edge changes the edge kept and nothing else. -/
theorem syncMeasured_eq (g : Nat) (s : State) : ∃ x, syncMeasured g s = { syncAligned g s with nunar.sync := x } := by
  unfold syncMeasured
  split
  · exact ⟨s.nunar.sync, rfl⟩
  · exact ⟨_, rfl⟩

theorem gridInstant_syncMeasured (g : Nat) (s : State) (p : Int) : gridInstant (syncMeasured g s) p = gridInstant s p := by
  obtain ⟨x, hx⟩ := syncMeasured_eq g s
  simp only [gridInstant, stepDue, msLen, freqApplied, hx, syncAligned, syncCounted]
  rfl

theorem timDelay_syncMeasured (g : Nat) (s : State) (type i : Nat) : timDelay (syncMeasured g s) type i = timDelay s type i := by
  obtain ⟨x, hx⟩ := syncMeasured_eq g s
  simp only [timDelay, hx, syncAligned, syncCounted]

theorem syncMeasured_epochMs (g : Nat) (s : State) : (syncMeasured g s).epochMs = s.epochMs := by
  obtain ⟨x, hx⟩ := syncMeasured_eq g s
  simp only [hx, syncAligned, syncCounted]

theorem timeLate_syncMeasured (g : Nat) (s : State) : timeLate (syncMeasured g s) = timeLate s := by
  obtain ⟨x, hx⟩ := syncMeasured_eq g s
  simp only [timeLate, nowMs, bypassMs, hx, syncAligned, syncCounted]
  rfl

theorem syncMeasured_first {g : Nat} {s : State} (h : s.nunar.sync = none) :
    (syncMeasured g s).nunar.sync = some (afterSecond (syncInstant g s)) := by
  simp [syncMeasured, edgeKept, h]

/-- After an edge of a 1PPS signal: it is measured, and a time record may name it. -/
def syncTimed (g : Nat) (s : State) : State :=
  timeNamed (syncNs g s) (syncMeasured g s)

theorem syncTimed_clk (g : Nat) (s : State) : (syncTimed g s).clk = (syncAligned g s).clk := by
  obtain ⟨aid, haid⟩ := timeNamed_eq (syncNs g s) (syncMeasured g s)
  obtain ⟨x, hx⟩ := syncMeasured_eq g s
  rw [syncTimed, haid, hx]

theorem syncTimed_sync (g : Nat) (s : State) : (syncTimed g s).nunar.sync = (syncMeasured g s).nunar.sync := by
  obtain ⟨aid, haid⟩ := timeNamed_eq (syncNs g s) (syncMeasured g s)
  rw [syncTimed, haid]

theorem syncTimed_time {g : Nat} {s : State} {w : Nat × Nat × Nat} (hwaits : s.acq.aid.timeWaits = some w)
    (hlate : timeLate s = false) :
    (syncTimed g s).acq.aid.time = some (w.1 - syncNs g s, w.2.1, s.ms) := by
  obtain ⟨x, hx⟩ := syncMeasured_eq g s
  have hwaits' : (syncMeasured g s).acq.aid.timeWaits = some w := by rw [hx]; exact hwaits
  have hms : (syncMeasured g s).ms = s.ms := by rw [hx]; rfl
  rw [syncTimed, timeNamed_waiting _ hwaits' ((timeLate_syncMeasured g s).trans hlate), hms]

section
variable {rising : Bool} {g : Nat} {s : State} (hedge : s.clk.edge = 0 ↔ rising = true) (hlocked : clockBypass s = false)
  (hrun : s.nunar.running = true)
include hedge hlocked hrun

/-- An edge of the selected polarity, while epochs run, is seen by the alignments; one of a 1PPS signal is measured as well. -/
theorem syncInEdge_seen (hfn : s.clk.fn ≠ 0) :
    syncInEdge rising g s = if s.clk.fn = 2 then syncTimed g s else syncAligned g s := by
  have hgo : ¬ (s.clk.fn = 0 ∨ clockBypass s = true ∨ (!s.nunar.running) = true) := by simp [hfn, hlocked, hrun]
  unfold syncInEdge
  rw [if_neg (by rw [Bool.not_eq_true]; exact edgeSelected_iff.2 hedge)]
  extract_lets _ counted p i _ aligned d keep _ kept ns
  have haligned : aligned = syncAligned g s := if_neg hgo
  clear_value aligned
  subst haligned
  by_cases hpps : s.clk.fn = 2
  · have hmeasures : ¬ (s.clk.fn ≠ 2 ∨ clockBypass s = true ∨ (!s.nunar.running) = true) := by simp [hpps, hlocked, hrun]
    have hkept : kept = syncMeasured g s := rfl
    have hns : ns = syncNs g s := by
      simp only [ns, hkept, gridInstant_syncMeasured, timDelay_syncMeasured, syncMeasured_epochMs]
      rfl
    clear_value ns kept
    subst hns hkept
    rw [if_pos hpps]
    exact if_neg hmeasures
  · rw [if_neg hpps]
    exact if_pos (.inl hpps)

end

end Sys2Proof.Laws

/-! The statement about the clock's events (09), settled. -/
namespace Sys2Proof.Proofs

open Sys2Proof.Machine Sys2Proof.Safety Sys2Proof.Laws

/-- Settles O18: the row of each event, on a state that meets its condition, is the branch that its law names; what an on-time edge and a
SYNC_IN edge leave is read off the state that its law writes down. -/
theorem clockEventsComplete : Obligations.ClockEventsComplete := by
  refine ⟨fun khz s f hmain habsent hf => ⟨fun hnone => ?first, fun hsome hsame hwas => ?again, fun hsome hsame hwas => ?anew⟩,
    fun khz s hmain hpresent hf hst => ?lost, fun count s hmain hst => ⟨fun hnear => ?kept, fun hfar => ?unlocks⟩,
    fun count s hmain hst hstep hgood hnear => ?declares, fun s hmain => ⟨fun hst => ?holdoff, fun hst => ?retry⟩,
    fun o s hmain hsweep => ?sweep, fun s al hmain hal hsrc hseen hold => ?expiry,
    fun o g s hmain hon hlocked hrun halign => ⟨fun hnow => ⟨?edge, ?placed, fun f d hpend => ?takes⟩, fun hlater => ?later⟩,
    fun s => rfl,
    fun rising g s hmain => ⟨fun hother => ?polarity, fun hedge hfn => ?counted, fun hedge hfn hlocked hrun => ?seen⟩⟩
  case first => exact next_of_mainRuns hmain (refMonitor_first habsent hf hnone)
  case again =>
    exact next_of_mainRuns hmain
      ((refMonitor_second habsent hf hsome hsame).trans (refFound_again (by simpa using hwas)))
  case anew =>
    exact next_of_mainRuns hmain
      ((refMonitor_second habsent hf hsome hsame).trans (refFound_anew (by simpa using hwas)))
  case lost =>
    exact next_of_mainRuns hmain
      ((refMonitor_outside hpresent hf).trans (refAbsent_locked (by simpa using hst)))
  case kept => exact next_of_mainRuns hmain (lockWindow_kept hst hnear)
  case unlocks => exact next_of_mainRuns hmain (lockWindow_lost hst hfar)
  case declares =>
    exact next_of_mainRuns hmain ((lockWindow_declaring hst (by omega)).trans (declareWindow_second hstep hgood hnear))
  case holdoff => exact next_of_mainRuns hmain (holdoffExpiry_held hst)
  case retry => exact next_of_mainRuns hmain (lockRetry_failed hst)
  case sweep => exact next_of_mainRuns hmain (hostSweepComplete_ended hsweep)
  case expiry =>
    exact next_of_mainRuns hmain ((alignmentExpiry_due hal hsrc hseen hold).trans (cancelAlign_armed hal))
  case edge =>
    exact next_of_mainRuns hmain ((clkOutEdge_locked hon hlocked hrun).trans ((if_pos hnow).trans (outEdgeAt_free halign)))
  case placed => rw [clkOutOf_modClkOut_self, placeOut_placed]
  case takes =>
    rw [clkOutOf_modClkOut_self]
    exact placeOut_takes hpend
  case later =>
    exact next_of_mainRuns hmain ((clkOutEdge_locked hon hlocked hrun).trans (if_neg (Int.not_lt.2 hlater)))
  case polarity => exact next_of_mainRuns hmain (syncInEdge_otherPolarity hother)
  case counted => exact next_of_mainRuns hmain (syncInEdge_counted hedge hfn)
  case seen =>
    refine ⟨_, next_of_mainRuns hmain (syncInEdge_seen hedge hlocked hrun hfn), ?_⟩
    by_cases hpps : s.clk.fn = 2
    · rw [if_pos hpps, syncTimed_clk, syncTimed_sync]
      exact ⟨rfl, rfl, fun _ hnone => syncMeasured_first hnone, fun hnot => absurd hpps hnot,
        fun w _ hwaits hlate => syncTimed_time hwaits hlate⟩
    · rw [if_neg hpps]
      exact ⟨rfl, rfl, fun h => absurd h hpps, fun _ => rfl, fun _ h => absurd h hpps⟩

end Sys2Proof.Proofs

/-! SUPPORT. What the commands of the tracking array (05) ask, and what each of them leaves or answers. -/
namespace Sys2Proof.Laws

open Sys2Proof.Machine Sys2Proof.Safety

/-! ### TRK_ASSIGN (05 R233 to R238) -/

theorem sliceOfSignal_eq {signal : Nat} {i : SigInfo} (h : sigOf signal = some i) : sliceOfSignal signal = i.slice := by
  simp [sliceOfSignal, h]

/-- CHANNEL of TRK_ASSIGN names the free channel `c`, or asks for the lowest free one, which is `c` (05 R233). -/
def NamesChannel (ch c : Nat) (s : State) : Prop :=
  ch = c ∧ c ≤ 191 ∧ chanAssigned s c = false ∨ ch = 255 ∧ lowestFree s = some c

theorem NamesChannel.inRange {ch c : Nat} {s : State} (h : NamesChannel ch c s) : (decide (ch ≤ 191) || ch == 255) = true := by
  rcases h with ⟨rfl, hle, -⟩ | ⟨rfl, -⟩
  · simp [hle]
  · rfl

theorem NamesChannel.notTaken {ch c : Nat} {s : State} (h : NamesChannel ch c s) : (ch != 255 && chanAssigned s ch) = false := by
  rcases h with ⟨rfl, -, hfree⟩ | ⟨rfl, -⟩
  · simp [hfree]
  · rfl

theorem NamesChannel.pick {ch c : Nat} {s : State} (h : NamesChannel ch c s) :
    (if ch = 255 then allocate s else some (ch, s)) = some (c, s) := by
  rcases h with ⟨rfl, hle, -⟩ | ⟨hall, hlow⟩
  · exact if_neg (by omega)
  · refine (if_pos hall).trans ?_
    unfold allocate
    rw [hlow]

/-- The apertures that TRK_ASSIGN names (05 R234). -/
def assignMask (p : Packet) : Nat := uN 3 p.params 4

/-- The anchor that TRK_ASSIGN names, or the lowest of its apertures (05 R220). -/
def assignAnchor (p : Packet) : Nat :=
  if u8 p.params 7 = 255 then (maskBits 24 (assignMask p)).headD 0 else u8 p.params 7

section
variable {p : Packet} {s : State} {i : SigInfo} {c : Nat} (hsig : sigOf (u8 p.params 0) = some i) (hsv : svOk i (u8 p.params 1) = true)
  (hmask : assignMask p ≠ 0)
  (hanchor : u8 p.params 7 = 255 ∨ u8 p.params 7 < 24 ∧ (assignMask p).testBit (u8 p.params 7) = true)
  (hzero : zeroAt p.params 9 3 = true) (hnew : tracks s (u8 p.params 0) (u8 p.params 1) = false)
  (haprs : ∀ a ∈ maskBits 24 (assignMask p), aprAssignable s a = true ∧ (aprOf s a).slicesOn.testBit i.slice = true)
  (hroom : (assignedChannels s).length + 1 ≤ s.profile.env.channels)
  (henv : ∀ a ∈ maskBits 24 (assignMask p), s.profile.env.aprMask.testBit a = true) (hchan : NamesChannel (u8 p.params 2) c s)
include hsig hsv hmask hanchor hzero hnew haprs hroom henv hchan

/-- A signal whose start is known goes to the channel: what is left of TRK_ASSIGN's checks is how it starts (05 R234, R235). -/
theorem trkAssignAct_starts
    (hflags : u8 p.params 3 = 1 ∧ u8 p.params 8 = 255 ∨ u8 p.params 3 = 2 ∧ u8 p.params 8 ≤ 191)
    (hstart : (if u8 p.params 3 = 2 then companionOk s (u8 p.params 8) (u8 p.params 0) (u8 p.params 1)
      else u8 p.params 0 != 0x14 && aidClose (aidedWindow s (u8 p.params 0) (u8 p.params 1) 0)) = true) :
    trkAssignAct p s = answer (le 1 c ++ zeros 3)
      (modChan c (if u8 p.params 3 = 2 then fromCompanion s (u8 p.params 8)
          else startNcos s ((aidedWindow s (u8 p.params 0) (u8 p.params 1) 0).place - groupDelay i.slice)
            (aidedWindow s (u8 p.params 0) (u8 p.params 1) 0).doppler)
        (assignChannel c (u8 p.params 0) (u8 p.params 1) (assignMask p) (assignAnchor p) 0 false (u8 p.params 3 == 2) s)) := by
  have hmask' : (assignMask p != 0) = true := bne_iff_ne.2 hmask
  have hanchor' : (u8 p.params 7 == 255 || (decide (u8 p.params 7 < 24) && (assignMask p).testBit (u8 p.params 7))) = true := by
    simpa using hanchor
  have hflags' : (u8 p.params 3 == 1 || u8 p.params 3 == 2) = true := by
    rcases hflags with ⟨h, -⟩ | ⟨h, -⟩ <;> simp [h]
  have hcomp : (if u8 p.params 3 = 2 then decide (u8 p.params 8 ≤ 191) else u8 p.params 8 == 255) = true := by
    rcases hflags with ⟨h, h'⟩ | ⟨h, h'⟩ <;> simp [h, h']
  have haprs' : (maskBits 24 (assignMask p)).any (fun a => !aprAssignable s a || !(aprOf s a).slicesOn.testBit i.slice) = false := by
    rw [List.any_eq_false]
    intro a ha
    simp [haprs a ha]
  have henv' : (maskBits 24 (assignMask p)).any (fun a => !s.profile.env.aprMask.testBit a) = false := by
    simpa [List.any_eq_false] using henv
  unfold assignMask assignAnchor at *
  simp only [trkAssignAct, hsig, sliceOfSignal_eq hsig, hsv, hchan.inRange, hflags', hmask', hanchor', hcomp, hzero, hnew,
    hchan.notTaken, haprs', hstart, hchan.pick, henv', decide_eq_false (Nat.not_lt.2 hroom)]
  rfl

/-- A signal that aiding places closely starts from there (05 R235). -/
theorem trkAssignAct_aided (hflags : u8 p.params 3 = 1) (hcomp : u8 p.params 8 = 255) (halt : u8 p.params 0 ≠ 0x14)
    (hclose : aidClose (aidedWindow s (u8 p.params 0) (u8 p.params 1) 0) = true) :
    trkAssignAct p s = answer (le 1 c ++ zeros 3)
      (modChan c (startNcos s ((aidedWindow s (u8 p.params 0) (u8 p.params 1) 0).place - groupDelay i.slice)
          (aidedWindow s (u8 p.params 0) (u8 p.params 1) 0).doppler)
        (assignChannel c (u8 p.params 0) (u8 p.params 1) (assignMask p) (assignAnchor p) 0 false false s)) := by
  have h := trkAssignAct_starts hsig hsv hmask hanchor hzero hnew haprs hroom henv hchan (.inl ⟨hflags, hcomp⟩)
    (by simp [hflags, halt, hclose])
  rw [hflags] at h
  exact h

/-- A signal starts from its companion (05 R235, R236). -/
theorem trkAssignAct_companion (hflags : u8 p.params 3 = 2) (hcomp : u8 p.params 8 ≤ 191)
    (hok : companionOk s (u8 p.params 8) (u8 p.params 0) (u8 p.params 1) = true) :
    trkAssignAct p s = answer (le 1 c ++ zeros 3)
      (modChan c (fromCompanion s (u8 p.params 8))
        (assignChannel c (u8 p.params 0) (u8 p.params 1) (assignMask p) (assignAnchor p) 0 false true s)) := by
  have h := trkAssignAct_starts hsig hsv hmask hanchor hzero hnew haprs hroom henv hchan (.inr ⟨hflags, hcomp⟩)
    (by simp [hflags, hok])
  rw [hflags] at h
  exact h

end

/-! ### Release, loops, correlators, bursts and anchors (05 R226, R227, R240 to R242, R245) -/

theorem trkReleaseAct_ok {p : Packet} {s : State} (hchan : u8 p.params 0 ≤ 191 ∨ u8 p.params 0 = 255)
    (hzero : zeroAt p.params 1 3 = true) :
    trkReleaseAct p s = done
      (foldS (fun c u => if chanAssigned u c then modChan c (fun x => { x with pendRelease := some 1 }) u else u)
        (chanTargets (u8 p.params 0) s) s) := by
  simp only [trkReleaseAct, address_inRange hchan, hzero]
  rfl

/-- The settings that TRK_LOOPS names, in those of before (05 R241). -/
def trkLoopsNew (p : Packet) (g : ChanCfg) : ChanCfg :=
  { g with
    assist := u8 p.params 1 == 1, pllOrder := u8 p.params 2, dllOrder := u8 p.params 3, pllBw := u16 p.params 4,
    fllBw := u16 p.params 6, dllBw := u16 p.params 8, resBw := u8 p.params 10, coh := u8 p.params 11, lossCn0 := u8 p.params 12,
    coast := u8 p.params 13 }

theorem trkLoopsAct_ok {p : Packet} {s : State} (hchan : u8 p.params 0 ≤ 191 ∨ u8 p.params 0 = 255) (hassist : u8 p.params 1 ≤ 1)
    (hpll : u8 p.params 2 = 2 ∨ u8 p.params 2 = 3) (hdll : u8 p.params 3 = 1 ∨ u8 p.params 3 = 2) (hpbw : 10 ≤ u16 p.params 4)
    (hpbw' : u16 p.params 4 ≤ 500) (hfbw : 10 ≤ u16 p.params 6) (hfbw' : u16 p.params 6 ≤ 200) (hdbw : 5 ≤ u16 p.params 8)
    (hdbw' : u16 p.params 8 ≤ 1000) (hres : 5 ≤ u8 p.params 10) (hres' : u8 p.params 10 ≤ 200) (hcoh : 1 ≤ u8 p.params 11)
    (hcoh' : u8 p.params 11 ≤ 20) (hloss : 10 ≤ u8 p.params 12) (hloss' : u8 p.params 12 ≤ 40) (hcoast : u8 p.params 13 ≤ 100)
    (hzero : zeroAt p.params 14 2 = true) (hpll' : u16 p.params 4 * u8 p.params 11 ≤ 3000)
    (hfll : u16 p.params 6 * u8 p.params 11 ≤ 3000)
    (hfit : ∀ c ∈ chanTargets (u8 p.params 0) s,
      chanAssigned s c = true ∧ u8 p.params 11 ≤ cohFine (chanOf s c).signal (chanOf s c).sv) :
    trkLoopsAct p s = done
      (foldS (fun c u => modChan c (fun x => { x with pendCfg := some (trkLoopsNew p (chanCfgNext x)) }) u)
        (chanTargets (u8 p.params 0) s) s) := by
  have horder : 2 ≤ u8 p.params 2 ∧ u8 p.params 2 ≤ 3 := by omega
  have horder' : 1 ≤ u8 p.params 3 ∧ u8 p.params 3 ≤ 2 := by omega
  have hfit' : (chanTargets (u8 p.params 0) s).any
      (fun c => !chanAssigned s c || decide (cohFine (chanOf s c).signal (chanOf s c).sv < u8 p.params 11)) = false := by
    rw [List.any_eq_false]
    intro c hc
    simp [hfit c hc]
  simp only [trkLoopsAct, address_inRange hchan, hzero, hfit', Nat.not_lt.2 hassist, Nat.not_lt.2 horder.1, Nat.not_lt.2 horder.2,
    Nat.not_lt.2 horder'.1, Nat.not_lt.2 horder'.2, Nat.not_lt.2 hpbw, Nat.not_lt.2 hpbw', Nat.not_lt.2 hfbw, Nat.not_lt.2 hfbw',
    Nat.not_lt.2 hdbw, Nat.not_lt.2 hdbw', Nat.not_lt.2 hres, Nat.not_lt.2 hres', Nat.not_lt.2 hcoh, Nat.not_lt.2 hcoh',
    Nat.not_lt.2 hloss, Nat.not_lt.2 hloss', Nat.not_lt.2 hcoast, Nat.not_lt.2 hpll', Nat.not_lt.2 hfll]
  rfl

/-- The settings that TRK_CORR names, in those of before (05 R242). -/
def trkCorrNew (p : Packet) (g : ChanCfg) : ChanCfg :=
  { g with
    dllMode := u8 p.params 1, elHalf := u16 p.params 2, vevlHalf := u16 p.params 4, narrowHalf := u16 p.params 6,
    bocGuard := u8 p.params 8 == 1 }

theorem trkCorrAct_ok {p : Packet} {s : State} (hchan : u8 p.params 0 ≤ 191 ∨ u8 p.params 0 = 255) (hmode : u8 p.params 1 ≤ 3)
    (hel : 10 ≤ u16 p.params 2) (hel' : u16 p.params 2 ≤ 200) (hve : 20 ≤ u16 p.params 4) (hve' : u16 p.params 4 ≤ 400)
    (hna : 5 ≤ u16 p.params 6) (hna' : u16 p.params 6 ≤ 40) (hboc : u8 p.params 8 ≤ 1) (hzero : zeroAt p.params 9 3 = true)
    (hinner : u16 p.params 6 < u16 p.params 2) (houter : u16 p.params 2 < u16 p.params 4)
    (hdouble : u8 p.params 1 = 2 → u16 p.params 4 = 2 * u16 p.params 2) (hguard : u8 p.params 8 = 1 → u16 p.params 4 = 100)
    (hfit : ∀ c ∈ chanTargets (u8 p.params 0) s, chanAssigned s c = true) (hprofile : u8 p.params 1 = 3 → s.profile.sel = 2) :
    trkCorrAct p s = done
      (foldS (fun c u => modChan c (fun x => { x with pendCfg := some (trkCorrNew p (chanCfgNext x)) }) u)
        (chanTargets (u8 p.params 0) s) s) := by
  have hfit' : (chanTargets (u8 p.params 0) s).any (fun c => !chanAssigned s c) = false := by
    simpa [List.any_eq_false] using hfit
  have hdouble' : (u8 p.params 1 == 2 && u16 p.params 4 != 2 * u16 p.params 2) = false := by
    simpa using hdouble
  have hguard' : (u8 p.params 8 == 1 && u16 p.params 4 != 100) = false := by simpa using hguard
  have hprofile' : (u8 p.params 1 == 3 && s.profile.sel != 2) = false := by simpa using hprofile
  simp only [trkCorrAct, address_inRange hchan, hzero, hfit', hdouble', hguard', hprofile', hinner, houter, Nat.not_lt.2 hmode,
    Nat.not_lt.2 hel, Nat.not_lt.2 hel', Nat.not_lt.2 hve, Nat.not_lt.2 hve', Nat.not_lt.2 hna, Nat.not_lt.2 hna', Nat.not_lt.2 hboc]
  rfl

theorem trkBurstAct_ok {p : Packet} {s : State} (hzero : zeroAt p.params 1 1 = true) (hzero' : zeroAt p.params 7 1 = true)
    (hranges : u8 p.params 0 = 0 ∧ u16 p.params 2 = 0 ∧ u16 p.params 4 = 0 ∧ u8 p.params 6 = 0
      ∨ u8 p.params 0 = 1 ∧ 20 ≤ u16 p.params 2 ∧ u16 p.params 2 ≤ 200 ∧ u16 p.params 4 + u16 p.params 2 ≤ 1000
        ∧ 1 ≤ u8 p.params 6 ∧ u8 p.params 6 ≤ 10)
    (hprofile : s.profile.sel = 4) :
    trkBurstAct p s = done
      { s with burst.pend := some (u8 p.params 0 == 1, u16 p.params 2, u16 p.params 4, u8 p.params 6) } := by
  simp only [trkBurstAct, hzero, hzero', hprofile]
  rcases hranges with ⟨hoff, hlen, hphase, hmiss⟩ | ⟨hon, hlen, hlen', hphase, hmiss, hmiss'⟩
  · simp [hoff, hlen, hphase, hmiss]
  · simp [hon, Nat.not_lt.2 hlen, Nat.not_lt.2 hlen', Nat.not_lt.2 hphase, Nat.ne_of_gt hmiss, Nat.not_lt.2 hmiss']

theorem trkAnchorAct_ok {p : Packet} {s : State} (hchan : u8 p.params 0 ≤ 191 ∨ u8 p.params 0 = 255)
    (hapr : u8 p.params 1 ≤ 23 ∨ u8 p.params 1 = 255) (hzero : zeroAt p.params 2 2 = true)
    (hfit : ∀ c ∈ chanTargets (u8 p.params 0) s,
      chanAssigned s c = true ∧ (u8 p.params 1 ≠ 255 → (chanOf s c).aprMask.testBit (u8 p.params 1) = true)) :
    trkAnchorAct p s = done
      (foldS (fun c u => modChan c (fun x => { x with
        pin := if u8 p.params 1 = 255 then none else some (u8 p.params 1), pinDue := u8 p.params 1 != 255, pinOverridden := false }) u)
        (chanTargets (u8 p.params 0) s) s) := by
  have hfit' : (chanTargets (u8 p.params 0) s).any
      (fun c => !chanAssigned s c || (u8 p.params 1 != 255 && !(chanOf s c).aprMask.testBit (u8 p.params 1))) = false := by
    simpa [List.any_eq_false] using hfit
  simp only [trkAnchorAct, address_inRange hchan, address_inRange hapr, hzero, hfit']
  rfl

/-! ### TRK_STATUS (05 R249) -/

theorem trkStatusAct_free {p : Packet} {s : State} (hchan : u8 p.params 0 ≤ 191) (hzero : zeroAt p.params 1 3 = true)
    (hfree : (chanOf s (u8 p.params 0)).state = .free) :
    trkStatusAct p s = answer (le 1 (u8 p.params 0) ++ zeros 4 ++ [255, 0, 0]) s := by
  simp only [trkStatusAct, Nat.not_lt.2 hchan, hzero, hfree]
  simp
  rfl

/-- FLAGS of TRK_STATUS (05 R249). -/
def chanFlags (s : State) (x : Channel) : Nat :=
  b2n x.provisional + 2 * b2n x.sync + 4 * b2n x.halfResolved + 8 * b2n x.pin.isSome + 16 * b2n x.pinOverridden
    + 32 * b2n x.companion + 64 * b2n (match x.commonMs with | some t => decide (s.ms < t + 1000) | none => false)

/-- The bits of a sum of seven flags are the flags. -/
theorem testBit_sevenFlags (a b c d e f g : Bool) :
    let n := b2n a + 2 * b2n b + 4 * b2n c + 8 * b2n d + 16 * b2n e + 32 * b2n f + 64 * b2n g
    n.testBit 0 = a ∧ n.testBit 1 = b ∧ n.testBit 2 = c ∧ n.testBit 3 = d ∧ n.testBit 4 = e ∧ n.testBit 5 = f := by
  revert a b c d e f g
  decide

theorem trkStatusAct_assigned {p : Packet} {s : State} (hchan : u8 p.params 0 ≤ 191) (hzero : zeroAt p.params 1 3 = true)
    (hsome : (chanOf s (u8 p.params 0)).state ≠ .free) :
    trkStatusAct p s = answer
      (le 1 (u8 p.params 0) ++ le 1 (chanCode (chanOf s (u8 p.params 0)).state) ++ le 1 (chanOf s (u8 p.params 0)).signal
        ++ le 1 (chanOf s (u8 p.params 0)).sv ++ le 1 (chanFlags s (chanOf s (u8 p.params 0)))
        ++ le 1 (chanOf s (u8 p.params 0)).anchor ++ le 1 (chanAprs s (u8 p.params 0)).length
        ++ le 1 (chanOf s (u8 p.params 0)).cohNow
        ++ (chanAprs s (u8 p.params 0)).flatMap (chanAprEntry s (u8 p.params 0))) s := by
  simp only [trkStatusAct, Nat.not_lt.2 hchan, hzero, hsome, if_false]
  rfl

end Sys2Proof.Laws

/-! The statement about the tracking array's commands (05), settled. -/
namespace Sys2Proof.Proofs

open Sys2Proof.Machine Sys2Proof.Safety Sys2Proof.Laws

/-- Settles O9: each accepted form passes its command's own checks, and the row commits what the command then answers. -/
theorem trackingCommandsComplete : Obligations.TrackingCommandsComplete := by
  refine ⟨fun p s i h hsig hsv hmask hanchor hzero hnew haprs hroom henv c hchan =>
      ⟨fun hflags hcomp halt hclose => ?aided, fun hflags hcomp hok => ?companion⟩,
    fun p s h hchan hzero => ?release,
    fun p s h hchan hassist hpll hdll hpbw hpbw' hfbw hfbw' hdbw hdbw' hres hres' hcoh hcoh' hloss hloss' hcoast hzero hpll' hfll
      hfit => ?loops,
    fun p s h hchan hmode hel hel' hve hve' hna hna' hboc hzero hinner houter hdouble hguard hfit hprofile => ?corr,
    fun p s h hzero hzero' hranges hprofile => ?burst,
    fun p s h hchan hzero => ⟨fun hfree => ?statusFree, fun hsome => ?statusAssigned⟩,
    fun p s h hchan hapr hzero hfit => ?anchor⟩
  case aided =>
    exact exec_of_act_ok rfl h
      (trkAssignAct_aided hsig hsv hmask hanchor hzero hnew haprs hroom henv hchan hflags hcomp halt hclose)
  case companion =>
    exact exec_of_act_ok rfl h
      (trkAssignAct_companion hsig hsv hmask hanchor hzero hnew haprs hroom henv hchan hflags hcomp hok)
  case release => exact exec_of_act_ok rfl h (trkReleaseAct_ok hchan hzero)
  case loops =>
    exact exec_of_act_ok rfl h
      (trkLoopsAct_ok hchan hassist hpll hdll hpbw hpbw' hfbw hfbw' hdbw hdbw' hres hres' hcoh hcoh' hloss hloss' hcoast hzero hpll'
        hfll hfit)
  case corr =>
    exact exec_of_act_ok rfl h
      (trkCorrAct_ok hchan hmode hel hel' hve hve' hna hna' hboc hzero hinner houter hdouble hguard hfit hprofile)
  case burst => exact exec_of_act_ok rfl h (trkBurstAct_ok hzero hzero' hranges hprofile)
  case statusFree => exact exec_of_act_ok rfl h (trkStatusAct_free hchan hzero hfree)
  case statusAssigned =>
    exact ⟨_, exec_of_act_ok rfl h (trkStatusAct_assigned hchan hzero hsome), testBit_sevenFlags ..⟩
  case anchor => exact exec_of_act_ok rfl h (trkAnchorAct_ok hchan hapr hzero hfit)

end Sys2Proof.Proofs

/-! SUPPORT. What the events of the tracking array (05) need of the model: the channels and their apertures read back, what the work on them
leaves alone, and what each row leaves. -/
namespace Sys2Proof.Laws

open Sys2Proof.Machine Sys2Proof.Safety

/-! ### Folds and masks -/

/-- What one member's step brings about, and every step keeps, holds after the fold. -/
theorem foldS_reaches {α σ : Type} {P : σ → Prop} (f : α → σ → σ) (hf : ∀ a s, P s → P (f a s)) {a : α} (ha : ∀ s, P (f a s))
    {l : List α} (hmem : a ∈ l) (s : σ) : P (foldS f l s) := by
  induction l generalizing s with
  | nil => cases hmem
  | cons b l ih =>
    rcases List.mem_cons.1 hmem with rfl | hin
    · exact foldS_keeps f hf l (ha s)
    · exact ih hin (f b s)

/-- A fold of steps that leave a part of the state alone leaves it alone. -/
theorem foldS_frame {α σ τ : Type} (part : σ → τ) (f : α → σ → σ) (hf : ∀ a s, part (f a s) = part s) (l : List α) (s : σ) :
    part (foldS f l s) = part s :=
  foldS_keeps (P := fun t => part t = part s) f (fun a t ht => (hf a t).trans ht) l rfl

theorem testBit_bitsMask (l : List Nat) (i : Nat) : (bitsMask l).testBit i = decide (i ∈ l) := by
  suffices h : ∀ m : Nat, (l.foldl (fun m i => m ||| (1 <<< i)) m).testBit i = (m.testBit i || decide (i ∈ l)) by
    simpa [bitsMask] using h 0
  induction l with
  | nil => simp
  | cons j l ih =>
    intro m
    rw [List.foldl_cons, ih, Nat.testBit_or, Nat.one_shiftLeft, Nat.testBit_two_pow]
    simp [Bool.or_assoc, eq_comm]

/-- A bit of its own added to a number that lacks it changes no bit above it. -/
theorem testBit_two_pow_add_above {n i j : Nat} (hclear : n.testBit i = false) (hij : i < j) :
    (2 ^ i + n).testBit j = n.testBit j := by
  have hlow : n % 2 ^ (i + 1) < 2 ^ i := by
    have hbit : n / 2 ^ i % 2 = 0 := by simpa [Nat.testBit_eq_decide_div_mod_eq] using hclear
    rw [Nat.mod_pow_succ, hbit, Nat.mul_zero, Nat.add_zero]
    exact Nat.mod_lt n (Nat.two_pow_pos i)
  have hpow : 2 ^ (i + 1) = 2 ^ i + 2 ^ i := by omega
  have hsplit := Nat.div_add_mod n (2 ^ (i + 1))
  generalize n / 2 ^ (i + 1) = a at hsplit
  generalize n % 2 ^ (i + 1) = b at hsplit hlow
  subst hsplit
  rw [Nat.add_left_comm, Nat.testBit_two_pow_mul_add a (by omega), Nat.testBit_two_pow_mul_add a (by omega),
    if_neg (by omega), if_neg (by omega)]

/-- Clearing a bit of a mask clears that bit and no other. -/
theorem testBit_setBit_false (m i j : Nat) : (setBit m i false).testBit j = (m.testBit j && decide (i ≠ j)) := by
  simp only [setBit, Bool.false_eq_true, if_false]
  split
  · next hset =>
    obtain ⟨n, rfl⟩ := Nat.exists_eq_add_of_le (Nat.ge_two_pow_of_testBit hset)
    have hclear : n.testBit i = false := by simpa [Nat.testBit_two_pow_add_eq] using hset
    rw [Nat.add_sub_cancel_left]
    rcases Nat.lt_trichotomy j i with hlt | rfl | hgt
    · simp [Nat.testBit_two_pow_add_gt hlt, Nat.ne_of_gt hlt]
    · simp [hclear]
    · simp [testBit_two_pow_add_above hclear hgt, Nat.ne_of_lt hgt]
  · next hclear =>
    by_cases hij : i = j
    · subst hij; simpa using hclear
    · simp [hij]

/-! ### One channel, one channel-aperture -/

@[simp] theorem chanOf_modChan_self (c : Nat) (f : Channel → Channel) (s : State) : chanOf (modChan c f s) c = f (chanOf s c) := by
  simp [chanOf, modChan]

theorem chanOf_modChan_ne {c d : Nat} (f : Channel → Channel) (s : State) (h : d ≠ c) : chanOf (modChan c f s) d = chanOf s d :=
  tget_tmod_ne _ _ _ h

@[simp] theorem caOf_modCa_self (c a : Nat) (f : ChanApr → ChanApr) (s : State) : caOf (modCa c a f s) c a = f (caOf s c a) := by
  simp [caOf, modCa]

theorem Sends.chans {s t : State} (h : Sends s t) : t.chans = s.chans := by
  have := congrArg State.chans h.quiet; exact this

theorem Sends.chanOf {s t : State} (h : Sends s t) (c : Nat) : chanOf t c = chanOf s c := by
  simp only [Machine.chanOf, h.chans]

/-! ### What the work on channels and apertures leaves alone -/

/-- The state apart from the channels, the apertures and what sending changes: what the work of an epoch on channels leaves alone. -/
def besideChans (s : State) : State := { quiet s with chans := [], apertures := [], acq.chans := [] }

theorem burst_of_besideChans {s t : State} (h : besideChans t = besideChans s) : t.burst = s.burst := by
  have := congrArg State.burst h; exact this

theorem islands_of_besideChans {s t : State} (h : besideChans t = besideChans s) : t.islands = s.islands := by
  have := congrArg State.islands h; exact this

theorem ms_of_besideChans {s t : State} (h : besideChans t = besideChans s) : t.ms = s.ms := by
  have := congrArg State.ms h; exact this

theorem Sends.besideChans {s t : State} (h : Sends s t) : besideChans t = besideChans s :=
  congrArg (fun u : State => { u with chans := [], apertures := [], acq.chans := [] }) h.quiet

@[simp] theorem besideChans_modChan (c : Nat) (f : Channel → Channel) (s : State) : besideChans (modChan c f s) = besideChans s := rfl
@[simp] theorem besideChans_modCa (c a : Nat) (f : ChanApr → ChanApr) (s : State) : besideChans (modCa c a f s) = besideChans s := rfl
@[simp] theorem besideChans_modApr (a : Nat) (f : Aperture → Aperture) (s : State) : besideChans (modApr a f s) = besideChans s := rfl

@[simp] theorem besideChans_chanEvent (kind c a detail : Nat) (value : Int) (s : State) :
    besideChans (chanEvent kind c a detail value s) = besideChans s := by
  unfold chanEvent
  dsimp only
  split
  · exact (sends_postStatus ..).besideChans
  · split
    · exact (sends_postStatus ..).besideChans
    · rfl

@[simp] theorem besideChans_aprEvent (kind a slice detail : Nat) (value : Int) (s : State) :
    besideChans (aprEvent kind a slice detail value s) = besideChans s := by
  unfold aprEvent
  dsimp only
  split
  · exact (sends_postStatus ..).besideChans
  · rfl

@[simp] theorem besideChans_apertureRunning (a : Nat) (s : State) : besideChans (apertureRunning a s) = besideChans s := by
  unfold apertureRunning
  split
  · rw [besideChans_aprEvent, besideChans_modApr]
  · rfl

@[simp] theorem besideChans_takeSettings (a : Nat) (s : State) : besideChans (takeSettings a s) = besideChans s := by
  unfold takeSettings
  dsimp only
  split
  · rw [besideChans_aprEvent, besideChans_modApr]
  · rfl

@[simp] theorem besideChans_freeChannel (c cause : Nat) (s : State) : besideChans (freeChannel c cause s) = besideChans s :=
  besideChans_chanEvent 2 c 255 cause 0 s

@[simp] theorem besideChans_releaseChannel (c cause : Nat) (s : State) : besideChans (releaseChannel c cause s) = besideChans s := by
  unfold releaseChannel
  split
  · rfl
  · exact besideChans_freeChannel c cause s

@[simp] theorem besideChans_recordSlip (c a detail : Nat) (s : State) : besideChans (recordSlip c a detail s) = besideChans s := by
  rw [recordSlip, besideChans_chanEvent, besideChans_modCa]

@[simp] theorem besideChans_enterSearch (c a detail : Nat) (s : State) : besideChans (enterSearch c a detail s) = besideChans s := by
  unfold enterSearch
  dsimp only
  rw [besideChans_chanEvent, besideChans_modCa]

@[simp] theorem besideChans_limitHit (c a : Nat) (lagSide : Bool) (s : State) :
    besideChans (limitHit c a lagSide s) = besideChans s := by
  unfold limitHit
  extract_lets marked slipped held
  have hslipped : besideChans slipped = besideChans s := by
    simp only [slipped, marked, besideChans_recordSlip, besideChans_modCa]
  clear_value slipped
  have hheld : besideChans held = besideChans s := by
    simp only [held]
    split
    · rw [besideChans_modCa, hslipped]
    · rw [besideChans_enterSearch, hslipped]
  clear_value held
  split
  · rw [besideChans_modChan, hheld]
  · exact hheld

@[simp] theorem besideChans_checkLimits (c a : Nat) (s : State) : besideChans (checkLimits c a s) = besideChans s := by
  unfold checkLimits
  dsimp only
  split
  · rfl
  · split
    · exact besideChans_limitHit ..
    · split
      · exact besideChans_limitHit ..
      · rfl

@[simp] theorem besideChans_joinChannel (c : Nat) (s : State) : besideChans (joinChannel c s) = besideChans s := by
  refine foldS_frame besideChans _ (fun a t => ?_) _ s
  dsimp only
  split
  · rfl
  · split
    · rw [besideChans_modCa, besideChans_modCa]
    · split
      · rw [besideChans_modCa, besideChans_modCa]
      · rw [besideChans_enterSearch, besideChans_modCa]

@[simp] theorem besideChans_chanTakeEffect (c : Nat) (s : State) : besideChans (chanTakeEffect c s) = besideChans s := by
  unfold chanTakeEffect
  dsimp only
  split
  · simp only [besideChans_chanEvent, besideChans_modChan, besideChans_modCa]
  · rw [besideChans_modChan]

@[simp] theorem besideChans_takeRelease (c : Nat) (s : State) : besideChans (takeRelease c s) = besideChans s := by
  unfold takeRelease
  split
  · rw [besideChans_releaseChannel, besideChans_modChan]
  · rfl

@[simp] theorem besideChans_burstSlip (c a : Nat) (s : State) : besideChans (burstSlip c a s) = besideChans s := by
  unfold burstSlip
  dsimp only
  split
  · rfl
  · split
    · exact besideChans_checkLimits ..
    · exact besideChans_recordSlip ..

@[simp] theorem besideChans_returnChannel (c : Nat) (s : State) : besideChans (returnChannel c s) = besideChans s := by
  unfold returnChannel
  dsimp only
  rw [foldS_frame besideChans _ (besideChans_burstSlip c), besideChans_joinChannel, besideChans_chanTakeEffect]
  split <;> rfl

@[simp] theorem besideChans_burstChannel (c : Nat) (s : State) : besideChans (burstChannel c s) = besideChans s := by
  unfold burstChannel
  dsimp only
  split
  · rw [besideChans_returnChannel, besideChans_takeRelease]
  · exact besideChans_takeRelease c s

@[simp] theorem besideChans_burstHoldChannel (c : Nat) (s : State) : besideChans (burstHoldChannel c s) = besideChans s := by
  unfold burstHoldChannel
  dsimp only
  split
  · rfl
  · split
    · rw [besideChans_releaseChannel, besideChans_chanEvent, besideChans_modChan]
    · rw [besideChans_chanEvent, besideChans_modChan]

/-! ### The state of a channel through its events and its release (05 R240, R250) -/

theorem chanOf_chanEvent_ne {kind c a detail d : Nat} (value : Int) (s : State) (h : d ≠ c) :
    chanOf (chanEvent kind c a detail value s) d = chanOf s d := by
  unfold chanEvent
  dsimp only
  split
  · exact (sends_postStatus ..).chanOf d
  · split
    · exact ((sends_postStatus ..).chanOf d).trans (chanOf_modChan_ne _ _ h)
    · exact chanOf_modChan_ne _ _ h

@[simp] theorem state_chanEvent (kind c a detail : Nat) (value : Int) (s : State) :
    (chanOf (chanEvent kind c a detail value s) c).state = (chanOf s c).state := by
  unfold chanEvent
  dsimp only
  split
  · rw [(sends_postStatus ..).chanOf]
  · split
    · rw [(sends_postStatus ..).chanOf, chanOf_modChan_self]
    · rw [chanOf_modChan_self]

theorem chanOf_freeChannel_self (c cause : Nat) (s : State) : chanOf (freeChannel c cause s) c = Channel.free := by
  simp only [freeChannel, chanOf, tget_tset_self]

theorem chanOf_freeChannel_ne {c d : Nat} (cause : Nat) (s : State) (h : d ≠ c) : chanOf (freeChannel c cause s) d = chanOf s d := by
  rw [freeChannel, chanOf, tget_tset_ne _ _ _ h]
  exact chanOf_chanEvent_ne 0 s h

theorem chanOf_releaseChannel_ne {c d : Nat} (cause : Nat) (s : State) (h : d ≠ c) :
    chanOf (releaseChannel c cause s) d = chanOf s d := by
  unfold releaseChannel
  split
  · exact chanOf_modChan_ne _ _ h
  · exact chanOf_freeChannel_ne cause s h

/-- A release leaves the channel in its state, or frees it. -/
theorem state_releaseChannel (c cause : Nat) (s : State) :
    (chanOf (releaseChannel c cause s) c).state = (chanOf s c).state ∨ (chanOf (releaseChannel c cause s) c).state = .free := by
  unfold releaseChannel
  split
  · exact .inl (by rw [chanOf_modChan_self])
  · exact .inr (by rw [chanOf_freeChannel_self]; rfl)

theorem releaseChannel_lasting {c : Nat} (cause : Nat) {s : State} (h : (chanOf s c).provisional = false) :
    releaseChannel c cause s = freeChannel c cause s :=
  if_neg (by simp [h])

/-! ### The updates every 20 and 100 ms (05 R192, R214, R215) -/

theorem lagUpdate_due {s : State} (h : s.epochMs % 100 = 0) :
    lagUpdate s = foldS (fun c t => judgeCommon false c (lagUpdateLead c
        (foldS (lagUpdateOne c) ((chanAprs t c).filter (fun a => (caOf t c a).state != 0)) t)))
      ((activeChannels s).filter (fun c => (chanOf s c).updMs != s.ms + 1)) s :=
  if_pos h

theorem pliWindow_due {s : State} (h : s.epochMs % 20 = 0) : pliWindow s = foldS pliChannel (activeChannels s) s :=
  if_pos h

theorem lagOut_congr {x y : ChanApr} (hlag : x.lag = y.lag) (hrate : x.lagRate = y.lagRate) : lagOut x = lagOut y := by
  rw [lagOut, lagOut, hlag, hrate]

theorem resOut_congr {x y : ChanApr} (h : x.resFreq = y.resFreq) : resOut x = resOut y := by
  rw [resOut, resOut, h]

theorem checkLimits_inRange {c a : Nat} {s : State} (hlag : lagOut (caOf s c a) = false) (hres : resOut (caOf s c a) = false) :
    checkLimits c a s = s := by
  simp [checkLimits, hlag, hres]

/-- The sums of a channel-aperture that has dumps give its C/N0 and begin anew; its lag and residual stay. -/
theorem updateMeans_measured (x : Channel) {y : ChanApr} (h : y.means.n ≠ 0) :
    (updateMeans x y).cn0 = cn0Of y.means.p2 y.means.n2 ∧ (updateMeans x y).means.n = 0 ∧ (updateMeans x y).lag = y.lag
      ∧ (updateMeans x y).resFreq = y.resFreq := by
  simp [updateMeans, h]

/-- The lag and lag rate that an update gives a non-anchor aperture that tracks (05 R192). -/
def lagMoved (x : Channel) (m : CorrMeans) (w : ChanApr) : ChanApr :=
  { w with lag := w.lag + roundDiv m.disc m.n, lagRate := lagRateOf x.signal x.sv w.resFreq }

/-- A non-anchor aperture that tracks and stays within its limits takes its measured values, its lag and its lag rate (05 R192). -/
theorem lagUpdateOne_tracks {c a : Nat} {s : State} (hanchor : (chanOf s c).anchor ≠ a)
    (hstate : (caOf s c a).state = 2 ∨ (caOf s c a).state = 3) (hsome : (caOf s c a).means.n ≠ 0)
    (hlag : lagOut (lagMoved (chanOf s c) (caOf s c a).means (caOf s c a)) = false) (hres : resOut (caOf s c a) = false) :
    lagUpdateOne c a s
      = modCa c a (lagMoved (chanOf s c) (caOf s c a).means) (modCa c a (updateMeans (chanOf s c)) s) := by
  have htracks : ¬ ((caOf s c a).state ≠ 2 ∧ (caOf s c a).state ≠ 3) := by omega
  obtain ⟨-, -, hlagOf, hresOf⟩ := updateMeans_measured (chanOf s c) hsome
  unfold lagUpdateOne
  dsimp only
  rw [if_neg hanchor, if_neg htracks]
  refine checkLimits_inRange ?_ ?_
  · rw [caOf_modCa_self, caOf_modCa_self]
    exact (lagOut_congr (by simp only [lagMoved, hlagOf]) (by simp only [lagMoved, hresOf])).trans hlag
  · rw [caOf_modCa_self, caOf_modCa_self]
    exact (resOut_congr hresOf).trans hres

/-! ### Hand-over at will (05 R221) -/

theorem voluntaryHandover_due {c d : Nat} {s : State} (hdeputy : deputy s c = some d) (hpin : (chanOf s c).pin = none)
    (hnone : (chanOf s c).handDue = none) (hlead : 50 ≤ (chanOf s c).exceed) (hsame : (chanOf s c).exceedDeputy = d)
    (hspaced : ∀ t, (chanOf s c).lastVolMs = some t → t + 10000 ≤ s.ms) :
    voluntaryHandover c s = modChan c (fun z => { z with lastVolMs := some s.ms, handDue := some (d, 1) }) s := by
  simp only [voluntaryHandover, hdeputy]
  refine if_pos ⟨by rw [hpin]; rfl, by rw [hnone]; rfl, hlead, hsame, ?_⟩
  cases hlast : (chanOf s c).lastVolMs with
  | none => rfl
  | some t => exact decide_eq_true (hspaced t hlast)

/-! ### Lag search (05 R196 to R198) -/

/-- The best of the first `n` positions of a dwell reaches the threshold. -/
def dwellHits (s : State) (q : LagSearch) (n : Nat) : Bool :=
  reaches 20 6 (searchZ (Config.openZ (draw s).1) q.noise (q.power.getD (bestPosition q n) 0))

/-- The positions of the group that a dwell searches. -/
def groupSize (q : LagSearch) : Nat := min 8 (2 * q.half + 1 - 8 * q.group)

/-- The search goes on as `r` (05 R196). -/
def searchGoesOn (c a : Nat) (r : LagSearch) (s : State) : State :=
  modCa c a (fun y => { y with search := some r, opn := OpenDump.empty }) (draw s).2

/-- The search goes on with the next group, in the lag window as it stands now (05 R197, R198). -/
def searchMovesOn (c a : Nat) (q : LagSearch) (s : State) : State :=
  modCa c a (fun y => { y with
    search := some (q.next (lagWindow (draw s).2 c a)), lag := (lagWindow (draw s).2 c a).centre, opn := OpenDump.empty }) (draw s).2

section
variable {c a : Nat} {s : State} {q : LagSearch} (hsearch : (caOf s c a).search = some q) (hcount : 20 ≤ q.count)
include hsearch hcount

theorem lagSearchDwell_noHit (hfound : q.found = none) (hhit : dwellHits s q (groupSize q) = false) :
    lagSearchDwell c a s = searchMovesOn c a q s := by
  simp only [lagSearchDwell, hsearch, Nat.not_lt.2 hcount, if_false, hfound]
  exact if_neg (ne_true_of_eq_false hhit)

theorem lagSearchDwell_firstHit (hfound : q.found = none) (hhit : dwellHits s q (groupSize q) = true) :
    lagSearchDwell c a s = searchGoesOn c a
      (q.dwell q.group (some (lagPosition (chanSig (chanOf s c)) q (8 * q.group + bestPosition q (groupSize q))))) s := by
  simp only [lagSearchDwell, hsearch, Nat.not_lt.2 hcount, if_false, hfound]
  exact if_pos hhit

theorem lagSearchDwell_unconfirmed {l : Int} (hfound : q.found = some l) (hhit : dwellHits s q 3 = false) :
    lagSearchDwell c a s = searchMovesOn c a q s := by
  simp only [lagSearchDwell, hsearch, Nat.not_lt.2 hcount, if_false, hfound]
  exact if_neg (ne_true_of_eq_false hhit)

theorem lagSearchDwell_confirmed {l : Int} (hfound : q.found = some l) (hhit : dwellHits s q 3 = true) :
    lagSearchDwell c a s
      = lagFound c a (l + ((bestPosition q 3 : Int) - 1) * cellDelay (chanSig (chanOf s c))) q (draw s).2 := by
  simp only [lagSearchDwell, hsearch, Nat.not_lt.2 hcount, if_false, hfound]
  exact if_pos hhit

end

/-! ### Timeouts and coasts (05 R216, R228, R229) -/

theorem pullInTimeout_due {c : Nat} {s : State} (hstate : (chanOf s c).state = .pullIn) (hms : (chanOf s c).since + 500 ≤ s.ms)
    (hlasting : (chanOf s c).provisional = false) : pullInTimeout c s = freeChannel c 6 s :=
  (if_pos ⟨hstate, hms⟩).trans (releaseChannel_lasting 6 hlasting)

theorem coastEntry_due {c : Nat} {s : State}
    (hstate : (chanOf s c).state = .pullIn ∨ (chanOf s c).state = .fll ∨ (chanOf s c).state = .pll)
    (hlow : 2 ≤ (chanOf s c).lossCount) :
    coastEntry c s = chanEvent 5 c 255 0 0 (modChan c (fun z => Channel.mapAprs
      (fun y => if y.state = 0 ∨ y.state = 1 then { y with hist := [] } else { y with state := 4, coastMs := s.ms, hist := [] })
      { z with state := .coast, early := z.state != .pll, coastMs := s.ms, loopDue := none }) s) := by
  have hbelow : ∀ y : ChanApr, (y.state < 2) = (y.state = 0 ∨ y.state = 1) := fun y => propext (by omega)
  refine (if_pos ⟨hstate, hlow⟩).trans ?_
  simp only [hbelow]

theorem coastTimeout_due {c : Nat} {s : State} (hstate : (chanOf s c).state = .coast)
    (hms : (chanOf s c).coastMs + 100 * (chanOf s c).cfg.coast ≤ s.ms) (hlasting : (chanOf s c).provisional = false) :
    coastTimeout c s = freeChannel c 2 s :=
  (if_pos ⟨hstate, hms⟩).trans (releaseChannel_lasting 2 hlasting)

theorem aprCoastTimeout_due {c a : Nat} {s : State} (hstate : (caOf s c a).state = 4) (hchan : (chanOf s c).state ≠ .coast)
    (hanchor : (chanOf s c).anchor ≠ a) (hms : (caOf s c a).coastMs + 1000 ≤ s.ms) :
    aprCoastTimeout c a s = enterSearch c a 4 (recordSlip c a 1 s) :=
  if_pos ⟨hstate, hchan, hanchor, hms⟩

/-! ### The start of a burst (05 R247) -/

theorem burstWake_due {s : State} (hgap : betweenBursts s = true) (hasleep : s.burst.awake = false)
    (hms : (s.epochMs + 3) % 1000 = s.burst.phaseMs) :
    burstWake s = { s with
      burst.awake := true, power.retention := false, islands.powered := s.islands.powered ||| s.burst.gated } :=
  if_pos ⟨hgap, by rw [hasleep]; rfl, hms⟩

/-- The state at T0 of a burst before its channels come back: the apertures run under their settings. -/
def burstApertures (s : State) : State :=
  let u := { s with burst.active := true }
  let as := (upto 24).filter (islandReady u)
  foldS takeSettings as (foldS apertureRunning (as.filter (fun a => (aprOf u a).enabled)) u)

/-- The channels come back at T0. -/
def burstChannels (s : State) : State := foldS burstChannel (assignedChannels (burstApertures s)) (burstApertures s)

theorem burstChannels_active (s : State) : (burstChannels s).burst.active = true := by
  have hbeside : besideChans (burstChannels s) = besideChans { s with burst.active := true } := by
    unfold burstChannels burstApertures
    dsimp only
    rw [foldS_frame besideChans _ besideChans_burstChannel, foldS_frame besideChans _ besideChans_takeSettings,
      foldS_frame besideChans _ besideChans_apertureRunning]
  rw [burst_of_besideChans hbeside]

/-- At T0 the apertures run, the channels come back, and Damask's window is the burst. -/
theorem burstStartRow_due {s : State} (hon : s.burst.on = true) (hgap : s.burst.active = false) (hawake : s.burst.awake = true)
    (hms : s.epochMs % 1000 = s.burst.phaseMs) : burstStartRow s = startBlocks (beginWindow (burstChannels s)) := by
  have hstart : burstStart s = burstChannels s := if_pos ⟨by simp [betweenBursts, hon, hgap], hawake, hms⟩
  unfold burstStartRow
  dsimp only
  rw [hstart]
  exact if_pos (by simp [burstChannels_active, hgap])

/-! ### The end of a burst (05 R247, R248) -/

/-- A channel is held over the gap, or free. -/
def HeldOrFree (c : Nat) (s : State) : Prop := (chanOf s c).state = .burstHold ∨ (chanOf s c).state = .free

theorem burstHoldChannel_holds (c : Nat) (s : State) : HeldOrFree c (burstHoldChannel c s) := by
  unfold burstHoldChannel HeldOrFree
  dsimp only
  split
  · exact .inl (by rw [chanOf_modChan_self]; rfl)
  · split
    · refine (state_releaseChannel ..).imp_left (fun h => h.trans ?_)
      rw [state_chanEvent, chanOf_modChan_self]; rfl
    · exact .inl (by rw [state_chanEvent, chanOf_modChan_self]; rfl)

theorem chanOf_burstHoldChannel_ne {c d : Nat} (s : State) (h : d ≠ c) : chanOf (burstHoldChannel c s) d = chanOf s d := by
  unfold burstHoldChannel
  dsimp only
  split
  · exact chanOf_modChan_ne _ _ h
  · split
    · exact (chanOf_releaseChannel_ne 5 _ h).trans ((chanOf_chanEvent_ne 0 _ h).trans (chanOf_modChan_ne _ _ h))
    · exact (chanOf_chanEvent_ne 0 _ h).trans (chanOf_modChan_ne _ _ h)

/-- Holding any channel keeps a channel held or free. -/
theorem burstHoldChannel_keeps (d c : Nat) (s : State) (h : HeldOrFree d s) : HeldOrFree d (burstHoldChannel c s) := by
  by_cases hne : d = c
  · rw [hne]
    exact burstHoldChannel_holds c s
  · unfold HeldOrFree
    rw [chanOf_burstHoldChannel_ne s hne]
    exact h

/-- Aborting a self-test slice leaves channels, islands and bursts alone. -/
theorem abortSlice_frame (s : State) :
    (abortSlice s).chans = s.chans ∧ (abortSlice s).islands = s.islands ∧ (abortSlice s).burst = s.burst := by
  unfold abortSlice
  split
  · exact ⟨rfl, rfl, rfl⟩
  · extract_lets b n due keys counted
    split
    · exact ⟨(sends_post ..).chans, (sends_post ..).islands, (sends_post ..).burst⟩
    · exact ⟨rfl, rfl, rfl⟩

/-- The islands that the end of a burst gates: those of the enabled apertures and of the tracking array (05 R247 step 10). -/
def burstGateMask (s : State) : Nat :=
  bitsMask ((enabledApertures s).filter (islandReady s) ++ if islandReady s 25 then [25] else [])

/-- Islands without the ones of a list. -/
def islandsLess (l : List Nat) (k : Islands) : Islands :=
  l.foldl (fun k i => { k with powered := setBit k.powered i false, ready := setBit k.ready i false }) k

theorem powered_islandsLess (l : List Nat) (k : Islands) (i : Nat) :
    (islandsLess l k).powered.testBit i = (k.powered.testBit i && decide (i ∉ l)) := by
  induction l generalizing k with
  | nil => simp [islandsLess]
  | cons j l ih =>
    rw [islandsLess, List.foldl_cons]
    refine (ih _).trans ?_
    rw [testBit_setBit_false]
    simp [Bool.and_assoc, eq_comm]

/-- Gating leaves the channels alone and changes of the islands and the bursts only what its mask says. -/
theorem burstGate_frame (s : State) :
    (burstGate s).chans = s.chans ∧ (burstGate s).islands = islandsLess (maskBits 43 (burstGateMask s)) s.islands
      ∧ (burstGate s).burst = { s.burst with gated := s.burst.gated ||| burstGateMask s } := by
  unfold burstGate
  extract_lets as g aborted gated
  have hg : g = burstGateMask s := rfl
  have haborted : aborted.chans = s.chans ∧ aborted.islands = s.islands ∧ aborted.burst = s.burst := by
    simp only [aborted]
    split
    · split
      · exact abortSlice_frame s
      · exact ⟨rfl, rfl, rfl⟩
    · exact ⟨rfl, rfl, rfl⟩
  have hgated : gated.chans = aborted.chans ∧ gated.islands = aborted.islands ∧ gated.burst = aborted.burst :=
    foldS_keeps (P := fun t : State => t.chans = aborted.chans ∧ t.islands = aborted.islands ∧ t.burst = aborted.burst)
      (fun a t => modApr a aprGate t) (fun a t ht => ht) as ⟨rfl, rfl, rfl⟩
  obtain ⟨hchans, hislands, hburst⟩ := haborted
  obtain ⟨hchans', hislands', hburst'⟩ := hgated
  clear_value gated aborted g
  subst hg
  refine ⟨hchans'.trans hchans, ?_, ?_⟩
  · show islandsLess _ gated.islands = _
    rw [hislands', hislands]
  · exact congrArg (fun b : Burst => { b with gated := b.gated ||| burstGateMask s }) (hburst'.trans hburst)

/-- The tracking array's island, where it is ready, is among the gated ones. -/
theorem burstGateMask_tracking {s : State} (h : islandReady s 25 = true) : (burstGateMask s).testBit 25 = true := by
  rw [burstGateMask, testBit_bitsMask, h]
  simp

/-- The burst is over, and the state is saved at this instant (05 R247 step 9). -/
def closeBurst (u : State) : State :=
  { u with burst := { u.burst with active := false, awake := false, heldMs := u.ms, heldLabel := u.epochMs, heldPos := u.nunar.pos } }

/-- The state at the end of a burst, its channels held, before its islands are gated. -/
def burstHeld (s : State) : State := closeBurst (foldS burstHoldChannel (activeChannels s) s)

theorem burstEnd_due {s : State} (hon : s.burst.on = true) (hactive : s.burst.active = true)
    (hms : s.epochMs % 1000 = (s.burst.phaseMs + s.burst.burstMs) % 1000) : burstEnd s = burstGate (burstHeld s) :=
  if_pos ⟨hon, hactive, hms⟩

theorem closeBurst_burst (u : State) :
    (closeBurst u).burst.active = false ∧ (closeBurst u).burst.awake = false ∧ (closeBurst u).burst.heldMs = u.ms :=
  ⟨rfl, rfl, rfl⟩

theorem closeBurst_islands (u : State) : (closeBurst u).islands = u.islands := rfl

theorem heldOrFree_closeBurst {c : Nat} {u : State} (h : HeldOrFree c u) : HeldOrFree c (closeBurst u) := h

theorem besideChans_burstHolds (l : List Nat) (s : State) : besideChans (foldS burstHoldChannel l s) = besideChans s :=
  foldS_frame besideChans _ besideChans_burstHoldChannel l s

theorem burstHeld_burst (s : State) :
    (burstHeld s).burst.active = false ∧ (burstHeld s).burst.awake = false ∧ (burstHeld s).burst.heldMs = s.ms := by
  obtain ⟨hoff, hasleep, hheld⟩ := closeBurst_burst (foldS burstHoldChannel (activeChannels s) s)
  exact ⟨hoff, hasleep, hheld.trans (ms_of_besideChans (besideChans_burstHolds _ s))⟩

theorem burstHeld_islands (s : State) : (burstHeld s).islands = s.islands :=
  (closeBurst_islands _).trans (islands_of_besideChans (besideChans_burstHolds _ s))

theorem burstHeld_holds {s : State} {c : Nat} (hc : c < 192) (hactive : chanActive s c = true) : HeldOrFree c (burstHeld s) :=
  heldOrFree_closeBurst (foldS_reaches (P := HeldOrFree c) burstHoldChannel (burstHoldChannel_keeps c) (burstHoldChannel_holds c)
    (List.mem_filter.2 ⟨mem_upto.2 hc, hactive⟩) s)

end Sys2Proof.Laws

/-! The statement about the tracking array's events (05), settled. -/
namespace Sys2Proof.Proofs

open Sys2Proof.Machine Sys2Proof.Safety Sys2Proof.Laws

/-- Settles O10: the row of each event, on a state that meets its condition, is the branch that its law names; what an update leaves of an
aperture and the end of a burst of channels and islands is read off the state that its law writes down. -/
theorem trackingEventsComplete : Obligations.TrackingEventsComplete := by
  refine ⟨fun s hms => ?lagUpdate, fun c a s hanchor hstate hsome hlag hres => ?lagOne, fun s hms => ?pliWindow,
    fun c s d hdeputy hpin hnone hlead hsame hspaced => ?handover,
    fun c a s q hsearch hcount => ⟨fun hfound hhit => ?noHit, fun hfound hhit => ?firstHit, fun l hfound hhit => ?unconfirmed,
      fun l hfound hhit => ?confirmed⟩,
    fun c s hstate hms hlasting => ?pullIn, fun c s hstate hlow => ?coastEntry, fun c s hstate hms hlasting => ?coastTimeout,
    fun c a s hstate hchan hanchor hms => ?aprCoast, fun s hgap hasleep hms => ?wake, fun s hon hgap hawake hms => ?start,
    fun s hon hactive hms => ?burstEnd⟩
  case lagUpdate => exact congrArg Host.Outcome.next (lagUpdate_due hms)
  case lagOne =>
    obtain ⟨hcn0, hn, hlagOf, hresOf⟩ := updateMeans_measured (chanOf s c) hsome
    have hrow := lagUpdateOne_tracks hanchor hstate hsome hlag hres
    dsimp only
    rw [hrow, caOf_modCa_self, caOf_modCa_self]
    simp only [lagMoved, hcn0, hn, hlagOf, hresOf, and_self]
  case pliWindow => exact congrArg Host.Outcome.next (pliWindow_due hms)
  case handover => exact congrArg Host.Outcome.next (voluntaryHandover_due hdeputy hpin hnone hlead hsame hspaced)
  case noHit => exact congrArg Host.Outcome.next (lagSearchDwell_noHit hsearch hcount hfound hhit)
  case firstHit => exact congrArg Host.Outcome.next (lagSearchDwell_firstHit hsearch hcount hfound hhit)
  case unconfirmed => exact congrArg Host.Outcome.next (lagSearchDwell_unconfirmed hsearch hcount hfound hhit)
  case confirmed => exact congrArg Host.Outcome.next (lagSearchDwell_confirmed hsearch hcount hfound hhit)
  case pullIn => exact congrArg Host.Outcome.next (pullInTimeout_due hstate hms hlasting)
  case coastEntry => exact congrArg Host.Outcome.next (coastEntry_due hstate hlow)
  case coastTimeout => exact congrArg Host.Outcome.next (coastTimeout_due hstate hms hlasting)
  case aprCoast => exact congrArg Host.Outcome.next (aprCoastTimeout_due hstate hchan hanchor hms)
  case wake => exact congrArg Host.Outcome.next (burstWake_due hgap hasleep hms)
  case start => exact congrArg Host.Outcome.next (burstStartRow_due hon hgap hawake hms)
  case burstEnd =>
    obtain ⟨hchans, hislands, hburst⟩ := burstGate_frame (burstHeld s)
    obtain ⟨hoff, hasleep, hheld⟩ := burstHeld_burst s
    refine ⟨burstGate (burstHeld s), congrArg Host.Outcome.next (burstEnd_due hon hactive hms), by simp only [hburst, hoff],
      by simp only [hburst, hasleep], by simp only [hburst, hheld], fun hready => ?_, fun c hc hrun => ?_⟩
    · have hready' : islandReady (burstHeld s) 25 = true := by
        rw [islandReady, burstHeld_islands]; exact hready
      have hgate := burstGateMask_tracking hready'
      refine ⟨?_, ?_⟩
      · rw [islandOn, hislands, powered_islandsLess]
        simp [hgate]
      · rw [hburst]
        simp [hgate]
    · have hkept : chanOf (burstGate (burstHeld s)) c = chanOf (burstHeld s) c := by rw [chanOf, hchans]; rfl
      rw [hkept]
      exact burstHeld_holds hc hrun

end Sys2Proof.Proofs

/-! SUPPORT. What the statement about measurement epochs (07) needs of the model: what reading the records and telling a solution leave
alone, and what each cutoff leaves. -/
namespace Sys2Proof.Laws

open Sys2Proof.Machine Sys2Proof.Safety

/-! ### Dump records (05 R206) -/

/-- The record of a channel-aperture is committed, with the errors that befall it. -/
def dumpCommitted (c a : Nat) (e : Upset) (s : State) : State :=
  modCa c a (fun x => { x with
    committed := true, dump := le 64 (uN 64 x.dump 0 ^^^ (e.flip % 2 ^ 512)), dumpErrs := e.errs.take 2 }) s

theorem dumpCommit_new {c a : Nat} (e : Upset) {s : State} (hsome : (caOf s c a).dump ≠ [])
    (hnew : (caOf s c a).committed = false) :
    dumpCommit c a e s = deliverDump c a (recChain (caOf (dumpCommitted c a e s) c a) &&& 0xA8)
      (caOf (dumpCommitted c a e s) c a).dump (dumpCommitted c a e s) :=
  if_neg (by simp [hsome, hnew])

/-! ### When a cutoff is due (07 R284, R315) -/

theorem cutDue_of {s : State} {n : Nat} (hepoch : isMeasEpoch s = true) (hcut : s.meas.cut < n) : cutDue s n = true := by
  simp [cutDue, hepoch, hcut]

/-- Outside a measurement epoch, and after its last cutoff, none is due. -/
theorem cutDue_never {s : State} {n : Nat} (h : isMeasEpoch s = false ∨ s.meas.cut = 3) (hn : n ≤ 3) : cutDue s n = false := by
  rcases h with h | h
  · simp [cutDue, h]
  · simp [cutDue, h, hn]

/-! ### Reading the records -/

theorem besideChans_startPhase (c a : Nat) (s : State) : besideChans (startPhase c a s) = besideChans s := by
  unfold startPhase
  split
  · rfl
  · rfl

theorem besideChans_readRecord (c a : Nat) (s : State) : besideChans (readRecord c a s) = besideChans s := by
  unfold readRecord
  extract_lets y checked logged
  have hlogged : besideChans logged = besideChans s := by
    simp only [logged, checked]
    split
    · rw [(sends_logErr ..).besideChans, besideChans_modCa]
    · rw [besideChans_modCa]
  clear_value logged
  split
  · rfl
  · rw [besideChans_startPhase]
    split
    · rw [(sends_logErr ..).besideChans, hlogged]
    · exact hlogged

/-- Reading the records changes channel-apertures and logs, and nothing else. -/
theorem besideChans_readRecords (s : State) : besideChans (readRecords s) = besideChans s := by
  unfold readRecords
  exact foldS_frame besideChans _ (fun c t => foldS_frame besideChans _ (besideChans_readRecord c) _ t) _ s

theorem meas_of_besideChans {s t : State} (h : besideChans t = besideChans s) : t.meas = s.meas := by
  have := congrArg State.meas h; exact this

theorem meas_readRecords (s : State) : (readRecords s).meas = s.meas := meas_of_besideChans (besideChans_readRecords s)

theorem isPvtEpoch_besideChans (s : State) : isPvtEpoch (besideChans s) = isPvtEpoch s := rfl
theorem isTulEpoch_besideChans (s : State) : isTulEpoch (besideChans s) = isTulEpoch s := rfl

theorem isPvtEpoch_readRecords (s : State) : isPvtEpoch (readRecords s) = isPvtEpoch s := by
  rw [← isPvtEpoch_besideChans, besideChans_readRecords, isPvtEpoch_besideChans]

theorem isTulEpoch_readRecords (s : State) : isTulEpoch (readRecords s) = isTulEpoch s := by
  rw [← isTulEpoch_besideChans, besideChans_readRecords, isTulEpoch_besideChans]

/-- The state at cutoff `n`, the records then committed read (07 R284). -/
def cutRead (n : Nat) (s : State) : State := readRecords { s with meas.cut := n }

theorem isPvtEpoch_cutRead (n : Nat) (s : State) : isPvtEpoch (cutRead n s) = isPvtEpoch s :=
  isPvtEpoch_readRecords _

theorem isTulEpoch_cutRead (n : Nat) (s : State) : isTulEpoch (cutRead n s) = isTulEpoch s :=
  isTulEpoch_readRecords _

theorem cut_cutRead (n : Nat) (s : State) : (cutRead n s).meas.cut = n := by
  rw [cutRead, meas_readRecords]

/-! ### The raw cutoff (07 R284, R289, R291, R294) -/

/-- The residue errors that the epoch's messages meet, logged (01 R32). -/
def residuesLogged (residue : BitVec 24) (full : List (Nat × Nat × List Byte)) (s : State) : State :=
  foldS (fun (m : Nat × Nat × List Byte) t => logChain (32 * b2n (residue.toNat.testBit m.1)) 0x07 m.1 t) full s

/-- Provisional channels that send their first entries (07 R294). -/
def firstEntries (cs : List Nat) (s : State) : State :=
  foldS (fun c t => if (chanOf t c).provisional = true ∧ (chanOf t c).firstMs.isNone = true then
    modChan c (fun x => { x with firstMs := some t.epochMs }) t else t) cs s

/-- What leaves at a raw cutoff for the channels `cs`: the residues are logged, both variants of the messages are sent, and the marks of
slips end. -/
def rawSent (residue : BitVec 24) (cs : List Nat) (u : State) : State :=
  let full := epochPayloads u residue true
  let r := residuesLogged residue full u
  foldS (fun c t => modChan c clearSlips t) cs
    (sendEpoch false (epochPayloads r residue false) (sendEpoch true full (firstEntries cs r)))

/-- A record is late at a raw cutoff (07 R284, R289). -/
def anyLate (u : State) : Bool := (entryChannels u true).any (fun c => (chanAprs u c).any (lateRecord u c))

theorem anyLate_eq_false {u : State} (h : ∀ c ∈ entryChannels u true, ∀ a ∈ chanAprs u c, lateRecord u c a = false) :
    anyLate u = false := by
  simpa [anyLate, List.any_eq_false] using h

theorem rawCutoff_due {s : State} (residue : BitVec 24) (hdue : cutDue s 1 = true) :
    rawCutoff residue s = rawSent residue (entryChannels (cutRead 1 s) true)
      (if anyLate (cutRead 1 s) then logErr 0x43 2 0x07 0 (cutRead 1 s) else cutRead 1 s) := by
  unfold rawCutoff
  rw [hdue]
  rfl

/-- A raw cutoff to which no record comes late sends what it has read. -/
theorem rawCutoff_punctual {s : State} (residue : BitVec 24) (hdue : cutDue s 1 = true) (h : anyLate (cutRead 1 s) = false) :
    rawCutoff residue s = rawSent residue (entryChannels (cutRead 1 s) true) (cutRead 1 s) := by
  rw [rawCutoff_due residue hdue, h]
  rfl

/-! ### The provisional cutoff (07 R284, R295, R296, R312; 08 R330) -/

/-- At a Tulle epoch the channels of every group are chosen and each makes its provisional (07 R303, R312). -/
def tulProvisional (o : EngineObs) (u : State) : State :=
  if isTulEpoch u = true then foldS (groupProvisional o) (upto 4) (markPoison o (foldS groupChoose (upto 4) u)) else u

theorem provisionalCutoff_due (o : EngineObs) {s : State} (hdue : cutDue s 2 = true) :
    provisionalCutoff o s = timeCutoff (pvtCutoff o (tulProvisional o (cutRead 2 s))) :=
  if_neg (by simp [hdue])

theorem tulProvisional_off (o : EngineObs) {u : State} (h : isTulEpoch u = false) : tulProvisional o u = u :=
  if_neg (ne_true_of_eq_false h)

/-- Queueing a message for subscriptions adds deliveries and changes nothing else. -/
theorem deliverMsg_adds (test : SubRing → Bool) (id cls inst chain : Nat) (payload : Nat → Option (List Byte)) (s : State) :
    ∃ ds, deliverMsg test id cls inst chain payload s = { s with kernels.deliveries := ds } := by
  refine foldS_keeps (P := fun t => ∃ ds, t = { s with kernels.deliveries := ds }) _ (fun x t ht => ?_) _ ⟨s.kernels.deliveries, rfl⟩
  obtain ⟨ds, rfl⟩ := ht
  dsimp only
  split
  · exact ⟨_, rfl⟩
  · exact ⟨ds, rfl⟩

theorem sends_logChain (chain cls inst : Nat) (s : State) : Sends s (logChain chain cls inst s) := by
  unfold logChain
  extract_lets t
  have ht : Sends s t := by
    simp only [t]
    split
    · exact sends_logErr ..
    · exact .refl s
  clear_value t
  split
  · exact ht.trans (sends_logErr ..)
  · exact ht

/-- The state apart from what telling a solution changes: what sending changes, and what waits for the kernels' subscriptions. -/
def besideTold (s : State) : State := { quiet s with kernels.deliveries := [] }

theorem Sends.besideTold {s t : State} (h : Sends s t) : besideTold t = besideTold s :=
  congrArg (fun u : State => { u with kernels.deliveries := [] }) h.quiet

theorem besideTold_deliverMsg (test : SubRing → Bool) (id cls inst chain : Nat) (payload : Nat → Option (List Byte)) (s : State) :
    besideTold (deliverMsg test id cls inst chain payload s) = besideTold s := by
  obtain ⟨ds, hds⟩ := deliverMsg_adds test id cls inst chain payload s
  rw [hds]
  rfl

theorem pvtPoint_besideTold (s : State) : pvtPoint (besideTold s) = pvtPoint s := rfl

theorem meas_of_besideTold {s t : State} (h : besideTold t = besideTold s) : t.meas = s.meas := by
  have := congrArg State.meas h; exact this

theorem pvtPoint_of_besideTold {s t : State} (h : besideTold t = besideTold s) : pvtPoint t = pvtPoint s := by
  rw [← pvtPoint_besideTold, h, pvtPoint_besideTold]

/-- The channels whose good records give the solution of point `p` (07 R290). -/
def pvtUsed (u : State) (p : Nat) : List Nat := (pvtWanted u p).filter (fun c => recordGood u c p)

/-- The solution of point `p` without corrections (07 R295). -/
def pvtAlone (u : State) (p : Nat) : PvtSolution :=
  Config.pvtSolve u.meas.nav.mode u.meas.nav.dyn u.epochMs ((pvtUsed u p).map (pvtInput u p))
    (u.nav.orbits.map (fun r => (r.sv, r.elems))) [] u.meas.navMem

/-- The position that a solution fixes (07 R296). -/
def pvtPosition (v : PvtSolution) : Estimate := { value := (Config.geodetic v.pos v.vel).1, sd := cdiv (max v.hSd v.vSd) 10 }

theorem modeFix_pos (mode : Nat) (corr : Bool) : modeFix mode corr ≠ 0 := by
  unfold modeFix
  repeat' split
  all_goals decide

/-- The device takes a solution that fixes its position (04 R157; 07 R295, R296). -/
def pvtTaken (v : PvtSolution) (vel : Option Estimate) (poison : Bool) (t : State) : State :=
  { t with
    meas.navMem := v.mem, meas.navPoison := poison, nav.own := some (pvtPosition v), nav.pos := some (pvtPosition v), nav.vel := vel }

/-- A fix at a PVT epoch without corrections in use is told, and the device takes it. -/
theorem pvtCutoff_fixes (o : EngineObs) {u : State} {p : Nat} (hepoch : isPvtEpoch u = true) (hpoint : pvtPoint u = some p)
    (hage : 2 ≤ u.meas.nav.mode → corrAge u = none) (hused : pvtUsed u p ≠ []) (hfix : (pvtAlone u p).fix ≠ 0) :
    ∃ vel poison t, besideTold t = besideTold u ∧ pvtCutoff o u = pvtTaken (pvtAlone u p) vel poison t := by
  unfold pvtCutoff
  rw [hepoch, if_neg (show ¬ (!true) = true by decide)]
  extract_lets n point wanted q used excluded age old corr orbits v any fix on vel time poisoned flags shown t3 body chain logged _
    told _ solved g own
  have hq : q = p := by simp only [q, point, hpoint, Option.getD_some]
  have hused' : used = pvtUsed u p := by
    simp only [used, wanted, point, hpoint, Option.map_some, Option.getD_some, hq]
    rfl
  have hcorr : corr = false := by
    have hnone : age = none := by
      simp only [age]
      split
      · rfl
      · next h => exact hage (Nat.not_lt.1 h)
    simp only [corr, hnone]
    rfl
  have hv : v = pvtAlone u p := by
    simp only [v, hcorr, hused', hq, Bool.false_eq_true, if_false]
    rfl
  have hany : any = true := by simp [any, point, hpoint, hused', hused]
  have hon : on = true := by
    have hmode := modeFix_pos n.mode corr
    simp only [on, fix, hany, hv, if_true, bne_iff_ne]
    omega
  have hown : own = some (pvtPosition (pvtAlone u p)) := by
    rw [← hv]
    exact if_pos hon
  have htold : besideTold told = besideTold u :=
    (besideTold_deliverMsg ..).trans ((sends_post ..).besideTold.trans (sends_logChain ..).besideTold)
  clear_value v told own
  subst hown hv
  exact ⟨_, _, told, htold, rfl⟩

/-- What the device then holds. -/
theorem pvtTaken_holds (v : PvtSolution) (vel : Option Estimate) (poison : Bool) (t : State) :
    (pvtTaken v vel poison t).nav.pos = some (pvtPosition v) ∧ (pvtTaken v vel poison t).nav.own = some (pvtPosition v)
      ∧ (pvtTaken v vel poison t).meas.navMem = v.mem ∧ (pvtTaken v vel poison t).meas.cut = t.meas.cut
      ∧ pvtPoint (pvtTaken v vel poison t) = pvtPoint t :=
  ⟨rfl, rfl, rfl, rfl, rfl⟩

/-- The time engine takes the epoch's solution of point `p` (08 R330). -/
def timeTaken (p : Nat) (s : State) : State := { s with nunar.fix := some (timeFix s p) }

theorem timeCutoff_point {s : State} {p : Nat} (h : pvtPoint s = some p) : timeCutoff s = timeTaken p s := by
  unfold timeCutoff
  rw [h]
  rfl

/-- Taking a time solution leaves the position engine's alone, and the solution does not look at the one before. -/
theorem timeTaken_holds (p : Nat) (s : State) :
    (timeTaken p s).nav = s.nav ∧ (timeTaken p s).meas = s.meas
      ∧ (timeTaken p s).nunar.fix = some (timeFix (timeTaken p s) p) :=
  ⟨rfl, rfl, rfl⟩

/-- What a provisional cutoff with a fix leaves: the position, the filter and the time solution (04 R157; 07 R295; 08 R330). -/
theorem solution_of_fix (o : EngineObs) {u : State} {p : Nat} (hepoch : isPvtEpoch u = true) (hcut : u.meas.cut = 2)
    (hpoint : pvtPoint u = some p) (hage : 2 ≤ u.meas.nav.mode → corrAge u = none) (hused : pvtUsed u p ≠ [])
    (hfix : (pvtAlone u p).fix ≠ 0) :
    let t := timeCutoff (pvtCutoff o u)
    t.nav.pos = some (pvtPosition (pvtAlone u p)) ∧ t.nav.own = t.nav.pos ∧ t.meas.navMem = (pvtAlone u p).mem ∧ t.meas.cut = 2
      ∧ t.nunar.fix = some (timeFix t p) := by
  obtain ⟨vel, poison, t, htold, htaken⟩ := pvtCutoff_fixes o hepoch hpoint hage hused hfix
  obtain ⟨hpos, hown, hmem, hkept, hsame⟩ := pvtTaken_holds (pvtAlone u p) vel poison t
  obtain ⟨hnav, hmeas, htime⟩ := timeTaken_holds p (pvtTaken (pvtAlone u p) vel poison t)
  dsimp only
  rw [htaken, timeCutoff_point (hsame.trans ((pvtPoint_of_besideTold htold).trans hpoint)), hnav, hmeas, hpos, hown, hmem, hkept,
    meas_of_besideTold htold, hcut]
  exact ⟨rfl, rfl, rfl, rfl, htime⟩

theorem isMeasEpoch_of_isPvtEpoch {s : State} (h : isPvtEpoch s = true) : isMeasEpoch s = true := by
  simp only [isPvtEpoch, Bool.and_eq_true] at h
  exact h.1.1

/-- Outside a Tulle epoch a provisional cutoff is the position engine's and the time engine's. -/
theorem provisionalCutoff_plain (o : EngineObs) {s : State} (hpvt : isPvtEpoch s = true) (hplain : isTulEpoch s = false)
    (hcut : s.meas.cut < 2) : provisionalCutoff o s = timeCutoff (pvtCutoff o (cutRead 2 s)) := by
  rw [provisionalCutoff_due o (cutDue_of (isMeasEpoch_of_isPvtEpoch hpvt) hcut),
    tulProvisional_off o ((isTulEpoch_cutRead 2 s).trans hplain)]

/-! ### The final cutoff (07 R284, R315; 06 R269) -/

theorem finalCutoff_due (o : EngineObs) {s : State} (hdue : cutDue s 3 = true) :
    finalCutoff o s = voileFinal (shadowFailed (cutRead 3 s))
      (if isTulEpoch (cutRead 3 s) = true then foldS (groupFinal o) (upto 4) (markPoison o (cutRead 3 s)) else cutRead 3 s) :=
  if_neg (by simp [hdue])

/-! ### Cutoffs that are not due -/

theorem rawCutoff_notDue {s : State} (residue : BitVec 24) (h : cutDue s 1 = false) : rawCutoff residue s = s :=
  if_pos (by simp [h])

theorem provisionalCutoff_notDue {s : State} (o : EngineObs) (h : cutDue s 2 = false) : provisionalCutoff o s = s :=
  if_pos (by simp [h])

theorem finalCutoff_notDue {s : State} (o : EngineObs) (h : cutDue s 3 = false) : finalCutoff o s = s :=
  if_pos (by simp [h])

end Sys2Proof.Laws

/-! The statement about measurement epochs (07), settled. -/
namespace Sys2Proof.Proofs

open Sys2Proof.Machine Sys2Proof.Safety Sys2Proof.Laws

/-- Settles O13: each cutoff that is due is what its law writes down, on the records then read; of a provisional cutoff with a fix, the
position, the filter and the time solution are read off the state that the position engine leaves. -/
theorem measurementEventsComplete : Obligations.MeasurementEventsComplete := by
  refine ⟨fun c a e s hsome hnew => ?dump, fun residue s hepoch hcut hnone => ?raw, fun o s hepoch hcut => ?provisional,
    fun o s p hpvt hnotTul hcut hpoint hage hused => ?fix, fun o s hepoch hcut => ?final, fun residue o s hnever => ?notDue⟩
  case dump => exact congrArg Host.Outcome.next (dumpCommit_new e hsome hnew)
  case raw =>
    exact congrArg Host.Outcome.next
      (rawCutoff_punctual residue (cutDue_of hepoch (by omega)) (anyLate_eq_false hnone))
  case provisional => exact congrArg Host.Outcome.next (provisionalCutoff_due o (cutDue_of hepoch hcut))
  case fix =>
    have hepoch := (isPvtEpoch_cutRead 2 s).trans hpvt
    have hread := cut_cutRead 2 s
    refine ⟨_, congrArg Host.Outcome.next (provisionalCutoff_plain o hpvt hnotTul hcut), ?_⟩
    unfold cutRead at *
    generalize readRecords { s with meas.cut := 2 } = u at *
    exact solution_of_fix o hepoch hread hpoint hage hused
  case final => exact congrArg Host.Outcome.next (finalCutoff_due o (cutDue_of hepoch hcut))
  case notDue =>
    exact ⟨congrArg Host.Outcome.next (rawCutoff_notDue residue (cutDue_never hnever (by omega))),
      congrArg Host.Outcome.next (provisionalCutoff_notDue o (cutDue_never hnever (by omega))),
      congrArg Host.Outcome.next (finalCutoff_notDue o (cutDue_never hnever (by omega)))⟩

end Sys2Proof.Proofs

/-! SUPPORT. What the commands of Voile (06) ask, and what the end of a window and of a table's write leave. -/
namespace Sys2Proof.Laws

open Sys2Proof.Machine Sys2Proof.Safety

/-! ### The commands of Voile: what their own checks ask (06 R275 to R278) -/

/-- The settings that CAL_VOILE names (06 R275). -/
def calVoileCfg (p : Packet) : CalCfg :=
  { mode := u8 p.params 0, ref := u8 p.params 1, level := u8 p.params 2, avg := u8 p.params 3, delayThr := u8 p.params 4,
    phaseThr := u8 p.params 5, slices := u8 p.params 6, report := u8 p.params 7 == 1 }

theorem calVoileAct_ok {p : Packet} {s : State} (hmode : u8 p.params 0 ≤ 2) (href : u8 p.params 1 ≤ 23 ∨ u8 p.params 1 = 255)
    (hlevel : u8 p.params 2 ≤ 63) (havg : 1 ≤ u8 p.params 3) (havg' : u8 p.params 3 ≤ 60) (hdelay : 1 ≤ u8 p.params 4)
    (hphase : 1 ≤ u8 p.params 5) (hphase' : u8 p.params 5 ≤ 180) (hslices : u8 p.params 6 ≤ 15)
    (hsome : u8 p.params 0 ≠ 0 → u8 p.params 6 ≠ 0) (hreport : u8 p.params 7 ≤ 1)
    (hkeep : s.cal.change = none ∨ u8 p.params 0 = (s.cal.pendCfg.getD s.cal.cfg).mode) :
    calVoileAct p s = done { s with cal.pendCfg := some (calVoileCfg p) } := by
  have hsome' : (u8 p.params 0 != 0 && u8 p.params 6 == 0) = false := by simpa using hsome
  have hkeep' : (s.cal.change.isSome && u8 p.params 0 != (s.cal.pendCfg.getD s.cal.cfg).mode) = false := by
    rcases hkeep with h | h <;> simp [h]
  simp only [calVoileAct, address_inRange href, hsome', hkeep', Nat.not_lt.2 hmode, Nat.not_lt.2 hlevel, Nat.not_lt.2 havg,
    Nat.not_lt.2 havg', Nat.not_lt.2 hdelay, Nat.not_lt.2 hphase, Nat.not_lt.2 hphase', Nat.not_lt.2 hslices, Nat.not_lt.2 hreport]
  rfl

/-- STATE of CAL_STATUS: off, suspended, changing or running (06 R276). -/
def calStateCode (s : State) : Nat :=
  if s.cal.cfg.mode = 0 then 0 else if voileSuspended s = true then 3 else if s.cal.change ≠ none then 2 else 1

theorem calStatusAct_eq (p : Packet) (s : State) :
    calStatusAct p s = answer (le 1 s.cal.cfg.mode ++ le 1 (s.cal.ref.getD 255) ++ le 1 (calStateCode s)
      ++ le 1 (b2n (s.cal.stored == some s.cal.table)) ++ le 2 s.cal.table.id ++ le 1 (enabledApertures s).length ++ zeros 1
      ++ (enabledApertures s).flatMap (calStatusEntry s)) s := by
  simp only [calStatusAct, calStateCode, Option.isSome_iff_ne_none]

theorem calCommitAct_decide {p : Packet} {s : State} (hzero : zeroAt p.params 1 3 = true) (hact : u8 p.params 0 = 0)
    (hmode : s.cal.cfg.mode ≠ 0) (hcand : calCandidates s ≠ []) (hidle : s.cal.change = none) :
    calCommitAct p s = done (calDecide 2 p.obs.dieTemp.toInt s) := by
  have hready : (s.cal.cfg.mode == 0 || (calCandidates s).isEmpty || s.cal.change.isSome) = false := by
    simp [hmode, hcand, hidle]
  simp only [calCommitAct, dieTempOf, hzero, hact, hready]
  rfl

theorem calCommitAct_abandon {p : Packet} {s : State} (hzero : zeroAt p.params 1 3 = true) (hact : u8 p.params 0 = 1)
    (hchange : s.cal.change ≠ none) : calCommitAct p s = done { s with cal.abandonDue := true } := by
  have hsome : s.cal.change.isNone = false := Option.isNone_eq_false_iff.2 (Option.isSome_iff_ne_none.2 hchange)
  simp only [calCommitAct, hzero, hact, hsome]
  rfl

/-- The entries of CAL_LOAD (06 R278). -/
def calLoadEntries (p : Packet) : List (List Byte) := chunks 64 (u8 p.params 1) (p.params.drop 8)

/-- The change to the table that CAL_LOAD brings (06 R274). -/
def calLoadChange (p : Packet) (s : State) : CalChange :=
  { cause := 3, next := calTableIn s.cal.table.id (calLoadEntries p), epochs := 0,
    ran := bitsMask ((upto 24).filter (aprRunning s)), gone := 0, announced := false }

/-- A distribution table is stored: it applies from the next window, and no window begun before gives candidates (06 R278). -/
def storeDist (t : CalTable) (s : State) : State :=
  { s with
    cal.distNext := some t, cal.storedDist := some t, cal.ests := [], cal.win.old := true,
    cal.ending := s.cal.ending.map (fun w => { w with old := true }),
    cal.closed := s.cal.closed.map (fun w => { w with old := true }) }

section
variable {p : Packet} {s : State} (hcount : u8 p.params 1 ≤ 24) (hzero : zeroAt p.params 2 6 = true)
  (hentries : ∀ e ∈ calLoadEntries p, calEntryOk (u8 p.params 0) e = true) (hdistinct : sameApr (calLoadEntries p) = false)
include hcount hzero hentries hdistinct

/-- Entries in range go on to what each of the two tables asks: no change in progress, or the write to MRAM (06 R274, R278). -/
theorem calLoadAct_inRange (htable : u8 p.params 0 = 1 ∨ u8 p.params 0 = 2) :
    calLoadAct p s = if u8 p.params 0 = 1 then
        rejectIf s.cal.change.isSome .badState (done { s with cal.change := some (calLoadChange p s) })
      else rejectIf p.obs.mramFail .integrity (done (storeDist (calTableIn 0 (calLoadEntries p)) s)) := by
  have htable' : (u8 p.params 0 == 0 || decide (2 < u8 p.params 0)) = false := by
    rcases htable with h | h <;> simp [h]
  have hentries' : (calLoadEntries p).any (fun e => !calEntryOk (u8 p.params 0) e) = false := by
    simpa [List.any_eq_false] using hentries
  unfold calLoadEntries at *
  exact rejectIf_of_not (by simp [htable', hentries', hdistinct, hzero, hcount])

theorem calLoadAct_table (htable : u8 p.params 0 = 1) (hidle : s.cal.change = none) :
    calLoadAct p s = done { s with cal.change := some (calLoadChange p s) } := by
  rw [calLoadAct_inRange hcount hzero hentries hdistinct (.inl htable), if_pos htable]
  exact rejectIf_of_not (by simp [hidle])

theorem calLoadAct_dist (htable : u8 p.params 0 = 2) (hmram : p.obs.mramFail = false) :
    calLoadAct p s = done (storeDist (calTableIn 0 (calLoadEntries p)) s) := by
  rw [calLoadAct_inRange hcount hzero hentries hdistinct (.inr htable), if_neg (by omega)]
  exact rejectIf_of_not hmram

end

/-! ### The end of a window: its estimates and injection checks leave the settings of Voile alone (06 R262, R263, R276) -/

theorem Sends.cal {s t : State} (h : Sends s t) : t.cal = s.cal := by
  have := congrArg State.cal h.quiet; exact this

/-- A message of Voile leaves its settings alone. -/
theorem calCfg_postCal (kind cause a slice label : Nat) (entries : List (List Byte)) (s : State) :
    (postCal kind cause a slice label entries s).cal.cfg = s.cal.cfg :=
  congrArg Cal.cfg (sends_post ..).cal

theorem calCfg_calOutOfRange (k : Nat) (s : State) : (calOutOfRange k s).cal.cfg = s.cal.cfg :=
  calCfg_postCal ..

theorem calCfg_calTake (w : CalWindow) (ref k : Nat) (s : State) : (calTake w ref k s).cal.cfg = s.cal.cfg := by
  unfold calTake
  extract_lets m e
  split
  · split
    · rfl
    · exact calCfg_calOutOfRange k s
  · rfl

theorem calCfg_calInject (w : CalWindow) (a : Nat) (s : State) : (calInject w a s).cal.cfg = s.cal.cfg := by
  unfold calInject
  split
  · rfl
  · extract_lets x weak out y level t
    split
    · rfl
    · exact calCfg_postCal ..

theorem calCfg_calTakes (w : CalWindow) (keys : List Nat) (s : State) : (calTakes w keys s).cal.cfg = s.cal.cfg := by
  unfold calTakes
  split
  · exact foldS_frame (·.cal.cfg) _ (calCfg_calTake w _) _ s
  · rfl

/-- The injection check of a window that was not spoilt: each aperture that it kept (06 R276). -/
def windowInjected (w : CalWindow) (s : State) : State :=
  if w.spoilt then s else foldS (calInject w) ((upto 24).filter (fun a => !w.lost.testBit a)) s

theorem calCfg_windowInjected (w : CalWindow) (s : State) : (windowInjected w s).cal.cfg = s.cal.cfg := by
  unfold windowInjected
  split
  · rfl
  · exact foldS_frame (·.cal.cfg) _ (calCfg_calInject w) _ s

theorem voileWindowEnd_none (temp : Int) {s : State} (hnone : s.cal.closed = none) : voileWindowEnd temp s = s := by
  simp only [voileWindowEnd, hnone]

/-- A window whose record is not asked for, in a mode that makes no change of its own, gives its estimates and its injection check. -/
theorem voileWindowEnd_noChange (temp : Int) {s : State} {w : CalWindow} (hclosed : s.cal.closed = some w)
    (hreport : w.report = false) (hmode : s.cal.cfg.mode ≠ 2) :
    voileWindowEnd temp s = windowInjected w
      (calTakes w (windowKeys s w) { s with cal.closed := none, cal.invalid := windowKeys s w }) := by
  have hcfg : (windowInjected w (calTakes w (windowKeys s w)
      { s with cal.closed := none, cal.invalid := windowKeys s w })).cal.cfg.mode ≠ 2 := by
    rw [calCfg_windowInjected, calCfg_calTakes]
    exact hmode
  unfold windowInjected at *
  simp only [voileWindowEnd, hclosed, hreport, Bool.false_eq_true, if_false]
  exact if_neg (fun h => hcfg h.1)

/-! ### The write of the table to MRAM (06 R271) -/

theorem calTableStored_done {s : State} (h : s.cal.writing = true) :
    calTableStored true s = { s with cal.writing := false, cal.stored := some s.cal.table } :=
  if_pos h

theorem calTableStored_failed {s : State} (h : s.cal.writing = true) :
    calTableStored false s = postCal 6 4 255 255 s.epochMs [] { s with cal.writing := false } :=
  if_pos h

end Sys2Proof.Laws

/-! The statement about Voile (06), settled. -/
namespace Sys2Proof.Proofs

open Sys2Proof.Machine Sys2Proof.Safety Sys2Proof.Laws

/-- Settles O11: each accepted form passes its command's own checks, and the row commits what the command then answers; a window's
estimates and injection checks leave the mode alone, so no change is decided after them. -/
theorem calibrationComplete : Obligations.CalibrationComplete := by
  refine ⟨fun p s h hmode href hlevel havg havg' hdelay hphase hphase' hslices hsome hreport hkeep => ?voile,
    fun p s h => ?status,
    fun p s h hzero => ⟨fun hact hmode hcand hidle => ?decide, fun hact hchange => ?abandon⟩,
    fun p s h hcount hzero hentries hdistinct => ⟨fun htable hidle => ?table, fun htable => ?dist⟩,
    fun temp s hnone => ?noWindow,
    fun temp s w hclosed hreport hmode => ⟨fun hspoilt => ?spoilt, fun hspoilt => ?checked⟩,
    fun s hwriting => ?stored⟩
  case voile =>
    exact exec_of_act_ok rfl h
      (calVoileAct_ok hmode href hlevel havg havg' hdelay hphase hphase' hslices hsome hreport hkeep)
  case status => exact exec_of_act_ok rfl h (calStatusAct_eq p _)
  case decide => exact exec_of_act_ok rfl h (calCommitAct_decide hzero hact hmode hcand hidle)
  case abandon => exact exec_of_act_ok rfl h (calCommitAct_abandon hzero hact hchange)
  case table => exact exec_of_act_ok rfl h (calLoadAct_table hcount hzero hentries hdistinct htable hidle)
  case dist => exact exec_of_act_ok rfl h (calLoadAct_dist hcount hzero hentries hdistinct htable h.mram)
  case noWindow => exact congrArg Host.Outcome.next (voileWindowEnd_none _ hnone)
  case spoilt =>
    have hend := voileWindowEnd_noChange temp.toInt hclosed hreport hmode
    rw [windowInjected, if_pos hspoilt] at hend
    exact congrArg Host.Outcome.next hend
  case checked =>
    have hend := voileWindowEnd_noChange temp.toInt hclosed hreport hmode
    rw [windowInjected, if_neg (by simp [hspoilt])] at hend
    exact congrArg Host.Outcome.next hend
  case stored =>
    exact ⟨congrArg Host.Outcome.next (calTableStored_done hwriting), congrArg Host.Outcome.next (calTableStored_failed hwriting)⟩

end Sys2Proof.Proofs

/-! ## The commands of the measurement engines: what their own checks ask (07). -/
namespace Sys2Proof.Laws

open Sys2Proof.Machine Sys2Proof.Safety

/-! ### Rates and navigation settings (07 R282, R295) -/

theorem measRateAct_ok {p : Packet} {s : State} (hrate : u16 p.params 0 ≠ 0) (hwhole : 1000 % u16 p.params 0 = 0)
    (hdiv : u8 p.params 2 ≠ 0 → u16 p.params 0 % u8 p.params 2 = 0) (hzero : zeroAt p.params 3 1 = true)
    (hpvt : ∀ v ∈ pvtDivs s, pvtFits (u16 p.params 0) v = true) (henv : u16 p.params 0 ≤ s.profile.env.measRate)
    (htul : u8 p.params 2 ≠ 0 → s.profile.env.tulGroups ≠ 0 ∧ u16 p.params 0 ≤ s.profile.env.tulRate * u8 p.params 2)
    (hbudget : budgetBroken s { s with rates.rateHz := u16 p.params 0, rates.tulDiv := u8 p.params 2 } = false) :
    measRateAct p s = done { s with meas.pendRates := some (u16 p.params 0, u8 p.params 2) } := by
  have hdiv' : (u8 p.params 2 != 0 && u16 p.params 0 % u8 p.params 2 != 0) = false := by simpa using hdiv
  have hpvt' : (pvtDivs s).any (fun v => !pvtFits (u16 p.params 0) v) = false := by simpa [List.any_eq_false] using hpvt
  have htul' : (u8 p.params 2 != 0 && (s.profile.env.tulGroups == 0
      || decide (s.profile.env.tulRate * u8 p.params 2 < u16 p.params 0))) = false := by simpa using htul
  simp only [measRateAct, beq_eq_false_iff_ne.2 hrate, hwhole, hdiv', hzero, hpvt', Nat.not_lt.2 henv, htul', hbudget]
  rfl

/-- The settings that NAV_CONFIG names (07 R295). -/
def navConfigCfg (p : Packet) : NavCfg :=
  { pvtDiv := u8 p.params 0, mode := u8 p.params 1, dyn := u8 p.params 2, elev := u8 p.params 3, cn0 := u8 p.params 4,
    systems := u8 p.params 5, point := u8 p.params 6, corrSrc := u8 p.params 7, corrNode := u8 p.params 8,
    ageLimit := u8 p.params 9 }

/-- PVT_DIV is judged against the rate in force and, where one waits, against that too (07 R295). -/
theorem pvtFits_rates {s : State} {div : Nat} (hforce : pvtFits s.rates.rateHz div = true)
    (hwaits : ∀ r d, s.meas.pendRates = some (r, d) → pvtFits r div = true) :
    (s.rates.rateHz :: (s.meas.pendRates.map (·.1)).toList).any (fun r => !pvtFits r div) = false := by
  cases hpend : s.meas.pendRates with
  | none => simp [hforce]
  | some w => simp [hforce, hwaits w.1 w.2 hpend]

theorem navConfigAct_ok {p : Packet} {s : State} (hmode : u8 p.params 1 ≤ 3) (hdyn : u8 p.params 2 ≤ 3) (helev : u8 p.params 3 ≤ 60)
    (hcn0 : 10 ≤ u8 p.params 4) (hcn0' : u8 p.params 4 ≤ 45) (hsys : u8 p.params 5 ≠ 0) (hsys' : u8 p.params 5 ≤ 127)
    (hpoint : u8 p.params 6 ≤ 23 ∨ u8 p.params 6 = 255) (hsrc : u8 p.params 7 ≤ 2) (hcorr : 2 ≤ u8 p.params 1 → u8 p.params 7 ≠ 0)
    (hnode : u8 p.params 7 = 2 → u8 p.params 8 ≤ 63) (hnode' : u8 p.params 7 ≠ 2 → u8 p.params 8 = 0) (hage : 1 ≤ u8 p.params 9)
    (hage' : u8 p.params 9 ≤ 60) (hzero : zeroAt p.params 10 6 = true) (hforce : pvtFits s.rates.rateHz (u8 p.params 0) = true)
    (hwaits : ∀ r d, s.meas.pendRates = some (r, d) → pvtFits r (u8 p.params 0) = true)
    (hbudget : budgetBroken s { s with rates.pvtDiv := u8 p.params 0 } = false) :
    navConfigAct p s = done { s with meas.pendNav := some (navConfigCfg p) } := by
  have hcorr' : (decide (2 ≤ u8 p.params 1) && u8 p.params 7 == 0) = false := by simpa using hcorr
  have hnodes : (if u8 p.params 7 = 2 then decide (63 < u8 p.params 8) else u8 p.params 8 != 0) = false := by
    split
    case isTrue hlink => exact decide_eq_false (Nat.not_lt.2 (hnode hlink))
    case isFalse hother => simp [hnode' hother]
  simp only [navConfigAct, pvtFits_rates hforce hwaits, hcorr', address_inRange hpoint, hnodes, hzero, hbudget, Nat.not_lt.2 hmode,
    Nat.not_lt.2 hdyn, Nat.not_lt.2 helev, Nat.not_lt.2 hcn0, Nat.not_lt.2 hcn0', beq_eq_false_iff_ne.2 hsys, Nat.not_lt.2 hsys',
    Nat.not_lt.2 hsrc, beq_eq_false_iff_ne.2 (Nat.ne_of_gt hage), Nat.not_lt.2 hage']
  rfl

/-! ### Groups (07 R299 to R301) -/

/-- The member entries of TUL_GROUP (07 R299). -/
def tulGroupEntries (p : Packet) : List (List Byte) := chunks 16 (u8 p.params 2) (p.params.drop 16)

/-- The definition that TUL_GROUP names (07 R299). -/
def tulGroupDef (p : Packet) : TulDef :=
  { ref := u8 p.params 3, attitude := u8 p.params 4 == 1, rigidTol := u16 p.params 6, members := byApr ((tulGroupEntries p).map memberIn) }

/-- A group's next definition waits, and what waited for the one before is dropped (07 R301). -/
def tulGroupWaits (p : Packet) (d : Option TulDef) (s : State) : State :=
  modGroup (u8 p.params 0) (fun x => { x with pendDef := some d, pendMode := none, pendReset := [] }) s

section
variable {p : Packet} {s : State} (hgroup : u8 p.params 0 ≤ 3) (hatt : u8 p.params 4 ≤ 1) (hzero : zeroAt p.params 5 1 = true)
  (hzero' : zeroAt p.params 8 8 = true) (hallowed : u8 p.params 0 < s.profile.env.tulGroups)
include hgroup hatt hzero hzero' hallowed

theorem tulGroupAct_define (henv : ∀ m ∈ (tulGroupEntries p).map memberIn, s.profile.env.aprMask.testBit m.apr = true)
    (hact : u8 p.params 1 = 1) (hcount : 2 ≤ u8 p.params 2) (hcount' : u8 p.params 2 ≤ 24) (htol : 1 ≤ u16 p.params 6)
    (htol' : u16 p.params 6 ≤ 1000) (hentries : ∀ e ∈ tulGroupEntries p, memberOk e = true)
    (hdistinct : anyPair (fun x y => u8 x 0 == u8 y 0) (tulGroupEntries p) = false) {r : TulMember}
    (href : ((tulGroupEntries p).map memberIn).find? (fun m => m.apr == u8 p.params 3 && !m.deformable) = some r)
    (hnear : ∀ m ∈ (tulGroupEntries p).map memberIn, armDist2 m r ≤ 5000000 ^ 2) :
    tulGroupAct p s = done (tulGroupWaits p (some (tulGroupDef p)) s) := by
  have henv' : ((tulGroupEntries p).map memberIn).any (fun m => !s.profile.env.aprMask.testBit m.apr) = false := by
    simpa [List.any_eq_false] using henv
  have hentries' : (tulGroupEntries p).any (fun e => !memberOk e) = false := by
    simpa [List.any_eq_false] using hentries
  have hnear' : ((tulGroupEntries p).map memberIn).any (fun m => decide (5000000 ^ 2 < armDist2 m r)) = false := by
    rw [List.any_eq_false]
    intro m hm
    simpa using hnear m hm
  unfold tulGroupEntries at *
  simp only [tulGroupAct, hact, hzero, hzero', henv', hentries', hdistinct, href, hnear', Nat.not_lt.2 hgroup, Nat.not_lt.2 hatt,
    Nat.not_le.2 hallowed, Nat.not_lt.2 hcount, Nat.not_lt.2 hcount', Nat.not_lt.2 htol, Nat.not_lt.2 htol']
  rfl

/-- A group that is not defined is deleted without effect (07 R300). -/
theorem tulGroupAct_delete (hact : u8 p.params 1 = 0) (hcount : u8 p.params 2 = 0) (href : u8 p.params 3 = 0)
    (htol : u16 p.params 6 = 0) :
    tulGroupAct p s = done (if latestDef (groupOf s (u8 p.params 0)) = none then s else tulGroupWaits p none s) := by
  simp only [tulGroupAct, hact, hcount, href, htol, hzero, hzero', Nat.not_lt.2 hgroup, Nat.not_lt.2 hatt, Nat.not_le.2 hallowed,
    chunks]
  cases hdef : latestDef (groupOf s (u8 p.params 0)) with
  | none => rfl
  | some d => rfl

end

/-! ### Modes and ambiguity resets (07 R303, R310) -/

/-- The settings that TUL_MODE names (07 R303). -/
def tulModeNew (p : Packet) : TulMode :=
  { amb := u8 p.params 1, prov := u8 p.params 2 == 1, bw := u8 p.params 3, ratio := u8 p.params 4, elev := u8 p.params 5,
    systems := u8 p.params 6 }

theorem tulModeAct_ok {p : Packet} {s : State} (hgroup : u8 p.params 0 ≤ 3 ∨ u8 p.params 0 = 255) (hamb : u8 p.params 1 ≤ 2)
    (hprov : u8 p.params 2 ≤ 1) (hbw : u8 p.params 3 ≤ 100) (hratio : 15 ≤ u8 p.params 4) (hratio' : u8 p.params 4 ≤ 100)
    (helev : u8 p.params 5 ≤ 60) (hsys : u8 p.params 6 ≠ 0) (hsys' : u8 p.params 6 ≤ 127) (hzero : zeroAt p.params 7 1 = true)
    (hdefined : ∀ k ∈ groupTargets s (u8 p.params 0), latestDef (groupOf s k) ≠ none) :
    tulModeAct p s = done (foldS (fun k u => modGroup k (fun x => { x with pendMode := some (tulModeNew p) }) u)
      (groupTargets s (u8 p.params 0)) s) := by
  have hdefined' : (groupTargets s (u8 p.params 0)).any (fun k => (latestDef (groupOf s k)).isNone) = false := by
    simpa [List.any_eq_false] using hdefined
  simp only [tulModeAct, address_inRange hgroup, hzero, hdefined', Nat.not_lt.2 hamb, Nat.not_lt.2 hprov, Nat.not_lt.2 hbw,
    Nat.not_lt.2 hratio, Nat.not_lt.2 hratio', Nat.not_lt.2 helev, beq_eq_false_iff_ne.2 hsys, Nat.not_lt.2 hsys']
  rfl

/-- The groups that TUL_RESET_AMB names and that hold the aperture it names (07 R310). -/
def tulResetGroups (p : Packet) (s : State) : List Nat :=
  (groupTargets s (u8 p.params 0)).filter (fun k => u8 p.params 1 == 255 || isMember (groupOf s k) (u8 p.params 1))

theorem tulResetAct_ok {p : Packet} {s : State} (hgroup : u8 p.params 0 ≤ 3 ∨ u8 p.params 0 = 255)
    (hapr : u8 p.params 1 ≤ 23 ∨ u8 p.params 1 = 255) (hzero : zeroAt p.params 2 2 = true)
    (hdefined : u8 p.params 0 ≠ 255 → latestDef (groupOf s (u8 p.params 0)) ≠ none)
    (hmember : u8 p.params 1 ≠ 255 → tulResetGroups p s ≠ []) :
    tulResetAct p s = done (foldS (fun k u => modGroup k (fun x => { x with pendReset := x.pendReset ++ [u8 p.params 1] }) u)
      (tulResetGroups p s) s) := by
  have hdefined' : (u8 p.params 0 != 255 && (latestDef (groupOf s (u8 p.params 0))).isNone) = false := by
    simpa [Option.isSome_iff_ne_none] using hdefined
  have hmember' : (u8 p.params 1 != 255 && (tulResetGroups p s).isEmpty) = false := by simpa using hmember
  unfold tulResetGroups at *
  simp only [tulResetAct, address_inRange hgroup, address_inRange hapr, hzero, hdefined', hmember']
  rfl

/-! ### Corrections (07 R297, R298) -/

theorem measCorrectionsAct_ok {p : Packet} {s : State} {fs : List (List Byte)} (hformat : u8 p.params 0 = 1)
    (hzero : zeroAt p.params 1 1 = true) (hlen : 1 ≤ u16 p.params 2) (hlen' : u16 p.params 2 ≤ 4088)
    (hzero' : zeroAt p.params 4 4 = true) (hframes : rtcmFrames 4096 (p.params.drop 8) = some fs) (hsrc : s.meas.nav.corrSrc = 1) :
    measCorrectionsAct p s = done (takeFrames fs s) := by
  simp only [measCorrectionsAct, hframes, hformat, hzero, hzero', hsrc, beq_eq_false_iff_ne.2 (Nat.ne_of_gt hlen), Nat.not_lt.2 hlen']
  rfl

end Sys2Proof.Laws

/-! The statement about the commands of the measurement engines (07), settled. -/
namespace Sys2Proof.Proofs

open Sys2Proof.Machine Sys2Proof.Safety Sys2Proof.Laws

/-- Settles O12: each accepted form passes its command's own checks, and the row commits what the command then answers. What a frame of
corrections counts and brings is takeFrames, which rests on the field layout of log 42 and on log 65. -/
theorem measurementCommandsComplete : Obligations.MeasurementCommandsComplete := by
  refine ⟨fun p s h hrate hwhole hdiv hzero hpvt henv htul hbudget => ?rate,
    fun p s h hgroup hatt hzero hzero' hallowed henv =>
      ⟨fun hact hcount hcount' htol htol' hentries hdistinct r href hnear => ?define, fun hact hcount href htol => ?delete⟩,
    fun p s h hgroup hamb hprov hbw hratio hratio' helev hsys hsys' hzero hdefined => ?mode,
    fun p s h hgroup hapr hzero hdefined hmember => ?reset,
    fun p s fs h hformat hzero hlen hlen' hzero' hframes hsrc => ?corrections,
    fun p s h hmode hdyn helev hcn0 hcn0' hsys hsys' hpoint hsrc hcorr hnode hnode' hage hage' hzero hforce hwaits hbudget => ?nav⟩
  case rate => exact exec_of_act_ok rfl h (measRateAct_ok hrate hwhole hdiv hzero hpvt henv htul hbudget)
  case define =>
    exact exec_of_act_ok rfl h
      (tulGroupAct_define hgroup hatt hzero hzero' hallowed henv hact hcount hcount' htol htol' hentries hdistinct href hnear)
  case delete => exact exec_of_act_ok rfl h (tulGroupAct_delete hgroup hatt hzero hzero' hallowed hact hcount href htol)
  case mode =>
    exact exec_of_act_ok rfl h
      (tulModeAct_ok hgroup hamb hprov hbw hratio hratio' helev hsys hsys' hzero hdefined)
  case reset => exact exec_of_act_ok rfl h (tulResetAct_ok hgroup hapr hzero hdefined hmember)
  case corrections => exact exec_of_act_ok rfl h (measCorrectionsAct_ok hformat hzero hlen hlen' hzero' hframes hsrc)
  case nav =>
    exact exec_of_act_ok rfl h
      (navConfigAct_ok hmode hdyn helev hcn0 hcn0' hsys hsys' hpoint hsrc hcorr hnode hnode' hage hage' hzero hforce hwaits hbudget)

end Sys2Proof.Proofs

/-! SUPPORT. What the commands of the time engine (08) ask, and what each of them leaves or answers. -/
namespace Sys2Proof.Laws

open Sys2Proof.Machine Sys2Proof.Safety

/-! ### Scale, holdover, step policy and delays (08 R326, R337, R345, R346) -/

theorem timScaleAct_ok {p : Packet} {s : State} (hscale : u8 p.params 0 ≤ 4) (hsource : u8 p.params 1 ≤ 2)
    (haverage : u8 p.params 2 ≤ 1) (hzero : zeroAt p.params 3 1 = true) (hsync : u8 p.params 1 ≠ 0 → syncIs1pps s = true)
    (hstate : s.nunar.st = 0 ∨ s.nunar.st = 1 ∧ s.nunar.slew = 0) :
    timScaleAct p s = done { s with
      nunar.pendScale := some (u8 p.params 0), nunar.source := u8 p.params 1, nunar.average := u8 p.params 2 } := by
  have hsync' : (u8 p.params 1 != 0 && !syncIs1pps s) = false := by simpa using hsync
  have hstate' : (s.nunar.st != 0 && (s.nunar.st != 1 || s.nunar.slew != 0)) = false := by
    rcases hstate with hunset | ⟨hlocked, hstill⟩
    · simp [hunset]
    · simp [hlocked, hstill]
  simp only [timScaleAct, hzero, hsync', hstate', Nat.not_lt.2 hscale, Nat.not_lt.2 hsource, Nat.not_lt.2 haverage]
  rfl

theorem timHoldoverAct_ok {p : Packet} {s : State} (haction : u8 p.params 2 ≤ 1) (hzero : zeroAt p.params 3 1 = true)
    (hdrift : 1 ≤ u32 p.params 4) (hdrift' : u32 p.params 4 ≤ 4000000000) :
    timHoldoverAct p s = done { s with
      nunar.limitMin := u16 p.params 0, nunar.action := u8 p.params 2, nunar.drift := u32 p.params 4,
      nunar.st := if s.nunar.st = 4 ∧ (u16 p.params 0 = 0 ∨ s.ms < s.nunar.coastMs + 60000 * u16 p.params 0) then 3 else s.nunar.st,
      nunar.lowered := s.nunar.st == 3 && u16 p.params 0 != 0
        && decide (s.nunar.coastMs + 60000 * u16 p.params 0 ≤ s.ms) } := by
  simp only [timHoldoverAct, hzero, Nat.not_lt.2 haction, beq_eq_false_iff_ne.2 (Nat.ne_of_gt hdrift), Nat.not_lt.2 hdrift',
    Bool.and_eq_true, Bool.or_eq_true, beq_iff_eq, decide_eq_true_eq]
  rfl

theorem timStepPolicyAct_ok {p : Packet} {s : State} (hpolicy : u8 p.params 0 ≤ 1) (hzero : zeroAt p.params 1 1 = true)
    (hthr : 10 ≤ u16 p.params 2) (hthr' : u16 p.params 2 ≤ 10000) (hrate : 1 ≤ u16 p.params 4) (hrate' : u16 p.params 4 ≤ 1000)
    (hzero' : zeroAt p.params 6 2 = true) :
    timStepPolicyAct p s = done { s with
      nunar.policy := u8 p.params 0, nunar.slewThr := u16 p.params 2, nunar.rate := u16 p.params 4 } := by
  simp only [timStepPolicyAct, hzero, hzero', Nat.not_lt.2 hpolicy, Nat.not_lt.2 hthr, Nat.not_lt.2 hthr',
    beq_eq_false_iff_ne.2 (Nat.ne_of_gt hrate), Nat.not_lt.2 hrate']
  rfl

/-- The delay entries of TIM_DELAYS (08 R346). -/
def timDelayEntries (p : Packet) : List (List Byte) := chunks 8 (u8 p.params 0) (p.params.drop 8)

/-- The delays that TIM_DELAYS leaves (08 R346). -/
def timDelaysSet (p : Packet) (s : State) : State :=
  { s with
    nunar.delays := (timDelayEntries p).foldl (fun m e => tset 0 m (32 * u8 e 0 + u8 e 1) (i32 e 4))
      (if u8 p.params 1 = 0 then [] else s.nunar.delays) }

theorem timDelaysAct_ok {p : Packet} {s : State} (hcount : u8 p.params 0 ≤ 24) (hmode : u8 p.params 1 ≤ 1)
    (hzero : zeroAt p.params 2 6 = true) (hentries : ∀ e ∈ timDelayEntries p, delayOk e = true)
    (hdistinct : anyPair (fun x y => u8 x 0 == u8 y 0 && u8 x 1 == u8 y 1) (timDelayEntries p) = false) :
    timDelaysAct p s = done { timDelaysSet p s with
      nunar.x := s.nunar.x + delayMove s (timDelaysSet p s),
      nunar.forced := s.nunar.forced
        || (s.nunar.st != 0 && s.nunar.st != 5 && delayMove s (timDelaysSet p s) != 0) } := by
  have hentries' : (timDelayEntries p).any (fun e => !delayOk e) = false := by
    simpa [List.any_eq_false] using hentries
  unfold timDelaysSet
  unfold timDelayEntries at *
  simp only [timDelaysAct, hzero, hentries', hdistinct, Nat.not_lt.2 hcount, Nat.not_lt.2 hmode]
  rfl

/-! ### Pulses and timecode (08 R348, R354) -/

/-- The settings of a pulse output that TIM_PULSE names; an output with no pulse announced or active goes to its resting level (08 R348). -/
def timPulseSet (p : Packet) (x : TpOut) : TpOut :=
  let y := { x with
    mode := u8 p.params 1, polarity := u8 p.params 2, notice := u8 p.params 3 == 1, period := u32 p.params 4,
    width := u32 p.params 8, offset := i32 p.params 12 }
  if y.announced = [] ∧ y.trail = none then { y with level := restLevel y } else y

theorem timPulseAct_ok {p : Packet} {s : State} (hout : u8 p.params 0 ≤ 1) (hmode : u8 p.params 1 ≤ 1) (hpol : u8 p.params 2 ≤ 1)
    (hnotice : u8 p.params 3 ≤ 1) (hperiod : u32 p.params 4 ∈ pulsePeriods) (hwidth : 1 ≤ u32 p.params 8)
    (hwidth' : u32 p.params 8 ≤ 1000 * u32 p.params 4 - 1) (hwidth'' : u32 p.params 8 ≤ 1000000)
    (hoffset : (i32 p.params 12).natAbs ≤ 500000000)
    (hfree : u8 p.params 0 = 1 → u8 p.params 1 = 1 → timecodeOn s = false) :
    timPulseAct p s = done (modTp (u8 p.params 0) (timPulseSet p) s) := by
  have hperiod' : pulsePeriods.contains (u32 p.params 4) = true := List.contains_iff_mem.2 hperiod
  have hfree' : (u8 p.params 0 == 1 && u8 p.params 1 == 1 && timecodeOn s) = false := by simpa using hfree
  simp only [timPulseAct, hperiod', hfree', Nat.not_lt.2 hout, Nat.not_lt.2 hmode, Nat.not_lt.2 hpol, Nat.not_lt.2 hnotice,
    beq_eq_false_iff_ne.2 (Nat.ne_of_gt hwidth), Nat.not_lt.2 hwidth', Nat.not_lt.2 hwidth'', Nat.not_lt.2 hoffset,
    List.isEmpty_iff, Option.isNone_iff_eq_none]
  rfl

/-- A core is the last that the envelope's kernel mask allows. -/
def lastCore (s : State) (k : Nat) : Bool :=
  coreAllowed s k && (upto 16).all (fun j => decide (j ≤ k) || !coreAllowed s j)

theorem lastCore_iff {s : State} {k : Nat} :
    lastCore s k = true ↔ coreAllowed s k = true ∧ ∀ j, j < 16 → coreAllowed s j = true → j ≤ k := by
  simp only [lastCore, Bool.and_eq_true, List.all_eq_true, mem_upto, Bool.or_eq_true, decide_eq_true_eq, Bool.not_eq_true']
  refine and_congr_right fun _ => forall_congr' fun j => imp_congr_right fun _ => ?_
  cases coreAllowed s j with
  | false => simp only [or_true, Bool.false_eq_true, false_implies]
  | true => simp only [Bool.true_eq_false, or_false, true_implies]

/-- The core that TIM_TIMECODE needs free: the last of the envelope's kernel mask (08 R354; 01 R46). -/
def timecodeCore (s : State) : Option Nat := (upto 16).find? (lastCore s)

theorem timecodeCore_eq {s : State} {k : Nat} (hk : k < 16) (hallowed : coreAllowed s k = true)
    (hlast : ∀ j, k < j → j < 16 → coreAllowed s j = false) : timecodeCore s = some k := by
  have hle : ∀ j, j < 16 → coreAllowed s j = true → j ≤ k := fun j hj hon =>
    Nat.not_lt.1 (fun hkj => Bool.false_ne_true ((hlast j hkj hj).symm.trans hon))
  cases hfind : timecodeCore s with
  | none => exact absurd (lastCore_iff.2 ⟨hallowed, hle⟩) (List.find?_eq_none.1 hfind k (mem_upto.2 hk))
  | some m =>
    obtain ⟨hon, hall⟩ := lastCore_iff.1 (List.find?_some hfind)
    have hm : m < 16 := mem_upto.1 (List.mem_of_find?_eq_some hfind)
    exact congrArg some (Nat.le_antisymm (hle m hm hon) (hall k hk hallowed))

/-- The timecode that TIM_TIMECODE names (08 R354). -/
def timecodeNew (p : Packet) : Timecode :=
  { on := u8 p.params 0 == 1, format := u8 p.params 1, flags := u8 p.params 2, offset := i8 p.params 4 }

section
variable {p : Packet} {s : State} (hflags : u8 p.params 2 ≤ 3) (hzero : zeroAt p.params 3 1 = true)
  (hoffset : -48 ≤ i8 p.params 4) (hoffset' : i8 p.params 4 ≤ 56) (hzero' : zeroAt p.params 5 3 = true)
include hflags hzero hoffset hoffset' hzero'

theorem timTimecodeAct_off (hoff : u8 p.params 0 = 0) (hnone : u8 p.params 1 = 0) :
    timTimecodeAct p s = done { s with nunar.timecode := timecodeNew p } := by
  simp only [timTimecodeAct, timecodeNew, hoff, hnone, hzero, hzero', Nat.not_lt.2 hflags, Int.not_lt.2 hoffset,
    Int.not_lt.2 hoffset']
  rfl

theorem timTimecodeAct_on {k : Nat} (hformat : u8 p.params 1 ≤ 7) (hon : u8 p.params 0 = 1) (hpulse : (tpOf s 1).mode ≠ 1)
    (hcore : timecodeCore s = some k) (hfree : (coreOf s k).gen = 0) : timTimecodeAct p s = done { s with nunar.timecode := timecodeNew p } := by
  unfold timecodeCore lastCore at hcore
  simp only [timTimecodeAct, timecodeNew, hon, hcore, hfree, hzero, hzero', beq_eq_false_iff_ne.2 hpulse, Nat.not_lt.2 hformat,
    Nat.not_lt.2 hflags, Int.not_lt.2 hoffset, Int.not_lt.2 hoffset']
  rfl

end

/-! ### Events (08 R359) -/

/-- The drain of an input's tags: COUNT leave its FIFO, and its overflows start anew (08 R359). -/
def timEventDrained (p : Packet) (s : State) : State :=
  if u16 p.params 4 = 0 then s
  else modEvt (u8 p.params 0) (fun y => { y with
    fifo := (evtOf s (u8 p.params 0)).fifo.drop (u16 p.params 4), ovf := 0, logged := false }) s

theorem timEventAct_drain {p : Packet} {s : State} (hinput : u8 p.params 0 ≤ 7) (hzero : zeroAt p.params 6 2 = true)
    (hact : u8 p.params 1 = 0) (hedge : u8 p.params 2 = 0) (hdel : u8 p.params 3 = 0) (hcount : u16 p.params 4 ≤ 128)
    (hheld : (evtOf s (u8 p.params 0)).delivery ≠ 1) :
    let x := evtOf s (u8 p.params 0)
    timEventAct p s = answer (le 2 (x.fifo.drop (u16 p.params 4)).length ++ le 1 (x.fifo.take (u16 p.params 4)).length ++ le 1 x.ovf
      ++ (x.fifo.take (u16 p.params 4)).flatten) (timEventDrained p s) := by
  simp only [timEventAct, hact, hedge, hdel, hzero, beq_eq_false_iff_ne.2 hheld, Nat.not_lt.2 hinput, Nat.not_lt.2 hcount]
  rfl

theorem timEventAct_configure {p : Packet} {s : State} (hinput : u8 p.params 0 ≤ 7) (hzero : zeroAt p.params 6 2 = true)
    (hact : u8 p.params 1 = 1) (hedge : u8 p.params 2 ≤ 3) (hdel : u8 p.params 3 ≤ 1) (hcount : u16 p.params 4 = 0) :
    timEventAct p s = answer (zeros 4) (modEvt (u8 p.params 0) (fun _ =>
      { EvtIn.initial with edge := u8 p.params 2, delivery := u8 p.params 3 }) s) := by
  simp only [timEventAct, hact, hcount, hzero, Nat.not_lt.2 hinput, Nat.not_lt.2 hedge, Nat.not_lt.2 hdel]
  rfl

end Sys2Proof.Laws

/-! The statement about the commands of the time engine (08), settled. -/
namespace Sys2Proof.Proofs

open Sys2Proof.Machine Sys2Proof.Safety Sys2Proof.Laws

/-- Settles O14: each accepted form passes its command's own checks, and the row commits what the command then answers. -/
theorem timeCommandsComplete : Obligations.TimeCommandsComplete := by
  refine ⟨fun p s h hscale hsource haverage hzero hsync hstate => ?scale,
    fun p s h haction hzero hdrift hdrift' => ?holdover,
    fun p s h hpolicy hzero hthr hthr' hrate hrate' hzero' => ?policy,
    fun p s h hcount hmode hzero hentries hdistinct => ?delays,
    fun p s h hout hmode hpol hnotice hperiod hwidth hwidth' hwidth'' hoffset hfree => ?pulse,
    fun p s h hformat hflags hzero hoffset hoffset' hzero' hform => ?timecode,
    fun p s h hinput hzero => ⟨fun hact hedge hdel hcount hheld => ?drain, fun hact hedge hdel hcount => ?configure⟩⟩
  case scale => exact exec_of_act_ok rfl h (timScaleAct_ok hscale hsource haverage hzero hsync hstate)
  case holdover => exact exec_of_act_ok rfl h (timHoldoverAct_ok haction hzero hdrift hdrift')
  case policy => exact exec_of_act_ok rfl h (timStepPolicyAct_ok hpolicy hzero hthr hthr' hrate hrate' hzero')
  case delays => exact exec_of_act_ok rfl h (timDelaysAct_ok hcount hmode hzero hentries hdistinct)
  case pulse =>
    exact exec_of_act_ok rfl h
      (timPulseAct_ok hout hmode hpol hnotice hperiod hwidth hwidth' hwidth'' hoffset hfree)
  case timecode =>
    obtain ⟨hoff, hnone⟩ | ⟨hon, hpulse, k, hk, hallowed, hfree, hlast⟩ := hform
    · exact exec_of_act_ok rfl h (timTimecodeAct_off hflags hzero hoffset hoffset' hzero' hoff hnone)
    · exact exec_of_act_ok rfl h (timTimecodeAct_on hflags hzero hoffset hoffset' hzero' hformat hon hpulse
        (timecodeCore_eq hk hallowed hlast) hfree)
  case drain => exact exec_of_act_ok rfl h (timEventAct_drain hinput hzero hact hedge hdel hcount hheld)
  case configure => exact exec_of_act_ok rfl h (timEventAct_configure hinput hzero hact hedge hdel hcount)

end Sys2Proof.Proofs

/-! SUPPORT. What the statement about the epoch and the whole second (08) needs of the model: what the work of an epoch leaves of the time
count, and what the judgement of a second leaves of the engine. -/
namespace Sys2Proof.Laws

open Sys2Proof.Machine Sys2Proof.Safety

/-! ### What the work of an epoch leaves of the time count -/

/-- The time engine, the counts of time and the power: what the work of an epoch on channels, search and clock outputs leaves alone. -/
def timePart (s : State) : Nunar × Nat × Nat × Power := (s.nunar, s.ms, s.epochMs, s.power)

theorem timePart_eq_iff {s t : State} :
    timePart t = timePart s ↔ t.nunar = s.nunar ∧ t.ms = s.ms ∧ t.epochMs = s.epochMs ∧ t.power = s.power := by
  simp [timePart]

@[simp] theorem timePart_modChan (c : Nat) (f : Channel → Channel) (s : State) : timePart (modChan c f s) = timePart s := rfl
@[simp] theorem timePart_modClkOut (o : Nat) (f : ClkOut → ClkOut) (s : State) : timePart (modClkOut o f s) = timePart s := rfl
@[simp] theorem timePart_shiftSearch (d : Int) (s : State) : timePart (shiftSearch d s) = timePart s := rfl
@[simp] theorem timePart_feedSearch (ff : Int) (s : State) : timePart (feedSearch ff s) = timePart s := rfl
@[simp] theorem timePart_mixEpoch (a b : Int) (s : State) : timePart (mixEpoch a b s) = timePart s := rfl

@[simp] theorem timePart_advanceChannels (s : State) : timePart (advanceChannels s) = timePart s :=
  foldS_frame timePart _ (fun c t => timePart_modChan c _ t) _ s

@[simp] theorem timePart_shiftCodes (d : Int) (s : State) : timePart (shiftCodes d s) = timePart s :=
  foldS_frame timePart _ (fun c t => timePart_modChan c _ t) _ s

@[simp] theorem timePart_startSweeps (s : State) : timePart (startSweeps s) = timePart s :=
  foldS_frame timePart _ (fun o t => timePart_modClkOut o _ t) _ s

@[simp] theorem timePart_clkTick (s : State) : timePart (clkTick s) = timePart s :=
  foldS_frame timePart _ (fun o t => timePart_modClkOut o _ t) _ _

@[simp] theorem timePart_stepOutputs (d : Int) (s : State) : timePart (stepOutputs d s) = timePart s :=
  (foldS_frame timePart _ (fun o t => timePart_modClkOut o _ t) _ _).trans
    (foldS_frame timePart _ (fun o t => timePart_modClkOut o _ t) _ s)

/-- The time engine apart from the plan of the millisecond that begins and the registers that poison clears (08 R323; 01 R38). -/
def unplanned (n : Nunar) : Nunar :=
  { n with plan := 0, move := 0, filt := [], cur := 0, ff := 0, rateY := 0, mem := [], cand := [], poison := false }

/-- The counts of time with the engine apart from its plan: what an epoch leaves once its label is set. -/
def unplannedPart (s : State) : Nunar × Nat × Nat × Power := (unplanned s.nunar, s.ms, s.epochMs, s.power)

theorem unplannedPart_of_timePart {s t : State} (h : timePart t = timePart s) : unplannedPart t = unplannedPart s :=
  congrArg (fun x => (unplanned x.1, x.2)) h

@[simp] theorem unplannedPart_takeJump (s : State) : unplannedPart (takeJump s) = unplannedPart s := by
  unfold takeJump rateJump
  dsimp only
  split <;> rfl

@[simp] theorem unplannedPart_planMs (s : State) : unplannedPart (planMs s) = unplannedPart s := by
  unfold planMs
  dsimp only
  split <;> exact unplannedPart_takeJump _

@[simp] theorem unplannedPart_clearPoison (s : State) : unplannedPart (clearPoison s) = unplannedPart s := by
  unfold clearPoison
  split <;> rfl

/-- The plan of a millisecond leaves the time count where its epoch has put it. -/
theorem unplannedPart_planned (s : State) : unplannedPart (planMs (startSweeps (clearPoison s))) = unplannedPart s := by
  rw [unplannedPart_planMs, unplannedPart_of_timePart (timePart_startSweeps _), unplannedPart_clearPoison]

/-! ### The epoch (08 R323, R325, R342, R343) -/

/-- The time engine at the end of the millisecond that runs (08 R323 to R325). -/
def endedMs (n : Nunar) : Nunar :=
  { n with pos := n.pos + n.plan, len := n.cur, a := n.a + n.move, slew := if n.slew = 0 then 0 else n.slew - n.move }

theorem endMs_leaves (s : State) :
    (endMs s).nunar = endedMs s.nunar ∧ (endMs s).ms = s.ms ∧ (endMs s).epochMs = s.epochMs ∧ (endMs s).power = s.power := by
  unfold endMs
  extract_lets ended n
  have h : timePart ended = timePart s := by simp [ended]
  clear_value ended
  obtain ⟨hnunar, hms, hlabel, hpower⟩ := timePart_eq_iff.1 h
  exact ⟨congrArg endedMs hnunar, hms, hlabel, hpower⟩

@[simp] theorem stepDue_endMs (s : State) : stepDue (endMs s) = stepDue s := by
  obtain ⟨hnunar, -, hlabel, -⟩ := endMs_leaves s
  simp [stepDue, endedMs, hnunar, hlabel]

theorem stepDue_at {s : State} {d : TimeStep} (hrun : s.nunar.running = true) (hstep : s.nunar.step = some d)
    (hlabel : s.epochMs + 1 = d.boundary) : stepDue s = true := by
  simp [stepDue, hrun, hstep, hlabel]

theorem scaleDue_none {s : State} (h : s.nunar.pendScale = none) : scaleDue s = s := by
  simp only [scaleDue, h]

theorem unplannedPart_gridEpoch (elapsed : Nat) (s : State) :
    unplannedPart (gridEpoch elapsed s) = unplannedPart (nunarEpoch elapsed s) := by
  unfold gridEpoch
  dsimp only
  split
  · exact unplannedPart_of_timePart (timePart_mixEpoch ..)
  · rfl

/-- An ordinary epoch: the millisecond that ran ends, and the next label begins. -/
theorem unplannedPart_ordinaryEpoch (elapsed : Nat) {s : State} (hrun : s.nunar.running = true) (hscale : s.nunar.pendScale = none)
    (hdue : stepDue s = false) : unplannedPart (gridEpoch elapsed s) = unplannedPart (nextLabel (endMs s)) := by
  have hepoch : nunarEpoch elapsed s = planMs (startSweeps (clearPoison (nextLabel (endMs s)))) := by
    simp only [nunarEpoch, hrun, scaleDue_none hscale, stepDue_endMs, hdue, Bool.false_eq_true, if_true, if_false]
  rw [unplannedPart_gridEpoch, hepoch, unplannedPart_planned]

/-- The epoch of a step: the millisecond that ran ends, and the step is taken. -/
theorem unplannedPart_stepEpoch (elapsed : Nat) {s : State} {d : TimeStep} (hrun : s.nunar.running = true)
    (hscale : s.nunar.pendScale = none) (hstep : s.nunar.step = some d) (hlabel : s.epochMs + 1 = d.boundary) :
    unplannedPart (gridEpoch elapsed s) = unplannedPart (takeStep d (endMs s)) := by
  have hended : (endMs s).nunar.step = some d := (congrArg Nunar.step (endMs_leaves s).1).trans hstep
  have hepoch : nunarEpoch elapsed s = planMs (startSweeps (clearPoison (takeStep d (endMs s)))) := by
    simp only [nunarEpoch, hrun, scaleDue_none hscale, stepDue_endMs, stepDue_at hrun hstep hlabel, hended, if_true]
  rw [unplannedPart_gridEpoch, hepoch, unplannedPart_planned]

theorem epoch_runs (o : EpochObs) {s : State} (h : epochsRun s = true) :
    epoch o s = epochEngines o (epochSettings (takeHoldings o.nav (epochInstant o s))) := if_pos h

theorem epochInstant_running (o : EpochObs) {s : State} (hrun : s.nunar.running = true) (hstepped : s.nunar.stepped = false) :
    epochInstant o s = gridEpoch o.elapsed (passMs 1 s) := by
  have hpass : ∀ n, (passMs n s).nunar = s.nunar := fun _ => rfl
  simp [epochInstant, hrun, hpass, hstepped]

theorem takeHoldings_utc (v : NavObs) {s : State} {u : Byte × Fin 3 × Nat} (h : v.utc = some u) :
    (takeHoldings (some v) s).meas.authOut = v.auth
      ∧ (takeHoldings (some v) s).nav.utc = some { leap := u.1.toNat, change := u.2.1.val, endMs := u.2.2 } := by
  simp only [takeHoldings, h, and_self]

theorem takeStep_leaves (p : TimeStep) (s : State) :
    let t := takeStep p s
    t.epochMs = ((p.boundary : Int) + stepK p.d).toNat ∧ t.nunar.st = 1 ∧ t.nunar.a = s.nunar.a + p.d ∧ t.nunar.step = none
      ∧ t.nunar.slew = 0 ∧ t.nunar.broken = true ∧ t.nunar.first = false := by
  unfold takeStep
  extract_lets k label more moved n n' t
  have h : timePart t = timePart { s with epochMs := label, nunar := n' } := by
    simp only [t, timePart_stepOutputs, timePart_shiftSearch, timePart_shiftCodes]
  clear_value t
  obtain ⟨hnunar, -, hlabel, -⟩ := timePart_eq_iff.1 h
  dsimp only at hnunar hlabel ⊢
  rw [hnunar, hlabel]
  exact ⟨rfl, rfl, rfl, rfl, rfl, rfl, rfl⟩

theorem unplannedPart_eq_iff {s t : State} :
    unplannedPart t = unplannedPart s
      ↔ unplanned t.nunar = unplanned s.nunar ∧ t.ms = s.ms ∧ t.epochMs = s.epochMs ∧ t.power = s.power := by
  simp [unplannedPart]

theorem kept_of_unplanned {m n : Nunar} (h : unplanned m = unplanned n) :
    m.a = n.a ∧ m.pos = n.pos ∧ m.len = n.len ∧ m.step = n.step ∧ m.st = n.st ∧ m.slew = n.slew ∧ m.broken = n.broken
      ∧ m.first = n.first := by
  simp only [unplanned, Nunar.mk.injEq] at h
  simp [h]

theorem nextLabel_leaves (s : State) :
    (nextLabel s).ms = s.ms ∧ (nextLabel s).epochMs = s.epochMs + 1 ∧ (nextLabel s).power = s.power
      ∧ (nextLabel s).nunar.a = s.nunar.a ∧ (nextLabel s).nunar.pos = s.nunar.pos ∧ (nextLabel s).nunar.len = s.nunar.len
      ∧ (nextLabel s).nunar.step = s.nunar.step := ⟨rfl, rfl, rfl, rfl, rfl, rfl, rfl⟩

/-- An ordinary EPOCH: the time count and the label go on by 1 ms, the grid by the length planned (08 R322, R323, R325). -/
theorem epochInstant_leaves (o : EpochObs) {s : State} (hrun : s.nunar.running = true) (hstepped : s.nunar.stepped = false)
    (hdue : stepDue s = false) (hscale : s.nunar.pendScale = none) :
    let t := epochInstant o s
    t.ms = s.ms + 1 ∧ t.epochMs = s.epochMs + 1 ∧ t.power.readyMs = s.power.readyMs ∧ t.nunar.a = s.nunar.a + s.nunar.move
      ∧ t.nunar.pos = s.nunar.pos + s.nunar.plan ∧ t.nunar.len = s.nunar.cur ∧ t.nunar.step = s.nunar.step := by
  obtain ⟨hended, hms, hlabel, hpower⟩ := endMs_leaves (passMs 1 s)
  obtain ⟨hms', hlabel', hpower', ha', hpos', hlen', hstep'⟩ := nextLabel_leaves (endMs (passMs 1 s))
  obtain ⟨hnunar, hms'', hlabel'', hpower''⟩ :=
    unplannedPart_eq_iff.1 (unplannedPart_ordinaryEpoch o.elapsed (s := passMs 1 s) hrun hscale hdue)
  obtain ⟨ha, hpos, hlen, hstep, -⟩ := kept_of_unplanned hnunar
  rw [epochInstant_running o hrun hstepped]
  dsimp only
  rw [hms'', hms', hms, hlabel'', hlabel', hlabel, hpower'', hpower', hpower, ha, ha', hpos, hpos', hlen, hlen', hstep, hstep',
    hended]
  exact ⟨rfl, rfl, rfl, rfl, rfl, rfl, rfl⟩

theorem timeStep_due {s : State} (hepochs : epochsRun s = true) (hdue : stepDue s = true) (hstepped : s.nunar.stepped = false) :
    timeStep s = { gridEpoch 0 s with nunar.stepped := true } := by
  simp only [timeStep, hepochs, hdue, hstepped]
  rfl

/-- TIME_STEP makes the pulse boundary the first epoch of the new placement, LOCKED (08 R341 to R343). -/
theorem stepEpoch_leaves {s : State} {d : TimeStep} (hrun : s.nunar.running = true) (hscale : s.nunar.pendScale = none)
    (hstep : s.nunar.step = some d) (hlabel : s.epochMs + 1 = d.boundary) :
    let t := gridEpoch 0 s
    t.epochMs = ((d.boundary : Int) + stepK d.d).toNat ∧ t.nunar.st = 1 ∧ t.nunar.a = s.nunar.a + s.nunar.move + d.d
      ∧ t.nunar.step = none ∧ t.nunar.slew = 0 ∧ t.nunar.broken = true ∧ t.nunar.first = false := by
  obtain ⟨hended, -, -, -⟩ := endMs_leaves s
  obtain ⟨hlabel', hst', ha', hstep', hslew', hbroken', hfirst'⟩ := takeStep_leaves d (endMs s)
  obtain ⟨hnunar, -, hboundary, -⟩ := unplannedPart_eq_iff.1 (unplannedPart_stepEpoch 0 hrun hscale hstep hlabel)
  obtain ⟨ha, -, -, hnone, hst, hslew, hbroken, hfirst⟩ := kept_of_unplanned hnunar
  have hmoved : (endMs s).nunar.a = s.nunar.a + s.nunar.move := congrArg Nunar.a hended
  exact ⟨hboundary.trans hlabel', hst.trans hst', by rw [ha, ha', hmoved], hnone.trans hstep', hslew.trans hslew',
    hbroken.trans hbroken', hfirst.trans hfirst'⟩

/-! ### The end of a slew and of holdover (08 R333, R341) -/

theorem slewEnd_due {s : State} (hst : s.nunar.st = 2) (hslew : s.nunar.slew = 0) (hstep : s.nunar.step = none) :
    slewEnd s = { s with nunar.st := 1 } :=
  if_pos ⟨hst, hslew, by simp [hstep]⟩

theorem holdoverExpiry_due {s : State} (hst : s.nunar.st = 3) (hlimit : s.nunar.limitMin ≠ 0)
    (hpassed : s.nunar.coastMs + 60000 * s.nunar.limitMin ≤ s.ms) (hjudged : s.nunar.secDue = false) (hkept : s.nunar.lowered = false)
    (hstep : s.nunar.step = none) : holdoverExpiry s = { s with nunar.st := 4 } :=
  if_pos ⟨hst, by simp [limitPassed, hlimit, hpassed], by simp [hkept], by simp [hjudged], by simp [hstep]⟩

/-! ### The whole second (08 R325, R330 to R333, R338) -/

theorem Sends.nunar {s t : State} (h : Sends s t) : t.nunar = s.nunar := by
  have := congrArg State.nunar h.quiet; exact this

theorem sends_postOffsets (o : SecondObs) (s : State) : Sends s (postOffsets o s) := by
  unfold postOffsets
  dsimp only
  split
  · exact .refl s
  · exact (sends_logChain ..).trans (sends_post ..)

theorem nunar_loadTimeCount (s : State) : (loadTimeCount s).nunar = s.nunar := by
  unfold loadTimeCount
  split <;> rfl

/-- The time engine apart from what a return decides: its state, slew and step, the frequency removed and what led to the return (08 R340). -/
def undecided (n : Nunar) : Nunar :=
  { n with st := 0, slew := 0, step := none, freq := 0, cand := [], forced := false }

theorem undecided_decideReturn (d freq : Int) (s : State) : undecided (decideReturn d freq s).nunar = undecided s.nunar := by
  unfold decideReturn
  dsimp only
  split <;> rfl

theorem secondLost_leaves (s : State) :
    (secondLost s).nunar.invalid = s.nunar.invalid + 1 ∧ (secondLost s).nunar.cand = []
      ∧ (secondLost s).nunar.secDue = s.nunar.secDue := by
  unfold secondLost
  dsimp only
  split <;> exact ⟨rfl, rfl, rfl⟩

theorem secondHeld_leaves (o : SecondObs) (src : Bool) (x : Int) (valid : Bool) (s : State) :
    let t := secondHeld o src x valid s
    t.nunar.invalid = 0 ∧ t.nunar.src = some src ∧ t.nunar.x = (if valid = true then x else s.nunar.x)
      ∧ t.nunar.secDue = s.nunar.secDue := by
  dsimp only
  generalize ht : secondHeld o src x valid s = t
  unfold secondHeld at ht
  extract_lets n changed e freq drift n1 due osc _ s1 at ht
  split at ht
  · subst ht
    exact ⟨rfl, rfl, rfl, rfl⟩
  · split at ht
    · subst ht
      exact ⟨rfl, rfl, rfl, rfl⟩
    · have h : undecided t.nunar = undecided s1.nunar := by rw [← ht, undecided_decideReturn]
      simp only [undecided, Nunar.mk.injEq] at h
      simp [h, s1, n1, n]

/-- The judgement of a second, before its messages: with or without a source (08 R330 to R333). -/
def secondJudged (o : SecondObs) (s : State) : State := match secondSource o s with
  | some (src, x, valid) => secondHeld o src x valid s
  | none => secondLost s

theorem nunarSecond_judged (o : SecondObs) (s : State) :
    (nunarSecond o s).nunar = (lowerLimit { secondJudged o s with
      nunar.sync := none, nunar.poison := (secondJudged o s).nunar.poison || o.poisoned }).nunar := by
  unfold nunarSecond
  rw [nunar_loadTimeCount, (sends_postOffsets ..).nunar]
  rfl

theorem nunarSecond_leaves (o : SecondObs) (s : State) :
    (nunarSecond o s).nunar.secDue = (secondJudged o s).nunar.secDue ∧ (nunarSecond o s).nunar.sync = none
      ∧ (nunarSecond o s).nunar.invalid = (secondJudged o s).nunar.invalid ∧ (nunarSecond o s).nunar.cand = (secondJudged o s).nunar.cand
      ∧ (nunarSecond o s).nunar.src = (secondJudged o s).nunar.src ∧ (nunarSecond o s).nunar.x = (secondJudged o s).nunar.x := by
  rw [nunarSecond_judged]
  exact ⟨rfl, rfl, rfl, rfl, rfl, rfl⟩

theorem secondJudged_lost {o : SecondObs} {s : State} (h : secondSource o s = none) : secondJudged o s = secondLost s := by
  simp only [secondJudged, h]

theorem secondJudged_held {o : SecondObs} {s : State} {src : Bool} {x : Int} {valid : Bool}
    (h : secondSource o s = some (src, x, valid)) : secondJudged o s = secondHeld o src x valid s := by
  simp only [secondJudged, h]

theorem secDue_secondJudged (o : SecondObs) (s : State) : (secondJudged o s).nunar.secDue = s.nunar.secDue := by
  cases h : secondSource o s with
  | none =>
    obtain ⟨-, -, hdue⟩ := secondLost_leaves s
    rw [secondJudged_lost h, hdue]
  | some z =>
    obtain ⟨-, -, -, hdue⟩ := secondHeld_leaves o z.1 z.2.1 z.2.2 s
    rw [secondJudged_held h, hdue]

/-- The second that is taken up for its judgement. -/
def secondTaken (s : State) : State := { s with nunar.secDue := false }

theorem secondSource_taken (o : SecondObs) (s : State) : secondSource o (secondTaken s) = secondSource o s := rfl

theorem wholeSecond_due (o : SecondObs) {s : State} (hepochs : epochsRun s = true) (hrun : s.nunar.running = true)
    (hdue : s.nunar.secDue = true) (hawake : s.power.retention = false) :
    wholeSecond o s = burstTakeEffect (spoilWindow (voileSliceStart (voileSecond (nunarSecond o (secondTaken s))))) :=
  if_pos ⟨hepochs, hrun, hdue, by simp [hawake]⟩

end Sys2Proof.Laws

/-! The statement about the epoch and the whole second (08), settled. -/
namespace Sys2Proof.Proofs

open Sys2Proof.Machine Sys2Proof.Safety Sys2Proof.Laws

/-- Settles O15: each row, on a state that meets its condition, is the branch that its law names; what an epoch, a second and a step leave of
the time engine is read off the state that its law writes down. -/
theorem epochAndSecondComplete : Obligations.EpochAndSecondComplete := by
  refine ⟨fun o s hepochs hrun hstepped hdue hscale => ⟨?epoch, ?instant⟩, fun v u s hutc => ?holdings,
    fun o s hepochs hrun hdue hawake => ⟨?second, ?judged, ?edge, fun hnone => ?lost, fun src x v hsome => ?held⟩,
    fun s d hepochs hrun hstepped hscale hstep hlabel => ?step, fun s hst hslew hstep => ?slewEnd,
    fun s hst hlimit hpassed hjudged hkept hstep => ?expiry⟩
  case epoch => exact congrArg Host.Outcome.next (epoch_runs o hepochs)
  case instant => exact epochInstant_leaves o hrun hstepped hdue hscale
  case holdings => exact takeHoldings_utc v hutc
  case second => exact congrArg Host.Outcome.next (wholeSecond_due o hepochs hrun hdue hawake)
  case judged =>
    obtain ⟨hleft, -⟩ := nunarSecond_leaves o (secondTaken s)
    exact hleft.trans (secDue_secondJudged o (secondTaken s))
  case edge =>
    obtain ⟨-, hsync, -⟩ := nunarSecond_leaves o (secondTaken s)
    exact hsync
  case lost =>
    obtain ⟨-, -, hinvalid, hcand, -⟩ := nunarSecond_leaves o (secondTaken s)
    obtain ⟨hmore, hempty, -⟩ := secondLost_leaves (secondTaken s)
    rw [secondJudged_lost ((secondSource_taken o s).trans hnone)] at hinvalid hcand
    exact ⟨hinvalid.trans hmore, hcand.trans hempty⟩
  case held =>
    obtain ⟨-, -, hinvalid, -, hsrc, hx⟩ := nunarSecond_leaves o (secondTaken s)
    obtain ⟨hzero, hused, htaken, -⟩ := secondHeld_leaves o src x v (secondTaken s)
    rw [secondJudged_held ((secondSource_taken o s).trans hsome)] at hinvalid hsrc hx
    exact ⟨hinvalid.trans hzero, hsrc.trans hused, hx.trans htaken⟩
  case step =>
    obtain ⟨hboundary, hst, ha, hnone, hslew, hbroken, hfirst⟩ := stepEpoch_leaves hrun hscale hstep hlabel
    exact ⟨_, congrArg Host.Outcome.next (timeStep_due hepochs (stepDue_at hrun hstep hlabel) hstepped), hboundary, hst, ha, hnone,
      hslew, hbroken, hfirst, rfl⟩
  case slewEnd => exact congrArg Host.Outcome.next (slewEnd_due hst hslew hstep)
  case expiry => exact congrArg Host.Outcome.next (holdoverExpiry_due hst hlimit hpassed hjudged hkept hstep)

end Sys2Proof.Proofs

/-! SUPPORT. The tag that an edge of an event input stores (08 R356 to R358). -/
namespace Sys2Proof.Laws

open Sys2Proof.Machine Sys2Proof.Safety

@[simp] theorem evtOf_modEvt_self (n : Nat) (f : EvtIn → EvtIn) (s : State) : evtOf (modEvt n f s) n = f (evtOf s n) := by
  simp [evtOf, modEvt]

@[simp] theorem clockBypass_modEvt (n : Nat) (f : EvtIn → EvtIn) (s : State) : clockBypass (modEvt n f s) = clockBypass s := rfl
@[simp] theorem running_modEvt (n : Nat) (f : EvtIn → EvtIn) (s : State) : (modEvt n f s).nunar.running = s.nunar.running := rfl

/-- The place of an edge `g` grid units after the last epoch. -/
def edgePlace (g : Nat) (s : State) : Int := nearestGrid s.nunar.pos + (g : Int)

/-- An edge is counted and its place kept, before its tag is written (08 R356, R358). -/
def edgeCounted (n g : Nat) (s : State) : State :=
  modEvt n (fun x => { x with last := some (edgePlace g s) }) (modEvt n (fun x => { x with seq := (x.seq + 1) % 2 ^ 32 }) s)

/-- The tag of an edge, of its input as the edge has left it. -/
def edgeTag (n : Nat) (rising : Bool) (g : Nat) (s : State) : List Byte :=
  tagBytes (edgeCounted n g s) n rising (evtOf (edgeCounted n g s) n) (edgePlace g s)

/-- SEQ of a tag counts the tag's own edge (08 R358). -/
theorem edgeTag_seq (n : Nat) (rising : Bool) (g : Nat) (s : State) :
    field (edgeTag n rising g s) 4 4 = le 4 (((evtOf s n).seq + 1) % 2 ^ 32) := by
  have hseq : (evtOf (edgeCounted n g s) n).seq = ((evtOf s n).seq + 1) % 2 ^ 32 := by simp [edgeCounted]
  rw [← hseq]
  rfl

/-- An edge is tagged: of the selected polarity, while epochs run, 10 us or more after the last one tagged, and with room (08 R356, R358). -/
structure EdgeTagged (n : Nat) (rising : Bool) (g : Nat) (s : State) : Prop where
  main : mainRuns s = true
  selected : (evtOf s n).edge.testBit (if rising then 0 else 1) = true
  locked : clockBypass s = false
  running : s.nunar.running = true
  apart : ∀ l, (evtOf s n).last = some l → 352000 ≤ edgePlace g s - l
  room : (evtOf s n).fifo.length < 256

theorem fifo_eventEdge_tagged {n : Nat} {rising : Bool} {g : Nat} {s : State} (h : EdgeTagged n rising g s) :
    (evtOf (eventEdge n rising g s) n).fifo = (evtOf s n).fifo ++ [edgeTag n rising g s] := by
  unfold eventEdge
  rw [if_neg (by simp [h.selected])]
  extract_lets counted place near placed
  have hplace : place = edgePlace g s := rfl
  have hplaced : placed = edgeCounted n g s := rfl
  have hnear : near = false := by
    cases hlast : (evtOf s n).last with
    | none => simp only [near, hlast]
    | some l => simpa only [near, hlast, hplace, decide_eq_false_iff_not, Int.not_lt] using h.apart l hlast
  have hfree : ¬ (clockBypass counted || !counted.nunar.running) = true := by simp [counted, h.locked, h.running]
  have hkept : (evtOf placed n).fifo = (evtOf s n).fifo := by simp [placed, counted]
  clear_value counted near placed place
  rw [if_neg hfree, if_neg (by simp [hnear]), if_neg (Nat.not_le.2 h.room), evtOf_modEvt_self, hkept, hplaced, hplace]
  rfl

/-- The tag that such an edge stores counts the edge itself. -/
theorem seq_of_stored {n : Fin 8} {rising : Bool} {g : Nat} {s : State} {tag : List Byte} (h : EdgeTagged n rising g s)
    (hexec : exec (.eventEdge n rising g) s = .next (modEvt n (fun z => { z with
      fifo := z.fifo ++ [tag], lostFull := false, lostBypass := false }) (edgeCounted n g s))) :
    field tag 4 4 = le 4 (((evtOf s n).seq + 1) % 2 ^ 32) := by
  have hstored := Host.Outcome.next.inj ((next_of_mainRuns h.main rfl).symm.trans hexec)
  have htag : edgeTag n rising g s = tag := by
    simpa [hstored, edgeCounted] using (fifo_eventEdge_tagged h).symm
  rw [← htag, edgeTag_seq]

end Sys2Proof.Laws

/-! The statement about the edges of pulse outputs and event inputs (08), refuted. -/
namespace Sys2Proof.Proofs

open Sys2Proof.Machine Sys2Proof.Safety Sys2Proof.Laws

/-- Refutes O16: the statement has a tag carry the count of edges from before its own edge, and the model counts the edge first (08 R358: SEQ
counts the edges detected). The first rising edge on EVT0, on a device that runs with its clock locked, is tagged with SEQ 1; the statement
asks for SEQ 0. -/
theorem not_pulseAndEventEdgesComplete : ¬ Obligations.PulseAndEventEdgesComplete := by
  rintro ⟨-, -, -, -, htagged⟩
  have h : EdgeTagged (0 : Fin 8) true 0 { State.reset with
      clk.st := 0, nunar.running := true, nunar.events := [(0, { EvtIn.initial with edge := 1 })] } :=
    ⟨rfl, by decide, rfl, rfl, fun _ hlast => (nomatch hlast), by decide⟩
  obtain ⟨tag, -, -, hseq, hexec⟩ := htagged 0 true 0 _ h.main h.selected h.locked h.running h.apart h.room
  have hcounted := seq_of_stored h hexec
  exact absurd (hseq.symm.trans hcounted) (by decide)

end Sys2Proof.Proofs

/-! SUPPORT. What the commands of clock synthesis (09) ask, and what each of them leaves or answers. -/
namespace Sys2Proof.Laws

open Sys2Proof.Machine Sys2Proof.Safety

/-- One of two settings differs from the one in force. -/
theorem bne_or_bne_iff {a b c d : Nat} : (a != b || c != d) = true ↔ ¬ (a = b ∧ c = d) := by
  rw [Bool.or_eq_true, bne_iff_ne, bne_iff_ne, Decidable.not_and_iff_not_or_not]

/-! ### Reference (09 R388) -/

/-- The settings that CLK_REF names (09 R388). -/
def clkRefSet (p : Packet) (s : State) : State :=
  { s with clk.freq := u8 p.params 0, clk.bypass := u8 p.params 1, clk.input := u8 p.params 2 }

/-- Under new settings the reference is detected anew (09 R365, R388). -/
def refForgotten (s : State) : State :=
  { s with clk.refPresent := false, clk.refFreq := 0, clk.goodWindows := 0, clk.wasPresent := false }

theorem clkRefAct_ok {p : Packet} {s : State} (hfreq : u8 p.params 0 ≤ 3) (hbypass : u8 p.params 1 ≤ 1) (hinput : u8 p.params 2 ≤ 1)
    (hzero : zeroAt p.params 3 1 = true) :
    clkRefAct p s = done
      (if u8 p.params 0 = s.clk.freq ∧ u8 p.params 2 = s.clk.input then clkRefSet p s
       else if s.clk.st = 0 then bypassSwitch 3 1 (refForgotten (clkRefSet p s))
       else { refForgotten (clkRefSet p s) with clk.st := 1 }) := by
  have hchecks : clkRefAct p s =
      if (u8 p.params 0 != s.clk.freq || u8 p.params 2 != s.clk.input) = true then
        done (if s.clk.st = 0 then bypassSwitch 3 1 (refForgotten (clkRefSet p s))
          else { refForgotten (clkRefSet p s) with clk.st := 1 })
      else done (clkRefSet p s) :=
    rejectIf_of_not (by simp [hzero, Nat.not_lt.2 hfreq, Nat.not_lt.2 hbypass, Nat.not_lt.2 hinput])
  rw [hchecks]
  by_cases hsame : u8 p.params 0 = s.clk.freq ∧ u8 p.params 2 = s.clk.input
  · rw [if_pos hsame, if_neg (mt bne_or_bne_iff.1 (not_not_intro hsame))]
  · rw [if_neg hsame, if_pos (bne_or_bne_iff.2 hsame)]

/-! ### Outputs (09 R374, R376, R389) -/

/-- The divider that CLK_OUT names, in 2^-32 (09 R374). -/
def clkOutDiv (p : Packet) : Nat := u32 p.params 4 * 2 ^ 32 + u32 p.params 8

/-- A running output with the settings that CLK_OUT names: a change of FORMAT or D waits (09 R376). -/
def clkOutChanged (p : Packet) (x : ClkOut) : ClkOut :=
  if u8 p.params 1 = x.format ∧ clkOutDiv p = x.div then { x with flags := u8 p.params 2, pend := none }
  else { x with flags := u8 p.params 2, pend := some (u8 p.params 1, clkOutDiv p), aligned := false }

section
variable {p : Packet} {s : State} (hout : u8 p.params 0 ≤ 3) (hflags : u8 p.params 2 ≤ 7) (hzero : zeroAt p.params 3 1 = true)
include hout hflags hzero

theorem clkOutAct_off (hoff : u8 p.params 1 = 0) (hint : u32 p.params 4 = 0) (hfrac : u32 p.params 8 = 0) :
    clkOutAct p s = done (modClkOut (u8 p.params 0) (fun _ => { ClkOut.initial with flags := u8 p.params 2 }) s) := by
  simp only [clkOutAct, hoff, hint, hfrac, hzero, Nat.not_lt.2 hout, Nat.not_lt.2 hflags]
  rfl

section
variable (hon : 1 ≤ u8 p.params 1) (hformat : u8 p.params 1 ≤ 4) (hint : 2 ≤ u32 p.params 4) (hint' : u32 p.params 4 ≤ 16777215)
  (hlimit : 1100 * 2 ^ 32 ≤ formatLimit (u8 p.params 1) * clkOutDiv p)
include hon hformat hint hint' hlimit

theorem clkOutAct_on (hwas : (clkOutOf s (u8 p.params 0)).format = 0) :
    clkOutAct p s = done (modClkOut (u8 p.params 0) (fun _ =>
      { ClkOut.initial with format := u8 p.params 1, flags := u8 p.params 2, div := clkOutDiv p }) s) := by
  unfold clkOutDiv at *
  simp only [clkOutAct, hzero, hwas, Nat.ne_of_gt hon, Nat.not_lt.2 hout, Nat.not_lt.2 hflags, Nat.not_lt.2 hformat,
    Nat.not_lt.2 hint, Nat.not_lt.2 hint', Nat.not_lt.2 hlimit]
  rfl

/-- A new FORMAT or D waits for the output's next on-time edge; a bypass clock that the output does not run on gives it none, and they take
effect at once (09 R376, R378). -/
theorem clkOutAct_running (hwas : (clkOutOf s (u8 p.params 0)).format ≠ 0)
    (hfollow : (u8 p.params 2).testBit 0 = clkFollow (clkOutOf s (u8 p.params 0))) :
    clkOutAct p s = done (modClkOut (u8 p.params 0) (fun _ =>
      if clockBypass s = true ∧ runsOnBypass s (clkOutOf s (u8 p.params 0)) = false
      then takeFormat (clkOutChanged p (clkOutOf s (u8 p.params 0))) else clkOutChanged p (clkOutOf s (u8 p.params 0))) s) := by
  unfold clkOutChanged
  unfold clkOutDiv at *
  have hpassed : clkOutAct p s = _ := rejectIf_of_not (by
    simp only [hzero, if_neg (Nat.ne_of_gt hon), Nat.not_lt.2 hout, Nat.not_lt.2 hflags, Nat.not_lt.2 hformat, Nat.not_lt.2 hint,
      Nat.not_lt.2 hint', Nat.not_lt.2 hlimit, decide_false, Bool.not_true, Bool.or_self])
  rw [hpassed]
  generalize clkOutOf s (u8 p.params 0) = x at hwas hfollow ⊢
  generalize u32 p.params 4 * 2 ^ 32 + u32 p.params 8 = div
  by_cases hsame : u8 p.params 1 = x.format ∧ div = x.div
  · simp [hwas, hfollow, hsame]
  · have hchange : (u8 p.params 1 != x.format || div != x.div) = true := bne_or_bne_iff.2 hsame
    simp [Nat.ne_of_gt hon, hwas, hfollow, hsame, hchange]

end

end

/-! ### Correction shapes and sweeps (09 R382, R384, R390) -/

/-- The entries of CLK_RAMP (09 R390). -/
def clkRampEntries (p : Packet) : List (List Byte) := chunks 8 (u8 p.params 2) (p.params.drop 8)

/-- The entries as segments of the correction shape (09 R382). -/
def clkRampSegs (p : Packet) : List (Nat × Nat) := (clkRampEntries p).map (fun e => (u32 e 0, u32 e 4))

/-- The entries as segments of a sweep (09 R384). -/
def clkRampSweep (p : Packet) : List (Int × Nat) := (clkRampEntries p).map (fun e => (i32 e 0, u32 e 4))

section
variable {p : Packet} {s : State} (hzero : zeroAt p.params 4 4 = true)
include hzero

theorem clkRampAct_end (hkind : u8 p.params 0 = 3) (hout : u8 p.params 1 ≤ 3) (hcount : u8 p.params 2 = 0) (hstart : u8 p.params 3 = 0)
    (hon : clkOutOn (clkOutOf s (u8 p.params 1)) = true) :
    clkRampAct p s = done (modClkOut (u8 p.params 1) (fun x =>
      ownShape true (-(1000 * x.yH)) s { x with yH := 0, sweep := none, nextSweep := none }) s) := by
  simp only [clkRampAct, hzero, hkind, hcount, hstart, hon, Nat.not_lt.2 hout]
  rfl

section
variable (hdur : ∀ e ∈ clkRampEntries p, 1 ≤ u32 e 4 ∧ u32 e 4 ≤ 60000) (hcount : 1 ≤ u8 p.params 2) (hcount' : u8 p.params 2 ≤ 16)
include hdur hcount hcount'

theorem clkRampAct_shape (hkind : u8 p.params 0 = 1) (hall : u8 p.params 1 = 255) (hstart : u8 p.params 3 = 0)
    (hrate : ∀ e ∈ clkRampSegs p, e.1 ≤ 16777216) (hsum : (clkRampSegs p).foldl (fun (m : Nat) e => m + e.1 * e.2) 0 = 2 ^ 24)
    (hlen : shapeLen (clkRampSegs p) ≤ 60000) : clkRampAct p s = done { s with clk.shape := clkRampSegs p } := by
  have hdur' : (clkRampEntries p).all (fun e => decide (1 ≤ u32 e 4 ∧ u32 e 4 ≤ 60000)) = true := by
    simpa [List.all_eq_true] using hdur
  have hrate' : (clkRampSegs p).any (fun e => decide (16777216 < e.1)) = false := by
    simpa [List.any_eq_false] using hrate
  have hcount0 : (u8 p.params 2 == 0) = false := beq_eq_false_iff_ne.2 (by omega)
  unfold clkRampSegs at *
  unfold clkRampEntries at *
  simp only [clkRampAct, hzero, hkind, hall, hstart, hdur', hrate', hsum, hcount0, Nat.not_lt.2 hcount', Nat.not_lt.2 hlen]
  rfl

theorem clkRampAct_sweep (hkind : u8 p.params 0 = 2) (hout : u8 p.params 1 ≤ 3) (hstart : u8 p.params 3 ≤ 1)
    (hrate : ∀ e ∈ clkRampSweep p, e.1.natAbs ≤ 2000000000) (hon : clkOutOn (clkOutOf s (u8 p.params 1)) = true)
    (hinside : sweepInside (yHAt s (u8 p.params 1) (sweepAhead s (u8 p.params 3 == 1))) (clkRampSweep p) = true) :
    clkRampAct p s = done (modClkOut (u8 p.params 1) (fun x => { x with
      nextSweep := some (clkRampSweep p, u8 p.params 3 == 1) }) s) := by
  have hdur' : (clkRampEntries p).all (fun e => decide (1 ≤ u32 e 4 ∧ u32 e 4 ≤ 60000)) = true := by
    simpa [List.all_eq_true] using hdur
  have hrate' : (clkRampSweep p).any (fun e => decide (2000000000 < e.1.natAbs)) = false := by
    simpa [List.any_eq_false] using hrate
  have hcount0 : (u8 p.params 2 == 0) = false := beq_eq_false_iff_ne.2 (by omega)
  unfold clkRampSweep at *
  unfold clkRampEntries at *
  simp only [clkRampAct, hzero, hkind, hon, hdur', hrate', hinside, hcount0, Nat.not_lt.2 hout, Nat.not_lt.2 hcount', Nat.not_lt.2 hstart]
  rfl

end

end

/-! ### SYNC_IN and status (09 R386, R391, R392) -/

/-- The alignment that CLK_SYNC arms (09 R386, R391). -/
def clkSyncAlign (p : Packet) (s : State) : Align :=
  { outputs := u8 p.params 2, src := u8 p.params 3, second := cdiv (1000 * s.epochMs + p.obs.subUs + 200000) 1000000 * 1000,
    seen := none, armedMs := nowMs s }

/-- Where SYNC_IN no longer takes a 1PPS, aiding that waits for one ends (04 R162). -/
def clkSyncGivenUp (p : Packet) (s : State) : State := if s.clk.fn = 2 ∧ u8 p.params 0 ≠ 2 then lapseTime 3 s else s

theorem clkSyncAct_ok {p : Packet} {s : State} (hfn : u8 p.params 0 ≤ 2) (hedge : u8 p.params 1 ≤ 1) (hmask : u8 p.params 2 ≤ 15)
    (hsrc : u8 p.params 3 ≤ 1) (hnone : u8 p.params 2 = 0 → u8 p.params 3 = 0)
    (hsource : s.clk.fn = 2 → u8 p.params 0 ≠ 2 → s.nunar.source = 0)
    (hedges : u8 p.params 2 ≠ 0 → u8 p.params 3 = 0 → u8 p.params 0 ≠ 0) (hset : u8 p.params 3 = 1 → s.nunar.st ≠ 5)
    (hon : ∀ o ∈ maskBits 4 (u8 p.params 2), clkOutOn (clkOutOf s o) = true) :
    clkSyncAct p s = done { clkSyncGivenUp p s with
      clk.syncEdges := 0, clk.fn := u8 p.params 0, clk.edge := u8 p.params 1,
      clk.align := if u8 p.params 2 = 0 then none else some (clkSyncAlign p s) } := by
  have hnone' : (u8 p.params 2 == 0 && u8 p.params 3 != 0) = false := by simpa using hnone
  have hsource' : (s.clk.fn == 2 && u8 p.params 0 != 2 && s.nunar.source != 0) = false := by simpa using hsource
  have hedges' : (u8 p.params 2 != 0 && u8 p.params 3 == 0 && u8 p.params 0 == 0) = false := by simpa using hedges
  have hset' : (u8 p.params 3 == 1 && s.nunar.st == 5) = false := by simpa using hset
  have hon' : (maskBits 4 (u8 p.params 2)).any (fun o => !clkOutOn (clkOutOf s o)) = false := by
    simpa [List.any_eq_false] using hon
  simp only [clkSyncAct, hnone', hsource', hedges', hset', hon', Nat.not_lt.2 hfn, Nat.not_lt.2 hedge, Nat.not_lt.2 hmask,
    Nat.not_lt.2 hsrc]
  rfl

/-- CLK_STATUS answers 32 bytes and changes nothing (09 R392). -/
theorem clkStatusAct_answer (p : Packet) (s : State) :
    ∃ pl, clkStatusAct p s = answer pl s ∧ pl.length = 32
      ∧ field pl 0 1 = le 1 s.clk.st ∧ field pl 4 4 = le 4 s.clk.lockCount ∧ field pl 8 4 = le 4 (clkExpected s)
      ∧ field pl 28 4 = le 4 s.clk.syncEdges :=
  ⟨_, rfl, rfl, rfl, rfl, rfl, rfl⟩

end Sys2Proof.Laws

/-! The statement about the commands of clock synthesis (09), settled. -/
namespace Sys2Proof.Proofs

open Sys2Proof.Machine Sys2Proof.Safety Sys2Proof.Laws

/-- Settles O17: each accepted form passes its command's own checks, and the row commits what the command then answers. -/
theorem clockCommandsComplete : Obligations.ClockCommandsComplete := by
  refine ⟨fun p s h hfreq hbypass hinput hzero => ?ref,
    fun p s h hout hflags hzero => ⟨fun hoff hint hfrac => ?off, fun hon hformat hint hint' hlimit =>
      ⟨fun hwas => ?on, fun hwas hfollow => ?change⟩⟩,
    fun p s h hzero hdur => ⟨fun hkind hall hcount hcount' hstart hrate hsum hlen => ?shape,
      fun hkind hout hcount hcount' hstart hrate hon hinside => ?sweep, fun hkind hout hcount hstart hon => ?sweepEnd⟩,
    fun p s h hfn hedge hmask hsrc hnone hsource hedges hset hon => ?sync,
    fun p s h => ?status⟩
  case ref => exact exec_of_act_ok rfl h (clkRefAct_ok hfreq hbypass hinput hzero)
  case off => exact exec_of_act_ok rfl h (clkOutAct_off hout hflags hzero hoff hint hfrac)
  case on => exact exec_of_act_ok rfl h (clkOutAct_on hout hflags hzero hon hformat hint hint' hlimit hwas)
  case change => exact exec_of_act_ok rfl h (clkOutAct_running hout hflags hzero hon hformat hint hint' hlimit hwas hfollow)
  case shape => exact exec_of_act_ok rfl h (clkRampAct_shape hzero hdur hcount hcount' hkind hall hstart hrate hsum hlen)
  case sweep => exact exec_of_act_ok rfl h (clkRampAct_sweep hzero hdur hcount hcount' hkind hout hstart hrate hon hinside)
  case sweepEnd => exact exec_of_act_ok rfl h (clkRampAct_end hzero hkind hout hcount hstart hon)
  case sync => exact exec_of_act_ok rfl h (clkSyncAct_ok hfn hedge hmask hsrc hnone hsource hedges hset hon)
  case status =>
    obtain ⟨pl, hact, hfields⟩ := clkStatusAct_answer p (ready specClkStatus p s)
    exact ⟨pl, exec_of_act_ok rfl h hact, hfields⟩

end Sys2Proof.Proofs

/-! SUPPORT. What the commands of the correction link (10, 11) ask, and what each of them leaves or answers. -/
namespace Sys2Proof.Laws

open Sys2Proof.Machine Sys2Proof.Safety

/-- A row that runs its command holds the command where its own checks say so. -/
theorem exec_of_act_hold {i : Instr} {sp : OpSpec} {p : Packet} {s : State} {why : HoldReason}
    (hrow : exec i s = .next (runCmd sp p s)) (h : Accepted sp p s) (ha : sp.act p (ready sp p s) = .hold why) :
    exec i s = .next (holdCmd sp.opcode p why (withdrawn sp p (authed p s))) := by
  rw [hrow, runCmd_act h, ha]

/-! ### LNK_CHANNELS (10 R418) -/

/-- The entries of LNK_CHANNELS. -/
def lnkChEntries (p : Packet) : List (List Byte) := chunks 8 (u8 p.params 0) (p.params.drop 8)

/-- One entry is written, and its channel's calibration is no longer valid. -/
def lnkChPut (e : List Byte) (s : State) : State :=
  modEntry (u8 e 0) (fun _ => SynthEntry.invalid) { s with
    link.channels := tset none s.link.channels (u8 e 0)
      (some { width := u8 e 1, flags := u8 e 2, cap := i8 e 3, freqHz := u32 e 4 }) }

/-- MODE 0 clears the table first. -/
def lnkChCleared (p : Packet) (s : State) : State :=
  if u8 p.params 1 = 0 then { s with link.channels := [], link.entries := [] } else s

/-- The synthesiser leaves a channel that the command clears or writes, and the ports tune anew. -/
def lnkChFreed (p : Packet) (s : State) : State :=
  let v := lnkChCleared p s
  let w := if u8 p.params 1 = 0 ∨ (lnkChEntries p).any (fun e => s.link.synth.ch == some (u8 e 0)) = true then offChannel v else v
  { w with link.tuned := none }

theorem lnkChannelsAct_ok {p : Packet} {s : State} (hcount : u8 p.params 0 ≤ 64) (hmode : u8 p.params 1 ≤ 1)
    (hzero : zeroAt p.params 2 6 = true) (hentries : ∀ e ∈ lnkChEntries p, linkChOk e = true)
    (hdistinct : anyPair (fun x y => u8 x 0 == u8 y 0) (lnkChEntries p) = false) (hidle : s.link.role = 0) :
    lnkChannelsAct p s = done (foldS lnkChPut (lnkChEntries p) (lnkChFreed p s)) := by
  have hentries' : (lnkChEntries p).any (fun e => !linkChOk e) = false := by simpa [List.any_eq_false] using hentries
  unfold lnkChEntries at hentries' hdistinct
  exact (rejectIf_of_not (by simp [hzero, hentries', hdistinct, Nat.not_lt.2 hcount, Nat.not_lt.2 hmode])).trans
    (rejectIf_of_not (by simp [hidle]))

/-! ### LNK_CAL (10 R419) -/

/-- The indices that LNK_CAL names: 255 names every one of the table. -/
def lnkCalIndices (p : Packet) (s : State) : List Nat := if u8 p.params 0 = 255 then linkIndices s else [u8 p.params 0]

/-- The index that LNK_CAL names is 255 or in the table: it is not refused. -/
theorem lnkCal_named {s : State} {i : Nat} (hnamed : i = 255 ∨ i ≤ 63 ∧ (linkChOf s i).isSome = true) :
    (decide (63 < i) && i != 255) = false ∧ (i != 255 && (linkChOf s i).isNone) = false := by
  obtain hall | ⟨hindex, hknown⟩ := hnamed
  · simp [hall]
  · simp [hknown, Nat.not_lt.2 hindex, ← Option.not_isSome]

section
variable {p : Packet} {s : State} (hzero : zeroAt p.params 2 2 = true)
  (hnamed : u8 p.params 0 = 255 ∨ u8 p.params 0 ≤ 63 ∧ (linkChOf s (u8 p.params 0)).isSome = true)
include hzero hnamed

theorem lnkCalAct_queue (hact : u8 p.params 1 = 0) :
    lnkCalAct p s = done (foldS (fun j u => modEntry j (fun e => { e with queued := true }) u) (lnkCalIndices p s) s) := by
  obtain ⟨hindex, hknown⟩ := lnkCal_named hnamed
  exact (rejectIf_of_not (by simp [hact, hzero, hindex])).trans ((rejectIf_of_not (by simp [hact, hknown])).trans (if_pos hact))

theorem lnkCalAct_now (hact : u8 p.params 1 = 1) (hone : u8 p.params 0 ≠ 255) (hidle : s.link.synth.op ≠ 4) :
    lnkCalAct p s = done
      (if rampNear p.obs.subUs s = true ∨ s.link.synth.op = 2 then
         { s with link.synth := { s.link.synth with
             waiting := s.link.synth.waiting.filter (· != u8 p.params 0) ++ [u8 p.params 0] } }
       else startCal (u8 p.params 0) s) := by
  obtain ⟨hindex, hknown⟩ := lnkCal_named hnamed
  have hpassed : lnkCalAct p s = _ := (rejectIf_of_not (by simp [hone, hzero, hindex, hact])).trans
    ((rejectIf_of_not (by simp [hknown, hidle])).trans ((if_neg (by omega)).trans (if_pos hact)))
  rw [hpassed]
  split <;> rfl

theorem lnkCalAct_cancel (hact : u8 p.params 1 = 2) :
    lnkCalAct p s = done (foldS (fun j u => modEntry j (fun e => { e with st := 0 }) u) (lnkCalIndices p s) s) := by
  obtain ⟨hindex, hknown⟩ := lnkCal_named hnamed
  exact (rejectIf_of_not (by simp [hact, hzero, hindex])).trans ((rejectIf_of_not (by simp [hact, hknown])).trans
    ((if_neg (by omega)).trans (if_neg (by omega))))

end

/-! ### Power, diversity and receive settings (10 R420, R421; 11 R456) -/

theorem lnkTxpowerAct_ok {p : Packet} {s : State} (hramp : 2 ≤ u8 p.params 1) (hpower : -88 ≤ i8 p.params 0)
    (hpower' : i8 p.params 0 ≤ 32) (hramp' : u8 p.params 1 ≤ 16) (hlead : 1 ≤ u8 p.params 2) (hlead' : u8 p.params 2 ≤ 50)
    (hzero : zeroAt p.params 3 1 = true) :
    lnkTxpowerAct p s = done { s with link.pendPower := some (i8 p.params 0, u8 p.params 1, u8 p.params 2) } :=
  rejectIf_of_not (by simp [hzero, Int.not_lt.2 hpower, Int.not_lt.2 hpower', Nat.not_lt.2 hramp, Nat.not_lt.2 hramp',
    Nat.ne_of_gt hlead, Nat.not_lt.2 hlead'])

theorem lnkDiversityAct_ok {p : Packet} {s : State} (hmode : u8 p.params 0 ≤ 2) (hpolarity : u8 p.params 1 ≤ 3)
    (hlna : u8 p.params 2 ≤ 1) (hzero : zeroAt p.params 3 1 = true)
    (hpins : s.link.role = 0 ∨ u8 p.params 1 = s.link.polarity ∧ u8 p.params 2 = s.link.lnaCtrl) :
    lnkDiversityAct p s = done { s with
      link.divMode := u8 p.params 0, link.polarity := u8 p.params 1, link.lnaCtrl := u8 p.params 2,
      link.llna := !s.link.txWindow && u8 p.params 2 == 0 } := by
  refine (rejectIf_of_not (by simp [hzero, Nat.not_lt.2 hmode, Nat.not_lt.2 hpolarity, Nat.not_lt.2 hlna])).trans
    (rejectIf_of_not ?_)
  rcases hpins with hidle | ⟨hpolarity', hlna'⟩
  · simp [hidle]
  · simp [hpolarity', hlna']

theorem lnkRxcfgAct_ok {p : Packet} {s : State} (hthr : 16 ≤ u8 p.params 0) (hthr' : u8 p.params 0 ≤ 60) (hflags : u8 p.params 1 ≤ 3)
    (htypes : u8 p.params 2 ≤ 7) (hzero : zeroAt p.params 3 1 = true) (hwindow : 1 ≤ u16 p.params 4)
    (hwindow' : u16 p.params 4 ≤ 1000) (hzero' : zeroAt p.params 6 2 = true) :
    lnkRxcfgAct p s = done { s with
      link.pendRx := some ⟨u8 p.params 0, u8 p.params 1, u8 p.params 2, u16 p.params 4⟩ } :=
  rejectIf_of_not (by simp [hzero, hzero', Nat.not_lt.2 hthr, Nat.not_lt.2 hthr', Nat.not_lt.2 hflags, Nat.not_lt.2 htypes,
    Nat.ne_of_gt hwindow, Nat.not_lt.2 hwindow'])

/-! ### LNK_ROLE (11 R452) -/

/-- The settings that LNK_ROLE names. -/
def lnkRoleSet (p : Packet) (s : State) : State :=
  { s with link.role := u8 p.params 0, link.nodeId := u8 p.params 1, link.gen := u8 p.params 2, link.network := u8 p.params 3 }

/-- Idle is in force at once, and a reception ends. -/
def lnkRoleIdle (s : State) : State :=
  { s with link.pendRole := none, link.inForce := LinkRole.idle, link.aligned := false, link.recv := none }

theorem lnkRoleAct_idle {p : Packet} {s : State} (hnetwork : u8 p.params 3 ≤ 126) (hzero : zeroAt p.params 4 4 = true)
    (hidle : u8 p.params 0 = 0) (hnone : u8 p.params 1 = 0 ∧ u8 p.params 2 = 0) :
    lnkRoleAct p s = done
      (if s.link.tx = none then linkToIdle (lnkRoleIdle (lnkRoleSet p s)) else lnkRoleIdle (lnkRoleSet p s)) := by
  obtain ⟨hnode0, hgen0⟩ := hnone
  have hpassed : lnkRoleAct p s = _ := (rejectIf_of_not (by
      simp [hidle, hnode0, hgen0, hzero, Nat.not_lt.2 hnetwork])).trans
    ((rejectIf_of_not (by simp [hidle])).trans ((rejectIf_of_not (by simp [hidle])).trans (if_pos hidle)))
  rw [hpassed]
  cases htx : s.link.tx <;> simp [htx, lnkRoleIdle, lnkRoleSet]

theorem lnkRoleAct_on {p : Packet} {s : State} (hrole : u8 p.params 0 ≤ 3) (hnode : u8 p.params 1 ≤ 63) (hgen : u8 p.params 2 ≤ 15)
    (hnetwork : u8 p.params 3 ≤ 126) (hzero : zeroAt p.params 4 4 = true) (hon : u8 p.params 0 ≠ 0)
    (hsame : s.link.role = 0 ∨ s.link.role = u8 p.params 0) (hfits : s.profile.env.link = true) :
    lnkRoleAct p s = done { lnkRoleSet p s with link.pendRole := some (soonSf p s) } := by
  have hsame' : (u8 p.params 0 != 0 && s.link.role != 0 && u8 p.params 0 != s.link.role) = false := by
    rcases hsame with h | h <;> simp [h]
  exact (rejectIf_of_not (by
      simp [hon, hzero, Nat.not_lt.2 hrole, Nat.not_lt.2 hnode, Nat.not_lt.2 hgen, Nat.not_lt.2 hnetwork])).trans
    ((rejectIf_of_not hsame').trans ((rejectIf_of_not (by simp [hfits])).trans (if_neg hon)))

/-! ### LNK_SCHEDULE (11 R453) -/

/-- The entries of LNK_SCHEDULE. -/
def lnkSlotEntries (p : Packet) : List LinkSlot := (chunks 8 (u8 p.params 0) (p.params.drop 8)).map slotOfEntry

/-- The slots of the schedule that LNK_SCHEDULE makes: MODE 1 keeps the slots in force that it does not name. -/
def lnkSlots (p : Packet) (s : State) : List LinkSlot :=
  (if u8 p.params 1 = 0 then []
   else ((s.link.sched.map (·.slots)).getD []).filter (fun x => !(lnkSlotEntries p).any (fun e => e.slot == x.slot)))
    ++ lnkSlotEntries p

/-- Superframes from the current one to a named one, modulo 2^32 (11 R442). -/
def sfAhead (s : State) (named : Nat) : Nat := (named + 2 ^ 32 - currentSf s) % 2 ^ 32

/-- The superframe that LNK_SCHEDULE names, if any, starts at least 10 ms from now. -/
def SchedInTime (p : Packet) (s : State) : Prop :=
  u32 p.params 4 = 0 ∨ sfAhead s (u32 p.params 4) ≠ 0 ∧ sfAhead s (u32 p.params 4) ≤ 2 ^ 31
    ∧ sfPos p.obs.subUs s + 10000 ≤ sfAhead s (u32 p.params 4) * 100000

theorem lnkScheduleAct_ok {p : Packet} {s : State} (hcount : u8 p.params 0 ≤ 64) (hmode : u8 p.params 1 ≤ 1)
    (hid : u16 p.params 2 ≠ 0) (hdistinct : anyPair (fun x y => x.slot == y.slot) (lnkSlotEntries p) = false) (htime : SchedInTime p s)
    (hslots : ∀ x ∈ lnkSlots p s, slotOk s x = true) (hbeacon : ((lnkSlots p s).filter (·.beacon)).length ≤ 1)
    (happart : anyPair (slotsClash s) (lnkSlots p s) = false) (hrole : s.link.role ≠ 0)
    (hrover : s.link.role = 2 → ∀ x ∈ lnkSlots p s, x.beacon = true → x.node ≠ s.link.nodeId) :
    lnkScheduleAct p s = done { s with
      link.pendSched := some (⟨u16 p.params 2, lnkSlots p s⟩, if u32 p.params 4 = 0 then soonSf p s else u32 p.params 4) } := by
  have hslots' : (lnkSlots p s).any (fun x => !slotOk s x) = false := by simpa [List.any_eq_false] using hslots
  have hrover' : (s.link.role == 2 && (lnkSlots p s).any (fun x => x.beacon && x.node == s.link.nodeId)) = false := by
    simpa [List.any_eq_false] using hrover
  have hlate : (u32 p.params 4 != 0 && (sfAhead s (u32 p.params 4) == 0 || decide (2 ^ 31 < sfAhead s (u32 p.params 4))
      || decide (sfAhead s (u32 p.params 4) * 100000 < sfPos p.obs.subUs s + 10000))) = false := by
    obtain hsoon | ⟨hahead, hnear, hfar⟩ := htime
    · simp [hsoon]
    · rw [beq_eq_false_iff_ne.2 hahead, decide_eq_false (Nat.not_lt.2 hnear), decide_eq_false (Nat.not_lt.2 hfar)]
      exact Bool.and_false _
  have hvalues : (decide (64 < u8 p.params 0) || decide (1 < u8 p.params 1) || u16 p.params 2 == 0
      || anyPair (fun x y => x.slot == y.slot) (lnkSlotEntries p) || (lnkSlots p s).any (fun x => !slotOk s x)
      || decide (1 < ((lnkSlots p s).filter (·.beacon)).length) || anyPair (slotsClash s) (lnkSlots p s)) = false := by
    simp [hdistinct, hslots', happart, hid, Nat.not_lt.2 hcount, Nat.not_lt.2 hmode, Nat.not_lt.2 hbeacon]
  exact (rejectIf_of_not hvalues).trans ((rejectIf_of_not (Bool.or_eq_false_iff.2 ⟨beq_eq_false_iff_ne.2 hrole, hrover'⟩)).trans
    (rejectIf_of_not hlate))

/-! ### LNK_SEND (11 R449, R454; 10 R412) -/

/-- While a full calibration has not locked, LNK_SEND waits for it (10 R412). -/
theorem lnkSendAct_held {p : Packet} {s : State} (hslot : u8 p.params 0 ≤ 63) (htype : u8 p.params 1 ≤ 1) (hgen : u8 p.params 2 ≤ 15)
    (hzero : zeroAt p.params 3 1 = true) (hpending : calPending s = true) (hgoes : s.link.holdFailed = false) :
    lnkSendAct p s = .hold .linkCal :=
  (rejectIf_of_not (by simp [hzero, Nat.not_lt.2 hslot, Nat.not_lt.2 htype, Nat.not_lt.2 hgen])).trans
    (if_pos (by simp [hpending, hgoes]))

/-- The superframe that LNK_SEND names, if any, is not past, and its occurrence of the slot is not over. -/
def SendInTime (p : Packet) (s : State) : Prop :=
  u32 p.params 4 ≠ 0 → sfAhead s (u32 p.params 4) ≤ 2 ^ 31 ∧ unaligned s = false
    ∧ ∀ y, txSlotAt s (u8 p.params 0) (u32 p.params 4) = some y → occurrenceAhead p s (u32 p.params 4) y = true

/-- A node table that gives the node no other generation has not replaced this one (11 R447). -/
theorem genReplaced_of_gen {s : State} {node gen : Nat} (hnode : ∀ d, nodeOf s node = some d → d.gen = gen) :
    genReplaced s node gen = false := by
  cases hd : nodeOf s node with
  | none => simp only [genReplaced, hd]
  | some d => simp [genReplaced, hd, hnode d hd]

/-- LNK_SEND is right in its fields, no calibration holds or fails it, and superframe `sf` has for its frame the free occurrence of the slot
`x`, which may carry it. -/
structure SendFits (p : Packet) (s : State) (sf : Nat) (x : LinkSlot) : Prop where
  slot : u8 p.params 0 ≤ 63
  type : u8 p.params 1 ≤ 1
  gen : u8 p.params 2 ≤ 15
  zero : zeroAt p.params 3 1 = true
  time : SendInTime p s
  locked : calPending s = false
  goes : s.link.holdFailed = false
  assigned : assignSf p s (u8 p.params 0) (u32 p.params 4) = some sf
  occurs : txSlotAt s (u8 p.params 0) sf = some x
  data : x.beacon = false
  fits : airSym x.rate (linkWidth s x.ch) (p.params.drop 8).length ≤ x.maxSym
  role : s.link.role ≠ 0
  base : u8 p.params 1 = 1 → s.link.role = 1
  own : u8 p.params 2 = s.link.gen
  node : ∀ d, nodeOf s s.link.nodeId = some d → d.gen = u8 p.params 2
  room : s.link.queue.length < 32

/-- Such a frame is queued for its occurrence, and the reply names the superframe. -/
theorem lnkSendAct_queued {p : Packet} {s : State} {sf : Nat} {x : LinkSlot} (h : SendFits p s sf x) :
    lnkSendAct p s = answer (le 4 sf) { s with
      link.queue := s.link.queue ++ [⟨u8 p.params 0, u8 p.params 1, u8 p.params 2, sf, p.params.drop 8⟩] } := by
  unfold lnkSendAct
  extract_lets b n named pl ahead passed at' y late bad sf'
  have hpassed : passed = false := by
    simp only [passed, Bool.and_eq_false_imp, bne_iff_ne, decide_eq_false_iff_not, Nat.not_lt]
    exact fun hnamed => (h.time hnamed).1
  have hat : at' = some sf := by
    simp only [at', hpassed, Bool.false_eq_true, if_false]
    rw [h.assigned]; rfl
  have hy : y = some x := by
    simp only [y, hat]; exact h.occurs
  have hlate : late = false := by
    simp only [late, hpassed, Bool.false_or, Bool.and_eq_false_imp, bne_iff_ne]
    intro hnamed
    obtain ⟨-, -, hahead⟩ := h.time hnamed
    cases hv : txSlotAt s n named with
    | none => rfl
    | some v => exact congrArg not (hahead v hv)
  have hbad : bad = false := by
    have haligned : (named != 0 && unaligned s) = false := by
      simpa only [Bool.and_eq_false_imp, bne_iff_ne] using (fun hnamed => (h.time hnamed).2.1)
    have hbase' : (u8 b 1 == 1 && s.link.role != 1) = false := by simpa using h.base
    simp only [bad, hy, haligned, hbase', h.data, beq_eq_false_iff_ne.2 h.role, Bool.false_or, decide_eq_false_iff_not, Nat.not_lt]
    exact h.fits
  have hstale : (u8 b 2 != s.link.gen || genReplaced s s.link.nodeId (u8 b 2)) = false := by
    rw [genReplaced_of_gen h.node, Bool.or_false, bne_eq_false_iff_eq, h.own]
  have hsf' : sf' = sf := by simp only [sf', hat, Option.getD_some]
  clear_value at' y late bad sf'
  subst hsf'
  exact (rejectIf_of_not (by simp [b, n, h.zero, Nat.not_lt.2 h.slot, Nat.not_lt.2 h.type, Nat.not_lt.2 h.gen])).trans
    ((if_neg (by simp [h.locked])).trans ((rejectIf_of_not hbad).trans ((rejectIf_of_not hstale).trans
      ((rejectIf_of_not (decide_eq_false (Nat.not_le.2 h.room))).trans ((rejectIf_of_not h.goes).trans (rejectIf_of_not hlate))))))

/-! ### LNK_NODES (11 R447, R455) -/

/-- The entries of LNK_NODES. -/
def lnkNodeEntries (p : Packet) : List (List Byte) := chunks 12 (u8 p.params 0) (p.params.drop 8)

/-- The node table under the entries of LNK_NODES: MODE 0 clears it first. -/
def lnkNodesSet (p : Packet) (s : State) : State :=
  { s with link.nodes := (lnkNodeEntries p).foldl (fun (m : Tab (Option LinkNode)) e => tset none m (u8 e 0)
      (some ⟨u8 e 1, u8 e 2, i32 e 4⟩)) (if u8 p.params 1 = 0 then [] else s.link.nodes) }

theorem lnkNodesAct_ok {p : Packet} {s : State} (hcount : u8 p.params 0 ≤ 64) (hmode : u8 p.params 1 ≤ 1)
    (hzero : zeroAt p.params 2 6 = true) (hentries : ∀ e ∈ lnkNodeEntries p, nodeOk e = true)
    (hdistinct : anyPair (fun x y => u8 x 0 == u8 y 0) (lnkNodeEntries p) = false) :
    lnkNodesAct p s = done
      (if s.link.role ≠ 0 ∧ genReplaced (lnkNodesSet p s) s.link.nodeId s.link.gen = true
          ∧ genReplaced s s.link.nodeId s.link.gen = false then
         discardFrames (fun _ => false) (lnkNodesSet p s)
       else lnkNodesSet p s) := by
  have hentries' : (lnkNodeEntries p).any (fun e => !nodeOk e) = false := by simpa [List.any_eq_false] using hentries
  unfold lnkNodeEntries at hentries' hdistinct
  have hpassed : lnkNodesAct p s = _ :=
    rejectIf_of_not (by simp [hzero, hentries', hdistinct, Nat.not_lt.2 hcount, Nat.not_lt.2 hmode])
  rw [hpassed]
  simp only [Bool.not_eq_true']
  rfl

end Sys2Proof.Laws

/-! The statement about the commands of the correction link (10, 11), settled. -/
namespace Sys2Proof.Proofs

open Sys2Proof.Machine Sys2Proof.Safety Sys2Proof.Laws

/-- Settles O19: each accepted form passes its command's own checks, and the row commits what the command then answers, or
holds the command. -/
theorem linkCommandsComplete : Obligations.LinkCommandsComplete := by
  refine ⟨fun p s h hcount hmode hzero hentries hdistinct hidle => ?channels,
    fun p s h hzero hnamed => ⟨fun hact => ?queue, fun hact hone hidle => ?now, fun hact => ?cancel⟩,
    fun p s h hramp hpower hpower' hramp' hlead hlead' hzero => ?power,
    fun p s h hmode hpolarity hlna hzero hpins => ?diversity,
    fun p s h => ?status,
    fun p s h hrole hnode hgen hnetwork hzero hnone => ⟨fun hidle => ?idle, fun hon hsame hfits => ?role⟩,
    fun p s h hcount hmode hid hdistinct htime hslots hbeacon happart hrole hrover => ?schedule,
    fun p s h hslot htype hgen hzero htime sf x hlocked hgoes hsf hx hdata hfits hrole hbase hown hnode hroom => ?send,
    fun p s h hslot htype hgen hzero hpending hgoes => ?hold,
    fun p s h hcount hmode hzero hentries hdistinct => ?nodes,
    fun p s h hthr hthr' hflags htypes hzero hwindow hwindow' hzero' => ?receive⟩
  case channels => exact exec_of_act_ok rfl h (lnkChannelsAct_ok hcount hmode hzero hentries hdistinct hidle)
  case queue => exact exec_of_act_ok rfl h (lnkCalAct_queue hzero hnamed hact)
  case now => exact exec_of_act_ok rfl h (lnkCalAct_now hzero hnamed hact hone hidle)
  case cancel => exact exec_of_act_ok rfl h (lnkCalAct_cancel hzero hnamed hact)
  case power => exact exec_of_act_ok rfl h (lnkTxpowerAct_ok hramp hpower hpower' hramp' hlead hlead' hzero)
  case diversity => exact exec_of_act_ok rfl h (lnkDiversityAct_ok hmode hpolarity hlna hzero hpins)
  case status => exact exec_of_act_ok rfl h rfl
  case idle => exact exec_of_act_ok rfl h (lnkRoleAct_idle hnetwork hzero hidle (hnone hidle))
  case role => exact exec_of_act_ok rfl h (lnkRoleAct_on hrole hnode hgen hnetwork hzero hon hsame hfits)
  case schedule =>
    exact exec_of_act_ok rfl h (lnkScheduleAct_ok hcount hmode hid hdistinct htime hslots hbeacon happart hrole hrover)
  case send =>
    exact exec_of_act_ok rfl h (lnkSendAct_queued
      ⟨hslot, htype, hgen, hzero, htime, hlocked, hgoes, hsf, hx, hdata, hfits, hrole, hbase, hown, hnode, hroom⟩)
  case hold => exact exec_of_act_hold rfl h (lnkSendAct_held hslot htype hgen hzero hpending hgoes)
  case nodes => exact exec_of_act_ok rfl h (lnkNodesAct_ok hcount hmode hzero hentries hdistinct)
  case receive => exact exec_of_act_ok rfl h (lnkRxcfgAct_ok hthr hthr' hflags htypes hzero hwindow hwindow' hzero')

end Sys2Proof.Proofs

/-! SUPPORT. What the synthesiser and the transmissions of the correction link (10) need of the model: what sending leaves of the link, what
starts when the synthesiser is free, and what each row of theirs leaves. -/
namespace Sys2Proof.Laws

open Sys2Proof.Machine Sys2Proof.Safety

/-! ### Sending leaves the link and the held commands alone -/

theorem Sends.link {s t : State} (h : Sends s t) : t.link = s.link := by
  have := congrArg State.link h.quiet; exact this

theorem Sends.held {s t : State} (h : Sends s t) : t.ecsol.held = s.ecsol.held := by
  have := congrArg (fun u : State => u.ecsol.held) h.quiet; exact this

@[simp] theorem link_logErr (code sev cls inst : Nat) (s : State) : (logErr code sev cls inst s).link = s.link :=
  (sends_logErr ..).link

@[simp] theorem held_logErr (code sev cls inst : Nat) (s : State) : (logErr code sev cls inst s).ecsol.held = s.ecsol.held :=
  (sends_logErr ..).held

@[simp] theorem link_reportTx (status : Nat) (x : LinkSlot) (f : TxFrame) (s : State) : (reportTx status x f s).link = s.link :=
  (sends_post ..).link

/-! ### Calibrations that wait (10 R417) -/

/-- Where the table has every channel that waits, all of them go on waiting. -/
theorem waiting_kept {s : State} (hknown : ∀ j ∈ s.link.synth.waiting, (linkChOf s j).isSome = true) :
    { s with link.synth := { s.link.synth with
      waiting := s.link.synth.waiting.filter (fun ch => (linkChOf s ch).isSome) } } = s := by
  rw [List.filter_eq_self.2 hknown]

/-- With none waiting, no immediate calibration starts. -/
theorem startWaiting_none {s : State} (h : s.link.synth.waiting = []) : startWaiting s = s := by
  unfold startWaiting
  extract_lets _ _ t
  have ht : t = s := waiting_kept (by simp [h])
  clear_value t
  rw [ht, h]

/-- The first of the calibrations that wait starts on a free synthesiser. -/
theorem startWaiting_first {s : State} {i : Nat} {is : List Nat} (h : s.link.synth.waiting = i :: is)
    (hknown : ∀ j ∈ i :: is, (linkChOf s j).isSome = true) (hfree : synthFree s = true) (hlpa : s.link.lpa = false) :
    startWaiting s = startCal i s := by
  unfold startWaiting
  extract_lets _ _ t
  have ht : t = s := waiting_kept (h ▸ hknown)
  clear_value t
  rw [ht, h]
  exact if_pos (by simp [hfree, hlpa])

/-! ### Held LNK_SENDs (10 R412) -/

/-- Where no calibration was pending, its end releases nothing. -/
theorem calReleases_idle {before s : State} (h : calPending before = false) : calReleases before s = s :=
  if_neg (by simp [h])

/-- The calibration that was pending has ended, and no command is held. -/
theorem calReleases_unheld {before s : State} (hbefore : calPending before = true) (hafter : calPending s = false)
    (hheld : s.ecsol.held = []) : calReleases before s = { s with link.holdFailed := false } := by
  simp [calReleases, hbefore, hafter, releaseHeld, hheld]

/-! ### Starts of calibrations and hops (10 R400, R403, R405, R406) -/

section
variable {n : Nat} {s : State} {x : LinkSlot} (hslot : txSlot s n = some x)
include hslot

theorem synthCalStart_locked (h : lockedOn s x.ch = true) : synthCalStart n s = s := by
  simp [synthCalStart, hslot, h]

theorem synthHopStart_locked (h : lockedOn s x.ch = true) : synthHopStart n s = s := by
  simp [synthHopStart, hslot, h]

theorem synthCalStart_starts (hfree : synthFree s = true) (hentry : (synthEntry s x.ch).st ≠ 1) (hoff : lockedOn s x.ch = false) :
    synthCalStart n s = startCal x.ch s := by
  simp [synthCalStart, hslot, hfree, hentry, hoff]

/-- The next channel can be hopped to: the driver decides whether at once. -/
theorem synthHopStart_goes (hup : linkUp s = true) (htest : synthTested s = false) (hcal : s.link.synth.op ≠ 4)
    (hentry : (synthEntry s x.ch).st ≠ 0) (hoff : lockedOn s x.ch = false) :
    synthHopStart n s = if s.link.driver then { s with link.hopDue := some x.ch } else startHop x.ch s := by
  simp [synthHopStart, hslot, hup, htest, hcal, hentry, hoff]

end

section
variable {us i : Nat} {s : State} (hnear : rampNear us s = false)
include hnear

theorem backgroundCalStart_due (hfree : synthFree s = true) (hnone : s.link.synth.waiting = []) (hdue : backgroundNext us s = some i) :
    backgroundCalStart us s = startCal i s := by
  simp [backgroundCalStart, hnone, hfree, hnear, hdue]

/-- A calibration that waits comes before the entries due in the background (log 75). -/
theorem backgroundCalStart_waiting {is : List Nat} (hwaiting : s.link.synth.waiting = i :: is) :
    backgroundCalStart us s = startWaiting s := by
  simp [backgroundCalStart, hwaiting, hnear]

end

/-! ### Lock and the end of a calibration slot (10 R403, R404, R407, R412) -/

section
variable {c : SynthCodes} {s : State} {ch : Nat} (hup : linkUp s = true) (hclock : clockBypass s = false)
  (hunlocked : s.link.synth.locked = false) (hch : s.link.synth.ch = some ch) (hlock : lockContinuous s c.evals = true)
include hup hclock hunlocked hch hlock

/-- Lock that has been continuous for 2 us (log 74) ends a hop. -/
theorem synthLockReport_hop (hop : s.link.synth.op ≤ 2) :
    synthLockReport c s = { s with link.synth := { s.link.synth with op := 3, locked := true } } := by
  simp [synthLockReport, hup, hclock, hunlocked, hch, hlock, hop, show s.link.synth.op ≠ 4 by omega]

/-- A calibration that locks leaves its codes and the temperature in its channel's entry. -/
def calLocked (c : SynthCodes) (ch : Nat) (s : State) : State :=
  { modEntry ch (fun e => { e with
      st := 1, band := c.band.val, cap := c.cap.toNat, pa := c.pa.val, temp := roundDiv s.link.temp 5, failUs := none }) s with
    link.synth := { s.link.synth with locked := true, calOk := true, band := c.band.val, cap := c.cap.toNat, pa := c.pa.val } }

theorem synthLockReport_cal (hop : s.link.synth.op = 4) (hcal : s.link.synth.calOk = false) :
    synthLockReport c s = calLocked c ch s := by
  have hgo : ¬ (!linkUp s || clockBypass s || s.link.synth.locked || !lockContinuous s c.evals) = true := by
    simp [hup, hclock, hunlocked, hlock]
  simp only [synthLockReport, if_neg hgo, hch, hop, hcal, Bool.false_eq_true, if_true, if_false]
  rfl

end

/-- With none waiting, the end of a calibration starts no other. -/
theorem synthCalEnd_unfollowed {us : Nat} {s : State} (h : (calSlotEnd us s).link.synth.waiting = []) :
    synthCalEnd us s = calSlotEnd us s := by
  simp [synthCalEnd, startWaiting_none h]

/-- A calibration that has not locked at its end has failed: its entry is not valid, and the synthesiser is on no channel. -/
def calFailed (us ch : Nat) (s : State) : State :=
  { modEntry ch (fun e => { e with st := 0, failUs := some (nowUs us s) }) s with
    link.fullCals := (s.link.fullCals + 1) % 65536, link.synth := { s.link.synth with op := 1, ch := none },
    link.calFails := sat 65535 (s.link.calFails + 1) }

section
variable {us ch : Nat} {s : State} (hop : s.link.synth.op = 4) (hch : s.link.synth.ch = some ch)
include hop hch

/-- The slot of a calibration that has locked ends on its channel, while lock lasts. -/
theorem calSlotEnd_ok (hok : s.link.synth.calOk = true) :
    calSlotEnd us s = { s with
      link.fullCals := (s.link.fullCals + 1) % 65536,
      link.synth := { s.link.synth with op := if s.link.synth.locked = true then 3 else 1 } } := by
  simp [calSlotEnd, hop, hch, hok]

theorem calSlotEnd_failed (hfail : s.link.synth.calOk = false) :
    calSlotEnd us s = logErr 0x46 1 0x0A 0 (calFailed us ch s) := by
  simp only [calSlotEnd, hop, hch, hfail, Bool.false_eq_true, if_true, if_false]
  rfl

end

/-- While the island is ready, every valid entry more than 10 degrees C away becomes stale (10 R402). -/
theorem linkTempCheck_up {temp : Int} {s : State} (hup : linkUp s = true) :
    linkTempCheck temp s = foldS (fun i t => modEntry i (fun e => if e.st = 1 ∧ 100 < entryDiff t i then { e with st := 2 } else e) t)
      (linkIndices s) { s with link.temp := temp } :=
  if_pos hup

/-! ### A transmission from LPA_EN to T_R (10 R409, R410, R413, R414, R420) -/

theorem takePower_none {s : State} (h : s.link.pendPower = none) : takePower s = s := by
  simp only [takePower, h]

/-- A slot that is skipped and reported takes LPA_EN back and ends a hop that has not locked. -/
theorem slotSkipped_reported {status : Nat} {x : LinkSlot} {f : TxFrame} {s : State} (hnone : s.link.synth.waiting = []) :
    slotSkipped (reportTx status x f s) = { reportTx status x f s with
      link.lpa := false, link.hopDue := none,
      link.synth := { s.link.synth with op := if s.link.synth.op = 2 then 1 else s.link.synth.op } } := by
  rw [← link_reportTx status x f s] at hnone ⊢
  exact startWaiting_none hnone

/-- The T_R of slot `n` comes, and its frame leaves the queue. -/
def rampTaken (n : Nat) (f : TxFrame) (s : State) : State :=
  { s with link.rampDone := s.link.rampDone ++ [n], link.queue := s.link.queue.erase f }

/-- The own frame of a slot as it goes on the air. -/
def airOf (s : State) (x : LinkSlot) (f : TxFrame) : AirFrame :=
  let sym := airFrame (linkWidth s x.ch) s.link.inForce.network (ownHdr s x f) f.payload
  ⟨f, x, true, sym, airWave (linkWidth s x.ch) s.link.rampUs x.rate sym, txPower s x.ch⟩

section
variable {n : Nat} {s : State} {x : LinkSlot} (hslot : txSlot s n = some x) (hup : linkUp s = true)
  (hcome : s.link.rampDone.contains n = false)
include hslot hup hcome

theorem lpaAssert_window {f : TxFrame} {q : Bool} (hframe : frameFor s x = some (f, q)) (hlocked : lockedOn s x.ch = true)
    (hrecv : s.link.recv = none) :
    lpaAssert n s = { s with link.lpa := true, link.llna := false, link.txWindow := true } := by
  have hcome' : n ∉ s.link.rampDone := by simpa using hcome
  simp [lpaAssert, cutReception, hslot, hup, hframe, hcome', hlocked, hrecv]

section
variable {f : TxFrame} {errs : List Nat} (htx : s.link.tx = none) (hpower : s.link.pendPower = none)
  (hframe : frameFor { s with link.rampDone := s.link.rampDone ++ [n] } x = some (f, true))
include htx hpower hframe

/-- The frame of the slot leaves the queue; poison, or a synthesiser that is not locked or calibrates, keeps it from the air. -/
theorem slotRampStart_framed :
    slotRampStart n errs s =
      if errs.any (fun e => decide (2 < e)) = true then slotSkipped (reportTx 0x0E x f (rampTaken n f s))
      else if (!lockedOn s x.ch || s.link.synth.op == 4) = true then
        slotSkipped (reportTx 0x0B x f { rampTaken n f s with link.lateSlots := (s.link.lateSlots + 1) % 65536 })
      else { rampTaken n f s with
        link.tx := some (airOf s x f), link.driver := true, link.synth := { s.link.synth with op := 5 } } := by
  have hgo : ¬ (!linkUp s || s.link.rampDone.contains n || s.link.tx.isSome) = true := by rw [hup, hcome, htx]; decide
  unfold slotRampStart
  simp only [hslot, if_neg hgo, takePower_none (s := { s with link.rampDone := s.link.rampDone ++ [n] }) hpower, hframe]
  rfl

/-- A queued frame whose slot comes with the synthesiser locked on its channel goes on the air. -/
theorem slotRampStart_sends (hclean : ∀ e ∈ errs, e ≤ 2) (hlocked : lockedOn s x.ch = true) (hcal : s.link.synth.op ≠ 4) :
    slotRampStart n errs s = { rampTaken n f s with
      link.tx := some (airOf s x f), link.driver := true, link.synth := { s.link.synth with op := 5 } } := by
  have hclean' : ¬ errs.any (fun e => decide (2 < e)) = true := by simpa using hclean
  rw [slotRampStart_framed hslot hup hcome htx hpower hframe, if_neg hclean', if_neg (by simp [hlocked, hcal])]

/-- A slot that comes before lock is late: its frame is reported and not sent. -/
theorem slotRampStart_late (hclean : ∀ e ∈ errs, e ≤ 2) (hlate : lockedOn s x.ch = false ∨ s.link.synth.op = 4)
    (hnone : s.link.synth.waiting = []) :
    slotRampStart n errs s =
      { reportTx 0x0B x f { rampTaken n f s with link.lateSlots := (s.link.lateSlots + 1) % 65536 } with
        link.lpa := false, link.hopDue := none,
        link.synth := { s.link.synth with op := if s.link.synth.op = 2 then 1 else s.link.synth.op } } := by
  have hclean' : ¬ errs.any (fun e => decide (2 < e)) = true := by simpa using hclean
  rw [slotRampStart_framed hslot hup hcome htx hpower hframe, if_neg hclean', if_pos (by simpa using hlate)]
  exact slotSkipped_reported hnone

/-- A poisoned frame is reported and not sent (01 R39). -/
theorem slotRampStart_poisoned (hpoison : ∃ e ∈ errs, 2 < e) (hnone : s.link.synth.waiting = []) :
    slotRampStart n errs s = { reportTx 0x0E x f (rampTaken n f s) with
      link.lpa := false, link.hopDue := none,
      link.synth := { s.link.synth with op := if s.link.synth.op = 2 then 1 else s.link.synth.op } } := by
  rw [slotRampStart_framed hslot hup hcome htx hpower hframe, if_pos (by simpa using hpoison)]
  exact slotSkipped_reported hnone

end

end

/-! ### The end of a transmission (10 R400, R404, R411, R413 to R415) -/

/-- The frame in progress has been sent in full (10 R413). -/
def txEnded (s : State) : State :=
  { s with
    link.tx := none, link.txFrames := (s.link.txFrames + 1) % 2 ^ 32,
    link.synth := { s.link.synth with op := if s.link.synth.locked = true then 3 else 1 } }

/-- A transmission is cut short, and lock has ended (10 R411). -/
def txCut (s : State) : State :=
  { s with
    link.tx := none, link.txAborts := sat 65535 (s.link.txAborts + 1),
    link.synth := { s.link.synth with op := 1, locked := false } }

/-- Lock ends where it had ended. -/
theorem synth_unlocked {s : State} (hop : s.link.synth.op = 1) (hunlocked : s.link.synth.locked = false) :
    { s with link.synth := { s.link.synth with
      locked := false, op := if s.link.synth.op = 3 then 1 else s.link.synth.op } } = s := by
  have hkept : (if s.link.synth.op = 3 then 1 else s.link.synth.op) = s.link.synth.op := if_neg (by omega)
  rw [hkept, ← hunlocked]

section
variable {s : State} {a : AirFrame} (htx : s.link.tx = some a) (hrole : s.link.role ≠ 0)
include htx hrole

theorem txFrameEnd_sent : txFrameEnd s = if a.report = true then reportTx 0 a.slot a.frame (txEnded s) else txEnded s := by
  unfold txEnded
  cases hreport : a.report <;> simp [txFrameEnd, htx, hreport, hrole]

theorem txTruncate_active : txTruncate s = logErr 0x47 2 0x0A 0 (txCut s) := by
  simp [txTruncate, htx, hrole, txCut]

/-- An evaluation off frequency cuts the transmission short; lock has ended with it. -/
theorem txAbort_outside {eval : Nat × Nat} (hoff : evalInside s eval = false) :
    txAbort eval s = logErr 0x47 2 0x0A 0 (txCut s) := by
  have hcut : (logErr 0x47 2 0x0A 0 (txCut s)).link.synth = { s.link.synth with op := 1, locked := false } :=
    congrArg Link.synth (link_logErr ..)
  simp only [txAbort, hoff, txTruncate_active htx hrole, Bool.false_eq_true, if_false]
  exact synth_unlocked (by rw [hcut]) (by rw [hcut])

end

theorem txAbort_inside {eval : Nat × Nat} {s : State} (hin : evalInside s eval = true) : txAbort eval s = s := if_pos hin

/-- The down-ramp has ended, and the driver is off. -/
def driverOff (s : State) : State := { s with link.lpa := false, link.driver := false }

section
variable {s : State} (htx : s.link.tx = none) (hnone : s.link.synth.waiting = [])
include htx hnone

theorem lpaRelease_off (hdue : s.link.hopDue = none) : lpaRelease s = driverOff s := by
  have hstart : startDue (driverOff s) = driverOff s := by simp only [startDue, driverOff, hdue]
  have hrelease : lpaRelease s = startWaiting (startDue (driverOff s)) := if_pos (by simp [htx])
  rw [hrelease, hstart]
  exact startWaiting_none hnone

/-- A hop that waited for the driver starts (log 75). -/
theorem lpaRelease_hop {ch : Nat} (hdue : s.link.hopDue = some ch) (hup : linkUp s = true) (htest : synthTested s = false)
    (hcal : s.link.synth.op ≠ 4) (hentry : (synthEntry s ch).st ≠ 0) (hoff : lockedOn s ch = false) :
    lpaRelease s = startHop ch { driverOff s with link.hopDue := none } := by
  have hstart : startDue (driverOff s) = startHop ch { driverOff s with link.hopDue := none } := by
    have hgo : (linkUp s && !synthTested s && s.link.synth.op != 4 && (synthEntry s ch).st != 0 && !lockedOn s ch) = true := by
      simp [hup, htest, hcal, hentry, hoff]
    simp only [startDue, driverOff, hdue]
    exact if_pos hgo
  have hrelease : lpaRelease s = startWaiting (startDue (driverOff s)) := if_pos (by simp [htx])
  rw [hrelease, hstart]
  exact startWaiting_none hnone

end

theorem llnaRestore_ends {s : State} (htx : s.link.tx = none) (hlpa : s.link.lpa = false) (hwindow : s.link.txWindow = true) :
    llnaRestore s = { s with link.llna := s.link.lnaCtrl == 0, link.txWindow := false } :=
  if_pos (by simp [htx, hlpa, hwindow])

/-- An active signal is high unless its polarity bit makes it active low (10 R413, R421). -/
theorem pin_iff {active low : Bool} : (active != low) = true ↔ (active = true ↔ low = false) := by
  cases active <;> cases low <;> decide

end Sys2Proof.Laws

/-! The statement about the synthesiser and the transmissions of the correction link (10), settled. -/
namespace Sys2Proof.Proofs

open Sys2Proof.Machine Sys2Proof.Safety Sys2Proof.Laws

/-- Settles O20: each row's work, where its condition holds, is one case of what the row can do, and what it sends leaves the link alone. The
choices of log 74 and 75 are among what it states. -/
theorem linkTransmitEventsComplete : Obligations.LinkTransmitEventsComplete := by
  refine ⟨fun n s x hslot hfree => ⟨fun hentry hoff => ?calStart, fun hlocked => ⟨?calNone, ?hopNone⟩⟩,
    fun n s x hslot hup htest hcal hentry hoff => ⟨fun hdriver => ?hopWaits, fun hdriver => ?hopStarts⟩,
    fun us s i hnear hfree => ⟨fun hnone hdue => ?background, fun is hwaiting hknown hlpa hrest => ?waiting⟩,
    fun c s ch hup hclock hunlocked hop hch hlock => ?hopLocks,
    fun c s ch hup hclock hunlocked hop hch hcal hheld hlock => ?calLocks,
    fun us s ch hop hch hnone => ⟨fun hok => ?calEnds, fun hfail hheld => ?calFails⟩,
    fun temp s hup => congrArg Host.Outcome.next (linkTempCheck_up hup),
    fun n w v x f q hslot hup hframe hcome hlocked hrecv =>
      congrArg Host.Outcome.next (lpaAssert_window hslot hup hcome hframe hlocked hrecv),
    fun n s x f hslot hup hcome htx hpower hframe errs =>
      ⟨fun hclean hlocked hcal => ?sends, fun hclean hlate hnone => ?late, fun hpoison hnone => ?poisoned⟩,
    fun s a eval htx hrole => ⟨?sent, fun hin => ?inside, fun hoff => ?outside⟩,
    fun s htx hnone => ⟨fun hdue => ?released, fun ch hdue hup htest hcal hentry hoff => ?dueHop⟩,
    fun s => ⟨pin_iff, pin_iff⟩,
    fun w v htx hlpa hwindow => congrArg Host.Outcome.next (llnaRestore_ends htx hlpa hwindow)⟩
  case calStart => exact congrArg Host.Outcome.next (synthCalStart_starts hslot hfree hentry hoff)
  case calNone => exact congrArg Host.Outcome.next (synthCalStart_locked hslot hlocked)
  case hopNone => exact congrArg Host.Outcome.next (synthHopStart_locked hslot hlocked)
  case hopWaits =>
    exact congrArg Host.Outcome.next ((synthHopStart_goes hslot hup htest hcal hentry hoff).trans (if_pos hdriver))
  case hopStarts =>
    exact congrArg Host.Outcome.next ((synthHopStart_goes hslot hup htest hcal hentry hoff).trans (if_neg (by simp [hdriver])))
  case background => exact congrArg Host.Outcome.next (backgroundCalStart_due hnear hfree hnone hdue)
  case waiting =>
    exact congrArg Host.Outcome.next ((backgroundCalStart_waiting hnear hwaiting).trans
      (startWaiting_first hwaiting (List.forall_mem_cons.2 ⟨hknown, hrest⟩) hfree hlpa))
  case hopLocks =>
    have hidle : calPending s = false := by simp [calPending, show s.link.synth.op ≠ 4 by omega]
    exact congrArg Host.Outcome.next
      ((calReleases_idle hidle).trans (synthLockReport_hop hup hclock hunlocked hch hlock hop))
  case calLocks =>
    exact congrArg Host.Outcome.next ((congrArg _ (synthLockReport_cal hup hclock hunlocked hch hlock hop hcal)).trans
      (calReleases_unheld (by simp [calPending, hop, hcal]) (by simp [calPending, calLocked]) hheld))
  case calEnds =>
    have hend := calSlotEnd_ok (us := us.val) hop hch hok
    have hidle : calPending s = false := by simp [calPending, hok]
    exact congrArg Host.Outcome.next ((calReleases_idle hidle).trans ((synthCalEnd_unfollowed (by rw [hend]; exact hnone)).trans hend))
  case calFails =>
    have hend := calSlotEnd_failed (us := us.val) hop hch hfail
    have hrow : synthCalEnd us s = logErr 0x46 1 0x0A 0 (calFailed us ch s) :=
      (synthCalEnd_unfollowed (by rw [hend, link_logErr]; exact hnone)).trans hend
    exact congrArg Host.Outcome.next ((congrArg _ hrow).trans
      (calReleases_unheld (by simp [calPending, hop, hfail]) (by simp [calPending, calFailed]) ((held_logErr ..).trans hheld)))
  case sends => exact congrArg Host.Outcome.next (slotRampStart_sends hslot hup hcome htx hpower hframe hclean hlocked hcal)
  case late => exact congrArg Host.Outcome.next (slotRampStart_late hslot hup hcome htx hpower hframe hclean hlate hnone)
  case poisoned => exact congrArg Host.Outcome.next (slotRampStart_poisoned hslot hup hcome htx hpower hframe hpoison hnone)
  case sent => exact congrArg Host.Outcome.next (txFrameEnd_sent htx hrole)
  case inside => exact congrArg Host.Outcome.next (txAbort_inside hin)
  case outside => exact congrArg Host.Outcome.next (txAbort_outside htx hrole hoff)
  case released => exact congrArg Host.Outcome.next (lpaRelease_off htx hnone hdue)
  case dueHop => exact congrArg Host.Outcome.next (lpaRelease_hop htx hnone hdue hup htest hcal hentry hoff)

end Sys2Proof.Proofs

/-! SUPPORT. What the modem of the correction link (11) needs of the model: what each row of reception, slots and superframes
leaves. -/
namespace Sys2Proof.Laws

open Sys2Proof.Machine Sys2Proof.Safety

/-! ### The start of a reception (11 R432 to R434) -/

section
variable {x : LinkAdc} {s u : State} (hfeed : linkFeed x s = u)
include hfeed

theorem preambleDetection_fed : preambleDetection x s =
    if receiving u = true ∧ u.link.recv = none ∧ portsDetecting u ≠ [] then
      { u with link.recv := some (newReception u false u.link.rxN) } else u := by
  have hgate : (receiving u && u.link.recv.isNone && !(portsDetecting u).isEmpty) = true
      ↔ receiving u = true ∧ u.link.recv = none ∧ portsDetecting u ≠ [] := by
    simp [and_assoc]
  simp only [preambleDetection, hfeed]
  exact ite_congr (propext hgate) (fun _ => rfl) (fun _ => rfl)

/-- Between receptions the AGC is free on both ports (11 R433). -/
theorem linkAgcUpdate_between (hup : linkUp s = true) (hclock : clockBypass s = false) (hrole : linkRole s ≠ 0)
    (hnone : u.link.recv = none) (hwindow : u.link.txWindow = false) :
    linkAgcUpdate x s = { u with
      link.portA := portInterval true u.link.portA, link.portB := portInterval true u.link.portB } := by
  have hworks : (!linkUp s || clockBypass s || linkRole s == 0) = false := by simp [hup, hclock, hrole]
  simp only [linkAgcUpdate, hworks, hfeed, hnone, hwindow, modRecv, Option.map_none, Bool.not_false, Bool.false_eq_true,
    if_false, if_true]

end

section
variable {x : LinkAdc} {s u : State} (hfeed : linkFeed x s = u) {r : Reception} (hrecv : u.link.recv = some r)
include hfeed hrecv

/-- The negated ninth period between 80 us and 200 us after the detection fixes a reception's timing; one found outside that,
or none at 200 us, ends the reception (11 R432). -/
theorem stfNinth_searched {n : Nat} (hphase : r.phase = 0) (htaken : r.start + n ≤ u.link.rxN) {w p : Nat} {found : Bool}
    (hw : rxWidth u = w) (hp : choosePort u r = p)
    (hfound : ninthNegated w (samplesOf (streamPart u p (r.start + n - 3 * (airFft w / 4)) (r.start + n))) = found) :
    stfNinth x n s =
      if found = true ∧ 32 * 2 ^ w ≤ n ∧ n ≤ 80 * 2 ^ w then
        { u with link.recv := some { r with phase := 1, port := p, ninth := r.start + n } }
      else if found = true ∨ 80 * 2 ^ w ≤ n then { u with link.recv := none } else u := by
  have hdue : ¬(r.phase ≠ 0 ∨ u.link.rxN < r.start + n) := by omega
  simp only [stfNinth, hfeed, hrecv, hw, hp, hfound, if_neg hdue, modRecv, Option.map_some, Nat.shiftLeft_eq]

/-! ### Watched preambles (11 R438, R440) -/

/-- A detection of the watch during the payload preempts the frame where it is 6 dB stronger, and is counted where it is not. -/
theorem watchDetection_payload (hphase : r.phase = 2) : watchDetection x s =
    if portsDetecting u = [] then u
    else if watchPower u (portsDetecting u) < r.rssi + 24 then
      { u with link.counts := { u.link.counts with watchIgnored := up16 u.link.counts.watchIgnored } }
    else restartReception u.link.rxN [] (postFrame 0x14 0 [] r
      { u with link.counts := { u.link.counts with preempted := up16 u.link.counts.preempted } }) := by
  have hpayload : watchDetection x s = if portsDetecting u = [] then u
      else if r.rssi + 24 ≤ watchPower u (portsDetecting u) then preempt u.link.rxN [] r u else watchIgnored 1 u := by
    have hlater : r.phase ≠ 0 := by omega
    simp only [watchDetection, hfeed, hrecv, List.isEmpty_iff, hlater, or_false, if_pos hphase]
  rw [hpayload]
  refine ite_congr rfl (fun _ => rfl) (fun _ => (ite_not ..).symm.trans ?_)
  exact ite_congr (propext Int.not_le) (fun _ => rfl) (fun _ => rfl)

end

/-! ### Headers (11 R435 to R437, R439) -/

section
variable {u : State} {r : Reception} {now : Nat}

/-- Where no preamble was watched, a header that fails ends the reception. -/
theorem headerFails_unwatched (hwatch : r.watch = []) : headerFails now r u =
    { u with link.recv := none, link.counts := { u.link.counts with hdrFails := up16 u.link.counts.hdrFails } } := by
  simp only [headerFails, hwatch, List.filter_nil, strongestWatch, countLink]

theorem headerDecided_failed {h : HeaderRead} (hfail : hdrOk h.bits = false) :
    headerDecided now h r u = headerFails now r u := by
  simp [headerDecided, hfail]

end

section
variable {x : LinkAdc} {s u : State} (hfeed : linkFeed x s = u) {r : Reception} (hrecv : u.link.recv = some r)
include hfeed hrecv

theorem headerDecoded_complete (hphase : r.phase = 1) (hread : symbolsEnd (rxWidth u) (airSig (rxWidth u)) r ≤ u.link.rxN) :
    headerDecoded x s = headerDecided (symbolsEnd (rxWidth u) (airSig (rxWidth u)) r) (readHeader u r) r u := by
  have hdue : ¬(r.phase ≠ 1 ∨ u.link.rxN < symbolsEnd (rxWidth u) (airSig (rxWidth u)) r) := by omega
  simp only [headerDecoded, hfeed, hrecv, if_neg hdue]

theorem headerDecoded_early (hshort : u.link.rxN < symbolsEnd (rxWidth u) (airSig (rxWidth u)) r) :
    headerDecoded x s = u := by
  simp only [headerDecoded, hfeed, hrecv, if_pos (Or.inr hshort)]

/-- A complete header decides its reception; of those that fail, one that watched nothing only ends it. -/
theorem headerDecoded_decided (hphase : r.phase = 1) (hread : symbolsEnd (rxWidth u) (airSig (rxWidth u)) r ≤ u.link.rxN) :
    headerDecoded x s =
      if hdrOk (readHeader u r).bits = false ∧ r.watch = [] then
        { u with link.recv := none, link.counts := { u.link.counts with hdrFails := up16 u.link.counts.hdrFails } }
      else headerDecided (symbolsEnd (rxWidth u) (airSig (rxWidth u)) r) (readHeader u r) r u := by
  rw [headerDecoded_complete hfeed hrecv hphase hread]
  split
  case isTrue hends => rw [headerDecided_failed hends.1, headerFails_unwatched hends.2]
  case isFalse => rfl

/-! ### The end of a frame (11 R437, R445, R450, R457) -/

theorem frameReceived_complete {errs : List Nat} (hphase : r.phase = 2)
    (hread : symbolsEnd (rxWidth u) (airSig (rxWidth u) + airSym r.hdr.rate (rxWidth u) r.hdr.length) r ≤ u.link.rxN) :
    frameReceived x errs s = frameEnded (readPayload u r) errs r u := by
  have hdue : ¬(r.phase ≠ 2
      ∨ u.link.rxN < symbolsEnd (rxWidth u) (airSig (rxWidth u) + airSym r.hdr.rate (rxWidth u) r.hdr.length) r) := by
    omega
  simp only [frameReceived, hfeed, hrecv, if_neg hdue]

end

section
variable {u : State} {r : Reception} {f : List Byte × Nat} {errs : List Nat}

theorem frameEnded_corrupt (hcrc : f.2 ≠ crc32c f.1) : frameEnded f errs r u =
    { u with link.recv := none, link.counts := { u.link.counts with payFails := up16 u.link.counts.payFails } } :=
  if_pos hcrc

/-- The timing of a kept frame is held, and its reception is over. -/
def frameHeld (r : Reception) (u : State) : State :=
  { u with
    link.recv := none, link.lastPort := r.port, link.heard := tset none u.link.heard r.hdr.node (some (r.timing, r.sf)) }

/-- A kept frame of TYPE 0 is counted where the host or the own beacon uses it. -/
def frameKept (r : Reception) (u : State) : State :=
  { frameHeld r u with
    link.counts := if u.link.rx.types.testBit 0 = true ∨ timingUsed u r.hdr.node = true then
      { u.link.counts with rxOk := up16 u.link.counts.rxOk } else u.link.counts }

theorem frameKept_eq_counted : frameKept r u =
    if (u.link.rx.types.testBit 0 || timingUsed u r.hdr.node) = true then
      countLink (fun c => { c with rxOk := up16 c.rxOk }) (frameHeld r u) else frameHeld r u := by
  simp only [frameKept, Bool.or_eq_true]
  split <;> rfl

/-- Off a free rover, a kept frame of TYPE 0 is neither a beacon to align on nor a correction. -/
theorem frameEnded_kept (hcrc : f.2 = crc32c f.1) (hfree : roverFree u = false) (htype : r.hdr.type = 0) :
    frameEnded f errs r u =
      if u.link.rx.types.testBit 0 = true then postFrame 0 (eccChain errs) f.1 r (frameKept r u) else frameKept r u := by
  have hrover : roverFree { u with link.recv := none } = false := hfree
  have hcorr : (0 : Nat) ≠ 1 := by decide
  simp only [frameEnded, hcrc, ne_eq, not_true_eq_false, if_false, htype, hrover, hcorr, Bool.false_eq_true, false_and, or_self,
    decide_false, Bool.or_false]
  exact congrArg (fun t => if t.link.rx.types.testBit 0 = true then postFrame 0 (eccChain errs) f.1 r t else t)
    frameKept_eq_counted.symm

end

/-! ### The end of a slot (11 R443) -/

section
variable {n : Nat} {x : LinkAdc} {s u : State} (hfeed : linkFeed x s = u)
include hfeed

theorem slotEnd_known {y : LinkSlot} (hslot : linkSlot u n = some y) :
    slotEnd n x s = { u with link.rxSlot := nextRxSlot u y.offset } := by
  simp only [slotEnd, hfeed, hslot]

theorem slotEnd_unknown (hslot : linkSlot u n = none) : slotEnd n x s = u := by
  simp only [slotEnd, hfeed, hslot]

end

/-! ### The start of a superframe (11 R442, R446, R458) -/

theorem Sends.ms {s t : State} (h : Sends s t) : t.ms = s.ms := by
  have := congrArg State.ms h.quiet; exact this

theorem Sends.epochMs {s t : State} (h : Sends s t) : t.epochMs = s.epochMs := by
  have := congrArg State.epochMs h.quiet; exact this

theorem sends_postSummary (s : State) : Sends s (postSummary s) := by
  unfold postSummary; split
  · exact sends_post _ _
  · exact .refl s

theorem takeSched_none {s : State} (h : s.link.pendSched = none) : takeSched s = s := by
  simp only [takeSched, h]

/-- The superframe that TC's count of 100 ms in `s` numbers has begun on `t`, with the settings that waited in `s`. -/
def superframeBegun (s t : State) : State :=
  { t with
    link.sf := (s.epochMs / 100) % 2 ^ 32, link.sfStart := (s.epochMs : Int) * 1000000000, link.sfMs := some s.ms,
    link.counts := LinkCounts.zero, link.rampDone := [], link.rx := s.link.pendRx.getD s.link.rx, link.pendRx := none,
    link.aligned := false }

section
variable {s : State} (hfree : roverFree s = false)
include hfree

/-- A modem that does not count superframes on its own follows TC. -/
theorem follows_of_not_roverFree : (linkRole s == 2 && s.nunar.st == 0) = false := by
  simp only [roverFree, Bool.and_eq_false_iff, Bool.or_eq_false_iff] at hfree ⊢
  exact hfree.imp_right And.left

/-- The summary leaves the time and the link alone, so the superframe begins on those before it. -/
theorem superframeStart_begun (hup : linkUp s = true) (hrun : s.nunar.running = true) (hnew : s.link.sfMs ≠ some s.ms)
    (hgrid : s.epochMs % 100 = 0) (hrole : s.link.pendRole = none) (hsched : s.link.pendSched = none) :
    superframeStart s = superframeBegun s (postSummary s) := by
  have hsends := sends_postSummary s
  have hdone : takeSched (superframeBegun s (postSummary s)) = superframeBegun s (postSummary s) :=
    takeSched_none ((congrArg Link.pendSched hsends.link).trans hsched)
  refine Eq.trans ?_ hdone
  simp [superframeStart, superframeBegun, follows_of_not_roverFree hfree, hup, hrun, hnew, hgrid, hrole, hsends.link, hsends.ms,
    hsends.epochMs]

end

end Sys2Proof.Laws

/-! The statement about reception, slots and superframes of the correction link (11), settled. -/
namespace Sys2Proof.Proofs

open Sys2Proof.Machine Sys2Proof.Safety Sys2Proof.Laws

/-- Settles O21: each row takes its samples and then does one case of what it can do; a frame's end splits on the payload's CRC,
and a superframe starts on the time and settings that its predecessor's summary leaves alone. The choices of log 28 and 57 are
among what it states. -/
theorem linkReceiveEventsComplete : Obligations.LinkReceiveEventsComplete := by
  refine ⟨fun x s => congrArg Host.Outcome.next (preambleDetection_fed rfl),
    fun x n s r hrecv hphase htaken =>
      congrArg Host.Outcome.next (stfNinth_searched rfl hrecv hphase htaken rfl rfl rfl),
    fun x s hup hclock hrole hnone hwindow =>
      congrArg Host.Outcome.next (linkAgcUpdate_between rfl hup hclock hrole hnone hwindow),
    fun x s r hrecv hphase => congrArg Host.Outcome.next (watchDetection_payload rfl hrecv hphase),
    fun x s r hrecv hphase => ⟨fun hread => ?header, fun hshort => ?early⟩,
    fun x errs s r hrecv hphase hread hfree htype => ?frame,
    fun n x s => ⟨fun y hslot => ?slot, fun hslot => ?noSlot⟩,
    fun x v hup hrun hnew hfree hgrid hrole hsched => ?superframe⟩
  case header => exact congrArg Host.Outcome.next (headerDecoded_decided rfl hrecv hphase hread)
  case early => exact congrArg Host.Outcome.next (headerDecoded_early rfl hrecv hshort)
  case frame =>
    refine congrArg Host.Outcome.next ((frameReceived_complete rfl hrecv hphase hread).trans ?_)
    split
    case isTrue hcorrupt => exact frameEnded_corrupt hcorrupt
    case isFalse hcrc => exact frameEnded_kept (Decidable.not_not.1 hcrc) hfree htype
  case slot => exact congrArg Host.Outcome.next (slotEnd_known rfl hslot)
  case noSlot => exact congrArg Host.Outcome.next (slotEnd_unknown rfl hslot)
  case superframe =>
    exact congrArg Host.Outcome.next (superframeStart_begun hfree hup hrun hnew hgrid hrole hsched)

end Sys2Proof.Proofs

/-! SUPPORT. The encodings of the kernel instructions (13): which word each layout spells, and what its fields read back as. -/
namespace Sys2Proof.Laws

open Sys2Proof.Machine Sys2Proof.Safety

/-! ### Fields of a program word (13, "Instruction formats") -/

theorem kf_eq (w hi lo : Nat) : kf w hi lo = w / 2 ^ lo % 2 ^ (hi - lo + 1) := by
  simp [kf, bitsOf, Nat.shiftRight_eq_div_pow]

theorem kWord_nil (major : Nat) : kWord major [] = major * 2 ^ 19 := by simp [kWord]

theorem kWord_cons (major v pos : Nat) (t : List (Nat × Nat)) :
    kWord major ((v, pos) :: t) = v * 2 ^ pos + kWord major t := by
  simp [kWord]; omega

@[simp] theorem fits_nil : fits [] = true := rfl

@[simp] theorem fits_cons (v width : Nat) (t : List (Nat × Nat)) :
    fits ((v, width) :: t) = true ↔ v < 2 ^ width ∧ fits t = true := by simp [fits]

@[simp] theorem kIf_eq_some {α : Type} {ok : Bool} {x y : α} : kIf ok x = some y ↔ ok = true ∧ x = y := by
  cases ok <;> simp [kIf]

theorem nthOf_eq_getElem? {α : Type} (l : List α) (n : Nat) : nthOf l n = l[n]? := by
  induction l generalizing n with
  | nil => rfl
  | cons a l ih => cases n <;> simp [nthOf, ih]

/-- In a list whose members' codes are their places, the member at a place has that code. -/
theorem code_of_nthOf {α : Type} {l : List α} {code : α → Nat} (hcode : l.map code = List.range l.length) {n : Nat} {a : α}
    (h : nthOf l n = some a) : code a = n := by
  rw [nthOf_eq_getElem?] at h
  obtain ⟨hn, -⟩ := List.getElem?_eq_some_iff.1 h
  have hmap : (l.map code)[n]? = some (code a) := by simp [h]
  rw [hcode, List.getElem?_range hn] at hmap
  exact (Option.some.inj hmap).symm

/-- The word, followed by `v`, is the encoding of the well-formed instruction `i`. -/
def Spells (tr : Bool) (pc w v : Nat) (i : KInstr) : Prop :=
  kWellFormed tr pc i = true ∧ kEncode i = (w, if kTwoWords w then v else 0)

section

variable {tr : Bool} {pc w v : Nat} {i : KInstr} (hw : w < 2 ^ 24)
include hw

omit hw in
theorem kTwoWords_of_major {major : Nat} (h : kf w 23 19 = major) :
    kTwoWords w = (major == 0x05 || major == 0x07 || major == 0x0F) := by simp [kTwoWords, h]

theorem kDecodeCtl_spells (hmajor : kf w 23 19 = 0x01) (h : kDecodeCtl w = some i) : Spells tr pc w v i := by
  unfold kDecodeCtl at h
  dsimp only at h
  split at h
  · cases h
  split at h
  case h_4 hjr hcallr hrepr =>
    split at h
    · cases h
    · obtain ⟨op, hop, rfl⟩ := Option.map_eq_some_iff.1 h
      have hsub : subCtl op = kf w 18 14 := code_of_nthOf rfl hop
      simp [Spells, kWellFormed, kEncode, kTwoWords_of_major hmajor, kWord_cons, kWord_nil, kf_eq] at *
      omega
  all_goals
    obtain rfl := Option.some.inj h
    simp [Spells, kWellFormed, kEncode, kTwoWords_of_major hmajor, kWord_cons, kWord_nil, kf_eq] at *
    omega

theorem kDecodeFlow_spells {major : Nat} (hv : v < 2 ^ 24) (hmajor : kf w 23 19 = major)
    (hgroup : major = 0x05 ∨ major = 0x06 ∨ major = 0x07 ∨ major = 0x08) (h : kDecodeFlow pc major w v = some i) :
    Spells tr pc w v i := by
  rcases hgroup with rfl | rfl | rfl | rfl <;> simp only [kDecodeFlow] at h
  case inl =>
    split at h <;> obtain ⟨hok, rfl⟩ := kIf_eq_some.1 h <;>
      simp [Spells, kWellFormed, kEncode, kTwoWords_of_major hmajor, kWord_cons, kWord_nil, kf_eq] at * <;> omega
  case inr.inl =>
    obtain ⟨c, hc, rfl⟩ := Option.map_eq_some_iff.1 h
    have hcond : codeCond c = kf w 18 16 := code_of_nthOf rfl hc
    simp [Spells, kWellFormed, kEncode, kTwoWords_of_major hmajor, kWord_cons, kWord_nil, kf_eq] at *
    omega
  case inr.inr.inl =>
    obtain ⟨c, hc, hi⟩ := Option.bind_eq_some_iff.1 h
    obtain ⟨hzero, rfl⟩ := kIf_eq_some.1 hi
    have hcond : codeCond c = kf w 18 16 := code_of_nthOf rfl hc
    simp [Spells, kWellFormed, kEncode, kTwoWords_of_major hmajor, kWord_cons, kWord_nil, kf_eq] at *
    omega
  case inr.inr.inr =>
    split at h
    · obtain ⟨c, hc, rfl⟩ := Option.map_eq_some_iff.1 h
      have hcond : codeCond c = kf w 18 16 := code_of_nthOf rfl hc
      simp [Spells, kWellFormed, kEncode, kTwoWords_of_major hmajor, kWord_cons, kWord_nil, kf_eq] at *
      omega
    · cases h

theorem kDecodeAlu_spells (hmajor : kf w 23 19 = 0x09) (h : kDecodeAlu w = some i) : Spells tr pc w v i := by
  unfold kDecodeAlu at h
  dsimp only at h
  split at h
  · cases h
  · split at h <;> simp only [kIf_eq_some, Option.some.injEq, reduceCtorEq] at h <;> (try obtain ⟨hc, rfl⟩ := h) <;>
      simp [Spells, kWellFormed, kEncode, kTwoWords_of_major hmajor, kWord_cons, kWord_nil, kf_eq, subAlu, subUna] at * <;> omega

theorem kDecodeMem_spells {major : Nat} (hmajor : kf w 23 19 = major) (hgroup : 0x10 ≤ major ∧ major ≤ 0x16)
    (h : kDecodeMem tr major w = some i) : Spells tr pc w v i := by
  obtain ⟨hlow, hhigh⟩ := hgroup
  interval_cases major <;> obtain ⟨hok, rfl⟩ := kIf_eq_some.1 h <;>
    simp [Spells, kWellFormed, kEncode, kTwoWords_of_major hmajor, kWord_cons, kWord_nil] at hok ⊢ <;> simp [hok] <;> simp [kf_eq] at * <;> omega

theorem kDecodeAcc_spells (hmajor : kf w 23 19 = 0x19) (h : kDecodeAcc w = some i) : Spells tr pc w v i := by
  unfold kDecodeAcc at h
  dsimp only at h
  split at h
  · cases h
  · split at h <;> simp only [kIf_eq_some, reduceCtorEq] at h <;> obtain ⟨hc, rfl⟩ := h <;>
      simp [Spells, kWellFormed, kEncode, kTwoWords_of_major hmajor, kWord_cons, kWord_nil, kf_eq, subAcu, subAcb] at * <;> omega

theorem kDecode_spells (hv : v < 2^24) (h : kDecode tr pc w v = some i) : Spells tr pc w v i := by
  unfold kDecode at h
  split at h
  case h_1 hmajor => exact kDecodeCtl_spells hw hmajor h
  case h_2 hmajor | h_3 hmajor | h_4 hmajor =>
    obtain ⟨hc, rfl⟩ := kIf_eq_some.1 h
    simp [Spells, kWellFormed, kEncode, kTwoWords_of_major hmajor, kWord_cons, kWord_nil, kf_eq] at *
    omega
  case h_5 hmajor | h_6 hmajor | h_7 hmajor | h_8 hmajor => exact kDecodeFlow_spells hw hv hmajor (by simp) h
  case h_9 hmajor => exact kDecodeAlu_spells hw hmajor h
  case h_10 hmajor =>
    obtain ⟨hc, rfl⟩ := kIf_eq_some.1 h
    have hlt : kf w 18 17 < 4 := by rw [kf_eq]; omega
    have hkind : kindShi ((nthOf [KShi.lsl, .lsr, .asr, .asls] (kf w 18 17)).getD .lsl) = kf w 18 17 := by
      interval_cases kf w 18 17 <;> rfl
    simp [Spells, kWellFormed, kEncode, kTwoWords_of_major hmajor, kWord_cons, kWord_nil, kf_eq] at *
    omega
  case h_11 hmajor | h_12 hmajor | h_13 hmajor =>
    obtain rfl := Option.some.inj h
    simp [Spells, kWellFormed, kEncode, kTwoWords_of_major hmajor, kWord_cons, kWord_nil, kf_eq] at *
    omega
  case h_14 hmajor | h_15 hmajor =>
    obtain ⟨hc, rfl⟩ := kIf_eq_some.1 h
    simp at hc
    simp [Spells, kWellFormed, kEncode, kTwoWords_of_major hmajor, kWord_cons, kWord_nil, hc]
    simp [kf_eq] at *
    omega
  case h_16 hmajor =>
    dsimp only at h
    split at h
    · cases h
    · obtain ⟨op, hop, rfl⟩ := Option.map_eq_some_iff.1 h
      have hkind : kindExt op = kf w 18 17 := code_of_nthOf rfl hop
      have hnested : w / 2 / 32 = w / 64 ∧ w / 64 / 32 = w / 2048 ∧ w / 2048 / 8 = w / 16384 ∧ w / 16384 / 8 = w / 131072 := by
        simp [Nat.div_div_eq_div_mul]
      simp [Spells, kWellFormed, kEncode, kTwoWords_of_major hmajor, kWord_cons, kWord_nil, kf_eq] at *
      omega
  case h_17 hmajor =>
    split at h
    · cases h
    · obtain ⟨op, hop, rfl⟩ := Option.map_eq_some_iff.1 h
      have hsub : subMul op = kf w 18 16 := code_of_nthOf rfl hop
      simp [Spells, kWellFormed, kEncode, kTwoWords_of_major hmajor, kWord_cons, kWord_nil, kf_eq] at *
      omega
  case h_18 hmajor => exact kDecodeAcc_spells hw hmajor h
  case h_19 hmajor =>
    obtain ⟨hc, rfl⟩ := kIf_eq_some.1 h
    simp [Spells, kWellFormed, kEncode, kTwoWords_of_major hmajor, kWord_cons, kWord_nil, kf_eq] at *
    omega
  case h_20 =>
    split at h
    · exact kDecodeMem_spells hw rfl ‹_› h
    · cases h
end

/-! ### Reading the fields of an encoded word back -/

section

variable {major : Nat} (hmajor : major < 32)
include hmajor

theorem kf_control {sub r : Nat} (hsub : sub < 2 ^ 5) (hr : r < 2 ^ 3) : let w := kWord major [(sub, 14), (r, 11)]
    kf w 23 19 = major ∧ kf w 18 14 = sub ∧ kf w 13 11 = r ∧ kf w 10 0 = 0 := by
  simp only [kf_eq, kWord_cons, kWord_nil]; omega

theorem kf_jump {t : Nat} (ht : t < 2 ^ 14) : let w := kWord major [(t, 0)]
    kf w 23 19 = major ∧ kf w 18 14 = 0 ∧ kf w 13 0 = t := by
  simp only [kf_eq, kWord_cons, kWord_nil]; omega

theorem kf_repeat {n : Nat} (hn : n < 2 ^ 12) : let w := kWord major [(n, 0)]
    kf w 23 19 = major ∧ kf w 18 12 = 0 ∧ kf w 11 0 = n := by
  simp only [kf_eq, kWord_cons, kWord_nil]; omega

theorem kf_loopImm {n : Nat} (hn : n < 2 ^ 16) : let w := kWord major [(0, 18), (n, 0)]
    kf w 23 19 = major ∧ kf w 18 18 = 0 ∧ kf w 17 16 = 0 ∧ kf w 15 0 = n := by
  simp only [kf_eq, kWord_cons, kWord_nil]; omega

theorem kf_loopReg {d : Nat} (hd : d < 2 ^ 3) : let w := kWord major [(1, 18), (d, 13)]
    kf w 23 19 = major ∧ kf w 18 18 = 1 ∧ kf w 17 16 = 0 ∧ kf w 15 13 = d ∧ kf w 12 0 = 0 := by
  simp only [kf_eq, kWord_cons, kWord_nil]; omega

theorem kf_branch {c a b off : Nat} (hc : c < 2 ^ 3) (ha : a < 2 ^ 4) (hb : b < 2 ^ 4) (hoff : off < 2 ^ 8) :
    let w := kWord major [(c, 16), (a, 12), (b, 8), (off, 0)]
    kf w 23 19 = major ∧ kf w 18 16 = c ∧ kf w 15 12 = a ∧ kf w 11 8 = b ∧ kf w 7 0 = off := by
  simp only [kf_eq, kWord_cons, kWord_nil]; omega

theorem kf_branchImm {c a k : Nat} (hc : c < 2 ^ 3) (ha : a < 2 ^ 4) (hk : k < 2 ^ 12) :
    let w := kWord major [(c, 16), (a, 12), (k, 0)]
    kf w 23 19 = major ∧ kf w 18 16 = c ∧ kf w 15 12 = a ∧ kf w 11 0 = k := by
  simp only [kf_eq, kWord_cons, kWord_nil]; omega

theorem kf_branchAcc {c a off : Nat} (hc : c < 2 ^ 3) (ha : a < 2 ^ 2) (hoff : off < 2 ^ 8) :
    let w := kWord major [(c, 16), (a, 14), (off, 0)]
    kf w 23 19 = major ∧ kf w 18 16 = c ∧ kf w 15 14 = a ∧ kf w 13 8 = 0 ∧ kf w 7 0 = off := by
  simp only [kf_eq, kWord_cons, kWord_nil]; omega

theorem kf_alu {sub d a b : Nat} (hsub : sub < 2 ^ 5) (hd : d < 2 ^ 3) (ha : a < 2 ^ 3) (hb : b < 2 ^ 3) :
    let w := kWord major [(sub, 14), (d, 11), (a, 8), (b, 5)]
    kf w 23 19 = major ∧ kf w 18 14 = sub ∧ kf w 13 11 = d ∧ kf w 10 8 = a ∧ kf w 7 5 = b ∧ kf w 4 0 = 0 := by
  simp only [kf_eq, kWord_cons, kWord_nil]; omega

theorem kf_unary {sub d a : Nat} (hsub : sub < 2 ^ 5) (hd : d < 2 ^ 3) (ha : a < 2 ^ 3) :
    let w := kWord major [(sub, 14), (d, 11), (a, 8)]
    kf w 23 19 = major ∧ kf w 18 14 = sub ∧ kf w 13 11 = d ∧ kf w 10 8 = a ∧ kf w 7 5 = 0 ∧ kf w 4 0 = 0 := by
  simp only [kf_eq, kWord_cons, kWord_nil]; omega

theorem kf_shift {kind d a amt : Nat} (hkind : kind < 2 ^ 2) (hd : d < 2 ^ 3) (ha : a < 2 ^ 3) (hamt : amt < 2 ^ 7) :
    let w := kWord major [(kind, 17), (d, 14), (a, 11), (amt, 4)]
    kf w 23 19 = major ∧ kf w 18 17 = kind ∧ kf w 16 14 = d ∧ kf w 13 11 = a ∧ kf w 10 4 = amt ∧ kf w 3 0 = 0 := by
  simp only [kf_eq, kWord_cons, kWord_nil]; omega

theorem kf_addImm {d a k : Nat} (hd : d < 2 ^ 3) (ha : a < 2 ^ 3) (hk : k < 2 ^ 13) :
    let w := kWord major [(d, 16), (a, 13), (k, 0)]
    kf w 23 19 = major ∧ kf w 18 16 = d ∧ kf w 15 13 = a ∧ kf w 12 0 = k := by
  simp only [kf_eq, kWord_cons, kWord_nil]; omega

theorem kf_moveImm {d k : Nat} (hd : d < 2 ^ 3) (hk : k < 2 ^ 16) : let w := kWord major [(d, 16), (k, 0)]
    kf w 23 19 = major ∧ kf w 18 16 = d ∧ kf w 15 0 = k := by
  simp only [kf_eq, kWord_cons, kWord_nil]; omega

theorem kf_moveReg {rd rs : Nat} (hrd : rd < 2 ^ 6) (hrs : rs < 2 ^ 6) : let w := kWord major [(rd, 13), (rs, 7)]
    kf w 23 19 = major ∧ kf w 18 13 = rd ∧ kf w 12 7 = rs ∧ kf w 6 0 = 0 := by
  simp only [kf_eq, kWord_cons, kWord_nil]; omega

theorem kf_moveLong {rd : Nat} (hrd : rd < 2 ^ 6) : let w := kWord major [(rd, 13)]
    kf w 23 19 = major ∧ kf w 18 13 = rd ∧ kf w 12 0 = 0 := by
  simp only [kf_eq, kWord_cons, kWord_nil]; omega

theorem kf_memory {d p m k : Nat} (hd : d < 2 ^ 3) (hp : p < 2 ^ 3) (hm : m < 2 ^ 3) (hk : k < 2 ^ 10) :
    let w := kWord major [(d, 16), (p, 13), (m, 10), (k, 0)]
    kf w 23 19 = major ∧ kf w 18 16 = d ∧ kf w 15 13 = p ∧ kf w 12 10 = m ∧ kf w 9 0 = k := by
  simp only [kf_eq, kWord_cons, kWord_nil]; omega

theorem kf_memoryReg {r p m k : Nat} (hr : r < 2 ^ 6) (hp : p < 2 ^ 3) (hm : m < 2 ^ 3) (hk : k < 2 ^ 7) :
    let w := kWord major [(r, 13), (p, 10), (m, 7), (k, 0)]
    kf w 23 19 = major ∧ kf w 18 13 = r ∧ kf w 12 10 = p ∧ kf w 9 7 = m ∧ kf w 6 0 = k := by
  simp only [kf_eq, kWord_cons, kWord_nil]; omega

theorem kf_memoryPart {d p q k : Nat} (hd : d < 2 ^ 3) (hp : p < 2 ^ 3) (hq : q < 2 ^ 4) (hk : k < 2 ^ 9) :
    let w := kWord major [(d, 16), (p, 13), (q, 9), (k, 0)]
    kf w 23 19 = major ∧ kf w 18 16 = d ∧ kf w 15 13 = p ∧ kf w 12 9 = q ∧ kf w 8 0 = k := by
  simp only [kf_eq, kWord_cons, kWord_nil]; omega

theorem kf_field {kind d a pos wm : Nat} (hkind : kind < 2 ^ 2) (hd : d < 2 ^ 3) (ha : a < 2 ^ 3) (hpos : pos < 2 ^ 5)
    (hwm : wm < 2 ^ 5) : let w := kWord major [(kind, 17), (d, 14), (a, 11), (pos, 6), (wm, 1)]
    kf w 23 19 = major ∧ kf w 18 17 = kind ∧ kf w 16 14 = d ∧ kf w 13 11 = a ∧ kf w 10 6 = pos ∧ kf w 5 1 = wm ∧ kf w 0 0 = 0 := by
  simp only [kf_eq, kWord_cons, kWord_nil]; omega

theorem kf_multiply {sub c a b : Nat} (hsub : sub < 2 ^ 3) (hc : c < 2 ^ 2) (ha : a < 2 ^ 3) (hb : b < 2 ^ 3) :
    let w := kWord major [(sub, 16), (c, 14), (a, 11), (b, 8)]
    kf w 23 19 = major ∧ kf w 18 16 = sub ∧ kf w 15 14 = c ∧ kf w 13 11 = a ∧ kf w 10 8 = b ∧ kf w 7 0 = 0 := by
  simp only [kf_eq, kWord_cons, kWord_nil]; omega

theorem kf_accumulator {sub c a : Nat} (hsub : sub < 2 ^ 5) (hc : c < 2 ^ 2) (ha : a < 2 ^ 2) :
    let w := kWord major [(sub, 14), (c, 12), (a, 10)]
    kf w 23 19 = major ∧ kf w 18 14 = sub ∧ kf w 13 12 = c ∧ kf w 11 10 = a ∧ kf w 9 3 = 0 ∧ kf w 2 0 = 0 := by
  simp only [kf_eq, kWord_cons, kWord_nil]; omega

theorem kf_accumulatorOne {sub c : Nat} (hsub : sub < 2 ^ 5) (hc : c < 2 ^ 2) :
    let w := kWord major [(sub, 14), (c, 12)]
    kf w 23 19 = major ∧ kf w 18 14 = sub ∧ kf w 13 12 = c ∧ kf w 11 10 = 0 ∧ kf w 9 3 = 0 ∧ kf w 2 0 = 0 := by
  simp only [kf_eq, kWord_cons, kWord_nil]; omega

theorem kf_accShift {sub c amt : Nat} (hsub : sub < 2 ^ 5) (hc : c < 2 ^ 2) (hamt : amt < 2 ^ 7) :
    let w := kWord major [(sub, 14), (c, 12), (amt, 3)]
    kf w 23 19 = major ∧ kf w 18 14 = sub ∧ kf w 13 12 = c ∧ kf w 11 10 = 0 ∧ kf w 9 3 = amt ∧ kf w 2 0 = 0 := by
  simp only [kf_eq, kWord_cons, kWord_nil]; omega

theorem kf_accShiftReg {sub c a : Nat} (hsub : sub < 2 ^ 5) (hc : c < 2 ^ 2) (ha : a < 2 ^ 3) :
    let w := kWord major [(sub, 14), (c, 12), (a, 7)]
    kf w 23 19 = major ∧ kf w 18 14 = sub ∧ kf w 13 12 = c ∧ kf w 11 10 = 0 ∧ kf w 9 7 = a ∧ kf w 6 3 = 0 ∧ kf w 2 0 = 0 := by
  simp only [kf_eq, kWord_cons, kWord_nil]; omega

theorem kf_tap {c pc ps : Nat} (hc : c < 2 ^ 2) (hpc : pc < 2 ^ 3) (hps : ps < 2 ^ 3) :
    let w := kWord major [(c, 17), (pc, 14), (ps, 11)]
    kf w 23 19 = major ∧ kf w 18 17 = c ∧ kf w 16 14 = pc ∧ kf w 13 11 = ps ∧ kf w 10 0 = 0 := by
  simp only [kf_eq, kWord_cons, kWord_nil]; omega

end

theorem kf_target {t : Nat} (ht : t < 2 ^ 14) : kf t 13 0 = t ∧ kf t 23 14 = 0 := by
  simp only [kf_eq]; omega

theorem lt_of_kRegOk {tr wr : Bool} {r : Nat} (h : kRegOk tr r wr = true) : r < 64 := by
  unfold kRegOk at h
  split at h
  · omega
  split at h
  · omega
  split at h
  · omega
  · have := of_decide_eq_true h; omega

theorem lt_of_kModeOk {tr : Bool} {m k : Nat} (h : kModeOk tr m k = true) : m < 8 := by
  unfold kModeOk at h
  (repeat' split at h) <;> first | omega | cases h

theorem codeCond_lt (c : KCond) : codeCond c < 8 := by cases c <;> decide
theorem kCondOf_codeCond (c : KCond) : kCondOf (codeCond c) = some c := by cases c <;> rfl

/-- The decoder gives an encoded well-formed instruction back: by the layout of its format, each field reads as the operand that it
carries, and the codes of its group select it. -/
theorem kDecode_kEncode {tr : Bool} {pc : Nat} {i : KInstr} (h : kWellFormed tr pc i = true) :
    kDecode tr pc (kEncode i).1 (kEncode i).2 = some i := by
  cases i <;> simp [kWellFormed] at h
  case ctl c => cases c <;> rfl
  case jr p | callr p | repr p => simp [kEncode, kDecode, kDecodeCtl, kf_control, h]
  case j t | call t => simp [kEncode, kDecode, kf_jump, h]
  case rep n => simp [kEncode, kDecode, kf_repeat, h]
  case loopImm n e => simp [kEncode, kDecode, kDecodeFlow, kf_loopImm, kf_target, h]
  case loopReg d e => simp [kEncode, kDecode, kDecodeFlow, kf_loopReg, kf_target, h]
  case br c a b off => simp [kEncode, kDecode, kDecodeFlow, kf_branch, codeCond_lt, kCondOf_codeCond, h]
  case bri c a k t => simp [kEncode, kDecode, kDecodeFlow, kf_branchImm, kf_target, codeCond_lt, kCondOf_codeCond, h]
  case bra c a off => simp [kEncode, kDecode, kDecodeFlow, kf_branchAcc, codeCond_lt, kCondOf_codeCond, h]
  case alu op d a b => cases op <;> simp [kEncode, kDecode, kDecodeAlu, subAlu, kf_alu, h]
  case una op d a => cases op <;> simp [kEncode, kDecode, kDecodeAlu, subUna, kf_unary, h]
  case div signed d a b => cases signed <;> simp [kEncode, kDecode, kDecodeAlu, kf_alu, h]
  case shi op d a amt => cases op <;> simp [kEncode, kDecode, nthOf, kindShi, kf_shift, h]
  case addi d a k | addpi d a k => simp [kEncode, kDecode, kf_addImm, h]
  case movi d k => simp [kEncode, kDecode, kf_moveImm, h]
  case movr rd rs => simp [kEncode, kDecode, kf_moveReg, lt_of_kRegOk h.1, lt_of_kRegOk h.2, h]
  case movil rd k => simp [kEncode, kDecode, kf_moveLong, lt_of_kRegOk h.1, h]
  case ld d p m k | st d p m k => simp [kEncode, kDecode, kDecodeMem, kf_memory, lt_of_kModeOk h.2, h]
  case ldr r p m k => simp [kEncode, kDecode, kDecodeMem, kf_memoryReg, lt_of_kRegOk h.1.1.2, lt_of_kModeOk h.1.2, h]
  case str r p m k => simp [kEncode, kDecode, kDecodeMem, kf_memoryReg, lt_of_kRegOk h.1.2, lt_of_kModeOk h.2, h]
  case ldx d p q k | stx d p q k =>
    have hq : q < 16 := by omega
    simp [kEncode, kDecode, kDecodeMem, kf_memoryPart, hq, h]
  case ldc d p m k =>
    have hm : m < 8 := by omega
    simp [kEncode, kDecode, kDecodeMem, kf_memory, hm, h]
  case ext op d a pos wm =>
    have hpos : pos < 32 := by omega
    have hwm : wm < 32 := by omega
    have hend : pos ≤ 23 ∧ pos + wm < 24 := by omega
    cases op <;> simp [kEncode, kDecode, nthOf, kindExt, kf_field, hpos, hwm, hend, h]
  case mul op c a b => cases op <;> simp [kEncode, kDecode, nthOf, subMul, kf_multiply, h]
  case acu op c => cases op <;> simp [kEncode, kDecode, kDecodeAcc, subAcu, kf_accumulatorOne, h]
  case acb op c a => cases op <;> simp [kEncode, kDecode, kDecodeAcc, subAcb, kf_accumulator, h]
  case asha sat c amt => cases sat <;> simp [kEncode, kDecode, kDecodeAcc, kf_accShift, h]
  case ashar sat c a => cases sat <;> simp [kEncode, kDecode, kDecodeAcc, kf_accShiftReg, h]
  case ftap c pc ps => simp [kEncode, kDecode, kf_tap, h]

/-- The words of an encoded well-formed instruction have 24 bits (13 R495). -/
theorem kEncode_lt {tr : Bool} {pc : Nat} {i : KInstr} (h : kWellFormed tr pc i = true) :
    (kEncode i).1 < 2 ^ 24 ∧ (kEncode i).2 < 2 ^ 24 := by
  cases i <;> simp [kWellFormed] at h <;> simp only [kEncode, kWord_cons, kWord_nil]
  case ctl c => cases c <;> decide
  case br c a b off | bri c a k t | bra c a off =>
    have hc := codeCond_lt c
    omega
  case alu op d a b => cases op <;> simp only [subAlu] <;> omega
  case una op d a => cases op <;> simp only [subUna] <;> omega
  case shi op d a amt => cases op <;> simp only [kindShi] <;> omega
  case ext op d a pos wm => cases op <;> simp only [kindExt] <;> omega
  case mul op c a b => cases op <;> simp only [subMul] <;> omega
  case acu op c => cases op <;> simp only [subAcu] <;> omega
  case acb op c a => cases op <;> simp only [subAcb] <;> omega
  case div signed d a b => cases signed <;> simp only [Bool.false_eq_true, if_true, if_false] <;> omega
  case asha sat c amt => cases sat <;> simp only [Bool.false_eq_true, if_true, if_false] <;> omega
  case ashar sat c a => cases sat <;> simp only [Bool.false_eq_true, if_true, if_false] <;> omega
  case movr rd rs =>
    have hrd := lt_of_kRegOk h.1
    have hrs := lt_of_kRegOk h.2
    omega
  case movil rd k =>
    have hrd := lt_of_kRegOk h.1
    omega
  case ld d p m k | st d p m k =>
    have hm := lt_of_kModeOk h.2
    omega
  case ldr r p m k =>
    have hr := lt_of_kRegOk h.1.1.2
    have hm := lt_of_kModeOk h.1.2
    omega
  case str r p m k =>
    have hr := lt_of_kRegOk h.1.2
    have hm := lt_of_kModeOk h.2
    omega
  all_goals omega

end Sys2Proof.Laws

/-! The statement about the encodings of the kernel instructions (13), settled. -/
namespace Sys2Proof.Proofs

open Sys2Proof.Machine Sys2Proof.Safety Sys2Proof.Laws

/-- Settles O56: one way the fields of an encoded word read back as its operands; the other way each group's fields, with those that
must be 0, make up the whole word. -/
theorem kernelCodecAgrees : Obligations.KernelCodecAgrees :=
  ⟨fun _ _ _ h => ⟨kDecode_kEncode h, kEncode_lt h⟩, fun _ _ _ _ _ hw hv h => kDecode_spells hw hv h⟩

end Sys2Proof.Proofs

/-! SUPPORT. The arithmetic of the kernel cores (13 R506 to R530; 14 R535, R539): what wraps, what saturates, and the decimal words. -/
namespace Sys2Proof.Laws

open Sys2Proof.Machine Sys2Proof.Safety

/-! ### Fields read as signed numbers -/

/-- A field read as a signed number is its two's complement value. -/
theorem signExt_toNat {n : Nat} (hn : 0 < n) (x : BitVec n) : signExt n x.toNat = x.toInt := by
  have hpow : 2 ^ n = 2 * 2 ^ (n - 1) := by rw [← Nat.pow_succ']; congr 1; omega
  have hcond : x.toNat < 2 ^ (n - 1) ↔ 2 * x.toNat < 2 ^ n := by omega
  simp only [signExt, BitVec.toInt_eq_toNat_cond, hcond, Nat.cast_pow, Nat.cast_ofNat]

/-! ### Words that wrap (13 R506) -/

theorem wrap24_add (a b : BitVec 24) : wrap24 (a.toInt + b.toInt) = a + b := by
  simp [wrap24, BitVec.ofInt_add]

theorem wrap24_sub (a b : BitVec 24) : wrap24 (a.toInt - b.toInt) = a - b := by
  simp [wrap24, Int.sub_eq_add_neg, BitVec.ofInt_add, BitVec.ofInt_neg, BitVec.sub_eq_add_neg]

theorem wrap24_mul (a b : BitVec 24) : wrap24 (a.toInt * b.toInt) = a * b := by
  simp [wrap24, BitVec.ofInt_mul]

theorem toInt_wrap24 {z : Int} (hlow : -2 ^ 23 ≤ z) (hhigh : z < 2 ^ 23) : (wrap24 z).toInt = z := by
  rw [wrap24, BitVec.toInt_ofInt, Int.bmod_def]; omega

/-! ### Words that saturate (13 R507, R526) -/

theorem satTo_toInt (z : Int) : (satTo 24 z).1.toInt = max (-2 ^ 23) (min (2 ^ 23 - 1) z) := by
  unfold satTo
  dsimp only
  split
  · rw [BitVec.toInt_ofInt, Int.bmod_def]; omega
  · split <;> rw [BitVec.toInt_ofInt, Int.bmod_def] <;> omega

theorem satTo_count (z : Int) : (satTo 24 z).2 = if z < -2 ^ 23 ∨ 2 ^ 23 ≤ z then 1 else 0 := by
  unfold satTo
  dsimp only
  split
  · rw [if_pos (by omega)]
  · split
    · rw [if_pos (by omega)]
    · rw [if_neg (by omega)]

/-- A product of two words lies far inside 47 bits, but for that of the two lowest words. -/
theorem word_product_le {x y : Int} (hx : -2 ^ 23 ≤ x ∧ x < 2 ^ 23) (hy : -2 ^ 23 ≤ y ∧ y < 2 ^ 23)
    (hlow : ¬ (x = -2 ^ 23 ∧ y = -2 ^ 23)) : -(2 ^ 23 * 2 ^ 23) ≤ x * y ∧ x * y ≤ 2 ^ 23 * (2 ^ 23 - 1) := by
  have habs : |x * y| ≤ 2 ^ 23 * 2 ^ 23 := by
    rw [abs_mul]
    exact mul_le_mul (abs_le.2 ⟨hx.1, hx.2.le⟩) (abs_le.2 ⟨hy.1, hy.2.le⟩) (abs_nonneg y) (by norm_num)
  refine ⟨(abs_le.1 habs).1, ?_⟩
  by_cases h : x = -2 ^ 23
  · have hy' : -(2 ^ 23 - 1) ≤ y := by omega
    subst h; linarith
  · have hx' : |x| ≤ 2 ^ 23 - 1 := abs_le.2 ⟨by omega, by omega⟩
    calc x * y ≤ |x| * |y| := by rw [← abs_mul]; exact le_abs_self _
      _ ≤ (2 ^ 23 - 1) * 2 ^ 23 := mul_le_mul hx' (abs_le.2 ⟨hy.1, hy.2.le⟩) (abs_nonneg y) (by norm_num)
      _ = 2 ^ 23 * (2 ^ 23 - 1) := by ring

theorem word_bounds (a : BitVec 24) : -2 ^ 23 ≤ a.toInt ∧ a.toInt < 2 ^ 23 := ⟨a.le_toInt, a.toInt_lt⟩

theorem word_lowest_iff (a : BitVec 24) : a = 0x800000 ↔ a.toInt = -2 ^ 23 :=
  ⟨fun h => by subst h; decide, fun h => BitVec.eq_of_toInt_eq (h.trans (by decide))⟩

/-- MULH saturates for the product of the two lowest words alone (13 R507). -/
theorem mulh_count (a b : BitVec 24) :
    (kAlu .mulh a b).2 = if a = 0x800000 ∧ b = 0x800000 then 1 else 0 := by
  simp only [kAlu, satTo_count, word_lowest_iff]
  by_cases hlow : a.toInt = -2 ^ 23 ∧ b.toInt = -2 ^ 23
  · rw [if_pos hlow, hlow.1, hlow.2]; decide
  · have h := word_product_le (word_bounds a) (word_bounds b) hlow
    rw [if_neg hlow, if_neg (by omega)]

/-! ### Division (13 R527) -/

/-- Division truncates: quotient and remainder of two words whose quotient is a word. -/
theorem kDiv_signed {a b : BitVec 24} (hb : b ≠ 0) (hover : ¬ (a = 0x800000 ∧ b = 0xFFFFFF)) :
    (kDiv true a b).1.toInt = a.toInt.tdiv b.toInt ∧ (kDiv true a b).2.1.toInt = a.toInt.tmod b.toInt
      ∧ (kDiv true a b).2.2 = (0, 0) := by
  have hb0 : b.toInt ≠ 0 := fun h => hb (BitVec.eq_of_toInt_eq h)
  have hq : -2 ^ 23 ≤ a.toInt.tdiv b.toInt ∧ a.toInt.tdiv b.toInt < 2 ^ 23 := by
    rw [word_lowest_iff, show b = 0xFFFFFF ↔ b.toInt = -1 from
      ⟨fun h => by subst h; decide, fun h => BitVec.eq_of_toInt_eq (h.trans (by decide))⟩] at hover
    have ha := word_bounds a
    by_cases hone : b.toInt = 1
    · rw [hone, Int.tdiv_one]; exact ha
    by_cases hminus : b.toInt = -1
    · rw [hminus, Int.tdiv_neg, Int.tdiv_one]; omega
    · have habs := Int.natAbs_tdiv a.toInt b.toInt
      have hhalf : a.toInt.natAbs / b.toInt.natAbs ≤ a.toInt.natAbs / 2 := Nat.div_le_div_left (by omega) (by decide)
      rw [show ∀ x y : Nat, x.div y = x / y from fun _ _ => rfl] at habs
      omega
  have hr : -2 ^ 23 ≤ a.toInt.tmod b.toInt ∧ a.toInt.tmod b.toInt < 2 ^ 23 := by
    have habs := Int.natAbs_tmod a.toInt b.toInt
    have hlt := Nat.mod_lt a.toInt.natAbs (show 0 < b.toInt.natAbs by omega)
    have hbounds := word_bounds b
    omega
  simp only [kDiv, if_true, if_neg hb, if_neg hover]
  exact ⟨toInt_wrap24 hq.1 hq.2, toInt_wrap24 hr.1 hr.2, trivial⟩

/-- The remainder takes the sign of the dividend (13 R527). -/
theorem tmod_sign_nonneg (a b : Int) : 0 ≤ a * a.tmod b := by
  rcases Int.le_total 0 a with h | h
  · exact mul_nonneg h (Int.tmod_nonneg b h)
  · have hneg := Int.tmod_nonneg b (show 0 ≤ -a by omega)
    rw [Int.neg_tmod] at hneg
    exact mul_nonneg_of_nonpos_of_nonpos h (by omega)

/-! ### Shifts (13 R525) -/

theorem natAbs_toInt_of_nonneg {b : BitVec 24} (h : 0 ≤ b.toInt) : b.toInt.natAbs = b.toNat := by
  rw [BitVec.toInt_eq_toNat_cond] at *; split at * <;> omega

/-! ### Decimal words (13 R530) -/

/-- A nibble of a word of six decimal digits. -/
theorem nibble_of_digits {d0 d1 d2 d3 d4 d5 : Nat} (h0 : d0 < 10) (h1 : d1 < 10) (h2 : d2 < 10) (h3 : d3 < 10) (h4 : d4 < 10)
    (h5 : d5 < 10) : let w := d0 + d1 * 16 + d2 * 256 + d3 * 4096 + d4 * 65536 + d5 * 1048576
    w < 16777216 ∧ w % 16 = d0 ∧ w / 16 % 16 = d1 ∧ w / 256 % 16 = d2 ∧ w / 4096 % 16 = d3 ∧ w / 65536 % 16 = d4
      ∧ w / 1048576 % 16 = d5 := by
  dsimp only; omega

/-- A fold over the six digit places. -/
theorem foldl_upto_six {α : Type} (f : α → Nat → α) (x : α) :
    (upto 6).foldl f x = f (f (f (f (f (f x 0) 1) 2) 3) 4) 5 := rfl

/-- A word of six decimal digits. -/
theorem bcdOf_toNat (n : Nat) : (bcdOf n).toNat = n % 10 + n / 10 % 10 * 16 + n / 100 % 10 * 256 + n / 1000 % 10 * 4096
    + n / 10000 % 10 * 65536 + n / 100000 % 10 * 1048576 := by
  have hd : ∀ m, m % 10 < 10 := fun m => Nat.mod_lt m (by decide)
  have h := nibble_of_digits (hd n) (hd (n / 10)) (hd (n / 100)) (hd (n / 1000)) (hd (n / 10000)) (hd (n / 100000))
  rw [bcdOf, BitVec.toNat_ofNat, foldl_upto_six, Nat.mod_eq_of_lt] <;> norm_num
  exact h.1

/-- The digits of a decimal word are those that it was made of. -/
theorem bcdDigit_bcdOf (n : Nat) {i : Nat} (hi : i < 6) : bcdDigit (bcdOf n) i = n / 10 ^ i % 10 := by
  have hd : ∀ m, m % 10 < 10 := fun m => Nat.mod_lt m (by decide)
  have h9 : ∀ m, min 9 (m % 10) = m % 10 := fun m => Nat.min_eq_right (Nat.le_of_lt_succ (hd m))
  have h := nibble_of_digits (hd n) (hd (n / 10)) (hd (n / 100)) (hd (n / 1000)) (hd (n / 10000)) (hd (n / 100000))
  rw [← bcdOf_toNat] at h
  obtain ⟨-, h0, h1, h2, h3, h4, h5⟩ := h
  rw [bcdDigit, bitsOf, Nat.shiftRight_eq_div_pow]
  generalize (bcdOf n).toNat = w at *
  interval_cases i <;> norm_num [h0, h1, h2, h3, h4, h5, h9]

/-- Six decimal digits spell the number that they were taken from. -/
theorem bcdValue_bcdOf {n : Nat} (hn : n < 1000000) : bcdValue (bcdOf n) = n := by
  have hsum : bcdValue (bcdOf n) = n % 10 + n / 10 % 10 * 10 + n / 100 % 10 * 100 + n / 1000 % 10 * 1000 + n / 10000 % 10 * 10000
      + n / 100000 % 10 * 100000 := by
    simp [bcdValue, upto, bcdDigit_bcdOf]
  omega

theorem clzBits_bounds {n x : Nat} (hx : x < 2 ^ n) (h0 : x ≠ 0) :
    clzBits x n < n ∧ 2 ^ (n - 1 - clzBits x n) ≤ x ∧ x < 2 ^ (n - clzBits x n) := by
  induction n with
  | zero => omega
  | succ n ih =>
    cases hbit : x.testBit n
    · have hlt : x < 2 ^ n := by
        refine Nat.lt_pow_two_of_testBit x (fun i hi => ?_)
        rcases Nat.eq_or_lt_of_le hi with rfl | hlt
        · exact hbit
        · exact Nat.testBit_lt_two_pow (hx.trans_le (Nat.pow_le_pow_right (by decide) hlt))
      obtain ⟨h1, h2, h3⟩ := ih hlt
      have hc : clzBits x (n + 1) = 1 + clzBits x n := by simp [clzBits, hbit]
      rw [hc]
      refine ⟨by omega, ?_, ?_⟩
      · convert h2 using 2; omega
      · convert h3 using 2; omega
    · have hc : clzBits x (n + 1) = 0 := by simp [clzBits, hbit]
      rw [hc]
      exact ⟨by omega, Nat.ge_two_pow_of_testBit hbit, hx⟩

/-! ### Sums of products (13 R529, 14 R535) -/

theorem kMul_mac (c : BitVec 56) (a b : BitVec 24) : kMul .mac c a b = c + BitVec.ofInt 56 (2 * (a.toInt * b.toInt)) := by
  simp [kMul, BitVec.ofInt_add]

/-- Multiply-accumulate over a list adds twice the sum of the products, modulo 2^56. -/
theorem foldl_mac (l : List (BitVec 24 × BitVec 24)) (c : BitVec 56) :
    l.foldl (fun c x => kMul .mac c x.1 x.2) c
      = c + BitVec.ofInt 56 ((l.map (fun x => 2 * (x.1.toInt * x.2.toInt))).sum) := by
  induction l generalizing c with
  | nil => simp
  | cons x l ih => rw [List.foldl_cons, ih, kMul_mac, List.map_cons, List.sum_cons, BitVec.ofInt_add, BitVec.add_assoc]

/-- A product of two words, doubled, is at most 2^47 either way. -/
theorem sum_products_bounds (l : List (BitVec 24 × BitVec 24)) :
    |(l.map (fun x => 2 * (x.1.toInt * x.2.toInt))).sum| ≤ 2 ^ 47 * (l.length : Int) := by
  induction l with
  | nil => simp
  | cons x l ih =>
    have hprod : |x.1.toInt * x.2.toInt| ≤ 2 ^ 46 := by
      have h1 := word_bounds x.1
      have h2 := word_bounds x.2
      rw [abs_mul]
      exact (mul_le_mul (abs_le.2 ⟨h1.1, h1.2.le⟩) (abs_le.2 ⟨h2.1, h2.2.le⟩) (abs_nonneg _) (by norm_num)).trans (by norm_num)
    rw [abs_le] at *
    simp only [List.map_cons, List.sum_cons, List.length_cons]
    push_cast
    omega

/-! ### Addressing (13 R510, R515) -/

/-- The offset of mode 0 is the pointer plus the signed immediate modulo 2^24. -/
theorem kOffset_zero (c : Core) (p i w : Nat) :
    (kOffset c p 0 i w : Int) = ((kReg c (8 + p)).v.toNat + signExt w i) % 2 ^ 24 := by
  simp only [kOffset, if_true, wrap24, BitVec.toNat_ofInt]
  have hpos := Int.emod_nonneg ((kReg c (8 + p)).v.toNat + signExt w i) (show ((2 ^ 24 : Nat) : Int) ≠ 0 by decide)
  rw [Int.toNat_of_nonneg hpos]; rfl

end Sys2Proof.Laws

/-! The statements about the kernel's addressing and arithmetic (13, 14), settled. -/
namespace Sys2Proof.Proofs

open Sys2Proof.Machine Sys2Proof.Safety Sys2Proof.Laws

/-- Settles O57: the offset of mode 0 is written without B or L, and no pointer comes of it. -/
theorem modeZeroIgnoresBaseAndLength : Obligations.ModeZeroIgnoresBaseAndLength := by
  intro c c' p w i hw hi hsame
  have hoff : ∀ d : Core, (kOffset d p 0 i w : Int) = ((kReg d (8 + p)).v.toNat + signExt w i) % 2 ^ 24 :=
    fun d => kOffset_zero d p i w
  refine ⟨?_, hoff c, rfl⟩
  have heq := (hoff c).trans ((congrArg (fun v : BitVec 24 => ((v.toNat : Int) + signExt w i) % 2 ^ 24) hsame).trans (hoff c').symm)
  exact Int.ofNat.inj heq

/-- Settles O58: each group of instructions by its law, and the sums of decimal words by the digits that spell them. -/
theorem kernelArithmeticIsExact : Obligations.KernelArithmeticIsExact := by
  intro a b fit past
  refine ⟨congrArg (·, 0) (wrap24_add a b), congrArg (·, 0) (wrap24_sub a b), congrArg (·, 0) (wrap24_mul a b),
    ⟨satTo_toInt _, satTo_count _⟩, ⟨satTo_toInt _, satTo_count _⟩, ⟨satTo_toInt _, satTo_count _⟩, ⟨satTo_toInt _, satTo_count _⟩,
    ⟨satTo_toInt _, ?mulhOne, ?mulhMost⟩, fun hb hover => ?div, fun hfar => ?far, fun hpos hnear => ?near,
    fun ha hb => ?decimal, fun ha => ?zeros⟩
  case mulhOne => rw [mulh_count]; exact ite_eq_left_iff.trans ⟨fun h => by_contra fun hn => absurd (h hn) (by decide), fun h hn => absurd h hn⟩
  case mulhMost => rw [mulh_count]; split <;> decide
  case div =>
    obtain ⟨hq, hr, hcounts⟩ := kDiv_signed hb hover
    have hb0 : b.toInt ≠ 0 := fun h => hb (BitVec.eq_of_toInt_eq h)
    have hless := Nat.mod_lt a.toInt.natAbs (show 0 < b.toInt.natAbs by omega)
    dsimp only
    rw [hq, hr]
    exact ⟨(Int.tdiv_mul_add_tmod ..).symm, by rw [Int.natAbs_tmod]; exact hless, tmod_sign_nonneg _ _, hcounts⟩
  case far =>
    have hn : 24 ≤ b.toInt.natAbs := by omega
    have h0 : 0 ≤ b.toInt := by omega
    simp [kAlu, kShift, shl, shr, h0, hn]
  case near =>
    have hn := natAbs_toInt_of_nonneg hpos
    have hlt : b.toNat < 24 := by omega
    simp only [kAlu, kShift, shl, shr, sar, hn, if_pos hpos, if_neg (Nat.not_le.2 hlt), Nat.min_eq_left hlt.le,
      BitVec.toInt_sshiftRight, Int.shiftRight_eq_div_pow]
    exact ⟨trivial, trivial, by simp⟩
  case decimal =>
    refine ⟨bcdValue_bcdOf (Nat.mod_lt _ (by decide)), bcdValue_bcdOf (Nat.mod_lt _ (by decide)), ?_⟩
    simp [kAlu, ha, hb, b2n]
  case zeros =>
    have hbounds := clzBits_bounds a.isLt (fun h => ha (BitVec.eq_of_toNat_eq h))
    have hclz : (kUna .clz a).1.toNat = clzBits a.toNat 24 := by
      simp only [kUna, clz24, BitVec.toNat_ofNat]; exact Nat.mod_eq_of_lt (by omega)
    rw [hclz]
    exact hbounds.2

/-- Settles O59: a fold of MAC adds the sum modulo 2^56, and 255 products stay inside the range. -/
theorem accumulatorsHoldLongSums : Obligations.AccumulatorsHoldLongSums := by
  refine ⟨fun l => ?_, fun c a => ⟨rfl, rfl, rfl⟩, fun c a b => ?_⟩
  · extract_lets z c
    have hc : c = BitVec.ofInt 56 z := by simp [c, foldl_mac, z]
    have hbounds := abs_le.1 (sum_products_bounds l)
    refine ⟨hc, fun hlow hhigh => ?_, fun hlen => ?_⟩
    · rw [hc, BitVec.toInt_ofInt, Int.bmod_def]; omega
    · have hlen' : (l.length : Int) ≤ 255 := by exact_mod_cast hlen
      constructor <;> simp only [z] <;> omega
  · constructor <;>
      simp only [kMul, Int.sub_eq_add_neg, BitVec.ofInt_add, BitVec.ofInt_toInt, BitVec.ofInt_neg, BitVec.add_assoc,
        BitVec.add_right_neg, BitVec.add_zero]

end Sys2Proof.Proofs

/-! SUPPORT. What a kernel instruction's row leaves (13 R496 to R533; 14 R544 to R554): the row of an instruction that its core issues is
what issuing it does, and an instruction that goes on is retired. -/
namespace Sys2Proof.Laws

open Sys2Proof.Machine Sys2Proof.Safety

variable {k : Nat} {i : KInstr} {w2 : Nat} {s : State}

/-! ### The row of an instruction that its core issues -/

/-- The row of the instruction at PC is what issuing it does. -/
theorem kRowWith_of_issues (extra : Nat) (h : Issues k i w2 s) : kRowWith k i extra s = kApply k i extra (kMeets s k i w2) s := by
  obtain ⟨hissues, hfetch⟩ := h
  simp [kRowWith, hissues, hfetch]

/-- An instruction that goes on is retired; `extra` cycles are those that it waited. -/
theorem exec_of_nextWith {row : Instr} {extra pc cycles : Nat} {c : Core} {taken : Bool}
    (hrow : exec row s = .next (kRowWith k i extra s)) (h : Issues k i w2 s) (hmeets : kMeets s k i w2 = .next c pc taken cycles) :
    exec row s = .next (retire k i c pc taken (cycles + extra) s) := by
  rw [hrow, kRowWith_of_issues extra h, hmeets]; rfl

theorem exec_of_next {row : Instr} {pc cycles : Nat} {c : Core} {taken : Bool} (hrow : exec row s = .next (kRow k i s))
    (h : Issues k i w2 s) (hmeets : kMeets s k i w2 = .next c pc taken cycles) :
    exec row s = .next (retire k i c pc taken cycles s) := exec_of_nextWith (extra := 0) hrow h hmeets

/-- A bank load stalls the core, with the load before it still to land. -/
theorem exec_of_bankLoad {row : Instr} {c : Core} {l : StalledLoad} (hrow : exec row s = .next (kRow k i s)) (h : Issues k i w2 s)
    (hmeets : kMeets s k i w2 = .bankLoad c l) :
    exec row s = .next (modCore k (fun _ => { c with slot := (coreOf s k).slot, stalled := some l }) s) := by
  rw [hrow, kRow, kRowWith_of_issues 0 h, hmeets]; rfl

theorem exec_of_wait {row : Instr} (hrow : exec row s = .next (kRow k i s)) (h : Issues k i w2 s) (hmeets : kMeets s k i w2 = .wait) :
    exec row s = .next (modCore k (fun c => { c with phase := .waiting }) s) := by
  rw [hrow, kRow, kRowWith_of_issues 0 h, hmeets]; rfl

/-- A HALT whose own completion meets no tagged loop register. -/
theorem exec_of_halt {row : Instr} (hrow : exec row s = .next (kRow k i s)) (h : Issues k i w2 s) (hmeets : kMeets s k i w2 = .halt)
    (hloop : (kComplete (coreOf s k) [] (coreBase s k) ((coreOf s k).pc + 1) false 1).2 = none) :
    exec row s = .next (haltCore k 1 (modCore k
      (fun _ => (kComplete (coreOf s k) [] (coreBase s k) ((coreOf s k).pc + 1) false 1).1) s)) := by
  have hloop' : (kComplete (coreOf s k) [] { coreOf s k with slot := none } ((coreOf s k).pc + 1) false 1).2 = none := hloop
  rw [hrow, kRow, kRowWith_of_issues 0 h, hmeets, kApply]
  simp only [hloop']
  rfl

/-! ### Operands read as numbers -/

theorem wrap24_signExt {n : Nat} (hn : 0 < n) (x : BitVec n) : wrap24 (signExt n x.toNat) = x.signExtend 24 := by
  rw [signExt_toNat hn]; rfl

theorem wrap24_add_signExt {n : Nat} (hn : 0 < n) (a : BitVec 24) (x : BitVec n) :
    wrap24 (a.toInt + signExt n x.toNat) = a + x.signExtend 24 := by
  rw [signExt_toNat hn, wrap24, BitVec.ofInt_add, BitVec.ofInt_toInt]; rfl

/-- What an accumulator shift by `z` gives, with its saturations (13 R525). -/
def accShift (sat : Bool) (v : BitVec 56) (z : Int) : BitVec 56 × Nat :=
  if sat then kShift 56 .asls v z else if z < 0 then kShift 56 .asr v (-z) else kShift 56 .lsl v z

theorem kDoAsh_next (x : KCtx) (sat : Bool) (n : Nat) (z : Int) (tag : Bool) :
    kDoAsh x sat n z tag = .next (kSetAcc (kCount rSATC (accShift sat (kAccOf x.c n).v z).2 (kBase x)) n
      { v := (accShift sat (kAccOf x.c n).v z).1, t := (kAccOf x.c n).t || tag }) (x.c.pc + 1) false 1 := by
  cases sat
  · by_cases hneg : z < 0
    · simp [kDoAsh, kAccResult, kNext, accShift, hneg, Int.not_le.2 hneg]
    · simp [kDoAsh, kAccResult, kNext, accShift, hneg, Int.not_lt.1 hneg]
  · simp [kDoAsh, kAccResult, kNext, accShift]

/-- FTAP whose pointers are untagged and whose three accesses the segments and the local memory hold (13 R519). -/
theorem kFtap_inside {x : KCtx} {n pc ps : Nat} (hpc : (kReg x.c (8 + pc)).t = false) (hps : (kReg x.c (8 + ps)).t = false)
    (hco : (kReg x.c (8 + pc)).v.toNat < (tget (0, 0) x.c.segs 0).2)
    (hxo : (kReg x.c (8 + ps)).v.toNat < (tget (0, 0) x.c.segs (segOf ps)).2)
    (hwo : (circular (kReg x.c (8 + ps)).v (kReg x.c (16 + ps)).v (kReg x.c (24 + ps)).v 1).toNat
      < (tget (0, 0) x.c.segs (segOf ps)).2)
    (hx : (tget (0, 0) x.c.segs (segOf ps)).1 + (kReg x.c (8 + ps)).v.toNat < 0x10000)
    (hw : (tget (0, 0) x.c.segs (segOf ps)).1
      + (circular (kReg x.c (8 + ps)).v (kReg x.c (16 + ps)).v (kReg x.c (24 + ps)).v 1).toNat < 0x10000) :
    let ds := tget (0, 0) x.c.segs (segOf ps)
    let v := tget KVal.zero x.c.dmem (ds.1 + (kReg x.c (8 + ps)).v.toNat)
    let a := kAccOf x.c n
    let c1 := kSetAcc { kBase x with
        dmem := tset KVal.zero x.c.dmem
          (ds.1 + (circular (kReg x.c (8 + ps)).v (kReg x.c (16 + ps)).v (kReg x.c (24 + ps)).v 1).toNat) v } n
      { v := kMul .mac a.v (tget 0 x.c.prog ((tget (0, 0) x.c.segs 0).1 + (kReg x.c (8 + pc)).v.toNat)) v.v, t := a.t || v.t }
    let c2 := kUpdate c1 ps (kPointer c1 ps 1 1023 10)
    kFtap x n pc ps = .next (kUpdate c2 pc (kPointer c2 pc 1 1 10)) (x.c.pc + 1) false 1 := by
  have hstep : ((kPointer x.c ps 1 1 10).getD KVal.zero).v
      = circular (kReg x.c (8 + ps)).v (kReg x.c (16 + ps)).v (kReg x.c (24 + ps)).v 1 := rfl
  simp only [kFtap, kClean, kAt, hstep, hpc, hps, hco, hxo, hwo, Nat.not_le.2 hx, Nat.not_le.2 hw, Bool.false_eq_true, if_true,
    if_false]
  rfl

end Sys2Proof.Laws

/-! The statements about the kernel instructions' rows (13, 14), settled. -/
namespace Sys2Proof.Proofs

open Sys2Proof.Machine Sys2Proof.Safety Sys2Proof.Laws

/-- Settles O25: each row's instruction goes on, and what it leaves is its own meaning with its operands read as numbers. -/
theorem kernelArithmeticRowsComplete : Obligations.KernelArithmeticRowsComplete := by
  refine ⟨fun f op hmem k d a b s w2 h => ?alu, fun f op hmem k d a s w2 h => ?una, fun f op hmem k d a amt s w2 h => ?shi,
    fun f op hmem k d a pos w s w2 h => ?ext, fun f sg hmem k d a b s w2 h => ?div,
    fun k d a i s w2 => ⟨fun h => ?addi, fun h => ?addpi⟩, fun k d i s w2 h => ?movi,
    fun k rd rs s w2 h => ⟨fun hacc => ?movAcc, fun hacc => ?movReg⟩, fun k rd i s w2 h => ?movil⟩
  case alu =>
    have hrow : exec (f k d a b) s = .next (kRow k (.alu op d a b) s) := by fin_cases hmem <;> rfl
    exact exec_of_next hrow h rfl
  case una =>
    have hrow : exec (f k d a) s = .next (kRow k (.una op d a) s) := by fin_cases hmem <;> rfl
    exact exec_of_next hrow h rfl
  case shi =>
    have hrow : exec (f k d a amt) s = .next (kRow k (.shi op d a amt.toNat) s) := by fin_cases hmem <;> rfl
    rw [← signExt_toNat (by decide) amt]
    exact exec_of_next hrow h rfl
  case ext =>
    have hrow : exec (f k d a pos w) s = .next (kRow k (.ext op d a pos w) s) := by fin_cases hmem <;> rfl
    exact exec_of_next hrow h rfl
  case div =>
    have hrow : exec (f k d a b) s = .next (kRow k (.div sg (2 * d) a b) s) := by fin_cases hmem <;> rfl
    exact exec_of_next hrow h rfl
  case addi => rw [← wrap24_add_signExt (by decide)]; exact exec_of_next rfl h rfl
  case addpi => rw [← wrap24_add_signExt (by decide)]; exact exec_of_next rfl h rfl
  case movi => rw [← wrap24_signExt (by decide)]; exact exec_of_next rfl h rfl
  case movAcc =>
    refine exec_of_next rfl h (if_pos ?_)
    obtain ⟨h1, h2, h3, h4⟩ := hacc
    exact ⟨⟨h1, h2⟩, h3, h4⟩
  case movReg => exact exec_of_next rfl h (if_neg fun hall => hacc ⟨hall.1.1, hall.1.2, hall.2⟩)
  case movil =>
    have hmeets : kMeets s k (.movil rd i.toNat) w2 = .next (kWrite (coreBase s k) rd { v := i, t := false })
        ((coreOf s k).pc + 2) false 2 := by
      simp only [kMeets, kExec, kDoMovil, BitVec.ofNat_toNat, BitVec.setWidth_eq]; rfl
    exact exec_of_next rfl h hmeets

/-- Settles O26: each row's instruction goes on with its accumulator written; FTAP's three accesses pass their checks. -/
theorem kernelAccumulatorRowsComplete : Obligations.KernelAccumulatorRowsComplete := by
  refine ⟨fun f op hmem k n a b s w2 h => ?mul, fun f op hmem k n s w2 h => ?acu, fun f op hmem k n m s w2 h => ?acb,
    fun f sat hmem k n amt s w2 h => ?asha, fun f sat hmem k n a s w2 h => ?ashar,
    fun k n pc ps s w2 h hpc hps hco hxo hwo hx hw => ?ftap⟩
  case mul =>
    have hrow : exec (f k n a b) s = .next (kRow k (.mul op n a b) s) := by fin_cases hmem <;> rfl
    exact exec_of_next hrow h rfl
  case acu =>
    have hrow : exec (f k n) s = .next (kRow k (.acu op n) s) := by fin_cases hmem <;> rfl
    exact exec_of_next hrow h rfl
  case acb =>
    have hrow : exec (f k n m) s = .next (kRow k (.acb op n m) s) := by fin_cases hmem <;> rfl
    exact exec_of_next hrow h rfl
  case asha =>
    have hrow : exec (f k n amt) s = .next (kRow k (.asha sat n amt.toNat) s) := by fin_cases hmem <;> rfl
    refine exec_of_next hrow h ?_
    rw [kMeets, kExec, signExt_toNat (by decide), kDoAsh_next, Bool.or_false]
    rfl
  case ashar =>
    have hrow : exec (f k n a) s = .next (kRow k (.ashar sat n a) s) := by fin_cases hmem <;> rfl
    refine exec_of_next hrow h ?_
    rw [kMeets, kExec, kDoAsh_next]
    rfl
  case ftap =>
    refine exec_of_next rfl h ?_
    simp only [kMeets, kExec]
    exact kFtap_inside hpc hps hco hxo hwo hx hw

end Sys2Proof.Proofs

/-! SUPPORT. Loads, stores and control instructions whose checks pass (13 R499, R510 to R523). -/
namespace Sys2Proof.Laws

open Sys2Proof.Machine Sys2Proof.Safety

variable {x : KCtx}

/-! ### Checks that pass -/

theorem kClean_untagged {access reg : Nat} {tag : Bool} (go : KOut) (h : tag = false) : kClean x access reg tag go = go := by
  simp [kClean, h]

theorem kAt_inside {seg off access : Nat} (go : Nat → KOut) (h : off < (tget (0, 0) x.c.segs seg).2) :
    kAt x seg off access go = go ((tget (0, 0) x.c.segs seg).1 + off) := if_pos h

theorem kJump_inside {c : Core} {target : Nat} (cycles : Nat) (h : target < (tget (0, 0) x.c.segs 0).2) :
    kJump x c target cycles = .next c target true cycles := if_pos h

/-! ### Places of the data map (13 R496) -/

theorem kPlace_local {a : Nat} (h : a < 0x400000) : kPlace a = .loc a := if_pos h

theorem kPlace_bank {a : Nat} (hlow : 0x400000 ≤ a) (hhigh : a < 0x800000) : kPlace a = .slot (a - 0x400000) := by
  rw [kPlace, if_neg (Nat.not_lt.2 hlow), if_pos hhigh]

/-! ### Loads and stores (13 R510 to R518, R524) -/

/-- What a load of a word into a register keeps of it. -/
def loadPart (part : Option Nat) (w : KVal) : KVal := match part with
  | none => w
  | some q => { w with v := slotPart w.v.toNat q }

theorem kLoad_local {epoch r a : Nat} {part : Option Nat} {new : Option KVal} {p : Nat} (h : a < 0x400000) :
    kLoad x epoch r a part new p
      = kNext x { kUpdate (kBase x) p new with slot := some (r, loadPart part (tget KVal.zero x.c.dmem a)) } := by
  simp only [kLoad, kPlace_local h]; rfl

theorem kLoad_bank {epoch r a : Nat} {part : Option Nat} {new : Option KVal} {p : Nat} (hlow : 0x400000 ≤ a) (hhigh : a < 0x800000) :
    kLoad x epoch r a part new p = .bankLoad (kUpdate (kBase x) p new) { dest := r, slot := a - 0x400000, part := part } := by
  simp only [kLoad, kPlace_bank hlow hhigh]

/-- The word that a store leaves in the local memory. -/
def storePart (part : Option Nat) (old v : KVal) : KVal := match part with
  | none => v
  | some q => { v := localPart old.v v.v q, t := old.t || v.t }

theorem kStore_local {c : Core} {a : Nat} {v : KVal} {part : Option Nat} {new : Option KVal} {p : Nat} (h : a < 0x400000) :
    kStore x c a v part new p
      = kNext x (kUpdate { c with dmem := tset KVal.zero c.dmem a (storePart part (tget KVal.zero c.dmem a) v) } p new) := by
  simp only [kStore, kPlace_local h]; rfl

theorem kStore_bank {c : Core} {a : Nat} {v : KVal} {part : Option Nat} {new : Option KVal} {p : Nat} (hlow : 0x400000 ≤ a)
    (hhigh : a < 0x800000) (hroom : c.posted.length < 8) :
    kStore x c a v part new p = kNext x (kUpdate { c with
      posted := c.posted ++ [⟨a - 0x400000, v.v, v.t, part, c.gen⟩] } p new) := by
  simp only [kStore, kPlace_bank hlow hhigh, if_neg (Nat.not_le.2 hroom)]

/-- A data register is read as it stands (13 R504). -/
theorem kSource_data (k : Nat) (c : Core) {d : Nat} (h : d < 8) : kSource k c d = (kReg c d, c) := by
  have h32 : ¬ (32 ≤ d ∧ d < 36) := by omega
  have h40 : ¬ (40 ≤ d ∧ d < 48) := by omega
  have h48 : ¬ (48 ≤ d ∧ d < 52) := by omega
  have h60 : d ≠ 60 := by omega
  have h61 : d ≠ 61 := by omega
  simp only [kSource, kRead, if_neg h32, if_neg h40, if_neg h48, if_neg h60, if_neg h61]

/-! ### Loops and repeats (13 R520, R521) -/

/-- LOOP away from the end of a running loop: a count of 0 skips the body. -/
theorem kDoLoop_outside (count : BitVec 24) (e : Nat) (h : kLoopEnd x.c = false) :
    let c1 := kWrite (kWrite (kWrite (kBase x) rLC { v := count, t := false }) rLS { v := BitVec.ofNat 24 (x.c.pc + 2), t := false })
      rLE { v := BitVec.ofNat 24 e, t := false }
    kDoLoop x count e = if count = 0 then .next c1 (e + 1) false 3 else .next c1 (x.c.pc + 2) false 2 := by
  simp only [kDoLoop, h, Bool.false_eq_true, if_false]

/-- REP and REPR before a repeatable instruction: a count of 0 skips it. -/
theorem kDoRep_repeatable {n sats : Nat} {j : KInstr} (hroom : x.c.pc + 1 < (tget (0, 0) x.c.segs 0).2)
    (hone : kTwoWords (kWordAt x.c (x.c.pc + 1)) = false)
    (hnext : kDecode (decide (12 ≤ x.k)) (x.c.pc + 1) (kWordAt x.c (x.c.pc + 1)) 0 = some j) (hrep : kRepeatable j = true)
    (hloop : kLoopEnd x.c = false) :
    kDoRep x n sats none = if n = 0 then .next (kCount rSATC sats (kBase x)) (x.c.pc + 2) false 1
      else .next { kCount rSATC sats (kBase x) with rep := some n } (x.c.pc + 1) false 1 := by
  have hlimit : ¬ kLimit x.c ≤ x.c.pc + 1 := Nat.not_le.2 hroom
  have hnext' : kDecode (kTransform x.k) (x.c.pc + 1) (kWordAt x.c (x.c.pc + 1)) 0 = some j := hnext
  simp only [kDoRep, if_neg hlimit, hnext', hone, hrep, hloop, Bool.not_false, Bool.and_self, Bool.not_true, Bool.false_eq_true, if_false]

/-- An instruction that goes on in one of two ways. -/
theorem exec_of_next_ite {k : Nat} {i : KInstr} {w2 : Nat} {s : State} {row : Instr} {p : Prop} [Decidable p] {c1 c2 : Core}
    {pc1 pc2 cycles1 cycles2 : Nat} {taken1 taken2 : Bool} (hrow : exec row s = .next (kRow k i s)) (h : Issues k i w2 s)
    (hmeets : kMeets s k i w2 = if p then .next c1 pc1 taken1 cycles1 else .next c2 pc2 taken2 cycles2) :
    exec row s = .next (if p then retire k i c1 pc1 taken1 cycles1 s else retire k i c2 pc2 taken2 cycles2 s) := by
  by_cases hp : p
  · rw [if_pos hp] at hmeets ⊢; exact exec_of_next hrow h hmeets
  · rw [if_neg hp] at hmeets ⊢; exact exec_of_next hrow h hmeets

end Sys2Proof.Laws

/-! The statements about the kernel's loads, stores and control instructions (13, 14), settled. -/
namespace Sys2Proof.Proofs

open Sys2Proof.Machine Sys2Proof.Safety Sys2Proof.Laws

/-- Settles O27: an access whose pointer is untagged and whose offset its segment holds reaches its place, local or in a bank. -/
theorem kernelMemoryRowsComplete : Obligations.KernelMemoryRowsComplete := by
  refine ⟨fun k d p m i s w2 htag hoff => ⟨fun h hlocal => ?ld, fun h hlow hhigh => ?ldBank, fun h hlocal => ?st,
      fun h hlow hhigh hroom => ?stBank⟩,
    fun k r p m i s w2 htag hoff hlocal => ⟨fun h => ?ldr, fun h => ?str⟩,
    fun k d p q i s w2 htag hoff hlocal h => ?ldx, fun k d p q i s w2 htag hoff hlocal h => ?stx,
    fun k d p m i s w2 htag hoff h => ?ldc⟩
  case ld | ldr =>
    refine exec_of_next rfl h ?_
    rw [kMeets, kExec, kLd, kClean_untagged _ htag, kAt_inside _ hoff, kLoad_local hlocal]; rfl
  case ldBank =>
    refine exec_of_bankLoad rfl h ?_
    rw [kMeets, kExec, kLd, kClean_untagged _ htag, kAt_inside _ hoff, kLoad_bank hlow hhigh]; rfl
  case st =>
    refine exec_of_next rfl h ?_
    rw [kMeets, kExec, kSt, kClean_untagged _ htag, kAt_inside _ hoff, kStore_local hlocal, kSource_data _ _ d.isLt]; rfl
  case stBank =>
    refine exec_of_next rfl h ?_
    rw [kMeets, kExec, kSt, kClean_untagged _ htag, kAt_inside _ hoff]
    dsimp only
    rw [kSource_data _ _ d.isLt]
    exact kStore_bank (c := kBase ⟨k, coreOf s k, w2, _⟩) hlow hhigh hroom
  case str =>
    refine exec_of_next rfl h ?_
    rw [kMeets, kExec, kSt, kClean_untagged _ htag, kAt_inside _ hoff, kStore_local hlocal]; rfl
  case ldx =>
    refine exec_of_next rfl h ?_
    rw [kMeets, kExec, kClean_untagged _ htag, kAt_inside _ hoff, kLoad_local hlocal]; rfl
  case stx =>
    refine exec_of_next rfl h ?_
    rw [kMeets, kExec, kClean_untagged _ htag, kAt_inside _ hoff, kStore_local hlocal]; rfl
  case ldc =>
    refine exec_of_next rfl h ?_
    rw [kMeets, kExec, kLdc, kClean_untagged _ htag, kAt_inside _ hoff]; rfl

/-- Settles O28: a jump whose target CS holds is taken, a branch whose condition fails goes on in line, and loops and repeats set
their registers. -/
theorem kernelControlRowsComplete : Obligations.KernelControlRowsComplete := by
  refine ⟨fun k s w2 => ⟨fun h => ?nop, fun h => ?ei, fun h => ?di, fun waited h hposted => ?fence, fun h => ?wait,
      fun h hloop => ?halt⟩,
    fun k s w2 => ⟨fun h htag hin => ?ret, fun h hin => ?reti, fun p htag hin => ⟨fun h => ?jr, fun h => ?callr⟩,
      fun t hin => ⟨fun h => ?j, fun h => ?call⟩⟩,
    fun k s w2 cc => ⟨fun a b off h ha hb => ⟨fun hc hin => ?br, fun hc => ?brNot⟩, fun a i t h ha => ⟨fun hc hin => ?bri, fun hc => ?briNot⟩,
      fun a off h ha => ⟨fun hc hin => ?bra, fun hc => ?braNot⟩⟩,
    fun k s w2 j hroom hone hnext hrep hloop => ⟨fun n h => ?rep, fun d h htag => ?repr⟩,
    fun k s w2 e hloop => ⟨fun n h => ?loopImm, fun d h htag => ?loopReg⟩⟩
  case nop | ei | di => exact exec_of_next rfl h rfl
  case fence =>
    refine exec_of_nextWith rfl h ?_
    simp only [kMeets, kExec, kDoCtl, hposted, List.isEmpty_nil, if_true]; rfl
  case wait => exact exec_of_wait rfl h rfl
  case halt => exact exec_of_halt rfl h rfl hloop
  case ret =>
    refine exec_of_next rfl h ?_
    rw [kMeets, kExec, kDoCtl, kClean_untagged _ htag, kJump_inside _ hin]; rfl
  case reti =>
    refine exec_of_next rfl h ?_
    rw [kMeets, kExec, kDoCtl, kJump_inside _ hin]; rfl
  case jr | callr =>
    refine exec_of_next rfl h ?_
    rw [kMeets, kExec, kClean_untagged _ htag, kJump_inside _ hin]; rfl
  case j | call =>
    refine exec_of_next rfl h ?_
    rw [kMeets, kExec, kJump_inside _ hin]; rfl
  case br =>
    refine exec_of_next rfl h ?_
    rw [kMeets, kExec, kClean_untagged _ ha, kClean_untagged _ hb, kBranch, if_pos hc]
    exact kJump_inside _ hin
  case brNot =>
    refine exec_of_next rfl h ?_
    rw [kMeets, kExec, kClean_untagged _ ha, kClean_untagged _ hb, kBranch, if_neg (by rw [hc]; decide)]; rfl
  case bri =>
    refine exec_of_next rfl h ?_
    rw [kMeets, kExec, kClean_untagged _ ha, kBranch, wrap24_signExt (by decide), if_pos hc]
    exact kJump_inside _ hin
  case briNot =>
    refine exec_of_next rfl h ?_
    rw [kMeets, kExec, kClean_untagged _ ha, kBranch, wrap24_signExt (by decide), if_neg (by rw [hc]; decide)]; rfl
  case bra =>
    refine exec_of_next rfl h ?_
    rw [kMeets, kExec, kClean_untagged _ ha, kBranch, if_pos hc]
    exact kJump_inside _ hin
  case braNot =>
    refine exec_of_next rfl h ?_
    rw [kMeets, kExec, kClean_untagged _ ha, kBranch, if_neg (by rw [hc]; decide)]; rfl
  case rep =>
    exact exec_of_next_ite rfl h (kDoRep_repeatable hroom hone hnext hrep hloop)
  case repr =>
    refine exec_of_next_ite rfl h ?_
    have htag' : ¬ (kReg (coreOf s k) d).t = true := by rw [htag]; decide
    rw [kMeets, kExec, kDoRepr]
    dsimp only
    rw [if_neg htag', kDoRep_repeatable (x := ⟨k, coreOf s k, w2, s.kernels.draws⟩) hroom hone hnext hrep hloop, b2n]
    simp only [decide_eq_true_eq]
    rfl
  case loopImm =>
    refine exec_of_next_ite rfl h ?_
    rw [kMeets, kExec]
    exact kDoLoop_outside _ _ hloop
  case loopReg =>
    refine exec_of_next_ite rfl h ?_
    have hloop' : ¬ kLoopEnd (coreOf s k) = true := by rw [hloop]; decide
    rw [kMeets, kExec, if_neg hloop', kClean_untagged _ htag]
    exact kDoLoop_outside _ _ hloop

end Sys2Proof.Proofs

/-! SUPPORT. The events of a kernel's life whose conditions are met (13 R517; 14 R544 to R566). -/
namespace Sys2Proof.Laws

open Sys2Proof.Machine Sys2Proof.Safety

/-! ### Granules without an error (15 R582) -/

/-- Reading granules that hold no error finds nothing and corrects nothing. -/
theorem decodeGranules_clean {gs : List Nat} {s : State} (h : ∀ g ∈ gs, poisoned s g = false) : decodeGranules gs [] s = (s, false) := by
  induction gs with
  | nil => rfl
  | cons g gs ih =>
    have hg : poisoned s g = false := h g List.mem_cons_self
    simp [decodeGranules, decodeGranule, hg, ih fun x hx => h x (List.mem_cons_of_mem _ hx)]

/-! ### A kernel's own writes, and its emit -/

theorem kernelWrite_placed {k : Nat} {s : State} (f : Core → Core) (h : (coreOf s k).phase = .running ∨ (coreOf s k).phase = .waiting) :
    kernelWrite k f s = modCore k f s :=
  if_pos (by rcases h with h | h <;> rw [h] <;> rfl)

theorem ioEmitLen_free {c : Core} {v : Nat} (hfree : c.emitStat ≠ 1) (hlen : v ≤ 4096) (hfits : emitFits c v = true) :
    ioEmitLen v c = { c with emitLen := v, emitStat := 1, emitGen := c.gen } := by
  have hbad : ¬ (4096 < v ∨ (!emitFits c v) = true) := by simp [hfits, hlen]
  rw [ioEmitLen, if_neg hfree, if_neg hbad]

theorem ioOutboxN_empty {c : Core} {v : Nat} (hempty : c.outboxN = 0) (hlow : 1 ≤ v) (hhigh : v ≤ 64) :
    ioOutboxN v c = { c with outboxN := v } := by
  rw [ioOutboxN, if_neg (not_not.2 hempty), if_pos ⟨hlow, hhigh⟩]

/-- A busy emit of the current generation, from error-free bytes that its bank serves, is sent (14 R558). -/
theorem emitDone_served {k : Nat} {s : State} (hbusy : (coreOf s k).emitStat = 1)
    (hwait : bankWaits s k (slotBank ((coreOf s k).emitAddr - 0x400000)) = false) (hgen : (coreOf s k).emitGen = (coreOf s k).gen)
    (hplaced : (coreOf s k).gen ≠ 0) (hserves : bankServes s k (slotBank ((coreOf s k).emitAddr - 0x400000)) = true)
    (hclean : ∀ g ∈ granulesOf (slotAddr ((coreOf s k).emitAddr - 0x400000)) (coreOf s k).emitLen, poisoned s g = false) :
    emitDone k [] s = modCore k (fun x => kPend 8 { x with emitStat := 2, emits := (x.emits + 1) % 2 ^ 32 })
      (postKernel 6 k (coreOf s k).gen 0 0 (bankBytes s (slotAddr ((coreOf s k).emitAddr - 0x400000)) (coreOf s k).emitLen) s) := by
  have hstale : ¬ ((coreOf s k).emitGen ≠ (coreOf s k).gen ∨ (coreOf s k).gen = 0) := by simp [hgen, hplaced]
  have hgo : ¬ ((decide ((coreOf s k).emitStat ≠ 1) || bankWaits s k (slotBank ((coreOf s k).emitAddr - 0x400000))) = true) := by
    simp [hbusy, hwait]
  have hnone : (granulesOf (slotAddr ((coreOf s k).emitAddr - 0x400000)) (coreOf s k).emitLen).any (poisoned s) = false := by
    simpa using hclean
  simp only [emitDone, if_neg hgo, if_neg hstale, hserves, Bool.not_true, Bool.false_eq_true, if_false, decodeGranules_clean hclean, hnone,
    b2n, Nat.mul_zero]

/-! ### Deliveries, stores and loads -/

/-- A message delivery of the current generation is put into its ring, and its bit is set where an entry was written (log 77). -/
theorem subscriptionDelivery_current {k : Nat} {errs : List Nat} {s : State} {d : Delivery} {rest : List Delivery}
    (htake : takeDelivery k s.kernels.deliveries = some (d, rest))
    (hwait : bankWaits s k (slotBank ((subRing (coreOf s k) d.ring).ring - 0x400000)) = false) (hgen : d.gen = (coreOf s k).gen)
    (hplaced : d.gen ≠ 0) (hkind : d.kind ≠ 1) :
    let u := putEntry k d.ring d errs { s with kernels.deliveries := rest }
    subscriptionDelivery k errs s = if (subRing (coreOf u k) d.ring).wr = (subRing (coreOf s k) d.ring).wr then u
      else modCore k (kPend (2 ^ (4 + d.ring))) u := by
  intro u
  have hstale : ¬ (d.gen ≠ (coreOf { s with kernels.deliveries := rest } k).gen ∨ d.gen = 0) := not_or.2 ⟨not_not.2 hgen, hplaced⟩
  have hnot : (d.kind == 1) = false := beq_eq_false_iff_ne.2 hkind
  simp only [subscriptionDelivery, htake, hwait, Bool.false_eq_true, if_false, if_neg hstale, hnot, Bool.false_and, Bool.false_or,
    Bool.not_eq_true', bne_eq_false_iff_eq]
  rfl

/-- A posted store of the current generation reaches a bank that serves its core (13 R517). -/
theorem commitStore_served {k : Nat} {p : PostedStore} {errs : List Nat} {s : State} (hgen : p.gen = (coreOf s k).gen)
    (hplaced : p.gen ≠ 0) (hserves : bankServes s k (slotBank p.slot) = true) :
    commitStore k p errs s = writeBank (slotAddr p.slot + (storeBytes p).1) (storeBytes p).2 p.tag errs s := by
  have hstale : ¬ (p.gen ≠ (coreOf s k).gen ∨ p.gen = 0) := not_or.2 ⟨not_not.2 hgen, hplaced⟩
  simp only [commitStore, if_neg hstale, hserves, Bool.not_true, Bool.false_eq_true, if_false]

/-- The part of a returned word that a load keeps. -/
def returnedPart (part : Option Nat) (w : Nat) : BitVec 24 := match part with
  | none => BitVec.ofNat 24 (w % 2 ^ 24)
  | some q => slotPart w q

/-- A stalled load returns from a bank that serves its core, once every store has committed (13 R517). -/
theorem bankLoadReturn_served {k stall errs : Nat} {s : State} {l : StalledLoad} {i : KInstr} (hstalled : (coreOf s k).stalled = some l)
    (hpc : kAtPc k (coreOf s k) = some i) (hposted : (coreOf s k).posted = []) (hwait : bankWaits s k (slotBank l.slot) = false)
    (hserves : bankServes s k (slotBank l.slot) = true) :
    let g := granuleOf (slotAddr l.slot)
    let u := (decodeGranule g errs s).1
    let c0 := { coreOf u k with stalled := none }
    bankLoadReturn k stall errs s = kSettle k (kComplete c0 (kWrites i) { c0 with
      slot := some (l.dest, { v := returnedPart l.part (ofLe (bankBytes u (slotAddr l.slot) 4)), t := poisoned u g }) }
      (c0.pc + 1) false (1 + stall)) u := by
  simp only [bankLoadReturn, hstalled, hpc, hposted, hwait, hserves, List.isEmpty_nil, Bool.not_true, Bool.or_self, Bool.false_eq_true,
    if_true, if_false, Bool.true_and]
  rfl

/-! ### The watchdog and failover (14 R561, R562) -/

/-- The record of a core that missed its heartbeats. -/
def expiryRecord (s : State) (k : Nat) : List Byte :=
  faultBytes s (coreOf s k) { code := 4, seg := 255, access := 255, reg := 255, pc := (coreOf s k).pc, word2 := 0, off := 0 }

/-- A quarantined core, reported. -/
def expired (k : Nat) (s : State) : State :=
  postKernel 4 k (coreOf s k).gen 0 0 (expiryRecord s k)
    (modCore k (fun x => { kStopped .quarantined x with faultRec := expiryRecord s k, gen := 0, posted := [] }) s)

/-- A placement that missed three epochs, with no store outstanding: it moves to a spare, or its banks go back to the host. -/
theorem watchdogExpiry_expired {k : Nat} {s : State} (hdog : (coreOf s k).watchdog = true) (hmisses : 3 ≤ (coreOf s k).misses)
    (hplaced : (coreOf s k).gen ≠ 0) (hposted : (coreOf s k).posted = []) :
    watchdogExpiry k s = match if (coreOf s k).eligible then spareFor (expired k s) k else none with
      | some sp => moveToSpare k (coreOf s k).gen sp (expired k s)
      | none =>
        let u := handAll k 1 4 (expired k s)
        if (coreOf s k).eligible then modCore k (fun c' => { c' with failFrom := some (k, (coreOf s k).gen) }) u else u := by
  have hgo : ((coreOf s k).watchdog && decide (3 ≤ (coreOf s k).misses) && (coreOf s k).gen != 0) = true := by
    simp [hdog, hmisses, hplaced]
  simp only [watchdogExpiry, if_pos hgo, hposted, foldS, List.foldl_nil]
  rfl

end Sys2Proof.Laws

/-! The statements about the kernels' events (14), settled. -/
namespace Sys2Proof.Proofs

open Sys2Proof.Machine Sys2Proof.Safety Sys2Proof.Laws

/-- Settles O23: each event whose conditions are met does its one thing. -/
theorem kernelPortEventsComplete : Obligations.KernelPortEventsComplete := by
  refine ⟨fun k s hplaced => ⟨?beat, fun v => ?pend, fun v => ?emit, ?ack, fun v => ?outbox, fun v hk => ?bexp⟩,
    fun c v => ioEmitLen_free, fun c v => ioOutboxN_empty, fun k s hbusy hwait hgen hplaced hserves hclean => ?done,
    fun k errs s d rest htake hwait hgen hplaced hkind => ⟨fun hnew => ?entry, fun hsame => ?noEntry⟩, fun k s t rest hdue => ?image,
    fun k stall errs s p rest hposted hwait hgen hplaced hserves => ?store,
    fun k stall errs s l i hstalled hpc hposted hwait hserves v hv => ?load, fun k s hisland hrun hirq => ?irq⟩
  case beat | pend | emit | ack | outbox => exact congrArg Host.Outcome.next (kernelWrite_placed _ hplaced)
  case bexp =>
    have htr : kTransform k.val = true := decide_eq_true hk
    refine congrArg Host.Outcome.next ((if_pos htr).trans ?_)
    exact kernelWrite_placed _ hplaced
  case done => exact congrArg Host.Outcome.next (emitDone_served hbusy hwait hgen hplaced hserves hclean)
  case entry => exact congrArg Host.Outcome.next ((subscriptionDelivery_current htake hwait hgen hplaced hkind).trans (if_neg hnew))
  case noEntry => exact congrArg Host.Outcome.next ((subscriptionDelivery_current htake hwait hgen hplaced hkind).trans (if_pos hsame))
  case image =>
    refine congrArg Host.Outcome.next ?_
    simp only [imageStored, hdue]
  case store =>
    refine congrArg Host.Outcome.next ?_
    simp only [postedCommit, hposted, hwait, Bool.false_eq_true, if_false]
    exact commitStore_served hgen hplaced hserves
  case load =>
    subst hv
    exact congrArg Host.Outcome.next (bankLoadReturn_served hstalled hpc hposted hwait hserves)
  case irq => exact congrArg Host.Outcome.next (if_pos ⟨hisland, hrun, hirq⟩)

/-- Settles O24: each event of a kernel's life, where its conditions are met. -/
theorem kernelLifeEventsComplete : Obligations.KernelLifeEventsComplete := by
  refine ⟨fun k s hstart => ?entry, fun k s hdog hmisses hplaced helig hposted => ?expiry,
    fun k s sp hdog hmisses hplaced helig hposted hspare => ?spare,
    fun k s j gen hfind hfrom => ⟨fun hj => ?impossible, fun hj => ?failover⟩, fun k cycles s hwait hpend => ?wake,
    fun k s f hissues hfetch => ?illegal⟩
  case entry => exact congrArg Host.Outcome.next (if_pos hstart)
  case expiry =>
    refine congrArg Host.Outcome.next ((watchdogExpiry_expired hdog hmisses hplaced hposted).trans ?_)
    simp only [helig, Bool.false_eq_true, if_false]
    rfl
  case spare =>
    have hspare' : spareFor (expired k s) k = some sp := hspare
    refine congrArg Host.Outcome.next ((watchdogExpiry_expired hdog hmisses hplaced hposted).trans ?_)
    simp only [helig, if_true, hspare']
    rfl
  case impossible =>
    refine congrArg Host.Outcome.next ?_
    rw [failoverStart, hfind]
    simp only [hfrom, Option.getD_some, if_pos hj]
  case failover =>
    refine congrArg Host.Outcome.next ?_
    rw [failoverStart, hfind]
    simp only [hfrom, Option.getD_some, if_neg hj]
  case wake => exact congrArg Host.Outcome.next (if_pos ⟨hwait, hpend⟩)
  case illegal =>
    refine congrArg Host.Outcome.next ?_
    rw [kIllegal, if_pos hissues, hfetch]

end Sys2Proof.Proofs

/-! SUPPORT. The forms of the kernel commands that pass their own checks (14 R551 to R567). -/
namespace Sys2Proof.Laws

open Sys2Proof.Machine Sys2Proof.Safety

variable {p : Packet} {s : State}

/-- The words of a command's tail, as KRN_LOAD and KRN_MAILBOX store them. -/
def tailWords (p : Packet) (o : Nat) : List Nat := slotWords (p.params.drop o)

theorem krnLoadAct_ok (hk : u8 p.params 0 ≤ 15) (ht : u8 p.params 1 ≤ 2) (hsome : 1 ≤ u16 p.params 2) (hmany : u16 p.params 2 ≤ 1020)
    (hroom : u32 p.params 4 + u16 p.params 2 ≤ targetSize (u8 p.params 1)) (hzero : zeroAt p.params 8 4 = true)
    (hwords : ∀ w ∈ tailWords p 12, w < 2 ^ 24) (hactive : coreActive (coreOf s (u8 p.params 0)) = false)
    (hquar : (coreOf s (u8 p.params 0)).phase ≠ .quarantined) (hspare : coreSpare s (u8 p.params 0) = false)
    (htaken : coreTaken (coreOf s (u8 p.params 0)) (u8 p.params 0) = false) :
    krnLoadAct p s = done (modCore (u8 p.params 0) (fun c => { c with
      image := storeWords c.image (u8 p.params 1) (u32 p.params 4) ((tailWords p 12).map (BitVec.ofNat 24)) }) s) := by
  have hvalues : (decide (15 < u8 p.params 0) || decide (2 < u8 p.params 1) || u16 p.params 2 == 0 || decide (1020 < u16 p.params 2)
      || decide (targetSize (u8 p.params 1) < u32 p.params 4 + u16 p.params 2) || !zeroAt p.params 8 4
      || (tailWords p 12).any (fun w => decide (2 ^ 24 ≤ w))) = false := by
    simpa [hzero, Nat.one_le_iff_ne_zero.1 hsome, Nat.not_lt.2 hk, Nat.not_lt.2 ht, Nat.not_lt.2 hmany, Nat.not_lt.2 hroom]
      using hwords
  exact (rejectIf_of_not hvalues).trans (rejectIf_of_not (by simp [hactive, hquar, hspare, htaken]))

/-- A placed core: what KRN_START leaves of core `k`, with generation `g`. -/
def placedCore (f g : Nat) (c : Core) : Core :=
  { copyImage (freshIo c) with
    phase := .starting, gen := g, lastGen := g, watchdog := f.testBit 0, eligible := f.testBit 1, cause := 1 }

theorem krnStartAct_ok (hk : u8 p.params 0 ≤ 15) (hflags : u8 p.params 1 = 0 ∨ u8 p.params 1 = 1 ∨ u8 p.params 1 = 3)
    (hzero : zeroAt p.params 2 6 = true) (hactive : coreActive (coreOf s (u8 p.params 0)) = false)
    (hquar : (coreOf s (u8 p.params 0)).phase ≠ .quarantined)
    (htaken : coreTaken (coreOf s (u8 p.params 0)) (u8 p.params 0) = false)
    (hloaded : tget 0 (coreOf s (u8 p.params 0)).image.high 2 ≠ 0) (hdesc : descOk (coreOf s (u8 p.params 0)).image = true)
    (hfree : reservedCore s (u8 p.params 0) = false) (htest : (bstOf s (38 + u8 p.params 0)).result ≠ 2)
    (howns : ∀ r ∈ descRings (coreOf s (u8 p.params 0)).image, kOwns s (u8 p.params 0) (slotBank (r.ring - 0x400000)) = true)
    (hallowed : coreAllowed s (u8 p.params 0) = true) :
    krnStartAct p s = answer (le 1 (u8 p.params 0) ++ zeros 1 ++ le 2 (nextGen (coreOf s (u8 p.params 0)).lastGen))
      (modCore (u8 p.params 0) (placedCore (u8 p.params 1) (nextGen (coreOf s (u8 p.params 0)).lastGen))
        { dropEmit (u8 p.params 0) s with kernels.spares := setBit s.kernels.spares (u8 p.params 0) false }) := by
  have hvalues : (decide (15 < u8 p.params 0) || u8 p.params 1 == 2 || decide (3 < u8 p.params 1) || !zeroAt p.params 2 6) = false := by
    rcases hflags with h | h | h <;> simp [h, hzero, Nat.not_lt.2 hk]
  have howned : (descRings (coreOf s (u8 p.params 0)).image).any (fun r => !kOwns s (u8 p.params 0) (slotBank (r.ring - 0x400000)))
      = false := by
    simpa [List.any_eq_false] using howns
  exact (rejectIf_of_not hvalues).trans ((rejectIf_of_not (by simp [hactive, hquar, htaken, hloaded, hdesc, hfree, htest])).trans
    ((rejectIf_of_not howned).trans (rejectIf_of_not (by simp [hallowed]))))

theorem krnStopAct_ok (hzero : zeroAt p.params 1 1 = true)
    (hnamed : u8 p.params 0 = 255 ∧ u16 p.params 2 = 0
      ∨ u8 p.params 0 ≤ 15 ∧ (u16 p.params 2 = 0 ∨ u16 p.params 2 = (coreOf s (u8 p.params 0)).gen)) :
    krnStopAct p s = done (foldS stopCore (if u8 p.params 0 = 255 then upto 16 else [u8 p.params 0]) s) := by
  have hvalues : ((decide (15 < u8 p.params 0) && u8 p.params 0 != 255) || (u8 p.params 0 == 255 && u16 p.params 2 != 0)
      || !zeroAt p.params 1 1) = false := by
    rcases hnamed with ⟨hall, hgen⟩ | ⟨hk, -⟩
    · simp [hall, hgen, hzero]
    · simp [hzero, Nat.not_lt.2 hk, show u8 p.params 0 ≠ 255 by omega]
  have hcurrent : (u16 p.params 2 != 0 && u16 p.params 2 != (coreOf s (u8 p.params 0)).gen) = false := by
    rcases hnamed with ⟨-, hgen⟩ | ⟨-, hgen | hgen⟩ <;> simp [hgen]
  exact (rejectIf_of_not hvalues).trans (rejectIf_of_not hcurrent)

/-- The first 16 bytes of KRN_STATUS's reply. -/
def krnStatusHead (s : State) (k : Nat) : List Byte :=
  let c := coreOf s k
  le 1 k ++ le 1 (coreCode s k) ++ le 1 (b2n c.watchdog + 2 * b2n c.eligible + 4 * b2n c.ie + 8 * b2n (tget 0 c.image.high 2 != 0))
    ++ le 1 c.cause ++ le 2 c.gen ++ zeros 2 ++ le 4 (kReg c rSATC).v.toNat ++ le 4 (kReg c rDZC).v.toNat

/-- What follows: the fault record and the counts. -/
def krnStatusTail (c : Core) : List Byte :=
  c.faultRec ++ (le 2 c.stale ++ (le 2 c.refused ++ ((upto 4).flatMap (fun n => le 1 (tget 0 c.subDrops n)) ++ (le 4 c.emits
    ++ (le 2 c.misses ++ zeros 2)))))

/-- A field inside the head of a byte string. -/
theorem field_append {a b : List Byte} {o n : Nat} (h : o + n ≤ a.length) : field (a ++ b) o n = field a o n := by
  rw [field, field, List.drop_append_of_le_length (by omega), List.take_append_of_le_length (by rw [List.length_drop]; omega)]

/-- KRN_STATUS answers the core's state and counters, and changes nothing (14 R567). -/
theorem krnStatusAct_answer (hk : u8 p.params 0 ≤ 15) (hzero : zeroAt p.params 1 3 = true) :
    krnStatusAct p s = answer (krnStatusHead s (u8 p.params 0) ++ krnStatusTail (coreOf s (u8 p.params 0))) s :=
  (rejectIf_of_not (by simp [hzero, Nat.not_lt.2 hk])).trans (by simp only [krnStatusHead, krnStatusTail, List.append_assoc])

theorem krnSparesAct_ok (hzero : zeroAt p.params 2 2 = true)
    (hfree : ∀ k ∈ maskBits 16 (u16 p.params 0), coreActive (coreOf s k) = false ∧ coreTaken (coreOf s k) k = false
      ∧ reservedCore s k = false ∧ coreAllowed s k = true) :
    krnSparesAct p s = done { s with kernels.spares := u16 p.params 0 } := by
  have hbusy : (maskBits 16 (u16 p.params 0)).any (fun k => coreActive (coreOf s k) || coreTaken (coreOf s k) k || reservedCore s k)
      = false := by
    refine List.any_eq_false.2 fun k hk => ?_
    obtain ⟨hactive, htaken, hreserved, -⟩ := hfree k hk
    simp [hactive, htaken, hreserved]
  have hallowed : (maskBits 16 (u16 p.params 0)).any (fun k => !coreAllowed s k) = false := by
    refine List.any_eq_false.2 fun k hk => ?_
    obtain ⟨-, -, -, hcore⟩ := hfree k hk
    simp [hcore]
  exact (rejectIf_of_not (by simp [hzero])).trans ((rejectIf_of_not hbusy).trans (rejectIf_of_not hallowed))

/-- KRN_MAILBOX past its checks: a write fills the inbox, a read takes the outbox (14 R559). -/
theorem krnMailboxAct_ok (hk : u8 p.params 0 ≤ 15) (hop : u8 p.params 1 ≤ 1) (hn : u8 p.params 4 ≤ 64)
    (hzero : zeroAt p.params 5 3 = true) (hwords : ∀ w ∈ tailWords p 8, w < 2 ^ 24)
    (hactive : coreActive (coreOf s (u8 p.params 0)) = true)
    (hgen : u16 p.params 2 = 0 ∨ u16 p.params 2 = (coreOf s (u8 p.params 0)).gen)
    (hwrite : u8 p.params 1 = 0 → u8 p.params 4 ≠ 0 ∧ (coreOf s (u8 p.params 0)).inbox = []) :
    let c := coreOf s (u8 p.params 0)
    let got := (upto (min (u8 p.params 4) c.outboxN)).map (fun i => tget KVal.zero c.outbox i)
    krnMailboxAct p s = if u8 p.params 1 = 0
      then done (modCore (u8 p.params 0) (fun c => kPend 2 { c with inbox := (tailWords p 8).map (BitVec.ofNat 24) }) s)
      else .ok (128 * b2n (got.any (fun w => w.t))) (got.flatMap (fun w => le 4 w.v.toNat))
        (if 0 < c.outboxN ∧ c.outboxN ≤ u8 p.params 4 then modCore (u8 p.params 0) (fun c => kPend 4 { c with outboxN := 0 }) s
          else s) := by
  intro c got
  have hsome : (u8 p.params 1 == 0 && u8 p.params 4 == 0) = false := by simpa using fun h => (hwrite h).1
  have hvalues : (decide (15 < u8 p.params 0) || decide (1 < u8 p.params 1) || decide (64 < u8 p.params 4)
      || (u8 p.params 1 == 0 && u8 p.params 4 == 0) || !zeroAt p.params 5 3
      || (tailWords p 8).any (fun w => decide (2 ^ 24 ≤ w))) = false := by
    simpa [hsome, hzero, Nat.not_lt.2 hk, Nat.not_lt.2 hop, Nat.not_lt.2 hn] using hwords
  have hcurrent : (u16 p.params 2 != 0 && u16 p.params 2 != c.gen) = false := by
    rcases hgen with h | h <;> simp [h, c]
  have hempty : (u8 p.params 1 == 0 && !c.inbox.isEmpty) = false := by simpa [c] using fun h => (hwrite h).2
  refine ((rejectIf_of_not hvalues).trans ((rejectIf_of_not (by simp [hactive])).trans
    ((rejectIf_of_not hcurrent).trans (rejectIf_of_not hempty)))).trans ?_
  simp only [decide_eq_true_eq]
  rfl

end Sys2Proof.Laws

/-! The statement about the kernel commands (14), settled. -/
namespace Sys2Proof.Proofs

open Sys2Proof.Machine Sys2Proof.Safety Sys2Proof.Laws

/-- Settles O22: each accepted form passes its command's own checks, and the row commits what the command then answers. -/
theorem kernelCommandsComplete : Obligations.KernelCommandsComplete := by
  refine ⟨fun p s h hk ht hsome hmany hroom hzero hwords hactive hquar hspare htaken => ?load,
    fun p s h hk hflags hzero hactive hquar htaken hloaded hdesc hfree htest howns hallowed => ?start, fun p s h hzero hnamed => ?stop,
    fun p s h hk hzero => ?status, fun p s h hzero hfree => ?spares,
    fun p s h hk hn hzero hwords hactive hgen => ⟨fun hop hsome hempty => ?write, fun hop => ?read⟩⟩
  case load => exact exec_of_act_ok rfl h (krnLoadAct_ok hk ht hsome hmany hroom hzero hwords hactive hquar hspare htaken)
  case start =>
    exact exec_of_act_ok rfl h (krnStartAct_ok hk hflags hzero hactive hquar htaken hloaded hdesc hfree htest howns hallowed)
  case stop => exact exec_of_act_ok rfl h (krnStopAct_ok hzero hnamed)
  case status =>
    refine ⟨_, exec_of_act_ok rfl h (krnStatusAct_answer hk hzero), ?_, ?_, ?_, ?_, ?_⟩ <;> exact field_append (by decide : _ ≤ 16)
  case spares => exact exec_of_act_ok rfl h (krnSparesAct_ok hzero hfree)
  case write =>
    exact exec_of_act_ok rfl h ((krnMailboxAct_ok hk (by omega) hn hzero hwords hactive hgen fun _ => ⟨hsome, hempty⟩).trans
      (if_pos hop))
  case read =>
    have hop' : u8 p.params 1 ≠ 0 := by omega
    exact exec_of_act_ok rfl h ((krnMailboxAct_ok hk (by omega) hn hzero hwords hactive hgen fun h0 => absurd h0 hop').trans
      (if_neg hop'))

end Sys2Proof.Proofs

/-! SUPPORT. The shared banks' commands and events whose conditions are met, and the bytes that a scrub and a BAR2 access leave
(12 R481; 15 R570 to R589). -/
namespace Sys2Proof.Laws

open Sys2Proof.Machine Sys2Proof.Safety

variable {p : Packet} {s : State}

/-! ### Commands (15 R587 to R589) -/

theorem memOwnerAct_ok (hbank : u8 p.params 0 ≤ 15) (howner : u8 p.params 1 = 1 ∨ 0x10 ≤ u8 p.params 1 ∧ u8 p.params 1 ≤ 0x1F)
    (hrotate : u8 p.params 2 ≤ 1) (hzero : zeroAt p.params 3 1 = true) (hhost : (bankOf s (u8 p.params 0)).owner = 1)
    (hallowed : u8 p.params 1 ≠ 1 → coreAllowed s (u8 p.params 1 - 0x10) = true) :
    memOwnerAct p s = done (handBank (u8 p.params 0) (u8 p.params 1) 1
      (modBank (u8 p.params 0) (fun x => { x with rotate := u8 p.params 2 == 1 }) s)) := by
  have howner' : (!(u8 p.params 1 == 1 || decide (0x10 ≤ u8 p.params 1 ∧ u8 p.params 1 ≤ 0x1F))) = false := by
    rcases howner with h | h <;> simp [h]
  have hallowed' : (u8 p.params 1 != 1 && !coreAllowed s (u8 p.params 1 - 0x10)) = false := by simpa using hallowed
  have hvalues : (decide (15 < u8 p.params 0) || !(u8 p.params 1 == 1 || decide (0x10 ≤ u8 p.params 1 ∧ u8 p.params 1 ≤ 0x1F))
      || decide (1 < u8 p.params 2) || !zeroAt p.params 3 1) = false := by
    rw [howner', hzero, decide_eq_false (Nat.not_lt.2 hbank), decide_eq_false (Nat.not_lt.2 hrotate)]; rfl
  exact (rejectIf_of_not hvalues).trans ((rejectIf_of_not (by simp [hhost])).trans (rejectIf_of_not hallowed'))

theorem memScrubAct_ok (hbank : u8 p.params 0 ≤ 15) (hclear : u8 p.params 1 ≤ 1) (hzero : zeroAt p.params 2 2 = true)
    (hoff : u32 p.params 4 % 32 = 0) (hlen : u32 p.params 8 % 32 = 0) (hsome : 32 ≤ u32 p.params 8)
    (hinside : u32 p.params 4 + u32 p.params 8 ≤ bankSize) (hready : bankReady s (u8 p.params 0) = true) (hfree : s.scrub = none)
    (howns : u8 p.params 1 = 1 → (bankOf s (u8 p.params 0)).owner = 1) :
    memScrubAct p s = done { s with
      scrub := some
        { bank := u8 p.params 0, clear := u8 p.params 1 == 1, off := u32 p.params 4, len := u32 p.params 8, corrected := 0 } } := by
  have howns' : (u8 p.params 1 == 1 && (bankOf s (u8 p.params 0)).owner != 1) = false := by simpa using howns
  exact (rejectIf_of_not (by
      simp [hzero, hoff, hlen, Nat.not_lt.2 hbank, Nat.not_lt.2 hclear, Nat.not_lt.2 hsome, Nat.not_lt.2 hinside])).trans
    ((rejectIf_of_not (by simp [hready, hfree])).trans (rejectIf_of_not howns'))

/-- The 32 bytes of MEM_STATUS (15 R589). -/
def memStatusReply (s : State) (n : Nat) : List Byte :=
  let x := bankOf s n
  le 1 n ++ le 1 (if !x.powered then 0 else if !x.ready then 1 else 2) ++ le 1 x.owner
    ++ le 1 (b2n x.rotate + 2 * b2n x.drain + 4 * b2n (scrubbing s n) + 8 * b2n x.poisonFound) ++ le 4 x.corrected ++ le 4 x.uncorr
    ++ le 2 x.notOwnerWr ++ le 2 x.notOwnerRd ++ le 2 x.offAccess ++ le 2 x.unaligned ++ le 2 x.stale ++ le 2 x.refused
    ++ le 4 x.scrubPasses ++ le 4 (x.lastUncorr.getD 0xFFFFFFFF)

theorem memStatusAct_answer (hbank : u8 p.params 0 ≤ 15) (hclear : u8 p.params 1 ≤ 1) (hzero : zeroAt p.params 2 2 = true) :
    memStatusAct p s = answer (memStatusReply s (u8 p.params 0))
      (if u8 p.params 1 = 1 then modBank (u8 p.params 0) clearCounters s else s) :=
  rejectIf_of_not (by simp [hzero, Nat.not_lt.2 hbank, Nat.not_lt.2 hclear])

/-! ### Scrubbing (15 R586, R588) -/

theorem Sends.scrub {s t : State} (h : Sends s t) : t.scrub = s.scrub := by
  have := congrArg State.scrub h.quiet; exact this

/-- Taking out of a table the addresses that `q` names. -/
theorem tget_filter_key {α : Type} (d : α) (q : Nat → Bool) (t : Tab α) (k : Nat) :
    tget d (t.filter (fun x => q x.1)) k = if q k then tget d t k else d := by
  induction t with
  | nil => simp [tget]
  | cons x t ih =>
    obtain ⟨j, v⟩ := x
    by_cases hk : k = j
    · subst hk
      cases hq : q k
      · simp [hq, ih]
      · simp [hq, tget]
    · cases hq : q j
      · simp [hq, ih, tget, hk]
      · simp [hq, ih, tget, hk]

/-- A granule that holds no error, visited by the scrubber. -/
theorem scrubGranule_clean {b : Nat} (hready : bankReady s b = true) (hclean : poisoned s (32768 * b + (bankOf s b).scrubPos) = false) :
    scrubGranule b 0 s = if (bankOf s b).scrubPos = 32767
      then modBank b (fun x => { x with scrubPos := 0, scrubPasses := (x.scrubPasses + 1) % 2 ^ 32 }) s
      else modBank b (fun x => { x with scrubPos := (bankOf s b).scrubPos + 1 }) s := by
  have hdecode : (decodeGranule (32768 * b + (bankOf s b).scrubPos) 0 s).1 = s := by simp [decodeGranule, hclean]
  simp only [scrubGranule, hready, if_true, hdecode]

/-- A scrub with CLEAR leaves the memory without the addresses of its range. -/
theorem memScrubComplete_clear {j : ScrubJob} (fixed bad : List Nat) (hjob : s.scrub = some j) (hclear : j.clear = true) :
    (memScrubComplete fixed bad s).scrub = none ∧ (memScrubComplete fixed bad s).bankMem
      = s.bankMem.filter (fun x => !decide (bankSize * j.bank + j.off ≤ x.1 ∧ x.1 < bankSize * j.bank + j.off + j.len)) := by
  simp only [memScrubComplete, hjob, hclear, if_true]
  exact ⟨(sends_postStatus _ _ _ _).scrub, bankEvent_bankMem _ _ _ _ _ _⟩

/-! ### The host through BAR2 (12 R481) -/

/-- The whole DWORDs of an aligned access are the access itself. -/
theorem dwords_of_aligned {off n : Nat} (hoff : off % 4 = 0) (hn : n % 4 = 0) :
    off - off % 4 = off ∧ (off + n + 3) / 4 * 4 - (off - off % 4) = n := by omega

/-- An aligned BAR2 read by the owning host of error-free bytes that are not rotated. -/
theorem bar2Read_served {off n : Nat} (hup : pcieUp s = true) (hsome : 0 < n) (hoff : off % 4 = 0) (hn : n % 4 = 0)
    (hgood : badRequest off n = false) (hready : bankReady s (off / bankSize) = true) (hhost : (bankOf s (off / bankSize)).owner = 1)
    (hdrain : (bankOf s (off / bankSize)).drain = false) (hrotate : (bankOf s (off / bankSize)).rotate = false)
    (hclean : ∀ g ∈ granulesOf off n, poisoned s g = false) :
    bar2Read off n [] s = { s with pcie.ur := false, pcie.ep := false, ecsol.bus := bankBytes s off n } := by
  obtain ⟨hfirst, hlen⟩ := dwords_of_aligned hoff hn
  rw [hfirst] at hlen
  have hnone : (granulesOf off n).any (poisoned s) = false := by simpa [List.any_eq_false] using hclean
  have hclean' : ∀ g ∈ granulesOf off n, poisoned { s with pcie.ur := false, pcie.ep := false } g = false := hclean
  have hnone' : (granulesOf off n).any (poisoned { s with pcie.ur := false, pcie.ep := false }) = false := hnone
  have hready' : bankReady { s with pcie.ur := false, pcie.ep := false } (off / bankSize) = true := hready
  simp only [bar2Read, hfirst, hlen, hup, hdrain, hgood, hready', hhost, hrotate, decodeGranules_clean hclean', hnone',
    beq_eq_false_iff_ne.2 (Nat.ne_of_gt hsome), Bool.not_true, Bool.false_and, Bool.or_self, Bool.false_eq_true, false_and, if_false,
    ne_eq, not_true_eq_false]
  rfl

/-- An aligned BAR2 write of the owning host is a bank write. -/
theorem bar2Write_served {off : Nat} {bs : List Byte} {errs : List Nat} (hup : pcieUp s = true) (hsome : bs ≠ []) (hoff : off % 4 = 0)
    (hn : bs.length % 4 = 0) (hgood : badRequest off bs.length = false) (hready : bankReady s (off / bankSize) = true)
    (hhost : (bankOf s (off / bankSize)).owner = 1) (hdrain : (bankOf s (off / bankSize)).drain = false) :
    bar2Write off bs true errs s = writeBank off bs false errs { s with pcie.ur := false } := by
  have hready' : bankReady { s with pcie.ur := false } (off / bankSize) = true := hready
  simp [bar2Write, hup, hdrain, hgood, hready', hhost, hoff, hn, hsome]

/-- Reading granules in which the hardware finds no wrong bit reaches no port of PCIe. -/
theorem decodeGranules_noErrors_pcie (gs : List Nat) (s : State) : (decodeGranules gs [] s).1.pcie = s.pcie := by
  induction gs generalizing s with
  | nil => rfl
  | cons g gs ih =>
    refine (ih _).trans ?_
    by_cases hp : poisoned s g = true
    · simp [decodeGranule, hp]
    · simp [decodeGranule, hp]

theorem writeBank_noErrors_pcie (addr : Nat) (bytes : List Byte) (tag : Bool) (s : State) :
    (writeBank addr bytes tag [] s).pcie = s.pcie :=
  (foldS_frame State.pcie (tagGranule addr bytes.length tag) (fun _ _ => rfl) (granulesOf addr bytes.length) _).trans (decodeGranules_noErrors_pcie _ _)

/-- The bytes of the banks after a write. -/
theorem bankByte_writeBank (addr : Nat) (bytes : List Byte) (tag : Bool) (errs : List Nat) (s : State) (x : Nat) :
    bankByte (writeBank addr bytes tag errs s) x
      = if addr ≤ x ∧ x < addr + bytes.length then bytes.getD (x - addr) 0 else bankByte s x := by
  split
  case isTrue hin => exact writeBank_in addr bytes tag errs s hin
  case isFalse hout => exact writeBank_out addr bytes tag errs s (by omega)

end Sys2Proof.Laws

/-! The statement about the shared banks (15), settled. -/
namespace Sys2Proof.Proofs

open Sys2Proof.Machine Sys2Proof.Safety Sys2Proof.Laws

/-- Settles O6: each accepted command passes its own checks, and each event whose conditions are met does its one thing. -/
theorem bankCommandsComplete : Obligations.BankCommandsComplete := by
  refine ⟨fun p s h hbank howner hrotate hzero hhost hallowed => ?owner,
    fun p s h hbank hclear hzero hoff hlen hsome hinside hready hfree howns => ?scrub, fun p s h hbank hclear hzero => ?status,
    fun b s hmain hpowered hready => ?ready, fun b s hdrain hbusy => ?drain, fun b s hready hclean => ?granule,
    fun fixed bad s j hjob hclear => ?complete,
    fun off n s hup hsome hoff hn hgood hready hhost hdrain hrotate hclean => ?read,
    fun off bs s hwf hup hsome hoff hn hgood hready hhost hdrain => ?write, fun b v s hup hhost hvalid => ?ownerReg⟩
  case owner => exact exec_of_act_ok rfl h (memOwnerAct_ok hbank howner hrotate hzero hhost hallowed)
  case scrub => exact exec_of_act_ok rfl h (memScrubAct_ok hbank hclear hzero hoff hlen hsome hinside hready hfree howns)
  case status => exact ⟨_, rfl, rfl, rfl, rfl, rfl, rfl, exec_of_act_ok rfl h (memStatusAct_answer hbank hclear hzero)⟩
  case ready =>
    refine congrArg Host.Outcome.next ((if_pos hmain).trans ?_)
    exact if_pos ⟨hpowered, by rw [hready]; rfl⟩
  case drain => exact congrArg Host.Outcome.next (if_pos ⟨hdrain, by rw [hbusy]; rfl⟩)
  case granule => exact congrArg Host.Outcome.next (scrubGranule_clean hready hclean)
  case complete =>
    obtain ⟨hdone, hmem⟩ := memScrubComplete_clear fixed bad hjob hclear
    refine ⟨_, rfl, hdone, fun x hlow hhigh => ?_, fun x hout => ?_⟩
    · rw [bankByte, hmem, tget_filter_key 0 (fun a => !decide (bankSize * j.bank + j.off ≤ a ∧ a < bankSize * j.bank + j.off + j.len))]
      simp [hlow, hhigh]
    · rw [bankByte, hmem, tget_filter_key 0 (fun a => !decide (bankSize * j.bank + j.off ≤ a ∧ a < bankSize * j.bank + j.off + j.len))]
      simp only [hout, decide_false, Bool.not_false, if_true]
      rfl
  case read =>
    exact ⟨_, congrArg Host.Outcome.next (bar2Read_served hup hsome hoff hn hgood hready hhost hdrain hrotate hclean), rfl, rfl, rfl⟩
  case write =>
    refine ⟨_, congrArg Host.Outcome.next (bar2Write_served hup hsome hoff hn hgood hready hhost hdrain), ?_, fun x => ?_⟩
    · exact congrArg Pcie.ur (writeBank_noErrors_pcie off.toNat bs false { s with pcie.ur := false })
    · exact bankByte_writeBank off.toNat bs false [] { s with pcie.ur := false } x
  case ownerReg =>
    have hhost' : ¬ (bankOf s b).owner ≠ 1 := not_not.2 hhost
    refine congrArg Host.Outcome.next ((if_pos hup).trans ?_)
    simp only [ownerWrite, if_neg hhost', hvalid, Bool.not_true, Bool.false_eq_true, if_false]

end Sys2Proof.Proofs

/-! SUPPORT. The forms of the key, life-cycle and self-test commands that pass their own checks (02 R100; 17 R625 to R636). -/
namespace Sys2Proof.Laws

open Sys2Proof.Machine Sys2Proof.Safety

variable {p : Packet} {s : State}

/-! ### Keys and the life cycle (17 R631 to R636) -/

theorem secKeyInstallAct_ok (hslot : u8 p.params 0 ≤ 3) (hzero : zeroAt p.params 1 3 = true) (hzero' : zeroAt p.params 40 8 = true)
    (hkcv : field p.params 36 4 = (hmac (field p.params 4 32) [0x41, 0x45, 0x4C, 0x45, 0x54, 0x4F, 0x53, 0x4B]).take 4)
    (hfree : (slotOf s (u8 p.params 0)).state ≠ 1) :
    secKeyInstallAct p s = done (postStatus 0x0F (u8 p.params 0) (secEvent s 1 (u8 p.params 0) 0)
      (reloadKeys (modSlot (u8 p.params 0)
        (fun x => { x with state := 1, key := field p.params 4 32, highWater := 0, failures := 0 }) s))) :=
  have hkcv' : (field p.params 36 4 != (hmac (field p.params 4 32) [0x41, 0x45, 0x4C, 0x45, 0x54, 0x4F, 0x53, 0x4B]).take 4) = false := by
    rw [← hkcv, bne_self_eq_false]
  (rejectIf_of_not (by rw [hkcv', hzero, hzero', decide_eq_false (Nat.not_lt.2 hslot)]; rfl)).trans
    (rejectIf_of_not (beq_eq_false_iff_ne.2 hfree))

theorem secKeyRetireAct_ok (hslot : u8 p.params 0 ≤ 3) (hzero : zeroAt p.params 1 3 = true)
    (hactive : (slotOf s (u8 p.params 0)).state = 1) (hother : authNeeded s.security.life = true → (activeSlots s).length ≠ 1) :
    secKeyRetireAct p s = done (postStatus 0x0F (u8 p.params 0) (secEvent s 2 (u8 p.params 0) 0)
      (reloadKeys (modSlot (u8 p.params 0) (fun x => { x with state := 2, key := [] }) s))) := by
  have hother' : (authNeeded s.security.life && (activeSlots s).length == 1) = false := by simpa using hother
  exact (rejectIf_of_not (by simp [hzero, Nat.not_lt.2 hslot])).trans (rejectIf_of_not (by simp [hactive, hother']))

theorem secCounterQueryAct_answer (hslot : u8 p.params 0 ≤ 3) (hzero : zeroAt p.params 1 3 = true) :
    let x := slotOf s (u8 p.params 0)
    secCounterQueryAct p s = answer (le 1 x.state ++ le 1 x.failures ++ le 2 (lockMs s x) ++ le 8 x.highWater) s :=
  rejectIf_of_not (by simp [hzero, Nat.not_lt.2 hslot])

theorem secLifecycleAct_ok (hzero : zeroAt p.params 1 1 = true) (hmagic : u16 p.params 2 = 0xC35A)
    (hnext : u8 p.params 0 = lifeCode s.security.life + 1) (hlast : u8 p.params 0 ≤ 4)
    (hkey : u8 p.params 0 = 2 → activeSlots s ≠ []) :
    secLifecycleAct p s = done { s with
      ecsol.window := .security,
      security.op := some { zeroize := false, erase := u8 p.params 0 == 4, scope := 0, burn := lifeOf (u8 p.params 0),
                            erased := false, doneMs := none } } := by
  have hsome : u8 p.params 0 ≠ 0 := by omega
  have hkey' : (u8 p.params 0 == 2 && (activeSlots s).isEmpty) = false := by simpa using hkey
  exact (rejectIf_of_not (by simp [hsome, hzero, hmagic, Nat.not_lt.2 hlast])).trans
    ((rejectIf_of_not (by simpa using hnext)).trans (rejectIf_of_not hkey'))

theorem secZeroizeAct_ok (hscope : u8 p.params 0 ≤ 1) (hzero : zeroAt p.params 1 1 = true) (hmagic : u16 p.params 2 = 0xC35A) :
    secZeroizeAct p s = done { s with
      ecsol.window := .security,
      security.op := some { zeroize := true, erase := true, scope := u8 p.params 0,
                            burn := if authNeeded s.security.life then some .returned else none, erased := false,
                            doneMs := none } } :=
  rejectIf_of_not (by simp [hzero, hmagic, Nat.not_lt.2 hscope])

/-! ### Self-tests (17 R625, R626) -/

theorem bstScheduleAct_ok (henable : u8 p.params 0 ≤ 1) (hzero : zeroAt p.params 1 1 = true) (hbudget : 50 ≤ u16 p.params 2)
    (hbudget' : u16 p.params 2 ≤ 2000) (hcycle : 60 ≤ u32 p.params 4) (hcycle' : u32 p.params 4 ≤ 86400) :
    bstScheduleAct p s = done { s with
      bst.enable := u8 p.params 0 == 1, bst.budget := u16 p.params 2, bst.cycle := u32 p.params 4 } :=
  rejectIf_of_not (by
    simp [hzero, Nat.not_lt.2 henable, Nat.not_lt.2 hbudget, Nat.not_lt.2 hbudget', Nat.not_lt.2 hcycle, Nat.not_lt.2 hcycle'])

theorem bstRunNowAct_ok (hblock : u8 p.params 0 ≤ 56) (hmode : u8 p.params 1 = 0 ∨ u8 p.params 1 = 1 ∧ u8 p.params 0 = 56)
    (hbudget : u16 p.params 2 = 0 ∨ 50 ≤ u16 p.params 2 ∧ u16 p.params 2 ≤ 2000) (hzero : zeroAt p.params 4 4 = true)
    (hfree : (bstOf s (u8 p.params 0)).runNow = none)
    (hapr : u8 p.params 0 < 24 → aprEnabledNext (aprOf s (u8 p.params 0)) = false)
    (hcore : 38 ≤ u8 p.params 0 → u8 p.params 0 ≤ 53 → coreTestable s (u8 p.params 0 - 38) = true)
    (hscan : u8 p.params 1 = 1 → s.security.life = .manufacture ∨ s.security.life = .returned) :
    bstRunNowAct p s = done (modBst (u8 p.params 0) (fun x => { x with
      runNow := some { mode := u8 p.params 1, budget := u16 p.params 2, started := false } }) s) := by
  have hmode' : (decide (1 < u8 p.params 1) || (u8 p.params 1 == 1 && u8 p.params 0 != 56)) = false := by
    rcases hmode with h | ⟨h, hb⟩
    · simp [h]
    · simp [h, hb]
  have hbudget' : (u16 p.params 2 != 0 && (decide (u16 p.params 2 < 50) || decide (2000 < u16 p.params 2))) = false := by
    rcases hbudget with h | ⟨hlow, hhigh⟩
    · simp [h]
    · simp [Nat.not_lt.2 hlow, Nat.not_lt.2 hhigh]
  have hapr' : (decide (u8 p.params 0 < 24) && aprEnabledNext (aprOf s (u8 p.params 0))) = false := by simpa using hapr
  have hcore' : (decide (38 ≤ u8 p.params 0 ∧ u8 p.params 0 ≤ 53) && !coreTestable s (u8 p.params 0 - 38)) = false := by
    simpa using hcore
  have hscan' : (u8 p.params 1 == 1 && s.security.life != .manufacture && s.security.life != .returned) = false := by
    by_cases h : u8 p.params 1 = 1
    · rcases hscan h with hl | hl <;> simp [hl]
    · simp [h]
  have hvalues : (decide (56 < u8 p.params 0) || decide (1 < u8 p.params 1) || (u8 p.params 1 == 1 && u8 p.params 0 != 56)
      || (u16 p.params 2 != 0 && (decide (u16 p.params 2 < 50) || decide (2000 < u16 p.params 2))) || !zeroAt p.params 4 4) = false := by
    rw [hbudget', hzero, decide_eq_false (Nat.not_lt.2 hblock), Bool.false_or, hmode']; rfl
  exact (rejectIf_of_not hvalues).trans (rejectIf_of_not (by rw [hfree, hapr', hcore', hscan']; rfl))

end Sys2Proof.Laws

/-! The statement about the security and self-test commands (02, 17), settled. -/
namespace Sys2Proof.Proofs

open Sys2Proof.Machine Sys2Proof.Safety Sys2Proof.Laws

/-- Settles O2: each accepted form passes its command's own checks, and the row commits what the command then answers. -/
theorem securityAndSelfTestCommandsComplete : Obligations.SecurityAndSelfTestCommandsComplete := by
  refine ⟨fun p s h hslot hzero hzero' hkcv hfree => ?install, fun p s h hslot hzero hactive hother => ?retire,
    fun p s h hslot hzero => ?query, fun p s h hzero hmagic hnext hlast hkey => ?life, fun p s h hscope hzero hmagic => ?zeroize,
    fun p s h henable hzero hbudget hbudget' hcycle hcycle' => ?schedule,
    fun p s h hblock hmode hbudget hzero hfree hapr hcore hscan => ?runNow, fun p s h => ?results⟩
  case install => exact exec_of_act_ok rfl h (secKeyInstallAct_ok hslot hzero hzero' hkcv hfree)
  case retire => exact exec_of_act_ok rfl h (secKeyRetireAct_ok hslot hzero hactive hother)
  case query => exact exec_of_act_ok rfl h (secCounterQueryAct_answer hslot hzero)
  case life => exact exec_of_act_ok rfl h (secLifecycleAct_ok hzero hmagic hnext hlast hkey)
  case zeroize => exact exec_of_act_ok rfl h (secZeroizeAct_ok hscope hzero hmagic)
  case schedule => exact exec_of_act_ok rfl h (bstScheduleAct_ok henable hzero hbudget hbudget' hcycle hcycle')
  case runNow => exact exec_of_act_ok rfl h (bstRunNowAct_ok hblock hmode hbudget hzero hfree hapr hcore hscan)
  case results => exact exec_of_act_ok rfl h rfl

end Sys2Proof.Proofs

/-! SUPPORT. Wakes, resets and the start, as the rows reach them (16 R593 to R615). -/
namespace Sys2Proof.Laws

open Sys2Proof.Machine Sys2Proof.Safety

variable {s : State}

theorem Sends.power {s t : State} (h : Sends s t) : t.power = s.power := by
  have := congrArg State.power h.quiet; exact this

/-! ### Wakes (16 R597, R604) -/

/-- An armed and enabled source is latched; no sequence is there to abandon. -/
theorem latchWake_armed {bit : Nat} (harmed : s.power.armed = true) (hseq : s.power.seq = none)
    (hsource : s.power.wake.sources.testBit bit = true) :
    latchWake bit s = { s with power.latched := setBit s.power.latched bit true } := by
  rw [latchWake, if_pos ⟨harmed, hsource⟩]
  simp only [abandonStop, hseq]

/-- A latched wake abandons a stop sequence and tells so. -/
theorem latchWake_stopping {bit : Nat} {q : StopSeq} (harmed : s.power.armed = true) (hseq : s.power.seq = some q)
    (hstop : q.restart = false) (hsource : s.power.wake.sources.testBit bit = true) :
    latchWake bit s = postWake false (setBit s.power.latched bit true) true { s with
      ecsol.window := .none, power.seq := none, power.armed := false, power.latched := 0 } := by
  rw [latchWake, if_pos ⟨harmed, hsource⟩]
  simp only [abandonStop, hseq, hstop, Bool.false_eq_true, if_false]

theorem alarmCounts_eq_true : alarmCounts s = true ↔ s.power.armed = true ∧ s.power.seq = none := by
  simp [alarmCounts]

/-- The address of the wake configuration is a wake while no sequence runs. -/
theorem addressMatch_armed {addr : BitVec 7} {read : Bool} (haddr : addr.toNat = s.power.wake.addr) (hseq : s.power.seq = none) :
    addressMatch addr read s = latchWake 1 s := by
  rw [addressMatch]
  simp [haddr, hseq]

/-! ### What a main-domain reset leaves of each part (16 R611) -/

/-- The state of a reset before the ports' drop marks are put back. -/
def resetFresh (keepLog : Bool) (s : State) : State :=
  { State.reset with
    pending := s.pending, kernels := { State.reset.kernels with draws := s.kernels.draws },
    security := { s.security with slots := clearedSlots s.security.slots },
    errlog := if keepLog then { s.errlog with
        entries := s.errlog.entries.map (fun e => { e with unreported := false, sentMs := none }),
        overflow := s.errlog.overflow.map (fun e => { e with unreported := false, sentMs := none }),
        kept := !(logHeld s.errlog).isEmpty } else ErrLog.initial,
    power := { s.power with
      fwReady := false, retention := false, seq := none, armed := false, latched := 0, inReset := true,
      muslinAddr := s.power.wake.addr, restored := false, parkedInvalid := true, parkPending := false, muted := false,
      tcGpsMs := tcNow s, tcSinceMs := tcSince s, readyMs := 0, stopS := 0 } }

/-- Putting drop marks back touches the ports alone. -/
theorem foldS_rearm (s : State) (ps : List HostPort) (u : State) :
    foldS (rearm s) ps u = { u with ecsol := (foldS (rearm s) ps u).ecsol } :=
  foldS_keeps (P := fun t => t = { u with ecsol := t.ecsol }) (rearm s) (fun p t ht => by rw [ht]; rfl) ps rfl

/-- A main-domain reset leaves the fresh state, but for the calibration store and the ports. -/
theorem resetMain_fresh (keepLog : Bool) (s : State) :
    resetMain keepLog s = { keepMram s (resetFresh keepLog s) with ecsol := (resetMain keepLog s).ecsol } := by
  cases keepLog
  · rfl
  · show keepMram s (foldS (rearm s) allPorts (resetFresh true s)) = _
    rw [foldS_rearm]; rfl

theorem resetWith_fresh (cause detail : Nat) (keepLog : Bool) (s : State) :
    resetWith cause detail keepLog s = { keepMram s (resetFresh keepLog s) with
      ecsol := (resetMain keepLog s).ecsol,
      power := { (resetFresh keepLog s).power with cause := cause, detail := detail, resets := (s.power.resets + 1) % 65536 } } := by
  rw [resetWith]
  dsimp only
  rw [resetMain_fresh]
  rfl

/-! ### The start (16 R608, R613; 17 R637) -/

theorem eraseKeys_cause (o : SecOp) (s : State) : (eraseKeys o s).power.cause = s.power.cause := by
  unfold eraseKeys
  by_cases hblank : s.security.life = .blank
  · cases hscope : o.scope.testBit 0 <;> simp [hblank, eraseRegions]
  · have hslots := foldS_frame State.power (fun k t => modSlot k (fun x => { x with state := 0, key := [], highWater := 0 }) t)
      (fun _ _ => rfl) (upto 4) s
    cases hscope : o.scope.testBit 0
    · simpa [hblank, reloadKeys] using congrArg Power.cause hslots
    · simpa [hblank, eraseRegions, reloadKeys] using congrArg Power.cause hslots

theorem completeSecOp_cause (s : State) : (completeSecOp s).power.cause = s.power.cause := by
  rw [completeSecOp]
  split
  next o hop =>
    have herase : (if o.erase && !o.erased then eraseKeys o s else s).power.cause = s.power.cause := by
      split
      · exact eraseKeys_cause o s
      · rfl
    refine Eq.trans ?_ herase
    generalize (if o.erase && !o.erased then eraseKeys o s else s) = u
    cases o.burn with
    | none => rfl
    | some l => cases o.doneMs.isSome <;> rfl
  next => rfl

theorem restoreParked_cause (s : State) : (restoreParked s).power.cause = s.power.cause := by
  unfold restoreParked
  split <;> rfl

/-- A start whose cause was not the watchdog. -/
theorem fwReadyStep_started (hrun : s.power.mode = .run) (hout : s.power.inReset = false) (hready : s.power.fwReady = false)
    (hcause : s.power.cause ≠ 5) :
    let r := restoreParked (completeSecOp s)
    fwReadyStep s = postWake true (if r.power.cause = 2 then r.power.latched else 0) false
      { r with power.fwReady := true, power.armed := false, power.latched := 0, power.readyMs := nowMs r } := by
  intro r
  have hr : r.power.cause ≠ 5 := by rw [restoreParked_cause, completeSecOp_cause]; exact hcause
  have hsent : ∀ src t, (postWake true src false t).power = t.power := fun _ _ => (sends_post _ _).power
  rw [fwReadyStep, if_pos ⟨hrun, by simp [hout], by simp [hready]⟩]
  dsimp only
  rw [hsent, if_neg hr]

end Sys2Proof.Laws

/-! The statement about the power states (16), settled. -/
namespace Sys2Proof.Proofs

open Sys2Proof.Machine Sys2Proof.Safety Sys2Proof.Laws

/-- Settles O34: each row whose conditions are met does its one thing, and a reset leaves the fresh state. -/
theorem powerStateEventsComplete : Obligations.PowerStateEventsComplete := by
  refine ⟨fun s hoff => ?on, fun s => rfl,
    fun s harmed hseq => ⟨fun hsource => ?wakePin, fun hsource addr read haddr => ?address, fun hsource hkeep => ?alarm⟩,
    fun s q harmed hseq hstop hsource => ?abandon, fun s => ⟨fun hidle => ?loss, fun harmed hseq hsource => ?lossAlarm⟩,
    fun s hpark => ?park, fun s q hseq hstop hripe hlatch => ?fall, fun stopMs s hstop hlatch hms => ?rise,
    fun s hrun => ⟨?pin, ?rail⟩, fun heldMs s hrun hin => ?release, fun proc s hrun hout => ?watchdog,
    fun s o t hop hdone hdue => ?security, fun s q hseq hre hripe => ?restart, fun s hrun hout hready hcause => ?ready,
    fun cause detail keep s => ?reset⟩
  case on => exact congrArg Host.Outcome.next (if_pos hoff)
  case wakePin => exact congrArg Host.Outcome.next (latchWake_armed harmed hseq hsource)
  case address => exact congrArg Host.Outcome.next ((addressMatch_armed haddr hseq).trans (latchWake_armed harmed hseq hsource))
  case alarm =>
    have hcounts : alarmCounts s = true := alarmCounts_eq_true.2 ⟨harmed, hseq⟩
    exact congrArg Host.Outcome.next ((if_pos ⟨hcounts, hkeep⟩).trans (latchWake_armed harmed hseq hsource))
  case abandon => exact congrArg Host.Outcome.next (latchWake_stopping harmed hseq hstop hsource)
  case loss =>
    have hcounts : ¬ alarmCounts s = true := by
      rw [alarmCounts_eq_true]
      rintro ⟨harmed, hseq⟩
      rcases hidle with hidle | hidle
      · rw [harmed] at hidle; cases hidle
      · exact hidle hseq
    exact congrArg Host.Outcome.next (if_neg hcounts)
  case lossAlarm =>
    have hcounts : alarmCounts s = true := alarmCounts_eq_true.2 ⟨harmed, hseq⟩
    refine congrArg Host.Outcome.next ((if_pos hcounts).trans ?_)
    exact latchWake_armed (s := { s with power.tcValid := false }) harmed hseq hsource
  case park => exact congrArg Host.Outcome.next (if_pos hpark)
  case fall =>
    refine congrArg Host.Outcome.next ?_
    simp [pwrEnFall, hseq, hstop, hripe, hlatch]
  case rise => exact congrArg Host.Outcome.next (if_pos ⟨hstop, hlatch, hms⟩)
  case pin => exact congrArg Host.Outcome.next (pinReset_of_run 0 hrun)
  case rail => exact congrArg Host.Outcome.next (pinReset_of_run 1 hrun)
  case release => exact congrArg Host.Outcome.next (if_pos ⟨hrun, hin⟩)
  case watchdog => exact congrArg Host.Outcome.next (fwWatchdog_of_run proc hrun hout)
  case security => exact congrArg Host.Outcome.next (securityReset_of_due hop hdone hdue)
  case restart => exact congrArg Host.Outcome.next (sysRestartReset_of_ripe hseq hre hripe)
  case ready => exact congrArg Host.Outcome.next (fwReadyStep_started hrun hout hready hcause)
  case reset =>
    intro t
    rw [show t = _ from resetWith_fresh cause detail keep s]
    exact ⟨rfl, rfl, rfl, rfl, rfl, rfl, rfl, rfl, rfl, rfl, rfl, rfl, rfl, rfl, rfl, rfl, rfl, rfl, rfl, rfl, rfl, rfl⟩

end Sys2Proof.Proofs

/-! SUPPORT. What an occurrence does to the error log (17 R641, R642): it coalesces, is added, displaces a lower severity or is dropped. -/
namespace Sys2Proof.Laws

open Sys2Proof.Machine Sys2Proof.Safety

variable {s : State} {code sev cls inst : Nat}

theorem sameKind_iff {e : LogEntry} : sameKind code cls inst e = true ↔ e.code = code ∧ e.cls = cls ∧ e.inst = inst := by
  simp [sameKind, and_assoc]

/-- Two entries of different kinds. -/
def KindsDiffer (a b : LogEntry) : Prop := ¬ sameKind a.code a.cls a.inst b = true

theorem kindsDiffer_symm {a b : LogEntry} (h : KindsDiffer a b) : KindsDiffer b a := by
  intro hba
  obtain ⟨hcode, hcls, hinst⟩ := sameKind_iff.1 hba
  exact h (sameKind_iff.2 ⟨hcode.symm, hcls.symm, hinst.symm⟩)

/-- The entry that a new occurrence makes. -/
def newEntry (s : State) (code sev cls inst : Nat) : LogEntry :=
  { code := code, sev := sev, cls := cls, inst := inst, count := 1, reset := s.power.resets % 256, first := s.epochMs,
    last := s.epochMs, unreported := false, sentMs := some (nowMs s) }

theorem sameKind_newEntry : sameKind code cls inst (newEntry s code sev cls inst) = true := sameKind_iff.2 ⟨rfl, rfl, rfl⟩

/-- An entry as an occurrence leaves it. -/
def coalesceKind (s : State) (code cls inst : Nat) (e : LogEntry) : LogEntry :=
  if sameKind code cls inst e then coalesce s e else e

theorem coalesceKind_kind (e : LogEntry) :
    (coalesceKind s code cls inst e).code = e.code ∧ (coalesceKind s code cls inst e).cls = e.cls
      ∧ (coalesceKind s code cls inst e).inst = e.inst := by
  unfold coalesceKind
  split <;> exact ⟨rfl, rfl, rfl⟩

theorem kindsDiffer_coalesceKind {a b : LogEntry} (h : KindsDiffer a b) :
    KindsDiffer (coalesceKind s code cls inst a) (coalesceKind s code cls inst b) := by
  obtain ⟨hacode, hacls, hainst⟩ := coalesceKind_kind (s := s) (code := code) (cls := cls) (inst := inst) a
  obtain ⟨hbcode, hbcls, hbinst⟩ := coalesceKind_kind (s := s) (code := code) (cls := cls) (inst := inst) b
  rw [KindsDiffer, sameKind_iff, hacode, hacls, hainst, hbcode, hbcls, hbinst, ← sameKind_iff]
  exact h

/-! ### The three ways of an occurrence -/

theorem logInsert_coalesces (h : s.errlog.entries.any (sameKind code cls inst) = true) :
    (logInsert s code sev cls inst).1.entries = s.errlog.entries.map (coalesceKind s code cls inst) := by
  simp only [logInsert, h, if_true]
  rfl

theorem logInsert_adds (hnew : s.errlog.entries.any (sameKind code cls inst) = false) (hroom : s.errlog.entries.length < 127) :
    (logInsert s code sev cls inst).1.entries = s.errlog.entries ++ [newEntry s code sev cls inst] := by
  simp only [logInsert, hnew, Bool.false_eq_true, if_false, if_pos hroom]
  rfl

theorem lowest_mem {l : List LogEntry} {e : LogEntry} (h : lowest l = some e) : e ∈ l := by
  induction l generalizing e with
  | nil => cases h
  | cons x t ih =>
    rw [lowest] at h
    split at h
    next => cases h; exact List.mem_cons_self
    next f hf =>
      split at h
      · cases h; exact List.mem_cons_of_mem _ (ih hf)
      · cases h; exact List.mem_cons_self

/-- What is left of a full log when an entry of lower severity makes room. -/
def displacedBy (l : List LogEntry) (e new : LogEntry) : List LogEntry := l.filter (fun x => !sameKind e.code e.cls e.inst x) ++ [new]

/-- A new occurrence in a full log displaces an entry of lower severity, or leaves the entries alone. -/
theorem logInsert_full (hnew : s.errlog.entries.any (sameKind code cls inst) = false) (hfull : ¬ s.errlog.entries.length < 127) :
    (logInsert s code sev cls inst).1.entries = s.errlog.entries
      ∨ ∃ e ∈ s.errlog.entries, e.sev < sev
        ∧ (logInsert s code sev cls inst).1.entries = displacedBy s.errlog.entries e (newEntry s code sev cls inst) := by
  simp only [logInsert, hnew, Bool.false_eq_true, if_false, if_neg hfull]
  split
  next e he =>
    split
    · next hlow => exact .inr ⟨e, lowest_mem he, hlow, rfl⟩
    · split <;> exact .inl rfl
  next => exact .inl rfl

/-! ### What the log keeps -/

/-- A log of 127 entries at most, each kind once. -/
def LogOk (l : List LogEntry) : Prop := l.length ≤ 127 ∧ l.Pairwise KindsDiffer

/-- An entry of a kind that a list lacks may follow it. -/
theorem pairwise_append_newEntry {l : List LogEntry} (h : l.Pairwise KindsDiffer) (hnew : ∀ e ∈ l, sameKind code cls inst e = false) :
    (l ++ [newEntry s code sev cls inst]).Pairwise KindsDiffer := by
  refine List.pairwise_append.2 ⟨h, List.pairwise_singleton _ _, fun a ha b hb => ?_⟩
  rw [List.mem_singleton.1 hb]
  refine kindsDiffer_symm fun hsame => ?_
  have := hnew a ha
  rw [show sameKind code cls inst a = true from hsame] at this
  cases this

theorem logOk_displacedBy {l : List LogEntry} {e : LogEntry} (h : LogOk l) (he : e ∈ l) (hnew : ∀ x ∈ l, sameKind code cls inst x = false) :
    LogOk (displacedBy l e (newEntry s code sev cls inst)) := by
  obtain ⟨hlen, hkinds⟩ := h
  have hfewer : (l.filter (fun x => !sameKind e.code e.cls e.inst x)).length < l.length :=
    List.length_filter_lt_length_iff_exists.2 ⟨e, he, by simp [sameKind]⟩
  refine ⟨?_, pairwise_append_newEntry (hkinds.filter _) fun x hx => hnew x (List.mem_of_mem_filter hx)⟩
  rw [displacedBy, List.length_append, List.length_singleton]
  omega

/-- Displacing one entry keeps every entry of a higher severity: no other is of its kind. -/
theorem mem_displacedBy {l : List LogEntry} {e x new : LogEntry} (hkinds : l.Pairwise KindsDiffer) (he : e ∈ l) (hx : x ∈ l)
    (hsev : e.sev < x.sev) : x ∈ displacedBy l e new := by
  have hne : e ≠ x := by rintro rfl; exact Nat.lt_irrefl _ hsev
  have symm : Std.Symm KindsDiffer := ⟨fun _ _ => kindsDiffer_symm⟩
  have hdiffer : KindsDiffer e x := hkinds.forall he hx hne
  exact List.mem_append_left _ (List.mem_filter.2 ⟨hx, by simpa [KindsDiffer] using hdiffer⟩)

end Sys2Proof.Laws

/-! The statement about the error log (17), settled. -/
namespace Sys2Proof.Proofs

open Sys2Proof.Machine Sys2Proof.Safety Sys2Proof.Laws

/-- Settles O51, by the three ways of an occurrence. -/
theorem errorLogKeepsItsCapacity : Obligations.ErrorLogKeepsItsCapacity := by
  intro s code sev cls inst hlen hkinds l
  have hno : ∀ {e}, s.errlog.entries.any (sameKind code cls inst) = false → e ∈ s.errlog.entries →
      sameKind code cls inst e = false := fun hnew he => by simpa using List.any_eq_false.1 hnew _ he
  cases hany : s.errlog.entries.any (sameKind code cls inst) with
  | true =>
    have hl : l.entries = s.errlog.entries.map (coalesceKind s code cls inst) := logInsert_coalesces hany
    rw [hl]
    refine ⟨by rwa [List.length_map], hkinds.map _ fun _ _ => kindsDiffer_coalesceKind,
      fun e he hsame => ⟨List.length_map _, coalesceKind s code cls inst e, List.mem_map_of_mem he, ?_⟩, fun e he hother _ => ?_,
      fun hnone _ => ?_⟩
    · rw [coalesceKind, if_pos hsame]
      exact ⟨hsame, Nat.min_comm _ _, rfl, rfl⟩
    · exact List.mem_map.2 ⟨e, he, if_neg (by rw [hother]; decide)⟩
    · obtain ⟨e, he, hsame⟩ := List.any_eq_true.1 hany
      rw [hnone e he] at hsame
      cases hsame
  | false =>
    by_cases hroom : s.errlog.entries.length < 127
    · have hl : l.entries = s.errlog.entries ++ [newEntry s code sev cls inst] := logInsert_adds hany hroom
      rw [hl]
      refine ⟨by rw [List.length_append, List.length_singleton]; omega, pairwise_append_newEntry hkinds fun e he => hno hany he,
        fun e he hsame => ?_, fun e he _ _ => List.mem_append_left _ he,
        fun _ _ => ⟨_, rfl, sameKind_newEntry, rfl, rfl, rfl⟩⟩
      rw [hno hany he] at hsame
      cases hsame
    · have hkeep : LogOk l.entries ∧ ∀ e ∈ s.errlog.entries, sev ≤ e.sev → e ∈ l.entries := by
        rcases logInsert_full hany hroom with hl | ⟨d, hd, hlow, hl⟩
        · rw [hl]
          exact ⟨⟨hlen, hkinds⟩, fun e he _ => he⟩
        · rw [hl]
          exact ⟨logOk_displacedBy ⟨hlen, hkinds⟩ hd fun e he => hno hany he,
            fun e he hsev => mem_displacedBy hkinds hd he (Nat.lt_of_lt_of_le hlow hsev)⟩
      obtain ⟨⟨hlen', hkinds'⟩, hstay⟩ := hkeep
      refine ⟨hlen', hkinds', fun e he hsame => ?_, fun e he _ hsev => hstay e he hsev, fun _ hlt => absurd hlt hroom⟩
      rw [hno hany he] at hsame
      cases hsame

end Sys2Proof.Proofs

/-! SUPPORT. Refused accesses to the shared banks reach no byte and change no owner (12 R481; 13 R517; 15 R574 to R580). -/
namespace Sys2Proof.Laws

open Sys2Proof.Machine Sys2Proof.Safety

variable {s : State}

@[simp] theorem refuseRequest_bankMem (off : Nat) (s : State) : (refuseRequest off s).bankMem = s.bankMem := rfl

@[simp] theorem logAccess_bankMem (code b : Nat) (core : Option Nat) (s : State) : (logAccess code b core s).bankMem = s.bankMem := by
  cases core <;> exact logErr_bankMem _ _ _ _ _

@[simp] theorem countOff_bankMem (b : Nat) (core : Option Nat) (s : State) : (countOff b core s).bankMem = s.bankMem :=
  logAccess_bankMem _ _ _ _

@[simp] theorem refuseBank_bankMem (k b : Nat) (write : Bool) (s : State) : (refuseBank k b write s).bankMem = s.bankMem := by
  unfold refuseBank
  extract_lets t
  split
  · exact countOff_bankMem _ _ _
  · split
    · exact logAccess_bankMem _ _ _ _
    · rfl

@[simp] theorem dropStale_bankMem (k : Nat) (bank : Option Nat) (s : State) : (dropStale k bank s).bankMem = s.bankMem := by
  cases bank <;> exact logErr_bankMem _ _ _ _ _

/-- A BAR2 write that is not whole, aligned, inside one window and to a ready bank of the host. -/
theorem bar2Write_refused {off : Nat} {bs : List Byte} {full : Bool} (errs : List Nat)
    (h : (!full || off % 4 != 0 || bs.length % 4 != 0 || badRequest off bs.length) = true ∨ bankReady s (off / bankSize) = false
      ∨ (bankOf s (off / bankSize)).owner ≠ 1) : (bar2Write off bs full errs s).bankMem = s.bankMem := by
  have hready : bankReady { s with pcie.ur := false } (off / bankSize) = bankReady s (off / bankSize) := rfl
  unfold bar2Write
  extract_lets b x _ t
  split
  · rfl
  · split
    · rfl
    · next hgood =>
      split
      · exact countOff_bankMem _ _ _
      · next hserved =>
        split
        · exact logAccess_bankMem _ _ _ _
        · next howner =>
          rcases h with h | h | h
          · exact absurd h hgood
          · exact absurd (show (!bankReady t b) = true by rw [show bankReady t b = false from hready.trans h]; rfl) hserved
          · exact absurd h howner

/-- A BAR0 write to OWNER of a bank that the host does not own is counted and logged. -/
theorem ownerWrite_refused {b v : Nat} (h : (bankOf s b).owner ≠ 1) (n : Nat) :
    (bankOf (ownerWrite b v s) n).owner = (bankOf s n).owner := by
  have hbanks : ∀ t, (logAccess 0x0D b none t).banks = t.banks := fun t => by
    have := congrArg State.banks (sends_logErr 0x0D 1 0x0D b t).quiet; exact this
  unfold ownerWrite
  extract_lets o
  rw [if_pos h, bankOf, hbanks, modBank]
  by_cases hn : n = b
  · subst hn; rw [tget_tmod_self]; rfl
  · rw [tget_tmod_ne _ _ _ hn]; rfl

/-- A posted store to a bank that its core does not own is dropped or refused. -/
theorem commitStore_refused {k : Nat} {p : PostedStore} (errs : List Nat) (h : kOwns s k (slotBank p.slot) = false) :
    (commitStore k p errs s).bankMem = s.bankMem := by
  have hserves : bankServes s k (slotBank p.slot) = false := by rw [bankServes, h, Bool.and_false]
  unfold commitStore
  extract_lets b d
  split
  · exact dropStale_bankMem _ _ _
  · rw [if_pos (by rw [hserves]; rfl)]; exact refuseBank_bankMem _ _ _ _

end Sys2Proof.Laws

/-! The statement about the banks' owners (15), settled. -/
namespace Sys2Proof.Proofs

open Sys2Proof.Machine Sys2Proof.Safety Sys2Proof.Laws

/-- Settles O54: each access that is refused leaves the banks' memory, and the owners, as they were. -/
theorem ownersAloneWriteTheirBank : Obligations.OwnersAloneWriteTheirBank := by
  refine ⟨fun off bs fe errs s t hexec hrefused a => ?bar2, fun b v s t hexec howner n => ?owner,
    fun k stall errs s t hexec howners a => ?posted⟩
  case bar2 =>
    obtain rfl : bar2Write off.toNat bs fe errs s = t := Host.Outcome.next.inj hexec
    refine congrArg (tget 0 · a) (bar2Write_refused errs ?_)
    rcases hrefused with h | h | h | h | h | h | h | h
    · exact .inl (by simp [h])
    · exact .inl (by simp [h])
    · exact .inl (by simp [h])
    · exact .inl (by simp [badRequest, h])
    · exact .inl (by simp only [badRequest, bankSize, bne_iff_ne.2 h, Bool.or_true])
    · exact .inr (.inl (by simp only [bankReady, bankSize, h, Bool.false_and]))
    · exact .inr (.inl (by simp only [bankReady, bankSize, h, Bool.and_false]))
    · exact .inr (.inr h)
  case owner =>
    obtain rfl : (if pcieUp s then ownerWrite b v.toNat s else s) = t := Host.Outcome.next.inj hexec
    split
    · exact ownerWrite_refused howner n
    · rfl
  case posted =>
    obtain rfl : postedCommit k stall errs s = t := Host.Outcome.next.inj hexec
    refine congrArg (tget 0 · a) ?_
    unfold postedCommit
    split
    next => rfl
    next p rest hposted =>
      have hother : kOwns s k (slotBank p.slot) = false :=
        beq_eq_false_iff_ne.2 (howners p (by rw [hposted]; exact List.mem_cons_self))
      split
      · rfl
      · exact commitStore_refused [errs] hother

end Sys2Proof.Proofs

/-! SUPPORT. What a read takes from a port's output queue (02 R74; 12 R461, R467, R474): the queued bytes in order, then 0x00. -/
namespace Sys2Proof.Laws

open Sys2Proof.Machine Sys2Proof.Safety

/-- The bytes that a queue still has to send. -/
def queued (q : List QItem) : List Byte := q.flatMap (fun it => it.bytes.drop it.sent)

/-- Every packet of the queue still has bytes to send. -/
def Unsent (q : List QItem) : Prop := ∀ it ∈ q, it.sent < it.bytes.length

@[simp] theorem queued_nil : queued [] = [] := rfl
@[simp] theorem queued_cons (it : QItem) (q : List QItem) : queued (it :: q) = it.bytes.drop it.sent ++ queued q := rfl

/-- The byte taken is the first that is queued, and what is left of the queue is the rest. -/
theorem queueByte_unsent {it : QItem} {q : List QItem} (h : Unsent (it :: q)) :
    ∃ q', queueByte (it :: q) = some (it.bytes.getD it.sent 0, q') ∧ queued (it :: q) = it.bytes.getD it.sent 0 :: queued q'
      ∧ Unsent q' := by
  have hit : it.sent < it.bytes.length := h it List.mem_cons_self
  have hq : Unsent q := fun x hx => h x (List.mem_cons_of_mem _ hx)
  have hfirst : it.bytes.drop it.sent = it.bytes.getD it.sent 0 :: it.bytes.drop (it.sent + 1) := by
    rw [List.drop_eq_getElem_cons hit, List.getD_eq_getElem _ _ hit]
  by_cases hmore : it.sent + 1 < it.bytes.length
  · refine ⟨{ it with sent := it.sent + 1 } :: q, by rw [queueByte]; exact if_pos hmore, by rw [queued_cons, hfirst]; rfl, ?_⟩
    exact List.forall_mem_cons.2 ⟨hmore, hq⟩
  · refine ⟨q, by rw [queueByte]; exact if_neg hmore, ?_, hq⟩
    rw [queued_cons, hfirst, List.drop_eq_nil_of_le (Nat.not_lt.1 hmore)]; rfl

/-- More fill bytes than are taken change nothing. -/
theorem take_append_zeros (q : List Byte) {n m : Nat} (h : n ≤ m) : (q ++ zeros m).take n = (q ++ zeros n).take n := by
  obtain ⟨k, rfl⟩ := Nat.exists_eq_add_of_le h
  rw [zeros, List.replicate_add, ← List.append_assoc, List.take_append_of_le_length (by simp)]
  rfl

/-- `n` bytes taken are the first `n` queued ones, filled up with 0x00. -/
theorem queueBytes_unsent {q : List QItem} (n : Nat) (h : Unsent q) :
    (queueBytes n q).1 = (queued q ++ zeros n).take n ∧ queued (queueBytes n q).2 = (queued q).drop n ∧ Unsent (queueBytes n q).2 := by
  induction n generalizing q with
  | zero => exact ⟨rfl, rfl, h⟩
  | succ n ih =>
    cases q with
    | nil => exact ⟨by simp [queueBytes, queueByte, zeros], rfl, fun _ hx => absurd hx List.not_mem_nil⟩
    | cons it q =>
      obtain ⟨q', hbyte, hqueued, hq'⟩ := queueByte_unsent h
      obtain ⟨hbytes, hrest, hunsent⟩ := ih hq'
      simp only [queueBytes, hbyte, hqueued, List.cons_append, List.take_succ_cons, List.drop_succ_cons, hbytes]
      exact ⟨congrArg _ (take_append_zeros _ (Nat.le_succ n)).symm, hrest, hunsent⟩

/-- One byte taken. -/
theorem queueBytes_one (it : QItem) (q : List QItem) : queueBytes 1 (it :: q)
    = ([it.bytes.getD it.sent 0], if it.sent + 1 < it.bytes.length then { it with sent := it.sent + 1 } :: q else q) := by
  by_cases hmore : it.sent + 1 < it.bytes.length <;> simp [queueBytes, queueByte, hmore]

theorem queueUsed_eq (q : List QItem) : queueUsed q = (queued q).length := by
  suffices h : ∀ n, q.foldl (fun n it => n + (it.bytes.length - it.sent)) n = n + (queued q).length by
    simpa [queueUsed] using h 0
  induction q with
  | nil => exact fun _ => rfl
  | cons it q ih => intro n; simp [ih, Nat.add_assoc]

/-- Bytes put after a lead, as many as the read has room for. -/
theorem take_lead (a q : List Byte) (n : Nat) :
    (a ++ (q ++ zeros (n - a.length)).take (n - a.length)).take n = (a ++ q ++ zeros n).take n := by
  rw [← take_append_zeros q (Nat.sub_le n a.length), List.append_assoc, List.take_append (l₁ := a), List.take_append (l₁ := a),
    List.take_take, Nat.min_self]

/-- A read drives its lead and the queued bytes, filled up with 0x00, and takes them from the queue. -/
theorem readPort_unsent {port : HostPort} {s : State} (lead : List Byte) (n : Nat) (obs : CmdObs) (h : Unsent (portOf s port).outq) :
    ∃ q', queued q' = (queued (portOf s port).outq).drop (n - lead.length) ∧ Unsent q' ∧ readPort port lead n obs s
      = huntAll port obs { modPort port (fun x => { x with outq := q' }) s with
          ecsol.bus := (lead ++ queued (portOf s port).outq ++ zeros n).take n } := by
  obtain ⟨hbytes, hrest, hunsent⟩ := queueBytes_unsent (n - lead.length) h
  refine ⟨_, hrest, hunsent, ?_⟩
  rw [readPort, hbytes, take_lead]
  rfl

end Sys2Proof.Laws

/-! The statement about the byte-stream ports' output (12), settled. -/
namespace Sys2Proof.Proofs

open Sys2Proof.Machine Sys2Proof.Safety Sys2Proof.Laws

/-- Settles O30: every read is `readPort` with its port's lead bytes. -/
theorem byteStreamOutputComplete : Obligations.ByteStreamOutputComplete := by
  refine ⟨fun n obs s hmain h => ?spi, fun addr n obs s hup haddr h => ?muslin, fun u obs s it rest hrate hq hit => ?uart,
    fun n s hmain => ?status, fun s hempty => ?addr⟩
  case spi =>
    obtain ⟨q', hrest, hunsent, hread⟩ := readPort_unsent (s := s) [] n obs h
    exact ⟨q', hrest, hunsent, congrArg Host.Outcome.next ((if_pos hmain).trans hread), rfl⟩
  case muslin =>
    have hhears : muslinHears addr s = true := by simp [muslinHears, hup, haddr]
    obtain ⟨q', hrest, hunsent, hread⟩ :=
      readPort_unsent (s := s) (le 2 (sat 65535 (queueUsed (portOf s .muslin).outq))) n obs h
    refine ⟨q', hrest, hunsent, congrArg Host.Outcome.next ((if_pos hhears).trans (hread.trans ?_))⟩
    rw [queueUsed_eq, sat, Nat.min_comm]
    rfl
  case uart =>
    obtain ⟨r, hr⟩ := Option.ne_none_iff_exists'.1 hrate
    refine congrArg Host.Outcome.next ?_
    simp only [uartTransmit, hr, hq, readPort, List.length_nil, Nat.sub_zero, queueBytes_one]
    rfl
  case status =>
    refine congrArg Host.Outcome.next ((if_pos hmain).trans ?_)
    rw [spiStatusWord, sat, Nat.min_comm]
    rfl
  case addr => exact congrArg Host.Outcome.next (if_pos (by rw [hempty]; rfl))

end Sys2Proof.Proofs

/-! SUPPORT. The PCI Express registers, rings and resets (12 R476 to R484): what a write that is taken leaves, and what no packet waits
for. -/
namespace Sys2Proof.Laws

open Sys2Proof.Machine Sys2Proof.Safety

variable {s : State}

/-! ### Interrupts touch neither the ports nor the command ring -/

theorem setIrq_ecsol (status mask : Nat) (s : State) : (setIrq status mask s).ecsol = s.ecsol :=
  foldS_frame State.ecsol _ (fun b t => by rw [sendVector]; split <;> rfl) _ _

theorem slotsWaiting_setIrq (status mask : Nat) (s : State) : slotsWaiting (setIrq status mask s) = slotsWaiting s :=
  foldS_frame slotsWaiting _ (fun b t => by rw [sendVector]; split <;> rfl) _ _

/-- Clearing bits of IRQ_STATUS raises none. -/
theorem setIrq_clears (keep : Nat) (s : State) :
    setIrq (s.pcie.irqStatus &&& keep) s.pcie.irqMask s = { s with pcie.irqStatus := s.pcie.irqStatus &&& keep } := by
  have hnone : (maskBits 10 ((s.pcie.irqStatus &&& keep) &&& s.pcie.irqMask)).filter
      (fun b => !(s.pcie.irqStatus &&& s.pcie.irqMask).testBit b) = [] := by
    refine List.filter_eq_nil_iff.2 fun b hb => ?_
    obtain ⟨-, hbit⟩ := mem_maskBits.1 hb
    simp only [Nat.testBit_and, Bool.and_eq_true] at hbit
    simp [Nat.testBit_and, hbit]
  rw [setIrq, hnone]
  rfl

/-! ### Waiting packets (12 R478) -/

theorem takeAll_idle (obs : CmdObs) (h : slotsWaiting s = 0) : takeAll obs s = s := if_pos (.inl h)

theorem takeAll_blocked (obs : CmdObs) (h : portBlocked s .pcie = true) : takeAll obs s = s := if_pos (.inr (.inl h))

/-- The rings that a write of RING_EN enables run again. -/
theorem ringEnWrite_eq (en : Nat) (s : State) : ringEnWrite en s = foldS (fun n t => modRing n (fun r => { r with fault := false }) t)
    ((upto 4).filter (fun n => en.testBit n && !s.pcie.ringEn.testBit n)) { s with pcie.ringEn := en } :=
  List.foldl_filter.symm

theorem slotsWaiting_foldRing (f : Ring → Ring) (l : List Nat) (s : State) :
    slotsWaiting (foldS (fun n t => modRing n f t) l s) = slotsWaiting s :=
  foldS_frame slotsWaiting (fun n t => modRing n f t) (fun _ _ => rfl) l s

/-! ### Writes of BAR0 (12 R477) -/

/-- A DWORD of the block of ring `n`. -/
theorem bar0Write_ring {n o : Nat} (v : Nat) (obs : CmdObs) (s : State) (hn : n < 4) (ho : o < 0x20) (halign : o % 4 = 0) :
    bar0Write (0x100 + 0x20 * n + o) v obs s = ringRegWrite n o v s := by
  have hring : (0x100 + 0x20 * n + o - 0x100) / 0x20 = n := by omega
  have hoff : (0x100 + 0x20 * n + o) % 0x20 = o := by omega
  rw [bar0Write, if_neg (by omega), if_neg (by omega), if_neg (by omega), if_neg (by omega), if_neg (by omega), if_pos (by omega), hring,
    hoff]

/-- The row of a DWORD of ring `n`'s block. -/
theorem exec_registerWrite_ring (n : Fin 4) {off o : Nat} (v : BitVec 32) (obs : CmdObs) (hup : pcieUp s = true)
    (hoff : off = 0x100 + 0x20 * n.val + o) (ho : o < 0x20) (halign : o % 4 = 0) :
    exec (.registerWrite (BitVec.ofNat 16 off) v obs) s = .next (ringRegWrite n o v.toNat s) := by
  have hlt : off < 2 ^ 16 := by omega
  refine congrArg Host.Outcome.next ((if_pos hup).trans ?_)
  rw [BitVec.toNat_ofNat, Nat.mod_eq_of_lt hlt, hoff]
  exact bar0Write_ring v.toNat obs s n.isLt ho halign

theorem ringRegWrite_base {n : Nat} (v : Nat) :
    ringRegWrite n 0x00 v s = if s.pcie.ringEn.testBit n = true then s else modRing n (fun r => { r with baseLo := v / 4096 * 4096 }) s := by
  cases h : s.pcie.ringEn.testBit n <;> simp [ringRegWrite, h]

theorem ringRegWrite_baseHi {n : Nat} (v : Nat) :
    ringRegWrite n 0x04 v s = if s.pcie.ringEn.testBit n = true then s else modRing n (fun r => { r with baseHi := v }) s := by
  cases h : s.pcie.ringEn.testBit n <;> simp [ringRegWrite, h]

theorem ringRegWrite_cfg_enabled {n : Nat} (v : Nat) (h : s.pcie.ringEn.testBit n = true) : ringRegWrite n 0x08 v s = s := by
  simp [ringRegWrite, h]

theorem ringRegWrite_cfg {n v : Nat} (h : s.pcie.ringEn.testBit n = false) (hsize : bitsOf v 27 24 ≤ 10) :
    ringRegWrite n 0x08 v s
      = modRing n (fun r => { r with size := bitsOf v 27 24, modUs := bitsOf v 23 16, modBytes := bitsOf v 15 0 }) s := by
  simp [ringRegWrite, h, hsize]

/-! ### Output rings (12 R479, R480, R493) -/

/-- The entry at the front of a running ring that has room for it. -/
theorem entryWritten_fits {n : Nat} {it : QItem} {rest : List QItem} (hq : (ringOf s n).outq = it :: rest)
    (hfault : (ringOf s n).fault = false) (hon : s.pcie.ringEn.testBit n = true) (hlink : s.pcie.link.isSome = true)
    (hroom : entryTakes (ringOf s n) (padded it.bytes.length) + 64 ≤ ringFree (ringOf s n)) :
    let r := ringOf s n
    let len := padded it.bytes.length
    let u := modRing n (fun x => { x with
      outq := rest, wr := if ringSize r < r.wr + len then len else (r.wr + len) % ringSize r, unsignalled := r.unsignalled + len,
      waiting := true }) { s with pcie.dma := entryWrites r it.bytes }
    entryWritten n s = if it.cls = 0 ∨ r.modBytes = 0 ∨ 64 * r.modBytes ≤ r.unsignalled + len then signalRing n u else u := by
  have hlink' : s.pcie.link.isNone = false := by simpa using hlink
  simp only [entryWritten, hq, hfault, hon, hlink', decide_eq_false (Nat.not_lt.2 hroom), Bool.not_true, Bool.or_self, Bool.false_eq_true,
    if_false, ringWraps, decide_eq_true_eq]

/-- Writing an entry takes no packet. -/
theorem slotsWaiting_signalRing (n : Nat) (s : State) : slotsWaiting (signalRing n s) = slotsWaiting s :=
  slotsWaiting_setIrq _ _ _

/-- The padded packet of an entry. -/
theorem entryWrites_eq (r : Ring) (bs : List Byte) : entryWrites r bs =
    let whole := bs ++ zeros (padded bs.length - bs.length)
    if ringSize r < r.wr + padded bs.length then
      [(2 ^ 32 * r.baseHi + r.baseLo, whole), (2 ^ 32 * r.baseHi + r.baseLo + r.wr, [0x00])]
    else [(2 ^ 32 * r.baseHi + r.baseLo + r.wr, whole)] := by
  have hlen : (bs ++ zeros (padded bs.length - bs.length)).length = padded bs.length := by
    have : bs.length ≤ padded bs.length := by rw [padded]; omega
    rw [List.length_append, zeros, List.length_replicate]; omega
  simp only [entryWrites, ringWraps, hlen, ringAddr, Nat.add_zero, decide_eq_true_eq]

/-- A ring that a DMA error stops: its replies stay, and its messages are counted. -/
def stoppedRing (s : State) (n : Nat) : State :=
  let keep := (ringOf s n).outq.filter (fun it => it.cls == 0)
  raiseIrq (6 + n) (modRing n (fun x => { x with
    fault := true, outq := keep, drops := min 0xFFFFFFFF (x.drops + (x.outq.length - keep.length)) }) s)

/-- A DMA error of a running ring; the first class 1 message to be discarded is logged. -/
theorem dmaError_running {n : Nat} (hfault : (ringOf s n).fault = false) (hon : s.pcie.ringEn.testBit n = true)
    (hq : (ringOf s n).outq ≠ []) :
    dmaError n s = if (ringOf s n).outq.any (fun it => it.cls == 1) && (portOf s .pcie).dropArmed
      then logErr 0x49 2 0x10 3 (modPort .pcie (fun x => { x with dropArmed := false }) (stoppedRing s n)) else stoppedRing s n := by
  have harmed : portOf (stoppedRing s n) .pcie = portOf s .pcie := by
    rw [portOf, stoppedRing, raiseIrq, setIrq_ecsol]; rfl
  have hsome : (ringOf s n).outq.isEmpty = false := by simpa using hq
  rw [← harmed]
  simp only [dmaError, hfault, hon, hsome, sat, Bool.not_true, Bool.or_self, Bool.false_eq_true, if_false, Nat.min_comm _ 0xFFFFFFFF]
  rfl

end Sys2Proof.Laws

/-! The statements about the PCI Express endpoint (12), settled. -/
namespace Sys2Proof.Proofs

open Sys2Proof.Machine Sys2Proof.Safety Sys2Proof.Laws

/-- Settles O32: with the link up each register access is its own one write, and no packet waits. -/
theorem pcieRegisterCommandsComplete : Obligations.PcieRegisterCommandsComplete := by
  refine ⟨fun on obs s hup hidle => ?cmdEn, fun rings obs s hup hidle => ?ringEn, fun s hup hcmd hring => ?reset,
    fun tail obs s hup hhost hmany => ?tailMany, fun tail obs s hup hhost hfew hcmd => ?tailKept, fun bits s hup => ?irq,
    fun s hup => ?framing, fun n s hup => ?drops, fun v obs s hup => ?mask,
    fun n v obs s hup => ⟨?rd, fun hoff => ⟨?base, ?baseHi, fun hsize => ?cfg⟩, fun hon => ⟨?baseOn, ?baseHiOn, ?cfgOn⟩⟩,
    fun off v obs s hup halign hslots => ?slots⟩
  case cmdEn => exact congrArg Host.Outcome.next ((if_pos hup).trans (takeAll_idle obs hidle))
  case ringEn =>
    refine congrArg Host.Outcome.next ((if_pos hup).trans ?_)
    rw [ringEnWrite_eq]
    exact takeAll_idle obs ((slotsWaiting_foldRing _ _ _).trans hidle)
  case reset =>
    refine congrArg Host.Outcome.next ((if_pos hup).trans ?_)
    exact if_neg (by simp [hcmd, hring])
  case tailMany =>
    refine congrArg Host.Outcome.next ((if_pos hup).trans ?_)
    rw [tailWrite, hhost, if_neg (by decide), if_pos hmany, countFraming, sat, Nat.min_comm]
  case tailKept =>
    refine congrArg Host.Outcome.next ((if_pos hup).trans ?_)
    rw [tailWrite, hhost, if_neg (by decide), if_neg (Nat.not_lt.2 hfew), Nat.mod_eq_of_lt tail.isLt]
    exact takeAll_blocked obs (by simp [portBlocked, hcmd])
  case irq => exact congrArg Host.Outcome.next ((if_pos hup).trans (setIrq_clears _ s))
  case framing | drops => exact congrArg Host.Outcome.next (if_pos hup)
  case mask => exact congrArg Host.Outcome.next (if_pos hup)
  case rd => exact exec_registerWrite_ring n v obs hup (o := 0x10) (by omega) (by decide) (by decide)
  case base =>
    refine (exec_registerWrite_ring n v obs hup (o := 0x00) (by omega) (by decide) (by decide)).trans ?_
    rw [ringRegWrite_base, if_neg (by rw [hoff]; decide)]
  case baseHi =>
    refine (exec_registerWrite_ring n v obs hup (o := 0x04) (by omega) (by decide) (by decide)).trans ?_
    rw [ringRegWrite_baseHi, if_neg (by rw [hoff]; decide)]
  case cfg =>
    refine (exec_registerWrite_ring n v obs hup (o := 0x08) (by omega) (by decide) (by decide)).trans ?_
    rw [ringRegWrite_cfg hoff hsize]
  case baseOn =>
    refine (exec_registerWrite_ring n v obs hup (o := 0x00) (by omega) (by decide) (by decide)).trans ?_
    rw [ringRegWrite_base, if_pos hon]
  case baseHiOn =>
    refine (exec_registerWrite_ring n v obs hup (o := 0x04) (by omega) (by decide) (by decide)).trans ?_
    rw [ringRegWrite_baseHi, if_pos hon]
  case cfgOn =>
    refine (exec_registerWrite_ring n v obs hup (o := 0x08) (by omega) (by decide) (by decide)).trans ?_
    rw [ringRegWrite_cfg_enabled _ hon]
  case slots =>
    have hlt : off.toNat < 0x10000 := off.isLt
    refine congrArg Host.Outcome.next ((if_pos hup).trans ?_)
    rw [bar0Write, if_neg (by omega), if_neg (by omega), if_neg (by omega), if_neg (by omega), if_neg (by omega), if_neg (by omega),
      if_neg (by omega), if_neg (by omega), if_pos ⟨hslots, hlt⟩]

/-- Settles O33: each event of the rings and of the link whose conditions are met does its one thing. -/
theorem pcieEventsComplete : Obligations.PcieEventsComplete := by
  refine ⟨fun n obs s it rest hup hidle hq hfault hon hroom => ?entry, fun n s hwaiting => ?moderation,
    fun n s hup hfault hon hq => ⟨fun hquiet => ?error, fun harmed hsome => ?errorLogged⟩, fun r bs => entryWrites_eq r bs,
    fun kind s hmain => ?reset, fun link s hmain => ?trained⟩
  case entry =>
    have hlink : s.pcie.link.isSome = true := by
      rw [pcieUp, Bool.and_eq_true, Bool.and_eq_true] at hup
      obtain ⟨⟨hlink, -⟩, -⟩ := hup
      exact hlink
    refine congrArg Host.Outcome.next ((if_pos hup).trans ?_)
    rw [entryWritten_fits hq hfault hon hlink hroom]
    split
    · exact takeAll_idle obs ((slotsWaiting_signalRing _ _).trans hidle)
    · exact takeAll_idle obs hidle
  case moderation => exact congrArg Host.Outcome.next (if_pos hwaiting)
  case error =>
    have hnone : ¬ ((ringOf s n).outq.any (fun it => it.cls == 1) && (portOf s .pcie).dropArmed) = true := by
      rcases hquiet with h | h
      · simp [h]
      · have : (ringOf s n).outq.any (fun it => it.cls == 1) = false := by simpa [List.any_eq_false] using h
        simp [this]
    exact congrArg Host.Outcome.next ((if_pos hup).trans ((dmaError_running hfault hon hq).trans (if_neg hnone)))
  case errorLogged =>
    have hany : ((ringOf s n).outq.any (fun it => it.cls == 1) && (portOf s .pcie).dropArmed) = true := by
      rw [harmed, Bool.and_true]
      simpa [List.any_eq_true] using hsome
    exact congrArg Host.Outcome.next ((if_pos hup).trans ((dmaError_running hfault hon hq).trans (if_pos hany)))
  case reset =>
    have hmute : (fun h : HeldCmd => if h.pkt.port == .pcie then { h with mute := true } else h)
        = fun h => { h with mute := h.mute || h.pkt.port == .pcie } := by
      funext h
      cases hport : h.pkt.port == HostPort.pcie <;> simp
    refine congrArg Host.Outcome.next ((if_pos hmain).trans ?_)
    unfold functionReset
    rw [hmute]
    cases kind <;> rfl
  case trained => exact congrArg Host.Outcome.next (if_pos hmain)

end Sys2Proof.Proofs

/-! SUPPORT. Self-test slots and slices, key and fuse sequences, and coalesced reports (17 R617 to R643). -/
namespace Sys2Proof.Laws

open Sys2Proof.Machine Sys2Proof.Safety

variable {s t : State}

/-! ### Which block a slot takes (17 R619, R620) -/

/-- From `s` to `t` the self-tests alone have moved, and the key registers, which a scan clears. -/
def TestsMove (s t : State) : Prop :=
  t = { s with bst := t.bst, security.workKeys := t.security.workKeys } ∧ t.bst.slices = s.bst.slices ∧ t.bst.aborted = s.bst.aborted

theorem TestsMove.refl (s : State) : TestsMove s s := ⟨rfl, rfl, rfl⟩

theorem TestsMove.trans {u : State} (h : TestsMove s t) (g : TestsMove t u) : TestsMove s u := by
  obtain ⟨h, hslices, habort⟩ := h
  obtain ⟨g, gslices, gabort⟩ := g
  exact ⟨by rw [g, h], gslices.trans hslices, gabort.trans habort⟩

theorem testsMove_modBst (b : Nat) (f : BstBlock → BstBlock) (s : State) : TestsMove s (modBst b f s) := ⟨rfl, rfl, rfl⟩

theorem testsMove_startSlice (b : Nat) (s : State) : TestsMove s (startSlice b s) := by
  unfold startSlice
  extract_lets u x budget mode v
  have hu : TestsMove s u := testsMove_modBst _ _ _
  have hv : TestsMove u v := testsMove_modBst _ _ _
  clear_value u mode budget v
  exact (hu.trans hv).trans ⟨rfl, rfl, rfl⟩

/-- A slot of the schedule has come. -/
def slotCome (us : Nat) (s : State) : Bool := match s.bst.slotUs with
  | some t => decide (t + slotSpacing s ≤ 1000 * nowMs s + us)
  | none => true

/-- The slot of the schedule, where it has come, is now. -/
def slotTimed (us : Nat) (s : State) : State := if slotCome us s then { s with bst.slotUs := some (1000 * nowMs s + us) } else s

/-- The blocks begin to owe their next coverage. -/
def slotOwed (s : State) : State := foldS (fun b t => modBst b (owe s) t) (upto 57) s

/-- The schedule calls for Damask's slice. -/
def slotCalled (s : State) : State := { s with bst.damaskCalled := s.bst.damaskCalled || (damaskWanted s && damaskLaneBusy s) }

/-- What a slot does before it chooses. -/
def slotReady (us : Nat) (s : State) : State := slotCalled (slotOwed (slotTimed us s))

/-- The blocks that BST_RUN_NOW asks for and that may be tested. -/
def runNowBlocks (synth modem : Bool) (s : State) : List Nat :=
  (upto 57).filter (fun b => (bstOf s b).runNow.isSome && eligible s synth modem b)

/-- The block that a slot takes, if any: one of BST_RUN_NOW first, then, in a slot of the schedule, the one that waits longest. -/
def slotChoice (slot synth modem : Bool) (s : State) : Option Nat :=
  (runNowBlocks synth modem s).head?.orElse fun _ =>
    longestWaiting s ((upto 57).filter (fun b => slot && s.bst.enable && (bstOf s b).owes && eligible s synth modem b))

theorem selftestSlot_idle {us : Nat} {synth modem : Bool} (hup : hostUp s = true) (hidle : s.bst.active = none) :
    selftestSlot us synth modem s = match slotChoice (slotCome us s) synth modem (slotReady us s) with
      | some b => if b = 37 then { slotReady us s with bst.voileReserved := true } else startSlice b (slotReady us s)
      | none => slotReady us s := by
  rw [selftestSlot, if_neg (by simp [hup, hidle])]
  unfold slotChoice runNowBlocks slotReady slotOwed
  generalize upto 57 = blocks
  rfl

theorem longestWaiting_mem {l : List Nat} {b : Nat} (h : longestWaiting s l = some b) : b ∈ l := by
  induction l generalizing b with
  | nil => cases h
  | cons a l ih =>
    rw [longestWaiting] at h
    split at h
    next c hc =>
      split at h
      · cases h; exact List.mem_cons_of_mem _ (ih hc)
      · cases h; exact List.mem_cons_self
    next => cases h; exact List.mem_cons_self

/-- A block that is taken is a block, and BST_RUN_NOW or the schedule asks for it. -/
theorem slotChoice_asked {slot synth modem : Bool} {b : Nat} (h : slotChoice slot synth modem s = some b) :
    b < 57 ∧ ((bstOf s b).runNow.isSome = true ∨ s.bst.enable = true) := by
  unfold slotChoice at h
  cases hfirst : (runNowBlocks synth modem s).head? with
  | some a =>
    rw [hfirst] at h
    cases h
    obtain ⟨hlt, hasked⟩ := List.mem_filter.1 (List.mem_of_mem_head? hfirst)
    rw [Bool.and_eq_true] at hasked
    exact ⟨mem_upto.1 hlt, .inl hasked.1⟩
  | none =>
    rw [hfirst] at h
    obtain ⟨hlt, hasked⟩ := List.mem_filter.1 (longestWaiting_mem h)
    simp only [Bool.and_eq_true] at hasked
    obtain ⟨⟨⟨-, henable⟩, -⟩, -⟩ := hasked
    exact ⟨mem_upto.1 hlt, .inr henable⟩

/-- Where BST_RUN_NOW asks for a block that may be tested, a slot takes one. -/
theorem slotChoice_runNow {slot synth modem : Bool} {b : Nat} (hb : b < 57) (hrun : (bstOf s b).runNow.isSome = true)
    (hmay : eligible s synth modem b = true) : ∃ a, slotChoice slot synth modem s = some a := by
  have hmem : b ∈ runNowBlocks synth modem s := List.mem_filter.2 ⟨mem_upto.2 hb, by rw [hrun, hmay]; rfl⟩
  obtain ⟨a, l, hl⟩ := List.exists_cons_of_ne_nil (List.ne_nil_of_mem hmem)
  exact ⟨a, by rw [slotChoice, hl]; rfl⟩

/-! ### What a slot does before it chooses -/

/-- The self-tests but for the blocks' records, the time of the slot and Damask's call. -/
def bstSettings (s : State) : SelfTest := { s.bst with blocks := [], slotUs := none, damaskCalled := false }

theorem owe_runNow (u : State) (x : BstBlock) : (owe u x).runNow = x.runNow := by
  unfold owe
  split <;> rfl

theorem bstOf_modBst (b c : Nat) (f : BstBlock → BstBlock) (s : State) :
    bstOf (modBst b f s) c = if c = b then f (bstOf s c) else bstOf s c := by
  by_cases h : c = b
  · subst h; rw [if_pos rfl]; exact tget_tmod_self _ _ _ _
  · rw [if_neg h]; exact tget_tmod_ne _ _ _ h

/-- From `s` to `t` the tests alone move: no setting of theirs and no request of BST_RUN_NOW. -/
def SlotMoves (s t : State) : Prop :=
  TestsMove s t ∧ bstSettings t = bstSettings s ∧ ∀ b, (bstOf t b).runNow = (bstOf s b).runNow

theorem SlotMoves.trans {u : State} (h : SlotMoves s t) (g : SlotMoves t u) : SlotMoves s u := by
  obtain ⟨hmove, hset, hrun⟩ := h
  obtain ⟨gmove, gset, grun⟩ := g
  exact ⟨hmove.trans gmove, gset.trans hset, fun b => (grun b).trans (hrun b)⟩

theorem slotMoves_owe (u : State) (b : Nat) (s : State) : SlotMoves s (modBst b (owe u) s) := by
  refine ⟨testsMove_modBst _ _ _, rfl, fun c => ?_⟩
  rw [bstOf_modBst]
  split
  · exact owe_runNow u _
  · rfl

theorem slotMoves_slotOwed (s : State) : SlotMoves s (slotOwed s) := by
  unfold slotOwed
  generalize upto 57 = blocks
  exact foldS_keeps (P := SlotMoves s) (fun b t => modBst b (owe s) t) (fun b t ht => ht.trans (slotMoves_owe s b t)) blocks
    ⟨.refl s, rfl, fun _ => rfl⟩

theorem slotMoves_slotCalled (s : State) : SlotMoves s (slotCalled s) := ⟨⟨rfl, rfl, rfl⟩, rfl, fun _ => rfl⟩

theorem slotMoves_slotReady (us : Nat) (s : State) : SlotMoves s (slotReady us s) := by
  have htimed : SlotMoves s (slotTimed us s) := by
    unfold slotTimed
    split <;> exact ⟨⟨rfl, rfl, rfl⟩, rfl, fun _ => rfl⟩
  exact (htimed.trans (slotMoves_slotOwed _)).trans (slotMoves_slotCalled _)

theorem active_of_settings (h : bstSettings t = bstSettings s) : t.bst.active = s.bst.active := by
  have := congrArg SelfTest.active h; exact this

theorem enable_of_settings (h : bstSettings t = bstSettings s) : t.bst.enable = s.bst.enable := by
  have := congrArg SelfTest.enable h; exact this

theorem voileReserved_of_settings (h : bstSettings t = bstSettings s) : t.bst.voileReserved = s.bst.voileReserved := by
  have := congrArg SelfTest.voileReserved h; exact this

/-- Whether a block that is not a channel block may be tested does not turn on the blocks' records. -/
theorem eligible_of_move {synth modem : Bool} {b : Nat} (hmove : TestsMove s t) (hset : bstSettings t = bstSettings s)
    (hchan : ¬ (25 ≤ b ∧ b < 37)) : eligible t synth modem b = eligible s synth modem b := by
  have hvoile := voileReserved_of_settings hset
  obtain ⟨ht, -, -⟩ := hmove
  unfold eligible
  by_cases h24 : b < 25
  · by_cases h : b < 24
    · simp only [if_pos h]; rw [ht]; rfl
    · have : b = 24 := by omega
      subst this
      rw [ht]; rfl
  · have hn24 : ¬ b < 24 := by omega
    have hne : ¬ b = 24 := by omega
    have hn37 : ¬ b < 37 := by omega
    simp only [if_neg hn24, if_neg hne, if_neg hn37, hvoile]
    rw [ht]; rfl

/-- A slice that starts keeps the request of its block. -/
theorem startSlice_runNow (b : Nat) (s : State) : (bstOf (startSlice b s) b).runNow.isSome = (bstOf s b).runNow.isSome := by
  simp only [startSlice, bstOf, modBst, tget_tmod_self]
  split
  next r hr => split <;> simp [hr]
  next hr => rfl

/-- A slot with no slice in progress: the tests alone move, a slice starts or is reserved where BST_RUN_NOW asks for a block that may be
tested, and the slice that starts was asked for. -/
theorem selftestSlot_outcome (us : Nat) (synth modem : Bool) (hup : hostUp s = true) (hidle : s.bst.active = none) :
    let t := selftestSlot us synth modem s
    TestsMove s t
      ∧ (∀ b, b < 57 → ¬ (25 ≤ b ∧ b < 37) → (bstOf s b).runNow.isSome = true → eligible s synth modem b = true →
          t.bst.active ≠ none ∨ t.bst.voileReserved = true)
      ∧ (∀ x, t.bst.active = some x → x.block ≠ 37 ∧ x.block < 57
          ∧ ((bstOf t x.block).runNow.isSome = true ∨ s.bst.enable = true)) := by
  obtain ⟨hmove, hset, hrun⟩ := slotMoves_slotReady us s
  have hactive : (slotReady us s).bst.active = none := (active_of_settings hset).trans hidle
  have henable := enable_of_settings hset
  have hchosen : ∀ b, b < 57 → ¬ (25 ≤ b ∧ b < 37) → (bstOf s b).runNow.isSome = true → eligible s synth modem b = true →
      ∃ a, slotChoice (slotCome us s) synth modem (slotReady us s) = some a := fun b hb hchan hasked hmay =>
    slotChoice_runNow hb (by rw [hrun]; exact hasked) ((eligible_of_move hmove hset hchan).trans hmay)
  intro t
  rw [show t = _ from selftestSlot_idle hup hidle]
  cases hchoice : slotChoice (slotCome us s) synth modem (slotReady us s) with
  | none =>
    refine ⟨hmove, fun b hb hchan hasked hmay => ?_, fun x hx => ?_⟩
    · obtain ⟨a, ha⟩ := hchosen b hb hchan hasked hmay
      rw [hchoice] at ha; cases ha
    · rw [hactive] at hx; cases hx
  | some a =>
    obtain ⟨hlt, hask⟩ := slotChoice_asked hchoice
    by_cases h37 : a = 37
    · dsimp only
      rw [if_pos h37]
      refine ⟨hmove.trans ⟨rfl, rfl, rfl⟩, fun _ _ _ _ _ => .inr rfl, fun x hx => ?_⟩
      have : (slotReady us s).bst.active = some x := hx
      rw [hactive] at this; cases this
    · dsimp only
      rw [if_neg h37]
      refine ⟨hmove.trans (testsMove_startSlice _ _), fun _ _ _ _ _ => .inl (fun h => nomatch h), fun x hx => ?_⟩
      obtain rfl : a = x.block := congrArg SliceRun.block (Option.some.inj hx)
      exact ⟨h37, hlt, by rw [startSlice_runNow, ← henable]; exact hask⟩

/-! ### The end of a slice (17 R621 to R624) -/

/-- The record of a block whose slice has passed. -/
def passedBlock (r : SliceRun) (x : BstBlock) : BstBlock :=
  { x with
    done := x.done + 1, workDone := x.workDone + sliceWork r.block r.budget x.workDone,
    failedCh := if isChannelBlock r.block then setBit x.failedCh (x.workDone / 200) false else x.failedCh }

theorem modBst_eq_const (b : Nat) (f : BstBlock → BstBlock) (s : State) : modBst b f s = modBst b (fun _ => f (bstOf s b)) s := rfl

/-- A slice that passes before the coverage is full. -/
theorem sliceEnd_passed {r : SliceRun} (vector : Nat) (hactive : s.bst.active = some r)
    (hmore : (passedBlock r (bstOf s r.block)).workDone < blockWork r.block) :
    sliceEnd true vector s = modBst r.block (fun _ => passedBlock r (bstOf s r.block))
      (reloadKeys { s with bst.active := none, bst.slices := (s.bst.slices + 1) % 2 ^ 32 }) := by
  simp only [sliceEnd, hactive, if_true, Bool.not_true, Bool.or_false]
  rw [modBst_eq_const, bstOf_modBst, if_pos rfl, if_neg]
  · rfl
  · exact Nat.not_le.2 hmore

/-- The block of the slice is no core's: no quarantine ends. -/
theorem selftestSliceEnd_passed {r : SliceRun} (vector : Nat) (hactive : s.bst.active = some r) (hblock : r.block < 38 ∨ 54 ≤ r.block) :
    selftestSliceEnd true vector s = releaseHeld (.selfTest r.block) (assignWaiting (sliceEnd true vector s)) := by
  have hcore : ∀ u, ¬ (true = true ∧ 38 ≤ r.block ∧ r.block ≤ 53 ∧ (bstOf u r.block).result ≠ 2) := fun u => by omega
  unfold selftestSliceEnd
  rw [hactive]
  dsimp only
  rw [if_neg (hcore _)]

/-! ### Sequences and reports (17 R632, R641, R643) -/

theorem keyErasureDone_burns {o : SecOp} {l : LifeCycle} (hop : s.security.op = some o) (herase : o.erase = true)
    (hdone : o.erased = false) (hburn : o.burn = some l) (hlife : s.security.life ≠ .blank) (hscope : o.scope.testBit 0 = false) :
    keyErasureDone s = { reloadKeys (foldS (fun k t => modSlot k (fun x => { x with state := 0, key := [], highWater := 0 }) t) (upto 4) s)
      with security.op := some { o with erased := true } } := by
  have hkeys : eraseKeys o s
      = reloadKeys (foldS (fun k t => modSlot k (fun x => { x with state := 0, key := [], highWater := 0 }) t) (upto 4) s) := by
    simp only [eraseKeys, if_neg hlife, hscope, Bool.false_eq_true, if_false]
  simp only [keyErasureDone, hop, herase, hdone, hburn, hkeys, Bool.not_false, and_self, if_true, Option.isNone_some, Bool.false_eq_true,
    if_false]

theorem fuseBurnDone_burns {o : SecOp} {l : LifeCycle} (hop : s.security.op = some o) (hburn : o.burn = some l)
    (herased : o.erase = true → o.erased = true) (hopen : o.doneMs = none) (hlife : o.zeroize = false) :
    fuseBurnDone s = postStatus 0x0F 0 (secEvent s 4 255 (lifeCode l))
      { s with security.life := l, security.op := some { o with doneMs := some (nowMs s) } } := by
  have hready : ((o.erase && !o.erased) || o.doneMs.isSome) = false := by
    cases he : o.erase
    · simp [hopen]
    · simp [hopen, herased he]
  simp only [fuseBurnDone, hop, hburn, hready, Bool.false_eq_true, if_false, secStep4, hlife]
  rfl

/-- An entry that is the first of its kind is the first that also meets more conditions, where it does. -/
theorem find?_and {α : Type} {p q : α → Bool} {l : List α} {a : α} (h : l.find? p = some a) (hq : q a = true) :
    l.find? (fun x => p x && q x) = some a := by
  obtain ⟨hp, as, bs, hl, hno⟩ := List.find?_eq_some_iff_append.1 h
  exact List.find?_eq_some_iff_append.2 ⟨by rw [hp, hq]; rfl, as, bs, hl, fun x hx => by
    have := hno x hx
    simp only [Bool.not_eq_true'] at this
    simp [this]⟩

/-- An entry that waits for its report, whose last one is a second old. -/
theorem coalescedReport_due {code cls inst : Nat} {e : LogEntry}
    (hfind : (logHeld s.errlog).find? (fun e => sameKind code cls inst e) = some e) (hunreported : e.unreported = true)
    (hdue : ∀ t, e.sentMs = some t → instantReached (t + 1000) s = true) :
    let clear := fun (x : LogEntry) => if sameKind code cls inst x then { x with unreported := false, sentMs := some (nowMs s) } else x
    coalescedReport code cls inst s = post (errMsg s e) { s with
      errlog.entries := s.errlog.entries.map clear, errlog.overflow := s.errlog.overflow.map clear } := by
  unfold coalescedReport
  extract_lets clear due
  have hready : (e.unreported && due e) = true := by
    simp only [hunreported, due, Bool.true_and]
    split
    next t ht => exact hdue t ht
    next => rfl
  simp only [Bool.and_assoc, find?_and (q := fun e => e.unreported && due e) hfind hready]

end Sys2Proof.Laws

/-! The statement about self-tests, sequences and islands (01, 17), settled. -/
namespace Sys2Proof.Proofs

open Sys2Proof.Machine Sys2Proof.Safety Sys2Proof.Laws

/-- Settles O35: a slot by what it chooses, a slice by its block's record, and the other events by their conditions. -/
theorem selfTestSecurityAndIslandEventsComplete : Obligations.SelfTestSecurityAndIslandEventsComplete := by
  refine ⟨fun us s r hup hactive => ?busy, fun us s hup hidle => ?slot, fun s r vector hactive hblock hmore => ?slice,
    fun s o l hop herase hdone hburn hlife hscope => ?erased, fun s o l hop hburn herased hopen hlife => ?burnt,
    fun i s hon hready hi calFail => ?island, fun i s hon hready hi hclock => ?aperture,
    fun code cls inst s e hfind hunreported hdue => ?report⟩
  case busy => exact congrArg Host.Outcome.next (if_pos (by simp [hactive]))
  case slot =>
    obtain ⟨⟨hmove, hslices, habort⟩, hasked, hstarted⟩ := selftestSlot_outcome us (synthWindow us s) (modemQuiet us s) hup hidle
    exact ⟨_, rfl, hmove, hasked, hslices, habort, hstarted⟩
  case slice =>
    refine congrArg Host.Outcome.next ((selftestSliceEnd_passed vector hactive hblock).trans ?_)
    rw [sliceEnd_passed vector hactive hmore]
    rfl
  case erased => exact congrArg Host.Outcome.next (keyErasureDone_burns hop herase hdone hburn hlife hscope)
  case burnt => exact congrArg Host.Outcome.next (fuseBurnDone_burns hop hburn herased hopen hlife)
  case island =>
    obtain ⟨hlow, hlink⟩ := hi
    refine congrArg Host.Outcome.next ((if_pos (by rw [hon, hready]; rfl)).trans ?_)
    dsimp only
    rw [if_neg (Nat.not_lt.2 hlow), if_neg hlink]
  case aperture =>
    have hrestored : ∀ u : State, clockBypass (aprRestore i u) = clockBypass u := fun u => by
      have := congrArg State.clk (besideChans_takeSettings i u)
      rw [clockBypass, show (aprRestore i u).clk = u.clk from this]; rfl
    refine congrArg Host.Outcome.next ((if_pos (by rw [hon, hready]; rfl)).trans ?_)
    dsimp only
    rw [if_pos hi, if_neg Bool.false_ne_true, if_neg]
    have hruns : ¬ clockBypass s = true := by rw [hclock]; decide
    split
    · rw [hrestored]; exact hruns
    · exact hruns
  case report =>
    exact congrArg Host.Outcome.next (coalescedReport_due hfind hunreported hdue)

end Sys2Proof.Proofs

/-! SUPPORT. What touches the banks: the functions of the model that leave the banks' registers and bytes as they are, one equation
each, in the order of the model's files (15 R573, R574). -/
namespace Sys2Proof.Laws

open Sys2Proof.Machine Sys2Proof.Safety

/-- The banks' registers and bytes. -/
def bankPart (s : State) : Tab Bank × List Host.Cell := (s.banks, s.bankMem)

/-! The equations below that hold by definition are proved by `(rfl)`, not `rfl`: `simp` then rewrites with them under the binders of a
fold's function, which it does not with an equation that it takes for definitional. -/

@[simp] theorem bankPart_eta (s : State) : (s.banks, s.bankMem) = bankPart s := (rfl)

@[simp] theorem bankPart_mk {x1 x2 x3 x4 x5 x6 x7 x8 x9 x10 x11 x12 x13 x14 x15 x16 x17 x18 x19 x20 x21 x22 x23 x24 x25 x26 x27 x28
    x29} :
    bankPart ⟨x1, x2, x3, x4, x5, x6, x7, x8, x9, x10, x11, x12, x13, x14, x15, x16, x17, x18, x19, x20, x21, x22, x23, x24, x25, x26, x27, x28,
      x29⟩ = (x13, x14) := (rfl)

@[simp] theorem bankPart_ite (c : Prop) [Decidable c] (s t : State) : bankPart (if c then s else t) = if c then bankPart s else bankPart t :=
  apply_ite _ _ _ _

theorem bankPart_of_ite {c : Prop} [Decidable c] {s t u : State} (ht : bankPart t = bankPart s) (hu : bankPart u = bankPart s) :
    bankPart (if c then t else u) = bankPart s := by
  rw [bankPart_ite, ht, hu, ite_self]

theorem Sends.bankPart {s t : State} (h : Sends s t) : bankPart t = bankPart s := by
  have hquiet : Laws.bankPart (Safety.quiet t) = Laws.bankPart (Safety.quiet s) := congrArg _ h.quiet
  exact hquiet

@[simp] theorem bankPart_logErr (code sev cls inst : Nat) (s : State) : bankPart (logErr code sev cls inst s) = bankPart s :=
  (sends_logErr _ _ _ _ s).bankPart

@[simp] theorem bankPart_foldS {α : Type} (f : α → State → State) (h : ∀ a s, bankPart (f a s) = bankPart s) (l : List α) (s : State) :
    bankPart (foldS f l s) = bankPart s :=
  foldS_frame bankPart f h l s

@[simp] theorem bankPart_foldl {α : Type} (f : State → α → State) (h : ∀ s a, bankPart (f s a) = bankPart s) (l : List α) (s : State) :
    bankPart (l.foldl f s) = bankPart s :=
  foldS_frame bankPart (fun a s => f s a) (fun a s => h s a) l s

@[simp] theorem bankPart_draw (s : State) : bankPart (draw s).2 = bankPart s := (rfl)

@[simp] theorem bankPart_firmware (f : State → State) (h : ∀ s, bankPart (f s) = bankPart s) (s : State) :
    bankPart (firmware f s) = bankPart s := by
  unfold firmware
  split
  · rfl
  · exact h s

/-! ### Ports, rings and messages -/

@[simp] theorem bankPart_modPort (p : HostPort) (f : PortState → PortState) (s : State) :
    bankPart (modPort p f s) = bankPart s := (rfl)

@[simp] theorem bankPart_modRing (n : Nat) (f : Ring → Ring) (s : State) : bankPart (modRing n f s) = bankPart s := (rfl)

@[simp] theorem bankPart_countFraming (p : HostPort) (s : State) : bankPart (countFraming p s) = bankPart s := by
  unfold countFraming
  split <;> simp

@[simp] theorem bankPart_sendVector (v : Nat) (s : State) : bankPart (sendVector v s) = bankPart s := by simp [sendVector]
@[simp] theorem bankPart_setIrq (status mask : Nat) (s : State) : bankPart (setIrq status mask s) = bankPart s := by simp [setIrq]
@[simp] theorem bankPart_raiseIrq (bit : Nat) (s : State) : bankPart (raiseIrq bit s) = bankPart s := by simp [raiseIrq]
@[simp] theorem bankPart_takeSeq (p : HostPort) (s : State) : bankPart (takeSeq p s) = bankPart s := (rfl)
@[simp] theorem bankPart_faultEdge (before : Bool) (s : State) : bankPart (faultEdge before s) = bankPart s := by simp [faultEdge]

@[simp] theorem bankPart_logChain (chain cls inst : Nat) (s : State) :
    bankPart (logChain chain cls inst s) = bankPart s := by simp [logChain]

@[simp] theorem bankPart_postToPorts (m : Msg) (ps : List HostPort) (s : State) : bankPart (postToPorts m ps s) = bankPart s :=
  (sends_postToPorts m ps s).bankPart

@[simp] theorem bankPart_post (m : Msg) (s : State) : bankPart (post m s) = bankPart s := by simp [post]

@[simp] theorem bankPart_postStatus (cls inst : Nat) (payload : List Byte) (s : State) :
    bankPart (postStatus cls inst payload s) = bankPart s := by simp [postStatus]

@[simp] theorem bankPart_modApr (a : Nat) (f : Aperture → Aperture) (s : State) : bankPart (modApr a f s) = bankPart s := (rfl)

@[simp] theorem bankPart_modSlice (a i : Nat) (f : SliceState → SliceState) (s : State) :
    bankPart (modSlice a i f s) = bankPart s := (rfl)

/-! ### The command path -/

@[simp] theorem bankPart_modSlot (k : Nat) (f : KeySlot → KeySlot) (s : State) : bankPart (modSlot k f s) = bankPart s := (rfl)

@[simp] theorem bankPart_queueReply (port : HostPort) (bytes : List Byte) (s : State) :
    bankPart (queueReply port bytes s) = bankPart s := by
  unfold queueReply
  split <;> simp

@[simp] theorem bankPart_cachePut (port : HostPort) (e : CacheEntry) (s : State) :
    bankPart (cachePut port e s) = bankPart s := (rfl)

@[simp] theorem bankPart_logReject (op : Nat) (p : Packet) (st : Status) (s : State) :
    bankPart (logReject op p st s) = bankPart s := by
  unfold logReject
  split <;> simp

@[simp] theorem bankPart_finish (op : Nat) (p : Packet) (st : Status) (chain : Nat) (payload : List Byte) (key : Option (List Byte)) (s : State) :
    bankPart (finish op p st chain payload key s) = bankPart s := by
  simp [finish]

@[simp] theorem bankPart_countFailure (k : Nat) (s : State) : bankPart (countFailure k s) = bankPart s := by simp [countFailure]
@[simp] theorem bankPart_modBst (b : Nat) (f : BstBlock → BstBlock) (s : State) : bankPart (modBst b f s) = bankPart s := (rfl)

@[simp] theorem bankPart_postSelftest (block result slice mode detail : Nat) (s : State) :
    bankPart (postSelftest block result slice mode detail s) = bankPart s := by simp [postSelftest]

@[simp] theorem bankPart_reloadKeys (s : State) : bankPart (reloadKeys s) = bankPart s := (rfl)

@[simp] theorem bankPart_abortSlice (s : State) : bankPart (abortSlice s) = bankPart s := by
  unfold abortSlice
  split <;> simp

@[simp] theorem bankPart_holdCmd (op : Nat) (p : Packet) (why : HoldReason) (s : State) :
    bankPart (holdCmd op p why s) = bankPart s := (rfl)

@[simp] theorem bankPart_queueBehind (op : Nat) (p : Packet) (s : State) : bankPart (queueBehind op p s) = bankPart s := (rfl)
@[simp] theorem bankPart_wakeFirmware (s : State) : bankPart (wakeFirmware s) = bankPart s := (rfl)

@[simp] theorem bankPart_checkUnknown (op : Nat) (p : Packet) (s : State) :
    bankPart (checkUnknown op p s) = bankPart s := by simp [checkUnknown]

/-! ### Subscriptions -/

@[simp] theorem bankPart_modCore (k : Nat) (f : Core → Core) (s : State) : bankPart (modCore k f s) = bankPart s := (rfl)

@[simp] theorem bankPart_deliverMsg (test : SubRing → Bool) (id cls inst chain : Nat) (payload : Nat → Option (List Byte)) (s : State) :
    bankPart (deliverMsg test id cls inst chain payload s) = bankPart s := by
  refine bankPart_foldS _ (fun x t => ?_) _ s
  dsimp only
  split <;> rfl

@[simp] theorem bankPart_deliverDump (c a chain : Nat) (rec : List Byte) (s : State) :
    bankPart (deliverDump c a chain rec s) = bankPart s := by simp [deliverDump]

@[simp] theorem bankPart_subscribeMeas (id cls chain : Nat) (payload : List Byte) (s : State) :
    bankPart (subscribeMeas id cls chain payload s) = bankPart s := by simp [subscribeMeas]

@[simp] theorem bankPart_subscribeAcq (k c : Nat) (payload : List Byte) (s : State) :
    bankPart (subscribeAcq k c payload s) = bankPart s := by simp [subscribeAcq]

/-! ### Bank registers beside the banks -/

@[simp] theorem bankPart_setPoison (g : Nat) (p : Bool) (s : State) : bankPart (setPoison g p s) = bankPart s := (rfl)

@[simp] theorem bankPart_bankEvent (ev b old new value : Nat) (s : State) :
    bankPart (bankEvent ev b old new value s) = bankPart s := by simp [bankEvent]

@[simp] theorem bankPart_logAccess (code b : Nat) (core : Option Nat) (s : State) :
    bankPart (logAccess code b core s) = bankPart s := by
  unfold logAccess
  split <;> simp

/-! ### Apertures, slices and notches -/

@[simp] theorem bankPart_aprEvent (kind a slice detail : Nat) (value : Int) (s : State) :
    bankPart (aprEvent kind a slice detail value s) = bankPart s := by simp [aprEvent]

@[simp] theorem bankPart_aprFlushEvents (a : Nat) (s : State) :
    bankPart (aprFlushEvents a s) = bankPart s := by simp [aprFlushEvents]

@[simp] theorem bankPart_aprRaise (a bit : Nat) (s : State) : bankPart (aprRaise a bit s) = bankPart s := by simp [aprRaise]
@[simp] theorem bankPart_aprClear (a bit : Nat) (s : State) : bankPart (aprClear a bit s) = bankPart s := by simp [aprClear]

@[simp] theorem bankPart_aprClock (onBypass : Bool) (s : State) :
    bankPart (aprClock onBypass s) = bankPart s := by simp [aprClock]

@[simp] theorem bankPart_jiAlertCheck (a i : Nat) (s : State) :
    bankPart (jiAlertCheck a i s) = bankPart s := by simp [jiAlertCheck]

@[simp] theorem bankPart_takeSettings (a : Nat) (s : State) : bankPart (takeSettings a s) = bankPart s := by simp [takeSettings]
@[simp] theorem bankPart_aprEpochOne (a : Nat) (s : State) : bankPart (aprEpochOne a s) = bankPart s := by simp [aprEpochOne]
@[simp] theorem bankPart_aprEpoch (s : State) : bankPart (aprEpoch s) = bankPart s := by simp [aprEpoch]

@[simp] theorem bankPart_modNotch (a i n : Nat) (f : Notch → Notch) (s : State) :
    bankPart (modNotch a i n f s) = bankPart s := (rfl)

@[simp] theorem bankPart_notchMark (a i : Nat) (s : State) : bankPart (notchMark a i s) = bankPart s := (rfl)

@[simp] theorem bankPart_notchLines (a i : Nat) (ls : List SpectralLine) (n : Nat) (s : State) :
    bankPart (notchLines a i ls n s) = bankPart s := by simp [notchLines]

@[simp] theorem bankPart_unitCross (a i : Nat) (u : TransferUnit) (s : State) :
    bankPart (unitCross a i u s) = bankPart s := by simp [unitCross]

@[simp] theorem bankPart_scanLines (a i : Nat) (s : State) : bankPart (scanLines a i s) = bankPart s := by simp [scanLines]

@[simp] theorem bankPart_sliceUnit (a i : Nat) (u : TransferUnit) (s : State) : bankPart (sliceUnit a i u s).1 = bankPart s := by
  unfold sliceUnit
  split
  · dsimp only
    split <;> simp
  · simp

@[simp] theorem bankPart_notchRelease (a i n : Nat) (s : State) :
    bankPart (notchRelease a i n s) = bankPart s := by simp [notchRelease]

@[simp] theorem bankPart_agcUpdate (a i : Nat) (s : State) : bankPart (agcUpdate a i s) = bankPart s := by simp [agcUpdate]
@[simp] theorem bankPart_agcTcSwitch (a : Nat) (s : State) : bankPart (agcTcSwitch a s) = bankPart s := by simp [agcTcSwitch]

@[simp] theorem bankPart_apertureRunning (a : Nat) (s : State) :
    bankPart (apertureRunning a s) = bankPart s := by simp [apertureRunning]

@[simp] theorem bankPart_noiseRefLearnt (a i : Nat) (s : State) :
    bankPart (noiseRefLearnt a i s) = bankPart s := by simp [noiseRefLearnt]

@[simp] theorem bankPart_jiAlertClear (a i : Nat) (s : State) :
    bankPart (jiAlertClear a i s) = bankPart s := by simp [jiAlertClear]

@[simp] theorem bankPart_iqBlock (a i : Nat) (s : State) : bankPart (iqBlock a i s) = bankPart s := by
  unfold iqBlock
  split <;> simp

@[simp] theorem bankPart_aprRestore (a : Nat) (s : State) : bankPart (aprRestore a s) = bankPart s := by simp [aprRestore]

/-! ### Island work -/

@[simp] theorem bankPart_eraseRegions (s : State) : bankPart (eraseRegions s) = bankPart s := (rfl)
@[simp] theorem bankPart_keepMram (s t : State) : bankPart (keepMram s t) = bankPart t := (rfl)
@[simp] theorem bankPart_holdOrbit (r : OrbitRec) (s : State) : bankPart (holdOrbit r s) = bankPart s := (rfl)

/-! ### Self-tests -/

@[simp] theorem bankPart_startSlice (b : Nat) (s : State) : bankPart (startSlice b s) = bankPart s := (rfl)

@[simp] theorem bankPart_selftestSlot (us : Nat) (synth modem : Bool) (s : State) :
    bankPart (selftestSlot us synth modem s) = bankPart s := by
  unfold selftestSlot
  simp
  split <;> simp

@[simp] theorem bankPart_voileSliceStart (s : State) : bankPart (voileSliceStart s) = bankPart s := by simp [voileSliceStart]

@[simp] theorem bankPart_sliceEnd (pass : Bool) (vector : Nat) (s : State) : bankPart (sliceEnd pass vector s) = bankPart s := by
  unfold sliceEnd
  split <;> simp

/-! ### Channels -/

@[simp] theorem bankPart_modChan (c : Nat) (f : Channel → Channel) (s : State) : bankPart (modChan c f s) = bankPart s := (rfl)
@[simp] theorem bankPart_modCa (c a : Nat) (f : ChanApr → ChanApr) (s : State) : bankPart (modCa c a f s) = bankPart s := (rfl)

@[simp] theorem bankPart_chanEvent (kind c a detail : Nat) (value : Int) (s : State) :
    bankPart (chanEvent kind c a detail value s) = bankPart s := by simp [chanEvent]

@[simp] theorem bankPart_chanFlushEvents (c : Nat) (s : State) :
    bankPart (chanFlushEvents c s) = bankPart s := by simp [chanFlushEvents]

@[simp] theorem bankPart_trackUnit (a i : Nat) (s : State) : bankPart (trackUnit a i s) = bankPart s := by simp [trackUnit]

@[simp] theorem bankPart_recordSlip (c a detail : Nat) (s : State) :
    bankPart (recordSlip c a detail s) = bankPart s := by simp [recordSlip]

@[simp] theorem bankPart_recordCommonSlip (c : Nat) (s : State) :
    bankPart (recordCommonSlip c s) = bankPart s := by simp [recordCommonSlip]

@[simp] theorem bankPart_enterSearch (c a detail : Nat) (s : State) :
    bankPart (enterSearch c a detail s) = bankPart s := by simp [enterSearch]

@[simp] theorem bankPart_limitHit (c a : Nat) (lagSide : Bool) (s : State) :
    bankPart (limitHit c a lagSide s) = bankPart s := by simp [limitHit]

@[simp] theorem bankPart_checkLimits (c a : Nat) (s : State) : bankPart (checkLimits c a s) = bankPart s := by simp [checkLimits]

@[simp] theorem bankPart_handOver (c b detail : Nat) (s : State) :
    bankPart (handOver c b detail s) = bankPart s := by simp [handOver]

@[simp] theorem bankPart_pinnedHandOver (c b : Nat) (s : State) : bankPart (pinnedHandOver c b s) = bankPart s := by
  unfold pinnedHandOver
  dsimp only
  (repeat' split) <;> simp

@[simp] theorem bankPart_forcedHandOver (c : Nat) (s : State) : bankPart (forcedHandOver c s) = bankPart s := by
  unfold forcedHandOver
  dsimp only
  (repeat' split) <;> simp

@[simp] theorem bankPart_epochHandOver (c : Nat) (s : State) : bankPart (epochHandOver c s) = bankPart s := by
  unfold epochHandOver
  dsimp only
  (repeat' split) <;> simp

@[simp] theorem bankPart_freeChannel (c cause : Nat) (s : State) :
    bankPart (freeChannel c cause s) = bankPart s := by simp [freeChannel]

@[simp] theorem bankPart_releaseChannel (c cause : Nat) (s : State) :
    bankPart (releaseChannel c cause s) = bankPart s := by simp [releaseChannel]

theorem bankPart_allocate {s t : State} {c : Nat} (h : allocate s = some (c, t)) : bankPart t = bankPart s := by
  unfold allocate at h
  split at h
  · cases h; rfl
  · obtain ⟨d, -, hd⟩ := Option.map_eq_some_iff.mp h
    cases hd; simp

@[simp] theorem bankPart_assignChannel (c signal sv mask anchor detail : Nat) (prov comp : Bool) (s : State) :
    bankPart (assignChannel c signal sv mask anchor detail prov comp s) = bankPart s := (rfl)

@[simp] theorem bankPart_closeDump (c : Nat) (us : List CorrUpset) (a : Nat) (s : State) :
    bankPart (closeDump c us a s) = bankPart s := by simp [closeDump]

@[simp] theorem bankPart_residualEpoch (c : Nat) (sign : Option Bool) (a : Nat) (s : State) :
    bankPart (residualEpoch c sign a s) = bankPart s := by simp [residualEpoch]

@[simp] theorem bankPart_resolveHalf (c : Nat) (s : State) : bankPart (resolveHalf c s) = bankPart s := by
  unfold resolveHalf
  dsimp only
  (repeat' split) <;> simp

@[simp] theorem bankPart_sharedEpoch (c : Nat) (s : State) : bankPart (sharedEpoch c s) = bankPart s := by simp [sharedEpoch]

@[simp] theorem bankPart_suspectCommon (c : Nat) (others : List Nat) (s : State) :
    bankPart (suspectCommon c others s) = bankPart s := (rfl)

@[simp] theorem bankPart_judgeCommon (late : Bool) (c : Nat) (s : State) : bankPart (judgeCommon late c s) = bankPart s := by
  unfold judgeCommon
  dsimp only
  (repeat' split) <;> simp

@[simp] theorem bankPart_applyLoops (c : Nat) (others : List Nat) (s : State) :
    bankPart (applyLoops c others s) = bankPart s := by
  unfold applyLoops
  dsimp only
  (repeat' split) <;> simp

@[simp] theorem bankPart_leaveChannel (c : Nat) (s : State) : bankPart (leaveChannel c s) = bankPart s := by simp [leaveChannel]
@[simp] theorem bankPart_joinChannel (c : Nat) (s : State) : bankPart (joinChannel c s) = bankPart s := by simp [joinChannel]

@[simp] theorem bankPart_chanMoves (c : Nat) (s : State) : bankPart (chanMoves c s) = bankPart s := by
  unfold chanMoves
  dsimp only
  (repeat' split) <;> simp

@[simp] theorem bankPart_promptTrigger (c : Nat) (s : State) : bankPart (promptTrigger c s) = bankPart s := by
  unfold promptTrigger
  split <;> simp

@[simp] theorem bankPart_codeJump (c : Nat) (s : State) : bankPart (codeJump c s) = bankPart s := by simp [codeJump]

@[simp] theorem bankPart_chanTakeEffect (c : Nat) (s : State) : bankPart (chanTakeEffect c s) = bankPart s := by
  unfold chanTakeEffect
  dsimp only
  (repeat' split) <;> simp

@[simp] theorem bankPart_chanTrack (us : List CorrUpset) (c : Nat) (s : State) :
    bankPart (chanTrack us c s) = bankPart s := by simp [chanTrack]

@[simp] theorem bankPart_takeRelease (c : Nat) (s : State) : bankPart (takeRelease c s) = bankPart s := by
  unfold takeRelease
  split <;> simp

@[simp] theorem bankPart_chanEpoch (us : List CorrUpset) (c : Nat) (s : State) :
    bankPart (chanEpoch us c s) = bankPart s := by simp [chanEpoch]

@[simp] theorem bankPart_advanceChannels (s : State) : bankPart (advanceChannels s) = bankPart s := by simp [advanceChannels]
@[simp] theorem bankPart_unitsEpoch (s : State) : bankPart (unitsEpoch s) = bankPart s := by simp [unitsEpoch]
@[simp] theorem bankPart_shiftCodes (d : Int) (s : State) : bankPart (shiftCodes d s) = bankPart s := by simp [shiftCodes]
@[simp] theorem bankPart_shiftSearch (d : Int) (s : State) : bankPart (shiftSearch d s) = bankPart s := (rfl)
@[simp] theorem bankPart_feedSearch (ff : Int) (s : State) : bankPart (feedSearch ff s) = bankPart s := (rfl)
@[simp] theorem bankPart_lockGained (c a : Nat) (s : State) : bankPart (lockGained c a s) = bankPart s := by simp [lockGained]
@[simp] theorem bankPart_lockLost (c a : Nat) (s : State) : bankPart (lockLost c a s) = bankPart s := by simp [lockLost]

@[simp] theorem bankPart_halfCycle (c a : Nat) (cross : Int) (s : State) :
    bankPart (halfCycle c a cross s) = bankPart s := by simp [halfCycle]

@[simp] theorem bankPart_pliApr (c a : Nat) (s : State) : bankPart (pliApr c a s) = bankPart s := by simp [pliApr]
@[simp] theorem bankPart_pliChannel (c : Nat) (s : State) : bankPart (pliChannel c s) = bankPart s := by simp [pliChannel]
@[simp] theorem bankPart_pliWindow (s : State) : bankPart (pliWindow s) = bankPart s := by simp [pliWindow]

@[simp] theorem bankPart_lagUpdateOne (c a : Nat) (s : State) :
    bankPart (lagUpdateOne c a s) = bankPart s := by simp [lagUpdateOne]

@[simp] theorem bankPart_lagUpdateLead (c : Nat) (s : State) : bankPart (lagUpdateLead c s) = bankPart s := (rfl)
@[simp] theorem bankPart_lagUpdate (s : State) : bankPart (lagUpdate s) = bankPart s := by simp [lagUpdate]

@[simp] theorem bankPart_voluntaryHandover (c : Nat) (s : State) : bankPart (voluntaryHandover c s) = bankPart s := by
  unfold voluntaryHandover
  split <;> simp

@[simp] theorem bankPart_lagFound (c a : Nat) (lag : Int) (q : LagSearch) (s : State) :
    bankPart (lagFound c a lag q s) = bankPart s := by simp [lagFound]

@[simp] theorem bankPart_lagSearchDwell (c a : Nat) (s : State) : bankPart (lagSearchDwell c a s) = bankPart s := by
  unfold lagSearchDwell
  (repeat' split) <;> simp

@[simp] theorem bankPart_pullInTimeout (c : Nat) (s : State) :
    bankPart (pullInTimeout c s) = bankPart s := by simp [pullInTimeout]

@[simp] theorem bankPart_coastEntry (c : Nat) (s : State) : bankPart (coastEntry c s) = bankPart s := by simp [coastEntry]
@[simp] theorem bankPart_coastTimeout (c : Nat) (s : State) : bankPart (coastTimeout c s) = bankPart s := by simp [coastTimeout]

@[simp] theorem bankPart_aprCoastTimeout (c a : Nat) (s : State) :
    bankPart (aprCoastTimeout c a s) = bankPart s := by simp [aprCoastTimeout]

@[simp] theorem bankPart_burstWake (s : State) : bankPart (burstWake s) = bankPart s := by simp [burstWake]
@[simp] theorem bankPart_resumeChannel (c : Nat) (s : State) : bankPart (resumeChannel c s) = bankPart s := (rfl)
@[simp] theorem bankPart_burstSlip (c a : Nat) (s : State) : bankPart (burstSlip c a s) = bankPart s := by simp [burstSlip]

@[simp] theorem bankPart_returnChannel (c : Nat) (s : State) :
    bankPart (returnChannel c s) = bankPart s := by simp [returnChannel]

@[simp] theorem bankPart_burstChannel (c : Nat) (s : State) : bankPart (burstChannel c s) = bankPart s := by simp [burstChannel]
@[simp] theorem bankPart_burstStart (s : State) : bankPart (burstStart s) = bankPart s := by simp [burstStart]

@[simp] theorem bankPart_burstHoldChannel (c : Nat) (s : State) :
    bankPart (burstHoldChannel c s) = bankPart s := by simp [burstHoldChannel]

@[simp] theorem bankPart_burstGate (s : State) : bankPart (burstGate s) = bankPart s := by
  unfold burstGate
  (repeat' split) <;> simp

@[simp] theorem bankPart_burstEnd (s : State) : bankPart (burstEnd s) = bankPart s := by simp [burstEnd]
@[simp] theorem bankPart_burstLeave (s : State) : bankPart (burstLeave s) = bankPart s := (rfl)

@[simp] theorem bankPart_burstTakeEffect (s : State) : bankPart (burstTakeEffect s) = bankPart s := by
  unfold burstTakeEffect
  split <;> simp

@[simp] theorem bankPart_heldEpoch (c : Nat) (s : State) : bankPart (heldEpoch c s) = bankPart s := by simp [heldEpoch]
@[simp] theorem bankPart_trkEpoch (us : List CorrUpset) (s : State) : bankPart (trkEpoch us s) = bankPart s := by simp [trkEpoch]

/-! ### Kernel cores -/

@[simp] theorem bankPart_postKernel (kind k gen detail chain : Nat) (body : List Byte) (s : State) :
    bankPart (postKernel kind k gen detail chain body s) = bankPart s := by simp [postKernel]

@[simp] theorem bankPart_interruptEntry (k : Nat) (s : State) :
    bankPart (interruptEntry k s) = bankPart s := by simp [interruptEntry]

@[simp] theorem bankPart_kernelEntry (k : Nat) (s : State) : bankPart (kernelEntry k s) = bankPart s := by simp [kernelEntry]
@[simp] theorem bankPart_kernelEpoch (s : State) : bankPart (kernelEpoch s) = bankPart s := by simp [kernelEpoch]
@[simp] theorem bankPart_moveProv (old new : Nat) (s : State) : bankPart (moveProv old new s) = bankPart s := by simp [moveProv]

@[simp] theorem bankPart_failoverStart (k : Nat) (s : State) : bankPart (failoverStart k s) = bankPart s := by
  unfold failoverStart
  split <;> simp

@[simp] theorem bankPart_quarantineEnd (k : Nat) (s : State) :
    bankPart (quarantineEnd k s) = bankPart s := by simp [quarantineEnd]

@[simp] theorem bankPart_imageStored (k : Nat) (s : State) : bankPart (imageStored k s) = bankPart s := by
  unfold imageStored
  dsimp only
  (repeat' split) <;> simp

@[simp] theorem bankPart_kernelWrite (k : Nat) (f : Core → Core) (s : State) :
    bankPart (kernelWrite k f s) = bankPart s := by simp [kernelWrite]

/-! ### The clock -/

@[simp] theorem bankPart_modClkOut (o : Nat) (f : ClkOut → ClkOut) (s : State) : bankPart (modClkOut o f s) = bankPart s := (rfl)

@[simp] theorem bankPart_clkEvent (ev : Nat) (out : Option Nat) (detail : Nat) (value : Int) (s : State) :
    bankPart (clkEvent ev out detail value s) = bankPart s := by simp [clkEvent]

@[simp] theorem bankPart_rateJump (dy : Int) (s : State) : bankPart (rateJump dy s) = bankPart s := by simp [rateJump]
@[simp] theorem bankPart_takeJump (s : State) : bankPart (takeJump s) = bankPart s := by simp [takeJump]
@[simp] theorem bankPart_stepOutputs (d : Int) (s : State) : bankPart (stepOutputs d s) = bankPart s := by simp [stepOutputs]
@[simp] theorem bankPart_clkTick (s : State) : bankPart (clkTick s) = bankPart s := by simp [clkTick]
@[simp] theorem bankPart_startSweeps (s : State) : bankPart (startSweeps s) = bankPart s := by simp [startSweeps]

/-! ### Damask -/

@[simp] theorem bankPart_postAcq (chain : Nat) (recs : List (List Byte)) (s : State) :
    bankPart (postAcq chain recs s) = bankPart s := by simp [postAcq]

@[simp] theorem bankPart_commitCand (c : Candidate) (outcome channel chain : Nat) (s : State) :
    bankPart (commitCand c outcome channel chain s) = bankPart s := by simp [commitCand]

@[simp] theorem bankPart_beginWindow (s : State) : bankPart (beginWindow s) = bankPart s := (rfl)
@[simp] theorem bankPart_damaskUnit (a i : Nat) (s : State) : bankPart (damaskUnit a i s) = bankPart s := by simp [damaskUnit]
@[simp] theorem bankPart_dropSat (task sv : Nat) (s : State) : bankPart (dropSat task sv s) = bankPart s := (rfl)
@[simp] theorem bankPart_dropCand (c : Candidate) (s : State) : bankPart (dropCand c s) = bankPart s := by simp [dropCand]
@[simp] theorem bankPart_fillVerification (s : State) : bankPart (fillVerification s) = bankPart s := by simp [fillVerification]
@[simp] theorem bankPart_fillSat (r : SatRun) (s : State) : bankPart (fillSat r s) = bankPart s := (rfl)

@[simp] theorem bankPart_fillSearch (s : State) : bankPart (fillSearch s) = bankPart s := by
  unfold fillSearch
  split <;> simp

@[simp] theorem bankPart_startBlocks (s : State) : bankPart (startBlocks s) = bankPart s := (rfl)
@[simp] theorem bankPart_acqFinish (s : State) : bankPart (acqFinish s) = bankPart s := (rfl)
@[simp] theorem bankPart_revokeChannel (c cause : Nat) (s : State) : bankPart (revokeChannel c cause s) = bankPart s := (rfl)

@[simp] theorem bankPart_endCand (c : Candidate) (outcome chain channel : Nat) (s : State) :
    bankPart (endCand c outcome chain channel s) = bankPart s := by simp [endCand]

@[simp] theorem bankPart_acqUpkeep (s : State) : bankPart (acqUpkeep s) = bankPart s := by
  unfold acqUpkeep
  dsimp only
  rw [bankPart_foldS, bankPart_foldS]
  · rfl
  · intro c t
    split
    · dsimp only [Option.isSome]
      split
      · simp
      · split <;> simp
    · split <;> simp
  · intro r t
    split
    · split <;> simp
    · rfl

@[simp] theorem bankPart_endPlan (taskCause planCause : Nat) (s : State) :
    bankPart (endPlan taskCause planCause s) = bankPart s := by simp [endPlan]

@[simp] theorem bankPart_endTasks (s : State) : bankPart (endTasks s) = bankPart s := by simp [endTasks]

@[simp] theorem bankPart_beginPass (n : Nat) (s : State) : bankPart (beginPass n s) = bankPart s := by
  unfold beginPass
  split <;> simp

@[simp] theorem bankPart_endPass (s : State) : bankPart (endPass s) = bankPart s := by
  unfold endPass
  split <;> simp

theorem bankPart_assignCand {n : Nat} {c : Candidate} {s u : State} {ch : Nat} (h : assignCand n c s = .got ch u) :
    bankPart u = bankPart s := by
  unfold assignCand at h
  split at h; · cases h
  split at h; · cases h
  split at h; · cases h
  split at h
  · cases h
  · next heq => cases h; simp [bankPart_allocate heq]

@[simp] theorem bankPart_modCand (c : Candidate) (f : Candidate → Candidate) (s : State) :
    bankPart (modCand c f s) = bankPart s := (rfl)

@[simp] theorem bankPart_handOff (testLeft chain : Nat) (c : Candidate) (s : State) : bankPart (handOff testLeft chain c s) = bankPart s := by
  unfold handOff
  split
  · simp
  · simp
  · simp
  · next h => simp [bankPart_assignCand h]

@[simp] theorem bankPart_verified (testLeft chain : Nat) (c : Candidate) (s : State) : bankPart (verified testLeft chain c s) = bankPart s := by
  unfold verified
  split
  · simp
  · dsimp only
    split
    · simp
    · split
      · simp
      · simp
      · next h => simp [bankPart_assignCand h]

@[simp] theorem bankPart_assignWaiting (s : State) : bankPart (assignWaiting s) = bankPart s := by simp [assignWaiting]
@[simp] theorem bankPart_acqStep (s : State) : bankPart (acqStep s) = bankPart s := by simp [acqStep]
@[simp] theorem bankPart_dutyWindowRow (s : State) : bankPart (dutyWindowRow s) = bankPart s := by simp [dutyWindowRow]
@[simp] theorem bankPart_burstStartRow (s : State) : bankPart (burstStartRow s) = bankPart s := by simp [burstStartRow]

@[simp] theorem bankPart_formCand (p : AcqPlan) (t : AcqTask) (testLeft chain : Nat) (c : Candidate) (s : State) :
    bankPart (formCand p t testLeft chain c s) = bankPart s := by simp [formCand]

@[simp] theorem bankPart_shutSat (task sv : Nat) (s : State) : bankPart (shutSat task sv s) = bankPart s := (rfl)

@[simp] theorem bankPart_dwellEnd (task sv : Nat) (us : List CellUpset) (r : Upset) (testLeft : Nat) (s : State) :
    bankPart (dwellEnd task sv us r testLeft s) = bankPart s := by
  unfold dwellEnd
  dsimp only
  (repeat' split) <;> simp

@[simp] theorem bankPart_verificationEnd (signal sv : Nat) (us : List CellUpset) (r : Upset) (testLeft : Nat) (s : State) :
    bankPart (verificationEnd signal sv us r testLeft s) = bankPart s := by
  unfold verificationEnd
  (repeat' split) <;> simp

@[simp] theorem bankPart_clearProv (c : Nat) (s : State) : bankPart (clearProv c s) = bankPart s := (rfl)
@[simp] theorem bankPart_revokeAt (c cause : Nat) (s : State) : bankPart (revokeAt c cause s) = bankPart s := by simp [revokeAt]
@[simp] theorem bankPart_confirmAt (c : Nat) (s : State) : bankPart (confirmAt c s) = bankPart s := by simp [confirmAt]

@[simp] theorem bankPart_provisionalEpoch (s : State) : bankPart (provisionalEpoch s) = bankPart s := by
  unfold provisionalEpoch
  split
  · refine bankPart_foldS _ (fun c t => ?_) _ s
    split
    · simp
    · split <;> simp
  · rfl

@[simp] theorem bankPart_lapseTime (cause : Nat) (s : State) : bankPart (lapseTime cause s) = bankPart s := by
  unfold lapseTime
  split <;> simp

@[simp] theorem bankPart_aidLapse (signal sv : Nat) (s : State) :
    bankPart (aidLapse signal sv s) = bankPart s := by simp [aidLapse]

/-! ### Voile -/

@[simp] theorem bankPart_postCal (kind cause a slice label : Nat) (entries : List (List Byte)) (s : State) :
    bankPart (postCal kind cause a slice label entries s) = bankPart s := by simp [postCal]

@[simp] theorem bankPart_postCalEvent (kind cause : Nat) (s : State) :
    bankPart (postCalEvent kind cause s) = bankPart s := by simp [postCalEvent]

@[simp] theorem bankPart_abandonCal (cause : Nat) (s : State) : bankPart (abandonCal cause s) = bankPart s := by simp [abandonCal]
@[simp] theorem bankPart_voileStop (cause : Nat) (s : State) : bankPart (voileStop cause s) = bankPart s := by simp [voileStop]

@[simp] theorem bankPart_announceCal (label : Nat) (s : State) : bankPart (announceCal label s) = bankPart s := by
  unfold announceCal
  split <;> simp

@[simp] theorem bankPart_calApply (s : State) : bankPart (calApply s) = bankPart s := by
  unfold calApply
  split <;> simp

@[simp] theorem bankPart_calLeave (s : State) : bankPart (calLeave s) = bankPart s := by
  unfold calLeave
  split <;> simp

@[simp] theorem bankPart_calRestore (tableBad distBad : Bool) (s : State) :
    bankPart (calRestore tableBad distBad s) = bankPart s := by
  unfold calRestore
  simp
  split <;> simp

@[simp] theorem bankPart_voileGens (s : State) : bankPart (voileGens s) = bankPart s := by simp [voileGens]
@[simp] theorem bankPart_voileUnit (a i : Nat) (s : State) : bankPart (voileUnit a i s) = bankPart s := by simp [voileUnit]
@[simp] theorem bankPart_voileMark (s : State) : bankPart (voileMark s) = bankPart s := by simp [voileMark]

@[simp] theorem bankPart_voileEpoch (tableBad distBad : Bool) (s : State) :
    bankPart (voileEpoch tableBad distBad s) = bankPart s := by
  unfold voileEpoch
  dsimp only
  (repeat' split) <;> simp

@[simp] theorem bankPart_voileFinal (shadowFail : Bool) (s : State) : bankPart (voileFinal shadowFail s) = bankPart s := by
  unfold voileFinal
  split <;> simp

@[simp] theorem bankPart_voileSecond (s : State) : bankPart (voileSecond s) = bankPart s := by simp [voileSecond]

@[simp] theorem bankPart_calOutOfRange (k : Nat) (s : State) :
    bankPart (calOutOfRange k s) = bankPart s := by simp [calOutOfRange]

@[simp] theorem bankPart_calTake (w : CalWindow) (ref k : Nat) (s : State) :
    bankPart (calTake w ref k s) = bankPart s := by simp [calTake]

@[simp] theorem bankPart_calInject (w : CalWindow) (a : Nat) (s : State) : bankPart (calInject w a s) = bankPart s := by
  unfold calInject
  split <;> simp

@[simp] theorem bankPart_calDecide (cause : Nat) (temp : Int) (s : State) :
    bankPart (calDecide cause temp s) = bankPart s := (rfl)

@[simp] theorem bankPart_calWindowReport (w : CalWindow) (keys : List Nat) (temp : Int) (s : State) :
    bankPart (calWindowReport w keys temp s) = bankPart s := by simp [calWindowReport]

@[simp] theorem bankPart_calTakes (w : CalWindow) (keys : List Nat) (s : State) : bankPart (calTakes w keys s) = bankPart s := by
  unfold calTakes
  split <;> simp

@[simp] theorem bankPart_voileWindowEnd (temp : Int) (s : State) : bankPart (voileWindowEnd temp s) = bankPart s := by
  unfold voileWindowEnd
  split <;> simp

@[simp] theorem bankPart_calTableStored (ok : Bool) (s : State) :
    bankPart (calTableStored ok s) = bankPart s := by simp [calTableStored]

/-! ### Measurements and Tulle -/

@[simp] theorem bankPart_takeRates (s : State) : bankPart (takeRates s) = bankPart s := by
  unfold takeRates
  split <;> simp

@[simp] theorem bankPart_takeNav (s : State) : bankPart (takeNav s) = bankPart s := by
  unfold takeNav
  split <;> simp

@[simp] theorem bankPart_frameOrbit (m : List Byte) (s : State) : bankPart (frameOrbit m s) = bankPart s := by
  unfold frameOrbit
  (repeat' split) <;> simp

@[simp] theorem bankPart_takeFrames (fs : List (List Byte)) (s : State) :
    bankPart (takeFrames fs s) = bankPart s := by simp [takeFrames]

@[simp] theorem bankPart_linkCorrection (bs : List Byte) (s : State) :
    bankPart (linkCorrection bs s) = bankPart s := by simp [linkCorrection]

@[simp] theorem bankPart_dumpCommit (c a : Nat) (u : Upset) (s : State) : bankPart (dumpCommit c a u s) = bankPart s := by
  unfold dumpCommit
  refine bankPart_of_ite rfl ?_
  rw [bankPart_deliverDump, bankPart_modCa]

@[simp] theorem bankPart_startPhase (c a : Nat) (s : State) : bankPart (startPhase c a s) = bankPart s := by simp [startPhase]
@[simp] theorem bankPart_readRecord (c a : Nat) (s : State) : bankPart (readRecord c a s) = bankPart s := by simp [readRecord]
@[simp] theorem bankPart_readRecords (s : State) : bankPart (readRecords s) = bankPart s := by simp [readRecords]

@[simp] theorem bankPart_noteProv (target : Nat) (cs : List Nat) (s : State) :
    bankPart (noteProv target cs s) = bankPart s := by simp [noteProv]

@[simp] theorem bankPart_sendEpoch (prov : Bool) (pl : List (Nat × Nat × List Byte)) (s : State) :
    bankPart (sendEpoch prov pl s) = bankPart s := by simp [sendEpoch]

@[simp] theorem bankPart_rawCutoff (residue : BitVec 24) (s : State) :
    bankPart (rawCutoff residue s) = bankPart s := by simp [rawCutoff]

@[simp] theorem bankPart_pvtCutoff (o : EngineObs) (s : State) : bankPart (pvtCutoff o s) = bankPart s := by simp [pvtCutoff]
@[simp] theorem bankPart_pvtEpoch (s : State) : bankPart (pvtEpoch s) = bankPart s := by simp [pvtEpoch]

@[simp] theorem bankPart_modGroup (g : Nat) (f : TulGroup → TulGroup) (s : State) :
    bankPart (modGroup g f s) = bankPart s := (rfl)

@[simp] theorem bankPart_groupEpoch (g : Nat) (s : State) : bankPart (groupEpoch g s) = bankPart s := by
  unfold groupEpoch
  dsimp only
  (repeat' split) <;> simp

@[simp] theorem bankPart_tulEpoch (s : State) : bankPart (tulEpoch s) = bankPart s := by simp [tulEpoch]
@[simp] theorem bankPart_groupChoose (g : Nat) (s : State) : bankPart (groupChoose g s) = bankPart s := (rfl)

@[simp] theorem bankPart_postTulle (g : Nat) (final : Bool) (chain : Nat) (body : List Byte) (s : State) :
    bankPart (postTulle g final chain body s) = bankPart s := by simp [postTulle]

@[simp] theorem bankPart_markPoison (o : EngineObs) (s : State) : bankPart (markPoison o s) = bankPart s := by simp [markPoison]

@[simp] theorem bankPart_groupProvisional (o : EngineObs) (g : Nat) (s : State) :
    bankPart (groupProvisional o g s) = bankPart s := by
  unfold groupProvisional
  dsimp only
  (repeat' split) <;> simp

@[simp] theorem bankPart_timeCutoff (s : State) : bankPart (timeCutoff s) = bankPart s := by
  unfold timeCutoff
  split <;> simp

@[simp] theorem bankPart_provisionalCutoff (o : EngineObs) (s : State) :
    bankPart (provisionalCutoff o s) = bankPart s := by simp [provisionalCutoff]

@[simp] theorem bankPart_groupFinal (o : EngineObs) (g : Nat) (s : State) : bankPart (groupFinal o g s) = bankPart s := by
  unfold groupFinal
  split <;> simp

@[simp] theorem bankPart_finalCutoff (o : EngineObs) (s : State) :
    bankPart (finalCutoff o s) = bankPart s := by simp [finalCutoff]

/-! ### Nunar -/

@[simp] theorem bankPart_planMs (s : State) : bankPart (planMs s) = bankPart s := by
  unfold planMs
  dsimp only
  (repeat' split) <;> simp

@[simp] theorem bankPart_endMs (s : State) : bankPart (endMs s) = bankPart s := by simp [endMs]
@[simp] theorem bankPart_takeStep (p : TimeStep) (s : State) : bankPart (takeStep p s) = bankPart s := by simp [takeStep]
@[simp] theorem bankPart_nextLabel (s : State) : bankPart (nextLabel s) = bankPart s := (rfl)
@[simp] theorem bankPart_takeScale (scale : Nat) (s : State) : bankPart (takeScale scale s) = bankPart s := by simp [takeScale]

@[simp] theorem bankPart_scaleDue (s : State) : bankPart (scaleDue s) = bankPart s := by
  unfold scaleDue
  split <;> simp

@[simp] theorem bankPart_firstEpoch (elapsed : Nat) (s : State) : bankPart (firstEpoch elapsed s) = bankPart s := (rfl)
@[simp] theorem bankPart_clearPoison (s : State) : bankPart (clearPoison s) = bankPart s := by simp [clearPoison]

@[simp] theorem bankPart_nunarEpoch (elapsed : Nat) (s0 : State) : bankPart (nunarEpoch elapsed s0) = bankPart s0 := by
  unfold nunarEpoch
  dsimp only
  (repeat' split) <;> simp

@[simp] theorem bankPart_startSlew (d : Int) (s : State) : bankPart (startSlew d s) = bankPart s := (rfl)
@[simp] theorem bankPart_planStep (d : Int) (s : State) : bankPart (planStep d s) = bankPart s := (rfl)

@[simp] theorem bankPart_decideReturn (d freq : Int) (s : State) :
    bankPart (decideReturn d freq s) = bankPart s := by simp [decideReturn]

@[simp] theorem bankPart_enterCoasting (s : State) : bankPart (enterCoasting s) = bankPart s := (rfl)
@[simp] theorem bankPart_secondLost (s : State) : bankPart (secondLost s) = bankPart s := by simp [secondLost]

@[simp] theorem bankPart_secondHeld (o : SecondObs) (src : Bool) (x : Int) (valid : Bool) (s : State) :
    bankPart (secondHeld o src x valid s) = bankPart s := by simp [secondHeld]

@[simp] theorem bankPart_postOffsets (o : SecondObs) (s : State) :
    bankPart (postOffsets o s) = bankPart s := by simp [postOffsets]

@[simp] theorem bankPart_loadTimeCount (s : State) : bankPart (loadTimeCount s) = bankPart s := by simp [loadTimeCount]
@[simp] theorem bankPart_lowerLimit (s : State) : bankPart (lowerLimit s) = bankPart s := (rfl)

@[simp] theorem bankPart_nunarSecond (o : SecondObs) (s : State) : bankPart (nunarSecond o s) = bankPart s := by
  unfold nunarSecond
  split <;> simp

@[simp] theorem bankPart_holdoverExpiry (s : State) : bankPart (holdoverExpiry s) = bankPart s := by simp [holdoverExpiry]
@[simp] theorem bankPart_slewEnd (s : State) : bankPart (slewEnd s) = bankPart s := by simp [slewEnd]
@[simp] theorem bankPart_nunarBypass (s : State) : bankPart (nunarBypass s) = bankPart s := by simp [nunarBypass]

/-! ### Pulses and events -/

@[simp] theorem bankPart_modTp (o : Nat) (f : TpOut → TpOut) (s : State) : bankPart (modTp o f s) = bankPart s := (rfl)

@[simp] theorem bankPart_postPulse (o kind : Nat) (e : PulseEdge) (s : State) :
    bankPart (postPulse o kind e s) = bankPart s := by simp [postPulse]

@[simp] theorem bankPart_announce (o i : Nat) (noticed : Bool) (s : State) :
    bankPart (announce o i noticed s) = bankPart s := by simp [announce]

@[simp] theorem bankPart_pulseNotice (o : Nat) (s : State) : bankPart (pulseNotice o s) = bankPart s := by
  unfold pulseNotice
  split <;> simp

@[simp] theorem bankPart_edgeAnnounce (o : Nat) (s : State) : bankPart (edgeAnnounce o s) = bankPart s := by
  unfold edgeAnnounce
  split <;> simp

@[simp] theorem bankPart_pulseEdge (o : Nat) (s : State) : bankPart (pulseEdge o s) = bankPart s := by
  unfold pulseEdge
  split <;> simp

@[simp] theorem bankPart_pulseTrailing (o : Nat) (s : State) : bankPart (pulseTrailing o s) = bankPart s := by
  unfold pulseTrailing
  split <;> simp

@[simp] theorem bankPart_pulsesBypass (s : State) : bankPart (pulsesBypass s) = bankPart s := by simp [pulsesBypass]
@[simp] theorem bankPart_modEvt (n : Nat) (f : EvtIn → EvtIn) (s : State) : bankPart (modEvt n f s) = bankPart s := (rfl)
@[simp] theorem bankPart_evtOverflow (n : Nat) (s : State) : bankPart (evtOverflow n s) = bankPart s := by simp [evtOverflow]

@[simp] theorem bankPart_eventEdge (n : Nat) (rising : Bool) (g : Nat) (s : State) :
    bankPart (eventEdge n rising g s) = bankPart s := by simp [eventEdge]

@[simp] theorem bankPart_sendEvents (n : Nat) (s : State) : bankPart (sendEvents n s) = bankPart s := by simp [sendEvents]
@[simp] theorem bankPart_deliverEvents (s : State) : bankPart (deliverEvents s) = bankPart s := by simp [deliverEvents]

/-! ### The link's radio -/

@[simp] theorem bankPart_modEntry (i : Nat) (f : SynthEntry → SynthEntry) (s : State) :
    bankPart (modEntry i f s) = bankPart s := (rfl)

@[simp] theorem bankPart_countLink (f : LinkCounts → LinkCounts) (s : State) : bankPart (countLink f s) = bankPart s := (rfl)
@[simp] theorem bankPart_discardFrames (keep : TxFrame → Bool) (s : State) : bankPart (discardFrames keep s) = bankPart s := (rfl)

@[simp] theorem bankPart_reportTx (status : Nat) (x : LinkSlot) (f : TxFrame) (s : State) :
    bankPart (reportTx status x f s) = bankPart s := by simp [reportTx]

@[simp] theorem bankPart_takeCorr (s : State) : bankPart (takeCorr s) = bankPart s := (rfl)
@[simp] theorem bankPart_startCal (ch : Nat) (s : State) : bankPart (startCal ch s) = bankPart s := (rfl)
@[simp] theorem bankPart_startHop (ch : Nat) (s : State) : bankPart (startHop ch s) = bankPart s := (rfl)

@[simp] theorem bankPart_synthCalStart (n : Nat) (s : State) : bankPart (synthCalStart n s) = bankPart s := by
  unfold synthCalStart
  split <;> simp

@[simp] theorem bankPart_synthHopStart (n : Nat) (s : State) : bankPart (synthHopStart n s) = bankPart s := by
  unfold synthHopStart
  split <;> simp

@[simp] theorem bankPart_startWaiting (s : State) : bankPart (startWaiting s) = bankPart s := by
  unfold startWaiting
  dsimp only
  (repeat' split) <;> simp

@[simp] theorem bankPart_backgroundCalStart (us : Nat) (s : State) : bankPart (backgroundCalStart us s) = bankPart s := by
  unfold backgroundCalStart
  (repeat' split) <;> simp

@[simp] theorem bankPart_synthLockReport (c : SynthCodes) (s : State) : bankPart (synthLockReport c s) = bankPart s := by
  unfold synthLockReport
  (repeat' split) <;> simp

@[simp] theorem bankPart_calSlotEnd (us : Nat) (s : State) : bankPart (calSlotEnd us s) = bankPart s := by
  unfold calSlotEnd
  split <;> simp

@[simp] theorem bankPart_linkTempCheck (temp : Int) (s : State) :
    bankPart (linkTempCheck temp s) = bankPart s := by simp [linkTempCheck]

@[simp] theorem bankPart_cutReception (s : State) : bankPart (cutReception s) = bankPart s := by simp [cutReception]

@[simp] theorem bankPart_lpaAssert (n : Nat) (s : State) : bankPart (lpaAssert n s) = bankPart s := by
  unfold lpaAssert
  split <;> simp

@[simp] theorem bankPart_takePower (s : State) : bankPart (takePower s) = bankPart s := by
  unfold takePower
  split <;> simp

@[simp] theorem bankPart_slotSkipped (s : State) : bankPart (slotSkipped s) = bankPart s := by simp [slotSkipped]

@[simp] theorem bankPart_slotRampStart (n : Nat) (errs : List Nat) (s : State) :
    bankPart (slotRampStart n errs s) = bankPart s := by
  unfold slotRampStart
  dsimp only
  (repeat' split) <;> simp

@[simp] theorem bankPart_linkToIdle (s : State) : bankPart (linkToIdle s) = bankPart s := (rfl)

@[simp] theorem bankPart_txFrameEnd (s : State) : bankPart (txFrameEnd s) = bankPart s := by
  unfold txFrameEnd
  split <;> simp

@[simp] theorem bankPart_startDue (s : State) : bankPart (startDue s) = bankPart s := by
  unfold startDue
  split <;> simp

@[simp] theorem bankPart_lpaRelease (s : State) : bankPart (lpaRelease s) = bankPart s := by simp [lpaRelease]
@[simp] theorem bankPart_llnaRestore (s : State) : bankPart (llnaRestore s) = bankPart s := by simp [llnaRestore]

@[simp] theorem bankPart_txTruncate (s : State) : bankPart (txTruncate s) = bankPart s := by
  unfold txTruncate
  split <;> simp

@[simp] theorem bankPart_txAbort (eval : Nat × Nat) (s : State) : bankPart (txAbort eval s) = bankPart s := by simp [txAbort]
@[simp] theorem bankPart_dropStreams (s : State) : bankPart (dropStreams s) = bankPart s := (rfl)
@[simp] theorem bankPart_linkBypass (s : State) : bankPart (linkBypass s) = bankPart s := by simp [linkBypass]
@[simp] theorem bankPart_linkOff (s : State) : bankPart (linkOff s) = bankPart s := (rfl)
@[simp] theorem bankPart_linkReadyStep (s : State) : bankPart (linkReadyStep s) = bankPart s := (rfl)
@[simp] theorem bankPart_offChannel (s : State) : bankPart (offChannel s) = bankPart s := (rfl)
@[simp] theorem bankPart_synthCalEnd (us : Nat) (s : State) : bankPart (synthCalEnd us s) = bankPart s := by simp [synthCalEnd]

/-! ### The link's modem -/

@[simp] theorem bankPart_retune (s : State) : bankPart (retune s) = bankPart s := by simp [retune]
@[simp] theorem bankPart_linkFeed (x : LinkAdc) (s : State) : bankPart (linkFeed x s) = bankPart s := by simp [linkFeed]
@[simp] theorem bankPart_modRecv (f : Reception → Reception) (s : State) : bankPart (modRecv f s) = bankPart s := (rfl)

@[simp] theorem bankPart_preambleDetection (x : LinkAdc) (s : State) :
    bankPart (preambleDetection x s) = bankPart s := by simp [preambleDetection]

@[simp] theorem bankPart_stfNinth (x : LinkAdc) (n : Nat) (s : State) : bankPart (stfNinth x n s) = bankPart s := by
  unfold stfNinth
  dsimp only
  (repeat' split) <;> simp

@[simp] theorem bankPart_linkAgcUpdate (x : LinkAdc) (s : State) :
    bankPart (linkAgcUpdate x s) = bankPart s := by simp [linkAgcUpdate]

@[simp] theorem bankPart_linkEpoch (s : State) : bankPart (linkEpoch s) = bankPart s := by simp [linkEpoch]

@[simp] theorem bankPart_restartReception (later : List (Nat × Int)) (s : State) :
    bankPart (restartReception at' later s) = bankPart s := (rfl)

@[simp] theorem bankPart_postFrame (status chain : Nat) (payload : List Byte) (r : Reception) (s : State) :
    bankPart (postFrame status chain payload r s) = bankPart s := by simp [postFrame]

@[simp] theorem bankPart_preempt (later : List (Nat × Int)) (r : Reception) (s : State) :
    bankPart (preempt at' later r s) = bankPart s := by simp [preempt]

@[simp] theorem bankPart_watchIgnored (n : Nat) (s : State) : bankPart (watchIgnored n s) = bankPart s := (rfl)

@[simp] theorem bankPart_watchDetection (x : LinkAdc) (s : State) : bankPart (watchDetection x s) = bankPart s := by
  unfold watchDetection
  dsimp only
  (repeat' split) <;> simp

@[simp] theorem bankPart_headerFails (now : Nat) (r : Reception) (s : State) : bankPart (headerFails now r s) = bankPart s := by
  unfold headerFails
  dsimp only
  (repeat' split) <;> simp

@[simp] theorem bankPart_alignRover (air : Int) (x : LinkSlot) (s : State) : bankPart (alignRover air x s) = bankPart s := (rfl)

@[simp] theorem bankPart_headerDecided (now : Nat) (h : HeaderRead) (r : Reception) (s : State) :
    bankPart (headerDecided now h r s) = bankPart s := by
  unfold headerDecided
  refine bankPart_of_ite (by simp) (bankPart_of_ite (by simp) ?_)
  generalize strongestWatch _ = w
  generalize (_ && _ && _ : Bool) = first
  generalize (if first = true then _ else none : Option LinkSlot) = o
  cases w <;> cases o <;> simp

@[simp] theorem bankPart_headerDecoded (x : LinkAdc) (s : State) : bankPart (headerDecoded x s) = bankPart s := by
  unfold headerDecoded
  dsimp only
  (repeat' split) <;> simp

@[simp] theorem bankPart_frameEnded (f : List Byte × Nat) (errs : List Nat) (r : Reception) (s : State) :
    bankPart (frameEnded f errs r s) = bankPart s := by simp [frameEnded]

@[simp] theorem bankPart_frameReceived (x : LinkAdc) (errs : List Nat) (s : State) :
    bankPart (frameReceived x errs s) = bankPart s := by
  unfold frameReceived
  dsimp only
  (repeat' split) <;> simp

@[simp] theorem bankPart_slotEnd (n : Nat) (x : LinkAdc) (s : State) : bankPart (slotEnd n x s) = bankPart s := by
  unfold slotEnd
  dsimp only
  (repeat' split) <;> simp

@[simp] theorem bankPart_postSummary (s : State) : bankPart (postSummary s) = bankPart s := by simp [postSummary]

@[simp] theorem bankPart_takeSched (s : State) : bankPart (takeSched s) = bankPart s := by
  unfold takeSched
  split <;> simp

@[simp] theorem bankPart_superframeStart (s : State) : bankPart (superframeStart s) = bankPart s := by
  unfold superframeStart
  dsimp only
  (repeat' split) <;> simp

/-! ### References and alignment -/

@[simp] theorem bankPart_startLock (s : State) : bankPart (startLock s) = bankPart s := (rfl)

@[simp] theorem bankPart_cancelAlign (s : State) : bankPart (cancelAlign s) = bankPart s := by
  unfold cancelAlign
  split <;> simp

@[simp] theorem bankPart_bypassSwitch (detail st : Nat) (s : State) :
    bankPart (bypassSwitch detail st s) = bankPart s := by simp [bypassSwitch]

@[simp] theorem bankPart_refAbsent (s : State) : bankPart (refAbsent s) = bankPart s := by simp [refAbsent]
@[simp] theorem bankPart_refFound (f : Nat) (s : State) : bankPart (refFound f s) = bankPart s := by simp [refFound]
@[simp] theorem bankPart_monitorTime (s : State) : bankPart (monitorTime s) = bankPart s := by simp [monitorTime]

@[simp] theorem bankPart_refMonitor (khz : Nat) (s : State) : bankPart (refMonitor khz s) = bankPart s := by
  unfold refMonitor
  split <;> simp

@[simp] theorem bankPart_declareLock (s : State) : bankPart (declareLock s) = bankPart s := by simp [declareLock]
@[simp] theorem bankPart_lockFails (s : State) : bankPart (lockFails s) = bankPart s := by simp [lockFails]

@[simp] theorem bankPart_searchWindow (count : Nat) (s : State) :
    bankPart (searchWindow count s) = bankPart s := by simp [searchWindow]

@[simp] theorem bankPart_declareWindow (count : Nat) (s : State) :
    bankPart (declareWindow count s) = bankPart s := by simp [declareWindow]

@[simp] theorem bankPart_lockWindow (count : Nat) (s : State) : bankPart (lockWindow count s) = bankPart s := by simp [lockWindow]
@[simp] theorem bankPart_holdoffExpiry (s : State) : bankPart (holdoffExpiry s) = bankPart s := by simp [holdoffExpiry]
@[simp] theorem bankPart_lockRetry (s : State) : bankPart (lockRetry s) = bankPart s := by simp [lockRetry]

@[simp] theorem bankPart_hostSweepComplete (o : Nat) (s : State) : bankPart (hostSweepComplete o s) = bankPart s := by
  unfold hostSweepComplete
  split <;> simp

@[simp] theorem bankPart_shapeComplete (s : State) : bankPart (shapeComplete s) = bankPart s := by simp [shapeComplete]

@[simp] theorem bankPart_syncInEdge (rising : Bool) (g : Nat) (s : State) : bankPart (syncInEdge rising g s) = bankPart s := by
  unfold syncInEdge
  simp
  (repeat' split) <;> simp

@[simp] theorem bankPart_alignmentExpiry (s : State) : bankPart (alignmentExpiry s) = bankPart s := by
  unfold alignmentExpiry
  split <;> simp

@[simp] theorem bankPart_outEdgeAt (o : Nat) (e : Int) (s : State) : bankPart (outEdgeAt o e s) = bankPart s := by
  unfold outEdgeAt
  dsimp only
  (repeat' split) <;> simp

@[simp] theorem bankPart_clkOutEdge (o g : Nat) (s : State) : bankPart (clkOutEdge o g s) = bankPart s := by simp [clkOutEdge]

/-! ### Profiles and islands -/

@[simp] theorem bankPart_dropIsland (i : Nat) (s : State) : bankPart (dropIsland i s) = bankPart s := by simp [dropIsland]

@[simp] theorem bankPart_islandOff (i : Nat) (s : State) : bankPart (islandOff i s) = bankPart s := by
  unfold islandOff
  (repeat' split) <;> simp

@[simp] theorem bankPart_islandPowerOn (i : Nat) (s : State) : bankPart (islandPowerOn i s) = bankPart s := (rfl)

@[simp] theorem bankPart_islandReadyStep (i : Nat) (calFail : Bool) (s : State) :
    bankPart (islandReadyStep i calFail s) = bankPart s := by simp [islandReadyStep]

/-! ### Keys and the life cycle -/

@[simp] theorem bankPart_eraseKeys (o : SecOp) (s : State) : bankPart (eraseKeys o s) = bankPart s := by simp [eraseKeys]
@[simp] theorem bankPart_secStep4 (o : SecOp) (s : State) : bankPart (secStep4 o s) = bankPart s := by simp [secStep4]

@[simp] theorem bankPart_keyErasureDone (s : State) : bankPart (keyErasureDone s) = bankPart s := by
  unfold keyErasureDone
  split <;> simp

@[simp] theorem bankPart_fuseBurnDone (s : State) : bankPart (fuseBurnDone s) = bankPart s := by
  unfold fuseBurnDone
  (repeat' split) <;> simp

@[simp] theorem bankPart_completeSecOp (s : State) : bankPart (completeSecOp s) = bankPart s := by
  unfold completeSecOp
  (repeat' split) <;> simp

/-! ### System commands -/

@[simp] theorem bankPart_armDrops (s : State) : bankPart (armDrops s) = bankPart s := (rfl)

@[simp] theorem bankPart_coalescedReport (code cls inst : Nat) (s : State) :
    bankPart (coalescedReport code cls inst s) = bankPart s := by
  unfold coalescedReport
  dsimp only
  (repeat' split) <;> simp

@[simp] theorem bankPart_applyFilters (s : State) : bankPart (applyFilters s) = bankPart s := (rfl)

/-! ### Epochs and the burst -/

@[simp] theorem bankPart_passMs (n : Nat) (s : State) : bankPart (passMs n s) = bankPart s := (rfl)

@[simp] theorem bankPart_takeHoldings (o : Option NavObs) (s : State) : bankPart (takeHoldings o s) = bankPart s := by
  unfold takeHoldings
  (repeat' split) <;> simp

@[simp] theorem bankPart_mixEpoch (before after : Int) (s : State) : bankPart (mixEpoch before after s) = bankPart s := (rfl)

@[simp] theorem bankPart_gridEpoch (elapsed : Nat) (s : State) :
    bankPart (gridEpoch elapsed s) = bankPart s := by simp [gridEpoch]

@[simp] theorem bankPart_epochInstant (o : EpochObs) (s : State) :
    bankPart (epochInstant o s) = bankPart s := by simp [epochInstant]

@[simp] theorem bankPart_epochSettings (s : State) : bankPart (epochSettings s) = bankPart s := by simp [epochSettings]
@[simp] theorem bankPart_retain (s : State) : bankPart (retain s) = bankPart s := by simp [retain]

@[simp] theorem bankPart_epochEngines (o : EpochObs) (s : State) :
    bankPart (epochEngines o s) = bankPart s := by simp [epochEngines]

@[simp] theorem bankPart_epoch (o : EpochObs) (s : State) : bankPart (epoch o s) = bankPart s := by simp [epoch]

@[simp] theorem bankPart_spoilWindow (s : State) : bankPart (spoilWindow s) = bankPart s := by
  unfold spoilWindow
  split <;> simp

@[simp] theorem bankPart_wholeSecond (o : SecondObs) (s : State) :
    bankPart (wholeSecond o s) = bankPart s := by simp [wholeSecond]

@[simp] theorem bankPart_timeStep (s : State) : bankPart (timeStep s) = bankPart s := by simp [timeStep]

/-! ### Parking, stop and wakes -/

@[simp] theorem bankPart_writePark (s : State) : bankPart (writePark s) = bankPart s := by simp [writePark]

@[simp] theorem bankPart_postWake (started : Bool) (sources : Nat) (replyOk : Bool) (s : State) :
    bankPart (postWake started sources replyOk s) = bankPart s := by simp [postWake]

@[simp] theorem bankPart_discardQueued (s : State) : bankPart (discardQueued s) = bankPart s := by simp [discardQueued]

@[simp] theorem bankPart_enterSequence (restart park : Bool) (p : Packet) (s : State) :
    bankPart (enterSequence restart park p s) = bankPart s := by simp [enterSequence]

@[simp] theorem bankPart_abandonStop (s : State) : bankPart (abandonStop s) = bankPart s := by
  unfold abandonStop
  split <;> simp

@[simp] theorem bankPart_latchWake (bit : Nat) (s : State) : bankPart (latchWake bit s) = bankPart s := by simp [latchWake]

@[simp] theorem bankPart_addressMatch (addr : BitVec 7) (read : Bool) (s : State) :
    bankPart (addressMatch addr read s) = bankPart s := by simp [addressMatch]

@[simp] theorem bankPart_timerAlarm (s : State) : bankPart (timerAlarm s) = bankPart s := by simp [timerAlarm]
@[simp] theorem bankPart_x32Loss (s : State) : bankPart (x32Loss s) = bankPart s := by simp [x32Loss]
@[simp] theorem bankPart_parkWriteDone (s : State) : bankPart (parkWriteDone s) = bankPart s := by simp [parkWriteDone]
@[simp] theorem bankPart_pwrEnRise (stopMs : Nat) (s : State) : bankPart (pwrEnRise stopMs s) = bankPart s := by simp [pwrEnRise]

@[simp] theorem bankPart_resetRelease (heldMs : Nat) (s : State) :
    bankPart (resetRelease heldMs s) = bankPart s := by simp [resetRelease]

@[simp] theorem bankPart_restoreParked (s : State) : bankPart (restoreParked s) = bankPart s := by
  unfold restoreParked
  split <;> simp

@[simp] theorem bankPart_fwReadyStep (s : State) : bankPart (fwReadyStep s) = bankPart s := by simp [fwReadyStep]

/-! ### Host ports -/

@[simp] theorem bankPart_drive (bs : List Byte) (s : State) : bankPart (drive bs s) = bankPart s := (rfl)

@[simp] theorem bankPart_uartDetect (u : Uart) (lowPs : Nat) (s : State) : bankPart (uartDetect u lowPs s) = bankPart s := by
  unfold uartDetect
  (repeat' split) <;> simp

@[simp] theorem bankPart_muslinAddrApply (s : State) : bankPart (muslinAddrApply s) = bankPart s := by simp [muslinAddrApply]

@[simp] theorem bankPart_authLockExpiry (k : Nat) (s : State) : bankPart (authLockExpiry k s) = bankPart s := by
  unfold authLockExpiry
  split <;> simp

/-! ### PCIe registers -/

@[simp] theorem bankPart_advanceHead (s : State) : bankPart (advanceHead s) = bankPart s := by simp [advanceHead]
@[simp] theorem bankPart_cmdEnWrite (on : Bool) (s : State) : bankPart (cmdEnWrite on s) = bankPart s := (rfl)
@[simp] theorem bankPart_ringEnWrite (en : Nat) (s : State) : bankPart (ringEnWrite en s) = bankPart s := by simp [ringEnWrite]
@[simp] theorem bankPart_resetRings (s : State) : bankPart (resetRings s) = bankPart s := by simp [resetRings]

@[simp] theorem bankPart_ringRegWrite (n o v : Nat) (s : State) : bankPart (ringRegWrite n o v s) = bankPart s := by
  unfold ringRegWrite
  split <;> simp

@[simp] theorem bankPart_msixWrite (o v : Nat) (s : State) : bankPart (msixWrite o v s) = bankPart s := by simp [msixWrite]
@[simp] theorem bankPart_signalRing (n : Nat) (s : State) : bankPart (signalRing n s) = bankPart s := by simp [signalRing]

@[simp] theorem bankPart_entryWritten (n : Nat) (s : State) : bankPart (entryWritten n s) = bankPart s := by
  unfold entryWritten
  dsimp only
  (repeat' split) <;> simp

@[simp] theorem bankPart_dmaError (n : Nat) (s : State) : bankPart (dmaError n s) = bankPart s := by simp [dmaError]

@[simp] theorem bankPart_functionReset (kind : PcieResetKind) (s : State) : bankPart (functionReset kind s) = bankPart s := by
  unfold functionReset
  split <;> simp

/-! ### Transfer units -/

@[simp] theorem bankPart_sliceTransfer (a i : Nat) (u : TransferUnit) (s : State) :
    bankPart (sliceTransfer a i u s) = bankPart s := by simp [sliceTransfer]

end Sys2Proof.Laws

/-! SUPPORT. The invariant of the banks, and the banks' own operations that keep it (15 R571 to R590). -/
namespace Sys2Proof.Laws

open Sys2Proof.Machine Sys2Proof.Safety

/-! ### The invariant of the banks' part -/

/-- The listed bytes are canonical; SB0 is the device's own and powered (15 R571, R573). -/
def BankInv (x : Tab Bank × List Host.Cell) : Prop :=
  Memory.wf x.2 = true ∧ (tget Bank.initial x.1 0).owner = 0 ∧ (tget Bank.initial x.1 0).powered = true

theorem banksOk_iff (s : State) : BanksOk s ↔ BankInv (bankPart s) := Iff.rfl

namespace BankInv

variable {s : State}

theorem ite {c : Prop} [Decidable c] {t u : State} (ht : BankInv (bankPart t)) (hu : BankInv (bankPart u)) :
    BankInv (bankPart (if c then t else u)) := by
  split
  · exact ht
  · exact hu

theorem foldS {α : Type} {f : α → State → State} (hf : ∀ a t, BankInv (bankPart t) → BankInv (bankPart (f a t))) (l : List α)
    (h : BankInv (bankPart s)) : BankInv (bankPart (foldS f l s)) :=
  foldS_keeps (P := fun t => BankInv (bankPart t)) f hf l h

theorem owner_zero (h : BankInv (bankPart s)) : (bankOf s 0).owner = 0 := h.2.1

/-- A bank that has another owner than the device is not SB0. -/
theorem ne_zero_of_owner (h : BankInv (bankPart s)) {b : Nat} (hb : (bankOf s b).owner ≠ 0) : b ≠ 0 := by
  rintro rfl
  exact hb h.owner_zero

/-! ### Bank registers -/

theorem modBank_ne (h : BankInv (bankPart s)) {b : Nat} (hb : b ≠ 0) (f : Bank → Bank) : BankInv (bankPart (modBank b f s)) := by
  obtain ⟨hmem, howner, hpower⟩ := h
  refine ⟨hmem, ?_⟩
  show (tget Bank.initial (tmod Bank.initial s.banks b f) 0).owner = 0 ∧ (tget Bank.initial (tmod Bank.initial s.banks b f) 0).powered = true
  rw [tget_tmod_ne _ _ _ hb.symm]
  exact ⟨howner, hpower⟩

/-- A change that leaves owner and power, such as a count, may touch any bank. -/
theorem modBank_count (h : BankInv (bankPart s)) (b : Nat) {f : Bank → Bank}
    (hf : ∀ x, (f x).owner = x.owner ∧ (f x).powered = x.powered := by intro _; exact ⟨rfl, rfl⟩) : BankInv (bankPart (modBank b f s)) := by
  by_cases hb : b = 0
  · subst hb
    obtain ⟨hmem, howner, hpower⟩ := h
    refine ⟨hmem, ?_⟩
    show (tget Bank.initial (tmod Bank.initial s.banks 0 f) 0).owner = 0 ∧ (tget Bank.initial (tmod Bank.initial s.banks 0 f) 0).powered = true
    rw [tget_tmod_self, (hf _).1, (hf _).2]
    exact ⟨howner, hpower⟩
  · exact h.modBank_ne hb f

theorem clearBank (h : BankInv (bankPart s)) (b : Nat) : BankInv (bankPart (clearBank b s)) :=
  ⟨clearBank_wf b s h.1, h.2⟩

theorem countOff (h : BankInv (bankPart s)) (b : Nat) (core : Option Nat) : BankInv (bankPart (countOff b core s)) := by
  unfold Machine.countOff
  rw [bankPart_logAccess]
  exact h.modBank_count b

theorem refuseRequest (h : BankInv (bankPart s)) (off : Nat) : BankInv (bankPart (refuseRequest off s)) :=
  modBank_count (s := { s with pcie.ur := true }) h _

theorem bankReadyRow (h : BankInv (bankPart s)) (b : Nat) : BankInv (bankPart (bankReadyRow b s)) :=
  ite (h.modBank_count b) h

theorem drainComplete (h : BankInv (bankPart s)) (b : Nat) : BankInv (bankPart (drainComplete b s)) :=
  ite (h.modBank_count b) h

/-- A mask powers SB0 neither on, for it is on, nor off, for it is never idle (15 R571). -/
theorem powerBanks (h : BankInv (bankPart s)) (mask : Nat) : BankInv (bankPart (powerBanks mask s)) := by
  refine foldS (fun b t ht => ?_) _ h
  dsimp only
  split
  · next hon =>
    refine (ht.modBank_ne ?_ _).clearBank b
    rintro rfl
    have hpower : (bankOf t 0).powered = true := ht.2.2
    simp [hpower] at hon
  · split
    · next hoff => exact (ht.modBank_ne (by rintro rfl; simp [bankIdle] at hoff) _).clearBank b
    · exact ht

/-! ### Granules and bytes -/

theorem decodeGranule (h : BankInv (bankPart s)) (g errs : Nat) : BankInv (bankPart (decodeGranule g errs s).1) := by
  unfold Machine.decodeGranule
  dsimp only
  split
  · exact h.modBank_count _
  · split
    · exact h
    · split
      · exact h.modBank_count _
      · rw [bankPart_bankEvent, bankPart_logErr]
        exact modBank_count (s := setPoison g true s) h (g / 32768)

theorem decodeGranules (h : BankInv (bankPart s)) (gs errs : List Nat) : BankInv (bankPart (decodeGranules gs errs s).1) := by
  induction gs generalizing errs s with
  | nil => exact h
  | cons g gs ih => exact ih (h.decodeGranule g _) _

theorem writeBank (h : BankInv (bankPart s)) (addr : Nat) (bytes : List Byte) (tag : Bool) (errs : List Nat) :
    BankInv (bankPart (writeBank addr bytes tag errs s)) := by
  refine ⟨writeBank_wf addr bytes tag errs s h.1, ?_⟩
  have hbanks : (Machine.writeBank addr bytes tag errs s).banks =
      (Machine.decodeGranules ((granulesOf addr bytes.length).filter
        (fun g => !decide (addr ≤ 32 * g ∧ 32 * g + 32 ≤ addr + bytes.length))) errs s).1.banks :=
    foldS_frame State.banks (fun g t => setPoison g (tag || (!decide (addr ≤ 32 * g ∧ 32 * g + 32 ≤ addr + bytes.length) && poisoned t g)) t)
      (fun _ _ => rfl) _ _
  rw [show (bankPart (Machine.writeBank addr bytes tag errs s)).1 = _ from hbanks]
  exact (h.decodeGranules _ _).2

theorem scrubGranule (h : BankInv (bankPart s)) (b errs : Nat) : BankInv (bankPart (scrubGranule b errs s)) := by
  unfold Machine.scrubGranule
  dsimp only
  refine ite (ite ?_ ?_) h
  · exact (h.decodeGranule _ _).modBank_count b
  · exact (h.decodeGranule _ _).modBank_count b

theorem memScrubComplete (h : BankInv (bankPart s)) (fixed bad : List Nat) : BankInv (bankPart (memScrubComplete fixed bad s)) := by
  unfold Machine.memScrubComplete
  split
  · exact h
  · dsimp only
    split
    · rw [bankPart_bankEvent]
      exact ⟨tabWf_filter 0 _ _ h.1, h.2⟩
    · rw [bankPart_bankEvent]
      refine foldS (fun g t ht => ht.decodeGranule g 3) _ (foldS (fun g t ht => ht.decodeGranule g 1) _ ?_)
      exact h

/-! ### Owners: hand-over reaches no bank but one that has another owner than the device (15 R574, R575) -/

theorem handBank (h : BankInv (bankPart s)) {b : Nat} (hb : b ≠ 0) (new cause : Nat) : BankInv (bankPart (handBank b new cause s)) := by
  unfold Machine.handBank
  dsimp only
  refine ite h ?_
  rw [bankPart_bankEvent]
  exact h.modBank_ne hb _

theorem handAll (h : BankInv (bankPart s)) (k new cause : Nat) : BankInv (bankPart (handAll k new cause s)) := by
  refine List.foldlRecOn (motive := fun t => BankInv (bankPart t)) _ _ h (fun t ht b hb => ht.handBank ?_ new cause)
  have howned := (List.mem_filter.mp hb).2
  exact h.ne_zero_of_owner (by rw [eq_of_beq howned]; simp [coreOwner])

theorem ownerWrite (h : BankInv (bankPart s)) (b v : Nat) : BankInv (bankPart (ownerWrite b v s)) := by
  unfold Machine.ownerWrite
  dsimp only
  split
  · rw [bankPart_logAccess]
    exact h.modBank_count b
  · next howner =>
    have hb : b ≠ 0 := h.ne_zero_of_owner (by omega)
    exact ite (h.modBank_count b) ((h.modBank_ne hb _).handBank hb _ _)

/-! ### The host through BAR2 (12 R481) -/

theorem bar2Read (h : BankInv (bankPart s)) (off n : Nat) (errs : List Nat) : BankInv (bankPart (bar2Read off n errs s)) := by
  unfold Machine.bar2Read
  dsimp only
  refine ite h (ite (refuseRequest (s := { s with pcie.ur := false, pcie.ep := false }) h _) (ite ?_ (ite ?_ ?_)))
  · exact countOff (s := { s with pcie.ur := false, pcie.ep := false, ecsol.bus := _ }) h _ _
  · exact modBank_count (s := { s with pcie.ur := false, pcie.ep := false, ecsol.bus := _ }) h _
  · exact decodeGranules (s := { s with pcie.ur := false, pcie.ep := false }) h _ _

theorem bar2Write (h : BankInv (bankPart s)) (off : Nat) (bytes : List Byte) (full : Bool) (errs : List Nat) :
    BankInv (bankPart (bar2Write off bytes full errs s)) := by
  unfold Machine.bar2Write
  dsimp only
  have hur : BankInv (bankPart { s with pcie.ur := false }) := h
  refine ite h (ite (hur.refuseRequest _) (ite (hur.countOff _ _) (ite ?_ (hur.writeBank _ _ _ _))))
  rw [bankPart_logAccess]
  exact hur.modBank_count _

end BankInv

end Sys2Proof.Laws

/-! SUPPORT. Profiles and kernel cores: what they do to the banks keeps the invariant (14 R537 to R566, 15 R575). -/
namespace Sys2Proof.Laws

open Sys2Proof.Machine Sys2Proof.Safety

namespace BankInv

variable {s : State}

/-! ### Profiles and the rights of a core -/

theorem takeProfile (h : BankInv (bankPart s)) (sel : Nat) (custom : Bool) (e : Envelope) :
    BankInv (bankPart (takeProfile sel custom e s)) := by
  refine powerBanks ?_ _
  simpa using h

theorem dropStale (h : BankInv (bankPart s)) (k : Nat) (bank : Option Nat) : BankInv (bankPart (dropStale k bank s)) := by
  unfold Machine.dropStale
  cases bank with
  | none => simpa using h
  | some b =>
    rw [bankPart_logErr]
    exact modBank_count (s := modCore k _ s) h b

theorem dropEmit (h : BankInv (bankPart s)) (k : Nat) : BankInv (bankPart (dropEmit k s)) :=
  ite (h.dropStale k none) h

theorem revoke (h : BankInv (bankPart s)) (k new cause : Nat) : BankInv (bankPart (revoke k new cause s)) :=
  handAll (s := modCore k _ s) h k new cause

theorem refuseBank (h : BankInv (bankPart s)) (k b : Nat) (write : Bool) : BankInv (bankPart (refuseBank k b write s)) := by
  have hk : BankInv (bankPart (modCore k kRefuse s)) := h
  refine ite (hk.countOff _ _) (ite ?_ (hk.modBank_count b))
  rw [bankPart_logAccess]
  exact hk.modBank_count b

theorem commitStore (h : BankInv (bankPart s)) (k : Nat) (p : PostedStore) (errs : List Nat) :
    BankInv (bankPart (commitStore k p errs s)) := by
  unfold Machine.commitStore
  exact ite (h.dropStale _ _) (ite (h.refuseBank _ _ _) (h.writeBank _ _ _ _))

theorem commitAll (h : BankInv (bankPart s)) (k : Nat) : BankInv (bankPart (commitAll k s)) :=
  foldS (fun p _ ht => ht.commitStore k p []) _ (s := modCore k _ s) h

/-! ### A core stops or faults -/

theorem haltCore (h : BankInv (bankPart s)) (k detail : Nat) : BankInv (bankPart (haltCore k detail s)) := by
  unfold Machine.haltCore
  rw [bankPart_postKernel]
  exact revoke (commitAll (s := modCore k _ s) h k) _ _ _

theorem stopCore (h : BankInv (bankPart s)) (k : Nat) : BankInv (bankPart (stopCore k s)) :=
  ite h (ite h (h.haltCore k 2))

theorem faultCore (h : BankInv (bankPart s)) (k : Nat) (f : KFault) : BankInv (bankPart (faultCore k f s)) := by
  unfold Machine.faultCore
  dsimp only
  rw [bankPart_postKernel, bankPart_logErr]
  exact (commitAll (s := modCore k _ s) h k).revoke _ _ _

theorem moveToSpare (h : BankInv (bankPart s)) (dead gen sp : Nat) : BankInv (bankPart (moveToSpare dead gen sp s)) := by
  unfold Machine.moveToSpare
  simp only [bankPart_moveProv, bankPart_mk, bankPart_eta, bankPart_modCore]
  exact (h.handAll _ _ _).dropEmit sp

theorem watchdogExpiry (h : BankInv (bankPart s)) (k : Nat) : BankInv (bankPart (watchdogExpiry k s)) := by
  unfold Machine.watchdogExpiry
  refine ite ?_ h
  dsimp only
  generalize hfail : postKernel 4 k _ 0 0 _ _ = t
  have ht : BankInv (bankPart t) := by
    rw [← hfail, bankPart_postKernel]
    exact foldS (fun p _ hu => hu.dropStale k _) _ (by simpa using h)
  split
  · exact ht.moveToSpare _ _ _
  · refine ite ?_ (ht.handAll _ _ _)
    rw [bankPart_modCore]
    exact ht.handAll _ _ _

/-! ### Instructions -/

theorem kSettle (h : BankInv (bankPart s)) (k : Nat) (x : Core × Option Nat) : BankInv (bankPart (kSettle k x s)) := by
  have hcore : BankInv (bankPart (modCore k (fun _ => x.1) { s with kernels.draws := s.kernels.draws + 1 })) := h
  unfold Machine.kSettle
  dsimp only
  split
  · exact hcore.faultCore _ _
  · exact ite (hcore.haltCore _ _) hcore

theorem kApply (h : BankInv (bankPart s)) (k : Nat) (i : KInstr) (extra : Nat) (o : KOut) : BankInv (bankPart (kApply k i extra o s)) := by
  unfold Machine.kApply
  cases o with
  | fault f => exact h.faultCore k f
  | next => exact h.kSettle k _
  | bankLoad => exact h
  | wait => exact h
  | blocked => exact h
  | halt =>
    dsimp only
    split
    · exact faultCore (s := modCore k _ s) h _ _
    · exact haltCore (s := modCore k _ s) h _ _

theorem kRowWith (h : BankInv (bankPart s)) (k : Nat) (i : KInstr) (extra : Nat) : BankInv (bankPart (kRowWith k i extra s)) := by
  refine ite ?_ h
  split
  · exact ite (h.faultCore _ _) h
  · exact ite (h.kApply _ _ _ _) h

theorem kRow (h : BankInv (bankPart s)) (k : Nat) (i : KInstr) : BankInv (bankPart (kRow k i s)) := h.kRowWith k i 0

theorem kIllegal (h : BankInv (bankPart s)) (k : Nat) : BankInv (bankPart (kIllegal k s)) := by
  refine ite ?_ h
  split
  · exact h.faultCore _ _
  · split
    · exact ite (h.faultCore _ _) h
    · exact h

theorem waitWake (h : BankInv (bankPart s)) (k cycles : Nat) : BankInv (bankPart (waitWake k cycles s)) :=
  ite (h.kSettle k _) h

/-! ### A core's bank accesses and deliveries -/

theorem bankLoadReturn (h : BankInv (bankPart s)) (k stall errs : Nat) : BankInv (bankPart (bankLoadReturn k stall errs s)) := by
  unfold Machine.bankLoadReturn
  dsimp only
  split
  · exact ite h (kSettle (ite (h.decodeGranule _ _) (h.refuseBank _ _ _)) _ _)
  · exact h

theorem postedCommit (h : BankInv (bankPart s)) (k stall errs : Nat) : BankInv (bankPart (postedCommit k stall errs s)) := by
  unfold Machine.postedCommit
  split
  · exact h
  · exact ite h (commitStore (s := modCore k _ s) h _ _ _)

theorem emitDone (h : BankInv (bankPart s)) (k : Nat) (errs : List Nat) : BankInv (bankPart (emitDone k errs s)) := by
  unfold Machine.emitDone
  dsimp only
  refine ite h (ite (dropStale (s := modCore k _ s) h _ _) (ite (h.refuseBank _ _ _) ?_))
  rw [bankPart_modCore, bankPart_postKernel]
  exact h.decodeGranules _ _

theorem putEntry (h : BankInv (bankPart s)) (k n : Nat) (d : Delivery) (errs : List Nat) : BankInv (bankPart (putEntry k n d errs s)) := by
  have hring : ∀ f, BankInv (bankPart (modCore k f s)) := fun _ => h
  unfold Machine.putEntry
  dsimp only
  split
  · exact h
  · refine ite (refuseBank (hring _) _ _ _) ?_
    rw [bankPart_modCore]
    refine ite ((hring _).writeBank _ _ _ _) ?_
    refine writeBank ?_ _ _ _ _
    simp only [bankPart_mk, bankPart_eta]
    exact (hring _).writeBank _ _ _ _

theorem subscriptionDelivery (h : BankInv (bankPart s)) (k : Nat) (errs : List Nat) :
    BankInv (bankPart (subscriptionDelivery k errs s)) := by
  unfold Machine.subscriptionDelivery
  split
  · exact h
  · next d rest _ =>
    have hrest : BankInv (bankPart { s with kernels.deliveries := rest }) := h
    refine ite h (ite (hrest.dropStale _ _) (ite (hrest.putEntry _ _ _ _) ?_))
    rw [bankPart_modCore]
    exact hrest.putEntry _ _ _ _

end BankInv

end Sys2Proof.Laws

/-! SUPPORT. The commands' own actions keep the banks' invariant (02 R101). -/
namespace Sys2Proof.Laws

open Sys2Proof.Machine Sys2Proof.Safety

/-! ### What the commands' own actions leave -/

/-- The state that a command's own action leaves, where it leaves one, keeps the invariant. -/
def OutKeeps : CmdOut → Prop
  | .ok _ _ t => BankInv (bankPart t)
  | .rejectNote _ t => BankInv (bankPart t)
  | .reject _ => True
  | .hold _ => True

/-- Every action of the opcode keeps the invariant. -/
def ActKeeps (sp : OpSpec) : Prop := ∀ p s, BankInv (bankPart s) → OutKeeps (sp.act p s)

@[simp] theorem outKeeps_ok (chain : Nat) (payload : List Byte) (t : State) :
    OutKeeps (.ok chain payload t) ↔ BankInv (bankPart t) := Iff.rfl

@[simp] theorem outKeeps_rejectNote (st : Status) (t : State) : OutKeeps (.rejectNote st t) ↔ BankInv (bankPart t) := Iff.rfl

@[simp] theorem outKeeps_reject (st : Status) : OutKeeps (.reject st) := trivial

@[simp] theorem outKeeps_hold (why : HoldReason) : OutKeeps (.hold why) := trivial

@[simp] theorem outKeeps_done (t : State) : OutKeeps (done t) ↔ BankInv (bankPart t) := Iff.rfl

@[simp] theorem outKeeps_answer (payload : List Byte) (t : State) : OutKeeps (answer payload t) ↔ BankInv (bankPart t) := Iff.rfl

@[simp] theorem OutKeeps.rejectIf {k : CmdOut} (hk : OutKeeps k) (bad : Bool) (st : Status) : OutKeeps (rejectIf bad st k) := by
  unfold Machine.rejectIf
  split
  · trivial
  · exact hk

/-- The action behind a check may count on what the check lets pass. -/
theorem OutKeeps.rejectIf_of {k : CmdOut} {bad : Bool} {st : Status} (hk : bad = false → OutKeeps k) : OutKeeps (Machine.rejectIf bad st k) := by
  cases bad with
  | true => trivial
  | false => exact hk rfl

theorem OutKeeps.tryProfile {s : State} (h : BankInv (bankPart s)) (sel : Nat) (custom : Bool) (e : Envelope) :
    OutKeeps (tryProfile sel custom e s) :=
  OutKeeps.rejectIf ((outKeeps_done _).mpr (h.takeProfile sel custom e)) _ _

@[simp] theorem actKeeps_memOwner : ActKeeps specMemOwner := by
  intro p s h
  change OutKeeps (memOwnerAct p s)
  refine OutKeeps.rejectIf (OutKeeps.rejectIf_of fun howner => OutKeeps.rejectIf ?_ _ _) _ _
  have hb : u8 p.params 0 ≠ 0 := h.ne_zero_of_owner (by simp at howner; omega)
  exact (h.modBank_ne hb _).handBank hb _ _

@[simp] theorem actKeeps_memScrub : ActKeeps specMemScrub := by
  intro p s h
  change OutKeeps (memScrubAct p s)
  unfold memScrubAct
  dsimp only
  repeat refine OutKeeps.rejectIf ?_ _ _
  simp [h]

@[simp] theorem actKeeps_memStatus : ActKeeps specMemStatus := by
  intro p s h
  change OutKeeps (memStatusAct p s)
  exact OutKeeps.rejectIf ((outKeeps_answer _ _).mpr (BankInv.ite (h.modBank_count _) h)) _ _

@[simp] theorem actKeeps_aprEnable : ActKeeps specAprEnable := by
  intro p s h
  change OutKeeps (aprEnableAct p s)
  unfold aprEnableAct
  dsimp only
  repeat refine OutKeeps.rejectIf ?_ _ _
  simp [h]

@[simp] theorem actKeeps_aprConfig : ActKeeps specAprConfig := by
  intro p s h
  change OutKeeps (aprConfigAct p s)
  unfold aprConfigAct
  dsimp only
  repeat refine OutKeeps.rejectIf ?_ _ _
  simp [h]

@[simp] theorem actKeeps_aprNotch : ActKeeps specAprNotch := by
  intro p s h
  change OutKeeps (aprNotchAct p s)
  unfold aprNotchAct
  dsimp only
  repeat refine OutKeeps.rejectIf ?_ _ _
  simp [h]

@[simp] theorem actKeeps_aprBlank : ActKeeps specAprBlank := by
  intro p s h
  change OutKeeps (aprBlankAct p s)
  simp [aprBlankAct, h]

@[simp] theorem actKeeps_aprStatus : ActKeeps specAprStatus := by
  intro p s h
  change OutKeeps (aprStatusAct p s)
  simp [aprStatusAct, h]

@[simp] theorem actKeeps_aprStream : ActKeeps specAprStream := by
  intro p s h
  change OutKeeps (aprStreamAct p s)
  unfold aprStreamAct
  dsimp only
  repeat refine OutKeeps.rejectIf ?_ _ _
  split <;> simp [h]

@[simp] theorem actKeeps_bstSchedule : ActKeeps specBstSchedule := by
  intro p s h
  change OutKeeps (bstScheduleAct p s)
  simp [bstScheduleAct, h]

@[simp] theorem actKeeps_bstRunNow : ActKeeps specBstRunNow := by
  intro p s h
  change OutKeeps (bstRunNowAct p s)
  simp [bstRunNowAct, h]

@[simp] theorem actKeeps_bstResults : ActKeeps specBstResults := by
  intro p s h
  change OutKeeps (bstResultsAct p s)
  simp [bstResultsAct, h]

@[simp] theorem actKeeps_trkAssign : ActKeeps specTrkAssign := by
  intro p s h
  change OutKeeps (trkAssignAct p s)
  unfold trkAssignAct
  dsimp only
  refine OutKeeps.rejectIf (OutKeeps.rejectIf ?_ _ _) _ _
  split
  · trivial
  · next t hpick =>
    have ht : BankInv (bankPart t) := by
      split at hpick
      · rw [bankPart_allocate hpick]
        exact h
      · cases hpick
        exact h
    refine OutKeeps.rejectIf ?_ _ _
    simp [ht]

@[simp] theorem actKeeps_trkRelease : ActKeeps specTrkRelease := by
  intro p s h
  change OutKeeps (trkReleaseAct p s)
  simp [trkReleaseAct, h]

@[simp] theorem actKeeps_trkLoops : ActKeeps specTrkLoops := by
  intro p s h
  change OutKeeps (trkLoopsAct p s)
  unfold trkLoopsAct
  dsimp only
  repeat refine OutKeeps.rejectIf ?_ _ _
  simp [h]

@[simp] theorem actKeeps_trkCorr : ActKeeps specTrkCorr := by
  intro p s h
  change OutKeeps (trkCorrAct p s)
  unfold trkCorrAct
  dsimp only
  repeat refine OutKeeps.rejectIf ?_ _ _
  simp [h]

@[simp] theorem actKeeps_trkBurst : ActKeeps specTrkBurst := by
  intro p s h
  change OutKeeps (trkBurstAct p s)
  simp [trkBurstAct, h]

@[simp] theorem actKeeps_trkStatus : ActKeeps specTrkStatus := by
  intro p s h
  change OutKeeps (trkStatusAct p s)
  unfold trkStatusAct
  dsimp only
  repeat refine OutKeeps.rejectIf ?_ _ _
  split <;> simp [h]

@[simp] theorem actKeeps_trkAnchor : ActKeeps specTrkAnchor := by
  intro p s h
  change OutKeeps (trkAnchorAct p s)
  unfold trkAnchorAct
  dsimp only
  repeat refine OutKeeps.rejectIf ?_ _ _
  simp [h]

@[simp] theorem actKeeps_krnLoad : ActKeeps specKrnLoad := by
  intro p s h
  change OutKeeps (krnLoadAct p s)
  simp [krnLoadAct, h]

@[simp] theorem actKeeps_krnStart : ActKeeps specKrnStart := by
  intro p s h
  change OutKeeps (krnStartAct p s)
  refine OutKeeps.rejectIf (OutKeeps.rejectIf (OutKeeps.rejectIf (OutKeeps.rejectIf ?_ _ _) _ _) _ _) _ _
  rw [outKeeps_answer, bankPart_modCore]
  exact h.dropEmit _

@[simp] theorem actKeeps_krnStop : ActKeeps specKrnStop := by
  intro p s h
  change OutKeeps (krnStopAct p s)
  exact OutKeeps.rejectIf (OutKeeps.rejectIf ((outKeeps_done _).mpr (BankInv.foldS (fun k _ ht => ht.stopCore k) _ h)) _ _) _ _

@[simp] theorem actKeeps_krnStatus : ActKeeps specKrnStatus := by
  intro p s h
  change OutKeeps (krnStatusAct p s)
  simp [krnStatusAct, h]

@[simp] theorem actKeeps_krnSpares : ActKeeps specKrnSpares := by
  intro p s h
  change OutKeeps (krnSparesAct p s)
  unfold krnSparesAct
  dsimp only
  repeat refine OutKeeps.rejectIf ?_ _ _
  simp [h]

@[simp] theorem actKeeps_krnMailbox : ActKeeps specKrnMailbox := by
  intro p s h
  change OutKeeps (krnMailboxAct p s)
  unfold krnMailboxAct
  dsimp only
  repeat refine OutKeeps.rejectIf ?_ _ _
  split <;> simp [h]

@[simp] theorem actKeeps_acqAid : ActKeeps specAcqAid := by
  intro p s h
  change OutKeeps (acqAidAct p s)
  unfold acqAidAct
  dsimp only
  repeat refine OutKeeps.rejectIf ?_ _ _
  simp [h]

@[simp] theorem actKeeps_acqPlan : ActKeeps specAcqPlan := by
  intro p s h
  change OutKeeps (acqPlanAct p s)
  simp [acqPlanAct, h]

@[simp] theorem actKeeps_acqStart : ActKeeps specAcqStart := by
  intro p s h
  change OutKeeps (acqStartAct p s)
  unfold acqStartAct
  dsimp only
  repeat refine OutKeeps.rejectIf ?_ _ _
  simp [h]

@[simp] theorem actKeeps_acqAbort : ActKeeps specAcqAbort := by
  intro p s h
  change OutKeeps (acqAbortAct p s)
  simp [acqAbortAct, h]

@[simp] theorem actKeeps_acqResults : ActKeeps specAcqResults := by
  intro p s h
  change OutKeeps (acqResultsAct p s)
  simp [acqResultsAct, h]

@[simp] theorem actKeeps_calVoile : ActKeeps specCalVoile := by
  intro p s h
  change OutKeeps (calVoileAct p s)
  simp [calVoileAct, h]

@[simp] theorem actKeeps_calStatus : ActKeeps specCalStatus := by
  intro p s h
  change OutKeeps (calStatusAct p s)
  simp [calStatusAct, h]

@[simp] theorem actKeeps_calCommit : ActKeeps specCalCommit := by
  intro p s h
  change OutKeeps (calCommitAct p s)
  unfold calCommitAct
  dsimp only
  repeat refine OutKeeps.rejectIf ?_ _ _
  split <;> simp [h]

@[simp] theorem actKeeps_calLoad : ActKeeps specCalLoad := by
  intro p s h
  change OutKeeps (calLoadAct p s)
  unfold calLoadAct
  dsimp only
  repeat refine OutKeeps.rejectIf ?_ _ _
  split <;> simp [h]

@[simp] theorem actKeeps_measRate : ActKeeps specMeasRate := by
  intro p s h
  change OutKeeps (measRateAct p s)
  unfold measRateAct
  dsimp only
  repeat refine OutKeeps.rejectIf ?_ _ _
  simp [h]

@[simp] theorem actKeeps_navConfig : ActKeeps specNavConfig := by
  intro p s h
  change OutKeeps (navConfigAct p s)
  simp [navConfigAct, h]

@[simp] theorem actKeeps_measCorrections : ActKeeps specMeasCorrections := by
  intro p s h
  change OutKeeps (measCorrectionsAct p s)
  unfold measCorrectionsAct
  dsimp only
  split <;> simp [h]

@[simp] theorem actKeeps_tulGroup : ActKeeps specTulGroup := by
  intro p s h
  change OutKeeps (tulGroupAct p s)
  unfold tulGroupAct
  dsimp only
  repeat refine OutKeeps.rejectIf ?_ _ _
  split <;> simp [h]

@[simp] theorem actKeeps_tulMode : ActKeeps specTulMode := by
  intro p s h
  change OutKeeps (tulModeAct p s)
  unfold tulModeAct
  dsimp only
  repeat refine OutKeeps.rejectIf ?_ _ _
  simp [h]

@[simp] theorem actKeeps_tulResetAmb : ActKeeps specTulResetAmb := by
  intro p s h
  change OutKeeps (tulResetAct p s)
  unfold tulResetAct
  dsimp only
  repeat refine OutKeeps.rejectIf ?_ _ _
  simp [h]

@[simp] theorem actKeeps_timScale : ActKeeps specTimScale := by
  intro p s h
  change OutKeeps (timScaleAct p s)
  unfold timScaleAct
  dsimp only
  repeat refine OutKeeps.rejectIf ?_ _ _
  simp [h]

@[simp] theorem actKeeps_timHoldover : ActKeeps specTimHoldover := by
  intro p s h
  change OutKeeps (timHoldoverAct p s)
  simp [timHoldoverAct, h]

@[simp] theorem actKeeps_timStepPolicy : ActKeeps specTimStepPolicy := by
  intro p s h
  change OutKeeps (timStepPolicyAct p s)
  simp [timStepPolicyAct, h]

@[simp] theorem actKeeps_timDelays : ActKeeps specTimDelays := by
  intro p s h
  change OutKeeps (timDelaysAct p s)
  simp [timDelaysAct, h]

@[simp] theorem actKeeps_timPulse : ActKeeps specTimPulse := by
  intro p s h
  change OutKeeps (timPulseAct p s)
  simp [timPulseAct, h]

@[simp] theorem actKeeps_timTimecode : ActKeeps specTimTimecode := by
  intro p s h
  change OutKeeps (timTimecodeAct p s)
  unfold timTimecodeAct
  dsimp only
  repeat refine OutKeeps.rejectIf ?_ _ _
  simp [h]

@[simp] theorem actKeeps_timEvent : ActKeeps specTimEvent := by
  intro p s h
  change OutKeeps (timEventAct p s)
  unfold timEventAct
  dsimp only
  repeat refine OutKeeps.rejectIf ?_ _ _
  split <;> simp [h]

@[simp] theorem actKeeps_lnkChannels : ActKeeps specLnkChannels := by
  intro p s h
  change OutKeeps (lnkChannelsAct p s)
  unfold lnkChannelsAct
  dsimp only
  repeat refine OutKeeps.rejectIf ?_ _ _
  simp [h]

@[simp] theorem actKeeps_lnkCal : ActKeeps specLnkCal := by
  intro p s h
  change OutKeeps (lnkCalAct p s)
  unfold lnkCalAct
  dsimp only
  repeat refine OutKeeps.rejectIf ?_ _ _
  (repeat' split) <;> simp [h]

@[simp] theorem actKeeps_lnkTxpower : ActKeeps specLnkTxpower := by
  intro p s h
  change OutKeeps (lnkTxpowerAct p s)
  simp [lnkTxpowerAct, h]

@[simp] theorem actKeeps_lnkDiversity : ActKeeps specLnkDiversity := by
  intro p s h
  change OutKeeps (lnkDiversityAct p s)
  simp [lnkDiversityAct, h]

@[simp] theorem actKeeps_lnkStatus : ActKeeps specLnkStatus := by
  intro p s h
  change OutKeeps (lnkStatusAct p s)
  simp [lnkStatusAct, h]

@[simp] theorem actKeeps_lnkRole : ActKeeps specLnkRole := by
  intro p s h
  change OutKeeps (lnkRoleAct p s)
  unfold lnkRoleAct
  dsimp only
  repeat refine OutKeeps.rejectIf ?_ _ _
  split <;> simp [h]

@[simp] theorem actKeeps_lnkSchedule : ActKeeps specLnkSchedule := by
  intro p s h
  change OutKeeps (lnkScheduleAct p s)
  unfold lnkScheduleAct
  dsimp only
  repeat refine OutKeeps.rejectIf ?_ _ _
  simp [h]

@[simp] theorem actKeeps_lnkSend : ActKeeps specLnkSend := by
  intro p s h
  change OutKeeps (lnkSendAct p s)
  unfold lnkSendAct
  dsimp only
  refine OutKeeps.rejectIf ?_ _ _
  split
  · trivial
  · repeat refine OutKeeps.rejectIf ?_ _ _
    simp [h]

@[simp] theorem actKeeps_lnkNodes : ActKeeps specLnkNodes := by
  intro p s h
  change OutKeeps (lnkNodesAct p s)
  simp [lnkNodesAct, h]

@[simp] theorem actKeeps_lnkRxcfg : ActKeeps specLnkRxcfg := by
  intro p s h
  change OutKeeps (lnkRxcfgAct p s)
  simp [lnkRxcfgAct, h]

@[simp] theorem actKeeps_clkOut : ActKeeps specClkOut := by
  intro p s h
  change OutKeeps (clkOutAct p s)
  simp [clkOutAct, h]

@[simp] theorem actKeeps_clkRamp : ActKeeps specClkRamp := by
  intro p s h
  change OutKeeps (clkRampAct p s)
  unfold clkRampAct
  dsimp only
  repeat refine OutKeeps.rejectIf ?_ _ _
  (repeat' split) <;> simp [h]

@[simp] theorem actKeeps_clkSync : ActKeeps specClkSync := by
  intro p s h
  change OutKeeps (clkSyncAct p s)
  simp [clkSyncAct, h]

@[simp] theorem actKeeps_clkRef : ActKeeps specClkRef := by
  intro p s h
  change OutKeeps (clkRefAct p s)
  unfold clkRefAct
  dsimp only
  repeat refine OutKeeps.rejectIf ?_ _ _
  split <;> simp [h]

@[simp] theorem actKeeps_clkStatus : ActKeeps specClkStatus := by
  intro p s h
  change OutKeeps (clkStatusAct p s)
  simp [clkStatusAct, h]

@[simp] theorem actKeeps_prfSelect : ActKeeps specPrfSelect := by
  intro p s h
  change OutKeeps (prfSelectAct p s)
  exact OutKeeps.rejectIf (OutKeeps.tryProfile h _ _ _) _ _

@[simp] theorem actKeeps_prfCustom : ActKeeps specPrfCustom := by
  intro p s h
  change OutKeeps (prfCustomAct p s)
  exact OutKeeps.rejectIf (OutKeeps.rejectIf (OutKeeps.tryProfile h _ _ _) _ _) _ _

@[simp] theorem actKeeps_prfQuery : ActKeeps specPrfQuery := by
  intro p s h
  change OutKeeps (prfQueryAct p s)
  simp [prfQueryAct, h]

@[simp] theorem actKeeps_pwrIslands : ActKeeps specPwrIslands := by
  intro p s h
  change OutKeeps (pwrIslandsAct p s)
  unfold pwrIslandsAct
  dsimp only
  repeat refine OutKeeps.rejectIf ?_ _ _
  (repeat' split) <;> simp [h]

@[simp] theorem actKeeps_secKeyInstall : ActKeeps specSecKeyInstall := by
  intro p s h
  change OutKeeps (secKeyInstallAct p s)
  simp [secKeyInstallAct, h]

@[simp] theorem actKeeps_secKeyRetire : ActKeeps specSecKeyRetire := by
  intro p s h
  change OutKeeps (secKeyRetireAct p s)
  simp [secKeyRetireAct, h]

@[simp] theorem actKeeps_secCounterQuery : ActKeeps specSecCounterQuery := by
  intro p s h
  change OutKeeps (secCounterQueryAct p s)
  simp [secCounterQueryAct, h]

@[simp] theorem actKeeps_secLifecycle : ActKeeps specSecLifecycle := by
  intro p s h
  change OutKeeps (secLifecycleAct p s)
  unfold secLifecycleAct
  dsimp only
  repeat refine OutKeeps.rejectIf ?_ _ _
  simp [h]

@[simp] theorem actKeeps_secZeroize : ActKeeps specSecZeroize := by
  intro p s h
  change OutKeeps (secZeroizeAct p s)
  simp [secZeroizeAct, h]

@[simp] theorem actKeeps_sysIdentify : ActKeeps specSysIdentify := by
  intro p s h
  change OutKeeps (sysIdentifyAct p s)
  simp [sysIdentifyAct, h]

@[simp] theorem actKeeps_sysStatus : ActKeeps specSysStatus := by
  intro p s h
  change OutKeeps (sysStatusAct p s)
  simp [sysStatusAct, h]

@[simp] theorem actKeeps_sysErrlogRead : ActKeeps specSysErrlogRead := by
  intro p s h
  change OutKeeps (sysErrlogReadAct p s)
  simp [sysErrlogReadAct, h]

@[simp] theorem actKeeps_sysErrlogClear : ActKeeps specSysErrlogClear := by
  intro p s h
  change OutKeeps (sysErrlogClearAct p s)
  simp [sysErrlogClearAct, h]

@[simp] theorem actKeeps_outRoute : ActKeeps specOutRoute := by
  intro p s h
  change OutKeeps (outRouteAct p s)
  simp [outRouteAct, h]

@[simp] theorem actKeeps_outFilter : ActKeeps specOutFilter := by
  intro p s h
  change OutKeeps (outFilterAct p s)
  simp [outFilterAct, h]

@[simp] theorem actKeeps_sysPark : ActKeeps specSysPark := by
  intro p s h
  change OutKeeps (sysParkAct p s)
  unfold sysParkAct
  dsimp only
  repeat refine OutKeeps.rejectIf ?_ _ _
  split <;> simp [h]

@[simp] theorem actKeeps_pwrStop : ActKeeps specPwrStop := by
  intro p s h
  change OutKeeps (pwrStopAct p s)
  unfold pwrStopAct
  dsimp only
  repeat refine OutKeeps.rejectIf ?_ _ _
  split <;> simp [h]

@[simp] theorem actKeeps_sysRestart : ActKeeps specSysRestart := by
  intro p s h
  change OutKeeps (sysRestartAct p s)
  simp [sysRestartAct, h]

@[simp] theorem actKeeps_pwrWakeCfg : ActKeeps specPwrWakeCfg := by
  intro p s h
  change OutKeeps (pwrWakeCfgAct p s)
  simp [pwrWakeCfgAct, h]

/-- The actions of the whole index keep the invariant (02 R101). -/
theorem actKeeps_of_mem {sp : OpSpec} (h : sp ∈ opSpecs) : ActKeeps sp := by
  revert sp
  simp [opSpecs, opSpecsLow, opSpecsMid, opSpecsHigh]

theorem actKeeps_of_opSpecOf {op : Nat} {sp : OpSpec} (h : opSpecOf op = some sp) : ActKeeps sp :=
  actKeeps_of_mem (List.mem_of_find?_eq_some h)

end Sys2Proof.Laws

/-! SUPPORT. The command path, the ports' input and the resets keep the banks' invariant (02 R63, R68, 16 R611). -/
namespace Sys2Proof.Laws

open Sys2Proof.Machine Sys2Proof.Safety

/-! ### Steps 1 to 11 of a command (02 R63) -/

theorem bankPart_authStep_inl {sp : OpSpec} {p : Packet} {s t : State} {st : Status} (h : authStep sp p s = .inl (st, t)) :
    bankPart t = bankPart s := by
  unfold authStep at h
  dsimp only at h
  (repeat' split at h) <;> cases h <;> simp

theorem bankPart_authStep_inr {sp : OpSpec} {p : Packet} {s t : State} {key : Option (List Byte)}
    (h : authStep sp p s = .inr (key, t)) : bankPart t = bankPart s := by
  unfold authStep at h
  dsimp only at h
  (repeat' split at h) <;> cases h <;> simp

namespace BankInv

variable {s : State} {sp : OpSpec}

theorem commitCmd (h : BankInv (bankPart s)) (ha : ActKeeps sp) (p : Packet) (key : Option (List Byte)) :
    BankInv (bankPart (commitCmd sp p key s)) := by
  unfold Machine.commitCmd
  refine ite (by simpa using h) ?_
  dsimp only
  generalize hmark : (if key.isSome then modSlot (cmdSlot p) _ s else s) = u
  have hu : BankInv (bankPart u) := by
    rw [← hmark]
    simpa using h
  have hout := ha p u hu
  split
  · simpa using h
  · next hact =>
    rw [hact] at hout
    simpa using hout
  · next hact =>
    rw [hact] at hout
    exact ite (by simpa using h) (by simpa using hout)
  · simpa using h

theorem reachCmd (h : BankInv (bankPart s)) (ha : ActKeeps sp) (p : Packet) (key : Option (List Byte)) :
    BankInv (bankPart (reachCmd sp p key s)) := by
  unfold Machine.reachCmd
  dsimp only
  generalize hopen : (if (reached sp p s).contains 37 then _ else s : State) = u
  have hu : BankInv (bankPart u) := by
    rw [← hopen]
    simpa using h
  split
  · exact ite (ite (by simpa using hu) (commitCmd (by simpa using hu) ha p key)) (hu.commitCmd ha p key)
  · exact hu.commitCmd ha p key

theorem checkCmd (h : BankInv (bankPart s)) (ha : ActKeeps sp) (p : Packet) : BankInv (bankPart (checkCmd sp p s)) := by
  unfold Machine.checkCmd
  refine ite (by simpa using h) (ite (by simpa using h) ?_)
  split
  · next hauth =>
    rw [bankPart_finish, bankPart_authStep_inl hauth]
    exact h
  · next t hauth =>
    have ht : BankInv (bankPart t) := by rw [bankPart_authStep_inr hauth]; exact h
    refine ite (by simpa using ht) ?_
    split
    · simpa using ht
    · exact ht.reachCmd ha p _

section
variable {rest : State → State} (hrest : ∀ t, BankInv (bankPart t) → BankInv (bankPart (rest t)))
include hrest

theorem windowStep (h : BankInv (bankPart s)) (op : Nat) (p : Packet) : BankInv (bankPart (windowStep op p rest s)) :=
  ite (by simpa using h) (hrest s h)

theorem fromCache (h : BankInv (bankPart s)) (op : Nat) (p : Packet) : BankInv (bankPart (fromCache op p rest s)) := by
  unfold Machine.fromCache
  split
  · exact ite (by simpa using h) h
  · exact hrest s h

theorem frontCmd (h : BankInv (bankPart s)) (op : Nat) (p : Packet) : BankInv (bankPart (frontCmd op p rest s)) := by
  have hwake : BankInv (bankPart (wakeFirmware s)) := h
  refine ite h (ite (by simpa using hwake) (fromCache (fun t ht => ?_) hwake op p))
  exact ite (by simpa using ht) (ite (by simpa using ht) (windowStep hrest ht op p))

theorem muteReply (h : BankInv (bankPart s)) (mute : Bool) : BankInv (bankPart (muteReply mute rest s)) :=
  ite (hrest s h) (hrest s h)

end

theorem runCmd (h : BankInv (bankPart s)) (ha : ActKeeps sp) (p : Packet) : BankInv (bankPart (runCmd sp p s)) :=
  frontCmd (fun _ ht => ht.checkCmd ha p) h _ p

theorem checkUnknown (h : BankInv (bankPart s)) (op : Nat) (p : Packet) : BankInv (bankPart (checkUnknown op p s)) := by
  simpa [Machine.checkUnknown] using h

theorem runUnknown (h : BankInv (bankPart s)) (op : Nat) (p : Packet) : BankInv (bankPart (runUnknown op p s)) :=
  frontCmd (fun _ ht => ht.checkUnknown op p) h op p

theorem dispatchCmd (h : BankInv (bankPart s)) (op : Nat) (p : Packet) : BankInv (bankPart (dispatchCmd op p s)) := by
  unfold Machine.dispatchCmd
  split
  · next hop => exact h.runCmd (actKeeps_of_opSpecOf hop) p
  · exact h.runUnknown op p

theorem checkOp (h : BankInv (bankPart s)) (op : Nat) (p : Packet) : BankInv (bankPart (checkOp op p s)) := by
  unfold Machine.checkOp
  split
  · next hop => exact h.checkCmd (actKeeps_of_opSpecOf hop) p
  · exact h.checkUnknown op p

theorem unknownOpcode (h : BankInv (bankPart s)) (op : Nat) (p : Packet) : BankInv (bankPart (unknownOpcode op p s)) := by
  unfold Machine.unknownOpcode
  split
  · exact h
  · exact h.runUnknown op p

/-! ### Held commands (02 R68) -/

theorem drainHeld (n : Nat) (h : BankInv (bankPart s)) : BankInv (bankPart (drainHeld n s)) := by
  induction n generalizing s with
  | zero => exact h
  | succ n ih =>
    unfold Machine.drainHeld
    split
    · next t _ =>
      have hheld : BankInv (bankPart { s with ecsol.held := t }) := h
      refine ite (ih (muteReply (fun _ ht => ?_) hheld _)) h
      exact fromCache (fun _ hu => windowStep (fun _ hv => hv.checkOp _ _) hu _ _) ht _ _
    · exact h

theorem releaseHeld (h : BankInv (bankPart s)) (why : HoldReason) : BankInv (bankPart (releaseHeld why s)) := by
  unfold Machine.releaseHeld
  split
  · next t _ =>
    have hheld : BankInv (bankPart { s with ecsol.held := t }) := h
    refine ite (drainHeld _ ?_) h
    simp only [bankPart_mk, bankPart_eta]
    refine muteReply (fun t ht => ?_) hheld _
    split
    · next hop => exact ht.commitCmd (actKeeps_of_opSpecOf hop) _ _
    · exact ht
  · exact h

theorem calReleases (h : BankInv (bankPart s)) (before : State) : BankInv (bankPart (calReleases before s)) := by
  have hfail : BankInv (bankPart { s with link.holdFailed := !s.link.synth.calOk }) := h
  unfold Machine.calReleases
  refine ite ?_ h
  simp only [bankPart_mk, bankPart_eta]
  exact hfail.releaseHeld _

theorem selftestSliceEnd (h : BankInv (bankPart s)) (pass : Bool) (vector : Nat) :
    BankInv (bankPart (selftestSliceEnd pass vector s)) := by
  unfold Machine.selftestSliceEnd
  split
  · refine releaseHeld ?_ _
    simpa using h
  · split
    · split
      · exact h.releaseHeld _
      · exact h
    · exact h

/-! ### Input from the ports (12 R461 to R477) -/

theorem huntStep {port : HostPort} {obs : CmdObs} {t : State} (h : BankInv (bankPart s)) (ht : huntStep port obs s = some t) :
    BankInv (bankPart t) := by
  unfold Machine.huntStep at ht
  dsimp only at ht
  split at ht
  · cases ht
  · cases ht
    exact h
  · split at ht
    · cases ht
      exact h
    · split at ht
      · cases ht
        simpa using h
      · split at ht
        · cases ht
        · split at ht
          · cases ht
            exact dispatchCmd (s := modPort port _ s) h _ _
          · split at ht
            · cases ht
              simpa using h
            · cases ht
              simpa using h

theorem hunt (h : BankInv (bankPart s)) (port : HostPort) (obs : CmdObs) (n : Nat) : BankInv (bankPart (hunt port obs n s)) := by
  induction n generalizing s with
  | zero => exact h
  | succ n ih =>
    unfold Machine.hunt
    split
    · next ht => exact ih (h.huntStep ht)
    · exact h

theorem takeInput (h : BankInv (bankPart s)) (port : HostPort) (obs : CmdObs) (x : Option Byte) :
    BankInv (bankPart (takeInput port obs x s)) :=
  hunt (s := modPort port _ s) h port obs _

theorem byteTimeout (h : BankInv (bankPart s)) (port : HostPort) (obs : CmdObs) : BankInv (bankPart (byteTimeout port obs s)) :=
  ite (h.takeInput port obs none) h

theorem receiveByte (h : BankInv (bankPart s)) (port : HostPort) (obs : CmdObs) (b : Byte) :
    BankInv (bankPart (receiveByte port obs b s)) :=
  ite (h.takeInput port obs _) (by simpa using h)

theorem receiveBytes (h : BankInv (bankPart s)) (port : HostPort) (bs : List Byte) (idle : Bool) (obs : CmdObs) :
    BankInv (bankPart (receiveBytes port bs idle obs s)) :=
  ite (foldS (fun b _ ht => ht.receiveByte port obs b) bs (ite (h.byteTimeout port obs) h)) h

theorem uartReceive (h : BankInv (bankPart s)) (u : Uart) (b : Byte) (stopOk : Bool) (lowPs : Nat) (idle : Bool) (obs : CmdObs) :
    BankInv (bankPart (uartReceive u b stopOk lowPs idle obs s)) := by
  have hdetect : BankInv (bankPart (uartDetect u lowPs s)) := by simpa using h
  unfold Machine.uartReceive
  refine ite h ?_
  dsimp only
  split
  · exact hdetect
  · refine ite (hdetect.receiveBytes _ _ _ _) ?_
    rw [bankPart_countFraming]
    exact ite (hdetect.byteTimeout _ _) hdetect

theorem uartBreak (h : BankInv (bankPart s)) (u : Uart) (obs : CmdObs) : BankInv (bankPart (uartBreak u obs s)) := by
  refine ite h (byteTimeout ?_ _ _)
  split
  · exact h
  · exact h

theorem readPort (h : BankInv (bankPart s)) (port : HostPort) (lead : List Byte) (n : Nat) (obs : CmdObs) :
    BankInv (bankPart (readPort port lead n obs s)) :=
  hunt (s := drive _ (modPort port _ s)) h port obs _

theorem uartTransmit (h : BankInv (bankPart s)) (u : Uart) (obs : CmdObs) : BankInv (bankPart (uartTransmit u obs s)) := by
  unfold Machine.uartTransmit
  split
  · exact h.readPort _ _ _ _
  · exact h

theorem muslinTake (h : BankInv (bankPart s)) (obs : CmdObs) (bs : List Byte) : BankInv (bankPart (muslinTake obs bs s).2) := by
  induction bs generalizing s with
  | nil => exact h
  | cons b t ih =>
    unfold Machine.muslinTake
    split
    · exact ih (h.takeInput _ _ _)
    · exact h

theorem muslinWrite (h : BankInv (bankPart s)) (addr : BitVec 7) (bs : List Byte) (idle : Bool) (obs : CmdObs) :
    BankInv (bankPart (muslinWrite addr bs idle obs s)) := by
  refine ite ?_ h
  simp only [bankPart_mk, bankPart_eta]
  exact muslinTake (ite (h.byteTimeout _ _) h) obs bs

theorem muslinRead (h : BankInv (bankPart s)) (addr : BitVec 7) (n : Nat) (obs : CmdObs) :
    BankInv (bankPart (muslinRead addr n obs s)) :=
  ite (h.readPort _ _ _ _) h

/-! ### Input through PCIe (12 R476, R477) -/

theorem takeSlot (h : BankInv (bankPart s)) (obs : CmdObs) : BankInv (bankPart (takeSlot obs s)) := by
  have hadv : BankInv (bankPart (advanceHead s)) := by simpa using h
  refine ite (by simpa using hadv) (ite (hadv.dispatchCmd _ _) (by simpa using hadv))

theorem takeSlots (h : BankInv (bankPart s)) (obs : CmdObs) (n : Nat) : BankInv (bankPart (takeSlots obs n s)) := by
  induction n generalizing s with
  | zero => exact h
  | succ n ih => exact ite h (ih (h.takeSlot obs))

theorem takeAll (h : BankInv (bankPart s)) (obs : CmdObs) : BankInv (bankPart (takeAll obs s)) := h.takeSlots obs 8

theorem tailWrite (h : BankInv (bankPart s)) (tail : Nat) (obs : CmdObs) : BankInv (bankPart (tailWrite tail obs s)) :=
  ite h (ite (by simpa using h) (takeAll (s := { s with pcie.tail := tail % 16 }) h obs))

theorem ctrlWrite (h : BankInv (bankPart s)) (v : Nat) (obs : CmdObs) : BankInv (bankPart (ctrlWrite v obs s)) := by
  refine takeAll ?_ obs
  simpa using h

theorem bar0Write (h : BankInv (bankPart s)) (off v : Nat) (obs : CmdObs) : BankInv (bankPart (bar0Write off v obs s)) := by
  unfold Machine.bar0Write
  exact ite h (ite (h.ctrlWrite v obs) (ite (h.tailWrite _ obs) (ite (by simpa using h) (ite (by simpa using h)
    (ite (by simpa using h) (ite (h.ownerWrite _ _) (ite (by simpa using h) (ite h h))))))))

/-! ### Resets (16 R611): the banks as the survey has them -/

theorem reset : BankInv (bankPart State.reset) := ⟨rfl, rfl, rfl⟩

theorem resetMain (keepLog : Bool) (s : State) : BankInv (bankPart (resetMain keepLog s)) := by
  rw [resetMain_fresh]
  exact reset

theorem resetWith (cause detail : Nat) (keepLog : Bool) (s : State) : BankInv (bankPart (resetWith cause detail keepLog s)) := by
  rw [resetWith_fresh]
  exact reset

theorem vbatPowerOn (h : BankInv (bankPart s)) : BankInv (bankPart (vbatPowerOn s)) := ite (resetMain false s) h

theorem vbatLoss (s : State) : BankInv (bankPart (vbatLoss s)) := resetMain false s

theorem pwrEnFall (h : BankInv (bankPart s)) : BankInv (bankPart (pwrEnFall s)) := by
  unfold Machine.pwrEnFall
  split
  · exact ite h (resetMain false s)
  · exact h

theorem pinReset (h : BankInv (bankPart s)) (detail : Nat) : BankInv (bankPart (pinReset detail s)) :=
  ite (resetWith 3 detail true s) h

theorem fwWatchdog (h : BankInv (bankPart s)) (proc : Nat) : BankInv (bankPart (fwWatchdog proc s)) :=
  ite (resetWith 5 proc true s) h

theorem securityReset (h : BankInv (bankPart s)) : BankInv (bankPart (securityReset s)) := by
  unfold Machine.securityReset
  split
  · split
    · exact ite (resetWith _ _ _ _) h
    · exact h
  · exact h

theorem sysRestartReset (h : BankInv (bankPart s)) : BankInv (bankPart (sysRestartReset s)) := by
  unfold Machine.sysRestartReset
  split
  · exact ite (resetWith _ _ _ _) h
  · exact h

end BankInv

end Sys2Proof.Laws

/-! SUPPORT. Every row keeps the banks' invariant. -/
namespace Sys2Proof.Laws

open Sys2Proof.Machine Sys2Proof.Safety

namespace BankInv

/-- A row that goes on with a state of the invariant keeps it. -/
theorem row {t u : State} (hu : BankInv (bankPart u)) (he : (Host.Outcome.next u : Host.Outcome State Fault Refusal) = .next t) :
    BankInv (bankPart t) := by
  cases he
  exact hu

/-- Every row of the table keeps the invariant: commands by their actions, kernel instructions by what a core may do, the other rows
that reach a bank one by one; the rest touch no bank at all. -/
theorem exec {i : Instr} {s t : State} (h : BankInv (bankPart s)) (he : exec i s = .next t) : BankInv (bankPart t) := by
  cases i with
  | sysIdentify | sysStatus | sysRestart | sysErrlogRead | sysErrlogClear | sysPark | prfSelect | prfCustom | prfQuery | pwrStop |
  pwrWakeCfg | pwrIslands | aprEnable | aprConfig | aprNotch | aprBlank | aprStatus | aprStream | acqPlan | acqAid | acqStart |
  acqAbort | acqResults | trkAssign | trkRelease | trkLoops | trkCorr | trkBurst | trkStatus | trkAnchor | calVoile | calStatus |
  calCommit | calLoad | measRate | tulGroup | tulMode | tulResetAmb | measCorrections | navConfig | timPulse | timScale |
  timHoldover | timDelays | timEvent | timStepPolicy | timTimecode | clkRef | clkOut | clkRamp | clkSync | clkStatus | lnkChannels
  | lnkCal | lnkTxpower | lnkDiversity | lnkStatus | lnkRole | lnkSchedule | lnkSend | lnkNodes | lnkRxcfg | krnLoad | krnStart |
  krnStop | krnStatus | krnSpares | krnMailbox | memOwner | memScrub | memStatus | bstSchedule | bstRunNow | bstResults |
  secKeyInstall | secKeyRetire | secCounterQuery | secLifecycle | secZeroize | outRoute | outFilter =>
    exact row (h.runCmd (by simp) _) he
  | kNop | kHalt | kRet | kReti | kFence | kWait | kEi | kDi | kJr | kCallr | kRepr | kJ | kCall | kRep | kLoop | kBr | kBri |
  kBra | kAdd | kSub | kAdds | kSubs | kAnd | kOr | kXor | kMul | kMulh | kMin | kMax | kMinu | kMaxu | kNeg | kNegs | kAbs |
  kAbss | kNot | kCls | kClz | kAddbcd | kSubbcd | kDadj | kDbin | kLsl | kLsr | kAsr | kAsls | kLslImm | kLsrImm | kAsrImm |
  kAslsImm | kDiv | kDivu | kAddi | kAddpi | kMovi | kMovr | kMovil | kLd | kLdr | kSt | kStr | kLdx | kStx | kLdc | kExtu | kExts
  | kIns | kMpy | kMac | kMsu | kMpyi | kMaci | kMsui | kClra | kMova | kAdda | kSuba | kNega | kNegas | kAbsa | kAbsas | kAsha |
  kAshas | kAshar | kAshasr | kRnda | kSata | kFtap =>
    exact row (h.kRowWith _ _ _) he
  -- The input of the ports and of PCIe: bytes, reads, registers and doorbells.
  | unknownOpcode => exact row (h.unknownOpcode _ _) he
  | packetByteTimeout => exact row (ite h (h.byteTimeout _ _)) he
  | uartByteReceived => exact row (h.uartReceive _ _ _ _ _ _) he
  | uartBreak => exact row (h.uartBreak _ _) he
  | spiWrite => exact row (h.receiveBytes _ _ _ _) he
  | spiQuadWrite => exact row (h.receiveBytes _ _ _ _) he
  | spiRead => exact row (ite (h.readPort _ _ _ _) h) he
  | spiQuadRead => exact row (ite (h.readPort _ _ _ _) h) he
  | muslinWrite => exact row (h.muslinWrite _ _ _ _) he
  | muslinRead => exact row (h.muslinRead _ _ _) he
  | uartByteTransmitted => exact row (h.uartTransmit _ _) he
  | cmdEn => exact row (ite (takeAll (by simpa using h) _) h) he
  | ringEn => exact row (ite (takeAll (by simpa using h) _) h) he
  | cmdTailWrite => exact row (ite (h.tailWrite _ _) h) he
  | registerWrite => exact row (ite (h.bar0Write _ _ _) h) he
  | ringEntryWritten => exact row (ite (takeAll (by simpa using h) _) h) he
  -- The banks themselves.
  | ownerWrite => exact row (ite (h.ownerWrite _ _) h) he
  | bar2Read => exact row (h.bar2Read _ _ _) he
  | bar2Write => exact row (h.bar2Write _ _ _ _) he
  | bankReady => exact row (ite (h.bankReadyRow _) h) he
  | scrubGranule => exact row (h.scrubGranule _ _) he
  | memScrubComplete => exact row (h.memScrubComplete _ _) he
  | drainComplete => exact row (h.drainComplete _) he
  -- A core's accesses, deliveries and life.
  | emitDone => exact row (h.emitDone _ _) he
  | subscriptionDelivery => exact row (h.subscriptionDelivery _ _) he
  | bankLoadReturn => exact row (h.bankLoadReturn _ _ _) he
  | postedStoreCommit => exact row (h.postedCommit _ _ _) he
  | waitWake => exact row (h.waitWake _ _) he
  | illegalInstruction => exact row (h.kIllegal _) he
  | kernelWatchdogExpiry => exact row (h.watchdogExpiry _) he
  -- Rows that let a held command go on.
  | selftestSliceEnd => exact row (h.selftestSliceEnd _ _) he
  | synthLockReport => exact row (calReleases (by simpa using h) _) he
  | synthCalEnd => exact row (calReleases (by simpa using h) _) he
  -- Resets and power.
  | vbatPowerOn => exact row (h.vbatPowerOn) he
  | vbatLoss => exact row (vbatLoss s) he
  | pwrEnFall => exact row (h.pwrEnFall) he
  | resetNLow => exact row (h.pinReset 0) he
  | railOutOfRange => exact row (h.pinReset 1) he
  | fwWatchdog => exact row (h.fwWatchdog _) he
  | securityReset => exact row (h.securityReset) he
  | sysRestartReset => exact row (h.sysRestartReset) he
  | authLockExpiry | spiStatus | spiUnknownInstruction | muslinAddrApply | resetRings | irqStatusClear | framingRead |
  ringDropsRead | ringDataModeration | dmaError | pcieFunctionReset | pcieLinkTrained | islandReady | epoch | dumpRecordCommit |
  rawCutoff | provisionalCutoff | finalCutoff | sliceTransferUnit | notchRelease | agcUpdate | agcTcSwitch | apertureRunning |
  noiseRefLearnt | jiAlertClear | noSignalRaise | noSignalClear | overloadRaise | overloadClear | adcFault | iqBlock | dutyWindow
  | dwellEnd | verificationDwellEnd | aidLapse | lagUpdate | pliWindow | voluntaryHandover | lagSearchDwell | pullInTimeout |
  coastEntry | coastTimeout | apertureCoastTimeout | burstWake | burstStart | burstEnd | voileWindowEnd | calTableStored |
  wholeSecond | holdoverExpiry | slewEnd | timeStep | pulseNotice | edgeAnnounce | pulseEdge | pulseTrailingEdge | eventEdge |
  syncInEdge | refMonitorWindow | lockWindow | holdoffExpiry | lockRetry | hostSweepComplete | alignmentExpiry | linkTempCheck |
  synthCalStart | synthHopStart | backgroundCalStart | lpaEnAssert | slotRampStart | txFrameEnd | lpaEnRelease | llnaEnRestore |
  txAbort | preambleDetection | linkAgcUpdate | watchDetection | headerDecoded | frameReceived | superframeStart | heartbeat |
  irqPendClear | emitLenWrite | inboxAck | outboxNWrite | bexpWrite | imageStored | kernelEntry | failoverStart | interruptEntry |
  wakeNLow | addressMatch | timerAlarm | x32Loss | parkWriteDone | pwrEnRise | resetRelease | fwReady | selftestSlot |
  fuseBurnDone | keyErasureDone | errlogCoalescedReport | stfNinthPeriod | slotEnd | clkoutOnTimeEdge | correctionShapeComplete =>
    refine row ?_ he
    simpa using h

/-- One step keeps the invariant. -/
theorem step {s t : State} (h : BankInv (bankPart s)) (he : step s = .next t) : BankInv (bankPart t) := by
  unfold Machine.step at he
  split at he
  · cases he
    exact h
  · next rest _ => exact exec (s := { s with pending := rest }) h he

end BankInv

end Sys2Proof.Laws

/-! The statement about the banks' invariant (15 R571 to R581), settled. -/
namespace Sys2Proof.Proofs

open Sys2Proof.Machine Sys2Proof.Safety Sys2Proof.Laws

/-- Settles O55: the rows that touch the banks keep the invariant one by one; no other row touches them. -/
theorem everyStepKeepsTheBankInvariant : Obligations.EveryStepKeepsTheBankInvariant :=
  fun _ _ h he => BankInv.step h he

end Sys2Proof.Proofs

/-! SUPPORT. The bytes of a command packet (02 R51): what its fields read back as, and which packet it spells. -/
namespace Sys2Proof.Laws

open Sys2Proof.Machine Sys2Proof.Safety

/-! ### Little-endian fields -/

@[simp] theorem length_le (n v : Nat) : (le n v).length = n := by
  induction n generalizing v with
  | zero => rfl
  | succ n ih => simp [le, ih]

/-- The number that `n` bytes of `v` spell. -/
theorem ofLe_le (n v : Nat) : ofLe (le n v) = v % 256 ^ n := by
  induction n generalizing v with
  | zero => simp [le, ofLe, Nat.mod_one]
  | succ n ih =>
    have hsplit : v % 256 ^ (n + 1) = v % 256 + 256 * (v / 256 % 256 ^ n) := by rw [Nat.pow_succ', Nat.mod_mul]
    rw [le, ofLe, ih, BitVec.toNat_ofNat, hsplit]

/-- A field that ends inside the first bytes of a string is read from them. -/
theorem uN_take {n k : Nat} {b : List Byte} {o : Nat} (h : o + n ≤ k) : uN n (b.take k) o = uN n b o := by
  rw [uN, uN, field, field, List.drop_take, List.take_take, Nat.min_eq_left (by omega)]

/-- A field past the head of a string is read from the rest. -/
theorem field_append_right {a b : List Byte} {o n : Nat} : field (a ++ b) (a.length + o) n = field b o n := by
  rw [field, field, List.drop_append, List.drop_eq_nil_of_le (by omega), List.nil_append, Nat.add_sub_cancel_left]

/-- A field of its own length at the front of a string. -/
theorem field_front (a b : List Byte) : field (a ++ b) 0 a.length = a := by
  rw [field, List.drop_zero, List.take_left]

/-- `n` bytes of `v` at the front of a string read as `v`. -/
theorem uN_front {n v : Nat} (b : List Byte) (h : v < 256 ^ n) : uN n (le n v ++ b) 0 = v := by
  have hfield := field_front (le n v) b
  rw [length_le] at hfield
  rw [uN, hfield, ofLe_le, Nat.mod_eq_of_lt h]

theorem uN_append_right {n : Nat} {a b : List Byte} {o : Nat} : uN n (a ++ b) (a.length + o) = uN n b o := by
  rw [uN, uN, field_append_right]

/-! ### The packet -/

/-- A command packet as it is sent (02 R51, R58). -/
def wholePacket (op : Nat) (p : Packet) : List Byte := cmdBytes op p ++ le 4 p.crc.toNat

/-- The first 8 bytes of a command packet. -/
def packetHead (op : Nat) (p : Packet) : List Byte := [0xA7, p.flags] ++ le 2 p.params.length ++ le 2 op ++ le 2 p.seq.toNat

/-- COUNTER and TAG, present where AUTH is 1. -/
def packetAuth (p : Packet) : List Byte := if cmdAuth p then le 8 p.counter.toNat ++ le 16 p.tag.toNat else []

theorem length_packetHead (op : Nat) (p : Packet) : (packetHead op p).length = 8 := by simp [packetHead]

theorem length_packetAuth (p : Packet) : (packetAuth p).length = if cmdAuth p then 24 else 0 := by
  unfold packetAuth; split <;> simp

theorem wholePacket_eq (op : Nat) (p : Packet) :
    wholePacket op p = packetHead op p ++ (p.params ++ (packetAuth p ++ le 4 p.crc.toNat)) := by
  unfold wholePacket cmdBytes cmdSigned packetHead packetAuth
  cases cmdAuth p <;> simp [List.append_assoc]

theorem length_wholePacket (op : Nat) (p : Packet) :
    (wholePacket op p).length = (if cmdAuth p then 36 else 12) + p.params.length := by
  simp only [wholePacket_eq, List.length_append, length_packetHead, length_packetAuth, length_le]
  split <;> omega

theorem packetHead_eq (op : Nat) (p : Packet) : packetHead op p =
    [0xA7, p.flags, BitVec.ofNat 8 p.params.length, BitVec.ofNat 8 (p.params.length / 256), BitVec.ofNat 8 op,
      BitVec.ofNat 8 (op / 256), BitVec.ofNat 8 p.seq.toNat, BitVec.ofNat 8 (p.seq.toNat / 256)] := rfl

/-- A two-byte number put together from its bytes. -/
theorem ofLe_pair {v : Nat} (h : v < 65536) : ofLe [BitVec.ofNat 8 v, BitVec.ofNat 8 (v / 256)] = v :=
  (ofLe_le 2 v).trans (Nat.mod_eq_of_lt h)

section
variable (op : Nat) (p : Packet) (rest : List Byte)

theorem head_flags : u8 (packetHead op p ++ rest) 1 = p.flags.toNat := by
  simp [packetHead_eq, u8, uN, field, ofLe]

theorem head_length (h : p.params.length ≤ 4096) : u16 (packetHead op p ++ rest) 2 = p.params.length :=
  ofLe_pair (by omega)

theorem head_opcode (h : op < 65536) : u16 (packetHead op p ++ rest) 4 = op := ofLe_pair h

theorem head_seq : u16 (packetHead op p ++ rest) 6 = p.seq.toNat := ofLe_pair p.seq.isLt

end

theorem u8_flags (op : Nat) (p : Packet) : u8 (wholePacket op p) 1 = p.flags.toNat := by
  rw [wholePacket_eq, head_flags]

theorem u16_length (op : Nat) {p : Packet} (h : p.params.length ≤ 4096) : u16 (wholePacket op p) 2 = p.params.length := by
  rw [wholePacket_eq, head_length op p _ h]

theorem u16_opcode {op : Nat} (p : Packet) (h : op < 65536) : u16 (wholePacket op p) 4 = op := by
  rw [wholePacket_eq, head_opcode op p _ h]

/-- The size that a packet's header tells is its own. -/
theorem packetSize_wholePacket (op : Nat) {p : Packet} (h : p.params.length ≤ 4096) :
    packetSize (wholePacket op p) = (wholePacket op p).length := by
  rw [packetSize, u8_flags, u16_length op h, length_wholePacket]
  rfl

/-- The header alone tells the size. -/
theorem packetSize_take {bs : List Byte} {k : Nat} (h : 8 ≤ k) : packetSize (bs.take k) = packetSize bs := by
  rw [packetSize, packetSize, u8, u8, u16, u16, uN_take (by omega), uN_take (by omega)]

/-- What the CRC of a packet covers. -/
theorem take_wholePacket (op : Nat) (p : Packet) : (wholePacket op p).take ((wholePacket op p).length - 4) = cmdBytes op p := by
  rw [wholePacket, List.length_append, length_le, Nat.add_sub_cancel, List.take_left]

theorem length_wholePacket_ge (op : Nat) (p : Packet) : 12 ≤ (wholePacket op p).length := by
  rw [length_wholePacket]; split <;> omega

/-- A packet of a byte-stream form: its fields fit, what an unsigned one does not carry is 0, and its CRC is right (02 R51, R58). -/
structure Sound (op : Nat) (p : Packet) : Prop where
  opcode : op < 65536
  length : p.params.length ≤ 4096
  unsigned : cmdAuth p = false → p.counter = 0 ∧ p.tag = 0
  crc : p.crc.toNat = crc32c (cmdBytes op p)

/-! ### Reading a packet back -/

section
variable {op : Nat} {p : Packet}

theorem field_params : field (wholePacket op p) 8 p.params.length = p.params := by
  rw [wholePacket_eq, ← length_packetHead op p, ← Nat.add_zero (packetHead op p).length, field_append_right, field_front]

theorem u64_counter (hauth : cmdAuth p = true) : u64 (wholePacket op p) (8 + p.params.length) = p.counter.toNat := by
  rw [wholePacket_eq, ← length_packetHead op p, u64, uN_append_right, ← Nat.add_zero p.params.length, uN_append_right, packetAuth,
    if_pos hauth, List.append_assoc, uN_front _ p.counter.isLt]

theorem uN_tag (hauth : cmdAuth p = true) : uN 16 (wholePacket op p) (16 + p.params.length) = p.tag.toNat := by
  rw [wholePacket_eq, show 16 + p.params.length = (packetHead op p).length + (p.params.length + ((le 8 p.counter.toNat).length + 0)) by
    rw [length_packetHead, length_le]; omega, uN_append_right, uN_append_right, packetAuth, if_pos hauth, List.append_assoc,
    uN_append_right, uN_front _ p.tag.isLt]

theorem u32_crc : u32 (wholePacket op p) ((wholePacket op p).length - 4) = p.crc.toNat := by
  rw [wholePacket, List.length_append, length_le, Nat.add_sub_cancel, ← Nat.add_zero (cmdBytes op p).length, u32, uN_append_right,
    ← List.append_nil (le 4 _), uN_front _ p.crc.isLt]

/-- The bytes of a packet spell it, field by field (02 R51). -/
theorem parsePacket_wholePacket (h : Sound op p) : parsePacket p.port (wholePacket op p) p.obs = p := by
  have hflags : (wholePacket op p).getD 1 0 = p.flags := rfl
  have hbit : (u8 (wholePacket op p) 1).testBit 0 = cmdAuth p := by rw [u8_flags]; rfl
  have hseq : u16 (wholePacket op p) 6 = p.seq.toNat := by rw [wholePacket_eq, head_seq]
  have hcounter : (if cmdAuth p then BitVec.ofNat 64 (u64 (wholePacket op p) (8 + p.params.length)) else 0) = p.counter := by
    split
    next hyes => rw [u64_counter hyes, BitVec.ofNat_toNat, BitVec.setWidth_eq]
    next hno => exact (h.unsigned (by simpa using hno)).1.symm
  have htag : (if cmdAuth p then BitVec.ofNat 128 (uN 16 (wholePacket op p) (16 + p.params.length)) else 0) = p.tag := by
    split
    next hyes => rw [uN_tag hyes, BitVec.ofNat_toNat, BitVec.setWidth_eq]
    next hno => exact (h.unsigned (by simpa using hno)).2.symm
  simp only [parsePacket, u16_length op h.length, hbit, hflags, hseq, field_params, hcounter, htag, packetSize_wholePacket op h.length,
    u32_crc, BitVec.ofNat_toNat, BitVec.setWidth_eq]

end

end Sys2Proof.Laws

/-! SUPPORT. How bytes and idle gaps that arrive on a byte-stream port are taken (02 R59 to R62): an unfinished packet waits, a
complete one is dispatched, one that a gap cuts short is discarded. -/
namespace Sys2Proof.Laws

open Sys2Proof.Machine Sys2Proof.Safety

/-! ### Two writes of one entry -/

section
variable {α : Type} {d : α} {t : Tab α} {i : Nat}

theorem tput_tput (v w : α) : tput (tput t i v) i w = tput t i w := by
  induction t with
  | nil => simp [tput]
  | cons x t ih =>
    obtain ⟨k, u⟩ := x
    by_cases hlt : i < k
    · simp [tput, hlt]
    · by_cases heq : i = k <;> simp [tput, hlt, heq, ih]

theorem terase_tput (v : α) : terase (tput t i v) i = terase t i := by
  induction t with
  | nil => simp [tput, terase]
  | cons x t ih =>
    obtain ⟨k, u⟩ := x
    by_cases hlt : i < k
    · simp [tput, terase, hlt]
    · by_cases heq : i = k <;> simp [tput, terase, hlt, heq, ih]

/-- The second write of an entry that the first one listed is the only one. -/
theorem tset_tset [DecidableEq α] {v : α} (hv : v ≠ d) (w : α) : tset d (tset d t i v) i w = tset d t i w := by
  rw [tset, tset, tset, if_neg hv, terase_tput, tput_tput]

/-- Two changes of an entry are one, where the first leaves it listed. -/
theorem tmod_tmod [DecidableEq α] {f : α → α} (h : f (tget d t i) ≠ d) (g : α → α) :
    tmod d (tmod d t i f) i g = tmod d t i (fun x => g (f x)) := by
  rw [tmod, tget_tmod_self, tmod, tset_tset h, tmod]

end

section
variable {port : HostPort} {s : State}

theorem modPort_congr {f g : PortState → PortState} (h : f (portOf s port) = g (portOf s port)) :
    modPort port f s = modPort port g s := by
  unfold portOf at h
  simp only [modPort, tmod, h]

/-- Two changes of a port are one, where the first leaves it other than at reset. -/
theorem modPort_modPort {f : PortState → PortState} (g : PortState → PortState) (h : f (portOf s port) ≠ PortState.initial) :
    modPort port g (modPort port f s) = modPort port (fun x => g (f x)) s :=
  congrArg (fun ports => { s with ecsol.ports := ports }) (tmod_tmod h g)

/-- A port that holds something received is not as at reset. -/
theorem ne_initial_of_asm {x : PortState} (h : x.asm ≠ []) : x ≠ PortState.initial := by
  rintro rfl; exact h rfl

theorem portOf_modPort (q : HostPort) (f : PortState → PortState) :
    portOf (modPort port f s) q = if q = port then f (portOf s q) else portOf s q := by
  split
  next h => rw [h, portOf_modPort_self]
  next h => rw [portOf_modPort_ne _ _ h]

/-- Whether a port takes commands depends on its output, not on its input (12 R463). -/
theorem portBlocked_modPort {f : PortState → PortState} (hf : ∀ x, (f x).outq = x.outq) (q : HostPort) :
    portBlocked (modPort port f s) q = portBlocked s q := by
  have hout : (portOf (modPort port f s) q).outq = (portOf s q).outq := by rw [portOf_modPort]; split <;> simp [hf]
  cases q <;> simp only [portBlocked, hout]
  rfl

end

/-! ### What the hunt sees -/

@[simp] theorem beforeGap_bytes (bs : List Byte) : beforeGap (bs.map some) = bs := by
  induction bs with
  | nil => rfl
  | cons b bs ih => simp [beforeGap, ih]

@[simp] theorem beforeGap_gap (bs : List Byte) (t : List (Option Byte)) : beforeGap (bs.map some ++ none :: t) = bs := by
  induction bs with
  | nil => rfl
  | cons b bs ih => simp [beforeGap, ih]

variable {bs : List Byte}

theorem unfinished_ne_nil (h : Unfinished bs) : bs ≠ [] := by
  rintro rfl; exact absurd h.1 (by simp)

/-- An unfinished packet begins with its sync byte. -/
theorem unfinished_eq_cons (h : Unfinished bs) : ∃ t, bs = 0xA7 :: t := by
  obtain ⟨b, t, rfl⟩ := List.exists_cons_of_ne_nil (unfinished_ne_nil h)
  exact ⟨t, by rw [Option.some.inj h.1]⟩

/-- An unfinished packet is shorter than the longest one. -/
theorem unfinished_length_lt (h : Unfinished bs) : bs.length < 4132 := by
  rcases h.2 with hshort | ⟨hlen, hsize⟩
  · omega
  · unfold packetSize at hsize
    split at hsize <;> omega

/-- The beginning of an unfinished packet is one. -/
theorem unfinished_left {a b : List Byte} (h : Unfinished (a ++ b)) (ha : a ≠ []) : Unfinished a := by
  obtain ⟨hhead, hmore⟩ := h
  refine ⟨by rwa [List.head?_append_of_ne_nil _ ha] at hhead, ?_⟩
  rcases Nat.lt_or_ge a.length 8 with hshort | hlong
  · exact .inl hshort
  · have hfront : a = (a ++ b).take a.length := List.take_left.symm
    have hu16 : u16 a 2 = u16 (a ++ b) 2 := (congrArg (u16 · 2) hfront).trans (uN_take (by omega))
    have hsame : packetSize a = packetSize (a ++ b) := (congrArg packetSize hfront).trans (packetSize_take hlong)
    rw [List.length_append] at hmore
    rw [hu16, hsame]
    rcases hmore with hshort | ⟨hlen, hsize⟩
    · omega
    · exact .inr ⟨hlen, by omega⟩

/-- A proper beginning of a packet is unfinished (02 R51). -/
theorem unfinished_take_wholePacket (op : Nat) {p : Packet} {n : Nat} (hlen : p.params.length ≤ 4096) (hpos : 0 < n)
    (hn : n < (wholePacket op p).length) : Unfinished ((wholePacket op p).take n) := by
  refine ⟨by rw [List.head?_take, if_neg (by omega)]; rfl, ?_⟩
  rw [List.length_take, Nat.min_eq_left (by omega)]
  rcases Nat.lt_or_ge n 8 with hshort | hlong
  · exact .inl hshort
  · rw [u16, uN_take (by omega), packetSize_take hlong, packetSize_wholePacket op hlen]
    exact .inr ⟨(u16_length op hlen).le.trans hlen, hn⟩

/-! ### The hunt -/

section
variable {port : HostPort} {obs : CmdObs} {s : State}

/-- The port with `bs` received and not yet scanned. -/
def waiting (port : HostPort) (bs : List Byte) (s : State) : State := modPort port (fun x => { x with asm := bs.map some }) s

theorem asm_waiting (port : HostPort) (bs : List Byte) (s : State) : (portOf (waiting port bs s) port).asm = bs.map some := by
  rw [waiting, portOf_modPort_self]

theorem portBlocked_waiting (port : HostPort) (bs : List Byte) (s : State) (q : HostPort) :
    portBlocked (waiting port bs s) q = portBlocked s q :=
  portBlocked_modPort (f := fun x => { x with asm := bs.map some }) (fun _ => rfl) q

/-- The port with nothing received, after a packet or an idle gap (02 R62). -/
def scanned (port : HostPort) (s : State) : State := modPort port (fun x => { x with asm := [], fresh := true }) s

/-- The hunt waits for the rest of a packet. -/
theorem huntStep_unfinished (h : (portOf s port).asm = bs.map some) (hbs : Unfinished bs) : huntStep port obs s = none := by
  obtain ⟨t, rfl⟩ := unfinished_eq_cons hbs
  have hasm : (portOf s port).asm = some 0xA7 :: t.map some := h
  have hbytes : beforeGap (some 0xA7 :: t.map some) = 0xA7 :: t := beforeGap_bytes (0xA7 :: t)
  have hmore := hbs.2
  simp only [huntStep, hasm, hbytes, ne_eq, not_true_eq_false, if_false, List.length_cons, List.length_map] at hmore ⊢
  rw [if_neg, if_pos (by omega)]
  rintro (⟨_, _⟩ | ⟨hcut, _⟩)
  · omega
  · exact absurd (of_decide_eq_true hcut) (Nat.lt_irrefl _)

/-- An idle gap ahead of the next byte is passed over. -/
theorem huntStep_gap {t : List (Option Byte)} (h : (portOf s port).asm = none :: t) :
    huntStep port obs s = some (modPort port (fun x => { x with asm := t, fresh := true }) s) := by
  simp only [huntStep, h]

/-- A byte that no packet starts with is passed over. -/
theorem huntStep_noise {b : Byte} {t : List (Option Byte)} (h : (portOf s port).asm = some b :: t) (hb : b ≠ 0xA7) :
    huntStep port obs s = some (modPort port (fun x => { x with asm := t, fresh := false }) s) := by
  simp only [huntStep, h, hb, ne_eq, not_false_eq_true, if_true]

/-- A packet that an idle gap cuts short is counted, and the hunt goes on behind its sync byte (02 R60, R61). -/
theorem huntStep_cut {bs : List Byte} {t : List (Option Byte)} (h : (portOf s port).asm = (0xA7 :: bs).map some ++ none :: t)
    (hbs : Unfinished (0xA7 :: bs)) : huntStep port obs s
      = some (countFraming port (modPort port (fun x => { x with asm := bs.map some ++ none :: t, fresh := false }) s)) := by
  have hasm : (portOf s port).asm = some 0xA7 :: (bs.map some ++ none :: t) := h
  have hbytes : beforeGap (some 0xA7 :: (bs.map some ++ none :: t)) = 0xA7 :: bs := beforeGap_gap (0xA7 :: bs) t
  have hmore := hbs.2
  simp only [huntStep, hasm, hbytes, ne_eq, not_true_eq_false, if_false, List.length_cons, List.length_map,
    List.length_append] at hmore ⊢
  rw [if_pos (.inr ⟨by simp, by omega⟩)]

/-- A complete packet with a right CRC is dispatched, where the port takes commands (02 R59, R63). -/
theorem huntStep_packet {op : Nat} {p : Packet} (h : (portOf s p.port).asm = (wholePacket op p).map some) (hp : Sound op p)
    (hfree : portBlocked s p.port = false) :
    huntStep p.port p.obs s = some (dispatchCmd op p (scanned p.port s)) := by
  have hsize := packetSize_wholePacket op hp.length
  have hlong := length_wholePacket_ge op p
  have hlen := hp.length
  have hu16 := u16_length op hlen
  have hparse : parsePacket p.port (wholePacket op p) p.obs = p := parsePacket_wholePacket hp
  have hcrc := hp.crc
  have htake := take_wholePacket op p
  have hopcode := u16_opcode p hp.opcode
  have hbytes := beforeGap_bytes (wholePacket op p)
  obtain ⟨t, ht⟩ : ∃ t, wholePacket op p = 0xA7 :: t := ⟨_, rfl⟩
  generalize wholePacket op p = bs at *
  subst ht
  have hasm : (portOf s p.port).asm = some 0xA7 :: t.map some := h
  simp only [huntStep, hasm, ne_eq, not_true_eq_false, if_false]
  rw [List.map_cons] at hbytes
  simp only [hbytes, hsize, List.take_length, hparse, htake, hcrc, hopcode]
  rw [if_neg, if_neg, if_pos trivial]
  · refine congrArg some (congrArg (dispatchCmd op p) (modPort_congr ?_))
    simp [hasm]
  · rintro (hshort | hless | hblocked)
    · omega
    · exact Nat.lt_irrefl _ hless
    · exact Bool.false_ne_true (hfree.symm.trans hblocked)
  · rintro (⟨_, _⟩ | ⟨hcut, _⟩)
    · omega
    · exact absurd (of_decide_eq_true hcut) (by simp)

/-- With nothing received the hunt waits. -/
theorem hunt_nothing (h : (portOf s port).asm = []) (n : Nat) : hunt port obs n s = s := by
  cases n with
  | zero => rfl
  | succ n => simp [hunt, huntStep, h]

/-- A move of the hunt, and the hunt goes on. -/
theorem hunt_succ {t : State} (h : huntStep port obs s = some t) (n : Nat) : hunt port obs (n + 1) s = hunt port obs n t := by
  rw [hunt, h]

/-- The hunt passes over what follows no sync byte, up to the idle gap (02 R59, R62). -/
theorem hunt_noise {bs : List Byte} (h : (portOf s port).asm = bs.map some ++ [none]) (hbs : 0xA7 ∉ bs) {n : Nat}
    (hn : bs.length < n) : hunt port obs n s = scanned port s := by
  induction bs generalizing s n with
  | nil =>
    obtain ⟨n, rfl⟩ : ∃ k, n = k + 1 := ⟨n - 1, by omega⟩
    rw [hunt_succ (huntStep_gap h), hunt_nothing (by rw [portOf_modPort_self])]
    rfl
  | cons b bs ih =>
    obtain ⟨n, rfl⟩ : ∃ k, n = k + 1 := ⟨n - 1, by omega⟩
    obtain ⟨hb, hrest⟩ := not_or.1 (mt List.mem_cons.2 hbs)
    rw [hunt_succ (huntStep_noise (t := bs.map some ++ [none]) h (Ne.symm hb)),
      ih (by rw [portOf_modPort_self]) hrest (Nat.lt_of_succ_lt_succ hn), scanned, modPort_modPort _ (ne_initial_of_asm (by simp))]
    rfl

/-! ### Bytes and gaps that arrive -/

/-- A byte of an unfinished packet joins it. -/
theorem takeInput_unfinished {b : Byte} (h : (portOf s port).asm = bs.map some) (hbs : Unfinished (bs ++ [b])) :
    takeInput port obs (some b) s = waiting port (bs ++ [b]) s := by
  have hjoin : modPort port (fun y => { y with asm := y.asm ++ [some b] }) s = waiting port (bs ++ [b]) s :=
    modPort_congr (by simp [h])
  rw [takeInput, hjoin, huntAll, hunt, huntStep_unfinished (by rw [waiting, portOf_modPort_self]) hbs]

/-- What a port holds back is no more than it has received. -/
theorem inputHeld_of_bytes (h : (portOf s port).asm = bs.map some) :
    inputHeld port s = if portBlocked s port = true then bs.length else 0 := by
  have hcount : (portOf s port).asm.countP Option.isSome = bs.length := by
    rw [h, List.countP_map]; exact List.countP_eq_length.2 (fun _ _ => rfl)
  rw [inputHeld, hcount]

end

/-- The last byte of a packet that the port takes: the packet is dispatched, and the hunt goes on behind it. -/
theorem takeInput_last {op : Nat} {p : Packet} {s : State} {bs : List Byte} {b : Byte} (hwhole : bs ++ [b] = wholePacket op p)
    (h : (portOf s p.port).asm = bs.map some) (hp : Sound op p) (hfree : portBlocked s p.port = false) :
    takeInput p.port p.obs (some b) s = hunt p.port p.obs (wholePacket op p).length
      (dispatchCmd op p (scanned p.port (waiting p.port (wholePacket op p) s))) := by
  have hjoin : modPort p.port (fun y => { y with asm := y.asm ++ [some b] }) s = waiting p.port (wholePacket op p) s :=
    modPort_congr (by simp [h, ← hwhole])
  have hasm := asm_waiting p.port (wholePacket op p) s
  have hopen := (portBlocked_waiting p.port (wholePacket op p) s p.port).trans hfree
  rw [takeInput, hjoin, huntAll, hasm, List.length_map, hunt_succ (huntStep_packet hasm hp hopen)]

section
variable {port : HostPort} {obs : CmdObs} {s : State} {old bs : List Byte}

/-- More bytes wait behind the earlier ones. -/
theorem waiting_waiting (h : old ≠ []) : waiting port bs (waiting port old s) = waiting port bs s :=
  modPort_modPort _ (ne_initial_of_asm (by simpa using h))

/-- The input buffer has room for `bs` behind `old`: a port that takes commands holds nothing back (12 R463, R466, R472, R474). -/
def RoomFor (port : HostPort) (old bs : List Byte) (s : State) : Prop :=
  portBlocked s port = true → old.length + bs.length ≤ inputCap port

theorem inputHeld_lt {b : Byte} (h : (portOf s port).asm = old.map some) (hroom : RoomFor port old (b :: bs) s) :
    inputHeld port s < inputCap port := by
  rw [inputHeld_of_bytes h]
  split
  next hb =>
    have := hroom hb
    rw [List.length_cons] at this
    omega
  next => cases port <;> decide

/-- The first of several bytes joins, and the others have room behind it. -/
theorem RoomFor.tail {b : Byte} (hroom : RoomFor port old (b :: bs) s) : RoomFor port (old ++ [b]) bs (waiting port (old ++ [b]) s) := by
  intro hb
  have := hroom (by rwa [portBlocked_waiting] at hb)
  simp only [List.length_append, List.length_cons, List.length_nil] at this ⊢
  omega

/-- One byte that has room is taken. -/
theorem receiveByte_unfinished {b : Byte} (h : (portOf s port).asm = old.map some) (hroom : RoomFor port old (b :: bs) s)
    (hbs : Unfinished (old ++ [b])) : receiveByte port obs b s = waiting port (old ++ [b]) s := by
  rw [receiveByte, if_pos (inputHeld_lt h hroom), takeInput_unfinished h hbs]

/-- Bytes of an unfinished packet wait (02 R59). -/
theorem receive_unfinished (h : (portOf s port).asm = old.map some) (hne : bs ≠ []) (hroom : RoomFor port old bs s)
    (hbs : Unfinished (old ++ bs)) : foldS (receiveByte port obs) bs s = waiting port (old ++ bs) s := by
  induction bs generalizing old s with
  | nil => exact absurd rfl hne
  | cons b bs ih =>
    have hfirst : Unfinished (old ++ [b]) := unfinished_left (b := bs) (by simpa using hbs) (by simp)
    rw [foldS, List.foldl_cons, receiveByte_unfinished h hroom hfirst]
    rcases eq_or_ne bs [] with rfl | hmore
    · rfl
    · refine (ih (asm_waiting ..) hmore hroom.tail (by simpa using hbs)).trans ?_
      rw [waiting_waiting (by simp), List.append_assoc]
      rfl

/-- Muslin acknowledges every byte of an unfinished packet that has room (12 R474). -/
theorem muslinTake_unfinished (h : (portOf s .muslin).asm = old.map some) (hne : bs ≠ []) (hroom : RoomFor .muslin old bs s)
    (hbs : Unfinished (old ++ bs)) : muslinTake obs bs s = (bs.length, waiting .muslin (old ++ bs) s) := by
  induction bs generalizing old s with
  | nil => exact absurd rfl hne
  | cons b bs ih =>
    have hfirst : Unfinished (old ++ [b]) := unfinished_left (b := bs) (by simpa using hbs) (by simp)
    rw [muslinTake, if_pos (inputHeld_lt h hroom), takeInput_unfinished h hfirst]
    rcases eq_or_ne bs [] with rfl | hmore
    · rfl
    · rw [ih (asm_waiting ..) hmore hroom.tail (by simpa using hbs), waiting_waiting (by simp), List.append_assoc]
      rfl

/-- An unfinished packet has room on every port but Muslin. -/
theorem roomFor_of_unfinished (hport : port ≠ .muslin) (hbs : Unfinished (old ++ bs)) : RoomFor port old bs s := by
  intro _
  have hlt := unfinished_length_lt hbs
  rw [List.length_append] at hlt
  have hcap : inputCap port = 8192 := match port, hport with
    | .spi, _ | .u0, _ | .u1, _ | .pcie, _ => rfl
    | .muslin, hport => absurd rfl hport
  omega

/-- Bytes of an unfinished packet on SPI or a UART wait. -/
theorem receiveBytes_unfinished (hup : hostUp s = true) (hport : port ≠ .muslin) (h : (portOf s port).asm = old.map some)
    (hne : bs ≠ []) (hbs : Unfinished (old ++ bs)) : receiveBytes port bs false obs s = waiting port (old ++ bs) s :=
  (if_pos hup).trans (receive_unfinished h hne (roomFor_of_unfinished hport hbs) hbs)

/-- A port that takes commands has room for any bytes. -/
theorem roomFor_of_open (h : portBlocked s port = false) : RoomFor port old bs s := fun hb => absurd hb (by simp [h])

/-- What waits is forgotten where the hunt is at a fresh start. -/
theorem scanned_waiting (h : bs ≠ []) : scanned port (waiting port bs s) = scanned port s :=
  modPort_modPort _ (ne_initial_of_asm (by simpa using h))

end

/-- A packet received byte after byte on a port that takes commands and has nothing waiting: its last byte dispatches it (02 R59, R63). -/
theorem receive_packet {op : Nat} {p : Packet} {s : State} (h : (portOf s p.port).asm = []) (hp : Sound op p)
    (hfree : portBlocked s p.port = false) :
    foldS (receiveByte p.port p.obs) (wholePacket op p) s
      = hunt p.port p.obs (wholePacket op p).length (dispatchCmd op p (scanned p.port s)) := by
  have hlong := length_wholePacket_ge op p
  have hunfinished := unfinished_take_wholePacket op (n := (wholePacket op p).length - 1) hp.length (by omega) (by omega)
  have hsplit := List.dropLast_append_getLast (l := wholePacket op p) (List.ne_nil_of_length_pos (by omega))
  rw [← List.dropLast_eq_take] at hunfinished
  generalize (wholePacket op p).dropLast = bs at *
  generalize (wholePacket op p).getLast _ = b at hsplit
  have hfirst : foldS (receiveByte p.port p.obs) bs s = waiting p.port bs s :=
    receive_unfinished (old := []) h (unfinished_ne_nil hunfinished) (roomFor_of_open hfree) hunfinished
  have hopen := (portBlocked_waiting p.port bs s p.port).trans hfree
  have hlast : receiveByte p.port p.obs b (waiting p.port bs s) = takeInput p.port p.obs (some b) (waiting p.port bs s) :=
    if_pos (inputHeld_lt (b := b) (bs := []) (asm_waiting ..) (roomFor_of_open hopen))
  calc foldS (receiveByte p.port p.obs) (wholePacket op p) s
      = receiveByte p.port p.obs b (foldS (receiveByte p.port p.obs) bs s) := by
        rw [← hsplit, foldS, List.foldl_append]; rfl
    _ = _ := by
        rw [hfirst, hlast, takeInput_last hsplit (asm_waiting ..) hp hopen,
          waiting_waiting (unfinished_ne_nil hunfinished), scanned_waiting (List.ne_nil_of_length_pos (by omega))]

section
variable {port : HostPort} {obs : CmdObs} {s : State} {bs : List Byte}

/-! ### Idle gaps (02 R60, R61) -/

theorem byteTimeout_up (hup : hostUp s = true) : byteTimeout port obs s = takeInput port obs none s := if_pos hup

/-- A gap after nothing leaves the hunt at a fresh start. -/
theorem takeInput_gap_nothing (h : (portOf s port).asm = []) : takeInput port obs none s = scanned port s := by
  have hasm : (portOf (modPort port (fun y => { y with asm := y.asm ++ [none] }) s) port).asm = [none] := by
    rw [portOf_modPort_self, h]; rfl
  rw [takeInput, huntAll, hunt_noise (bs := []) hasm List.not_mem_nil (by simp), scanned,
    modPort_modPort _ (ne_initial_of_asm (by simp))]
  rfl

/-- The FRAMING counter of a byte-stream port increments. -/
theorem countFraming_port (s : State) (h : port ≠ .pcie) :
    countFraming port s = modPort port (fun x => { x with framing := x.framing + 1 }) s := match port, h with
  | .spi, _ | .u0, _ | .u1, _ | .muslin, _ => rfl
  | .pcie, h => absurd rfl h

/-- A partial packet without another sync byte is discarded and counted at an idle gap. -/
theorem takeInput_gap_cut (hport : port ≠ .pcie) (h : (portOf s port).asm = (0xA7 :: bs).map some) (hbs : Unfinished (0xA7 :: bs))
    (hsync : 0xA7 ∉ bs) : takeInput port obs none s
      = modPort port (fun x => { x with asm := [], fresh := true, framing := x.framing + 1 }) s := by
  have hasm : (portOf (modPort port (fun y => { y with asm := y.asm ++ [none] }) s) port).asm = (0xA7 :: bs).map some ++ [none] := by
    rw [portOf_modPort_self, h]
  rw [takeInput, huntAll, hunt_succ (huntStep_cut hasm hbs), countFraming_port _ hport,
    hunt_noise (bs := bs) (by simp) hsync (by rw [hasm]; simp), scanned,
    modPort_modPort _ (ne_initial_of_asm (by simp)), modPort_modPort _ (ne_initial_of_asm (by simp)),
    modPort_modPort _ (ne_initial_of_asm (by simp))]

end

/-! ### UARTs (12 R470) -/

/-- No two supported rates are so close that one pulse fits both. -/
theorem uartRates_apart : ∀ r ∈ uartRates, ∀ q ∈ uartRates, r ≠ q → 103 * r < 97 * q ∨ 103 * q < 97 * r := by decide

/-- The pulse's bit time lies within 3 % of that of the rate. -/
abbrev Within (ps r : Nat) : Prop := 97 * 10 ^ 12 ≤ 100 * (ps * r) ∧ 100 * (ps * r) ≤ 103 * 10 ^ 12

/-- Rates that one pulse fits are within 6 % of each other. -/
theorem Within.close {ps q r : Nat} (hq : Within ps q) (hr : Within ps r) : 97 * r ≤ 103 * q := by
  obtain ⟨hlow, -⟩ := hq
  obtain ⟨-, hhigh⟩ := hr
  have hps : 0 < ps := by
    rcases Nat.eq_zero_or_pos ps with rfl | hpos
    · simp at hlow
    · exact hpos
  refine Nat.le_of_mul_le_mul_left (?_ : ps * (97 * r) ≤ ps * (103 * q)) hps
  rw [Nat.mul_left_comm, Nat.mul_left_comm ps]
  omega

theorem detectRate_eq (ps : Nat) : detectRate ps = uartRates.find? (fun r => decide (Within ps r)) := by
  simp only [detectRate, Within, Bool.decide_and]
  rfl

/-- A pulse detects the one supported rate that it fits (12 R470). -/
theorem detectRate_of_within {ps r : Nat} (hr : r ∈ uartRates) (h : Within ps r) : detectRate ps = some r := by
  rw [detectRate_eq]
  cases hfound : uartRates.find? (fun q => decide (Within ps q)) with
  | none => exact absurd (decide_eq_true h) (List.find?_eq_none.1 hfound r hr)
  | some q =>
    have hq : Within ps q := by simpa [Within] using List.find?_some hfound
    by_contra hne
    rcases uartRates_apart q (List.mem_of_find?_eq_some hfound) r hr (fun e => hne (congrArg some e)) with hapart | hapart
    · exact Nat.not_lt.2 (hq.close h) hapart
    · exact Nat.not_lt.2 (h.close hq) hapart

/-- A UART with a rate measures no pulse. -/
theorem uartDetect_detected {u : Uart} {ps : Nat} {s : State} (h : tget none s.ecsol.uartRate (uartIdx u) ≠ none) :
    uartDetect u ps s = s := by
  obtain ⟨r, hr⟩ := Option.ne_none_iff_exists'.1 h
  simp only [uartDetect, hr]

/-- The first byte of a UART that has had no rate before measures it. -/
theorem uartDetect_first {u : Uart} {ps r : Nat} {s : State} (h : tget none s.ecsol.uartRate (uartIdx u) = none)
    (hformer : tget none s.ecsol.uartFormer (uartIdx u) = none) (hr : r ∈ uartRates) (hps : Within ps r) :
    uartDetect u ps s = { s with ecsol.uartRate := tset none s.ecsol.uartRate (uartIdx u) (some r) } := by
  simp only [uartDetect, h, detectRate_of_within hr hps, hformer]

/-- A byte on a detected UART: it is received, or counted where its stop bit reads 0 (12 R472). -/
theorem uartReceive_detected {u : Uart} {b : Byte} {stopOk : Bool} {ps : Nat} {idle : Bool} {obs : CmdObs} {s t : State}
    (hup : hostUp s = true) (hdetect : uartDetect u ps s = t) (hrate : tget none t.ecsol.uartRate (uartIdx u) ≠ none) :
    uartReceive u b stopOk ps idle obs s = if stopOk then receiveBytes (uartPort u) [b] idle obs t
      else countFraming (uartPort u) (if idle then byteTimeout (uartPort u) obs t else t) := by
  obtain ⟨r, hr⟩ := Option.ne_none_iff_exists'.1 hrate
  simp only [uartReceive, hup, hdetect, hr, Bool.not_true, Bool.false_eq_true, if_false]

theorem mainRuns_of_hostUp {s : State} (h : hostUp s = true) : mainRuns s = true := by
  simp only [hostUp, mainRuns, Bool.and_eq_true] at h ⊢
  exact h.1

theorem uartPort_ne (u : Uart) : uartPort u ≠ .muslin ∧ uartPort u ≠ .pcie := by cases u <;> decide

/-- A break on a detected UART: the rate is forgotten, and the line has been idle. -/
theorem uartBreak_detected {u : Uart} {obs : CmdObs} {s : State} {r : Nat} (hup : hostUp s = true)
    (h : tget none s.ecsol.uartRate (uartIdx u) = some r) :
    uartBreak u obs s = takeInput (uartPort u) obs none { s with
      ecsol.uartRate := tset none s.ecsol.uartRate (uartIdx u) none,
      ecsol.uartFormer := tset none s.ecsol.uartFormer (uartIdx u) (some r) } := by
  simp only [uartBreak, mainRuns_of_hostUp hup, h, Bool.not_true, Bool.false_eq_true, if_false]
  exact byteTimeout_up hup

/-- A break on an undetected UART is an idle gap. -/
theorem uartBreak_undetected {u : Uart} {obs : CmdObs} {s : State} (hup : hostUp s = true)
    (h : tget none s.ecsol.uartRate (uartIdx u) = none) : uartBreak u obs s = takeInput (uartPort u) obs none s := by
  simp only [uartBreak, mainRuns_of_hostUp hup, h, Bool.not_true, Bool.false_eq_true, if_false]
  exact byteTimeout_up hup

/-! ### The command slots of PCIe (12 R478) -/

@[simp] theorem length_tgetMany {α : Type} (d : α) (t : Tab α) (i n : Nat) : (tgetMany d t i n).length = n := by
  induction n generalizing i with
  | zero => rfl
  | succ n ih => simp [tgetMany, ih]

/-- The first values of a longer run. -/
theorem tgetMany_take {α : Type} (d : α) (t : Tab α) (i : Nat) {k n : Nat} (h : k ≤ n) :
    tgetMany d t i k = (tgetMany d t i n).take k := by
  induction n generalizing i k with
  | zero => rw [Nat.le_zero.1 h]; rfl
  | succ n ih =>
    cases k with
    | zero => rfl
    | succ k => rw [tgetMany, ih (i + 1) (Nat.le_of_succ_le_succ h)]; rfl

/-- A waiting packet is taken while the port takes commands. -/
theorem takeAll_open {obs : CmdObs} {s : State} (hwait : slotsWaiting s ≠ 0) (hopen : portBlocked s .pcie = false)
    (hup : hostUp s = true) : takeAll obs s = takeSlots obs 7 (takeSlot obs s) := by
  rw [takeAll, takeSlots, if_neg]
  simp [hwait, hopen, hup]

/-- A slot that holds a packet with a right CRC: HEAD advances and the packet is dispatched. -/
theorem takeSlot_packet {op : Nat} {p : Packet} {s : State} (hport : p.port = .pcie) (hp : Sound op p)
    (hslot : tgetMany 0 s.pcie.slots (slotBytes * (s.pcie.head % 8)) (wholePacket op p).length = wholePacket op p) :
    takeSlot p.obs s = dispatchCmd op p (advanceHead s) := by
  have hlong := length_wholePacket_ge op p
  have hhead : tgetMany 0 s.pcie.slots (slotBytes * (s.pcie.head % 8)) 8 = (wholePacket op p).take 8 := by
    rw [tgetMany_take 0 _ _ (by omega : 8 ≤ (wholePacket op p).length), hslot]
  have hlength : u16 ((wholePacket op p).take 8) 2 = p.params.length := by rw [u16, uN_take (by omega)]; exact u16_length op hp.length
  have hopcode : u16 ((wholePacket op p).take 8) 4 = op := by rw [u16, uN_take (by omega)]; exact u16_opcode p hp.opcode
  have hsize : packetSize ((wholePacket op p).take 8) = (wholePacket op p).length := by
    rw [packetSize_take (Nat.le_refl 8), packetSize_wholePacket op hp.length]
  have hsync : ((wholePacket op p).take 8).headD 0 = 0xA7 := rfl
  have hparse : parsePacket .pcie (wholePacket op p) p.obs = p := hport ▸ parsePacket_wholePacket hp
  simp only [takeSlot, hhead, hlength, hopcode, hsize, hsync, hslot, hparse, take_wholePacket, hp.crc]
  have hlen := hp.length
  rw [if_neg (by simp; omega), if_pos trivial]

end Sys2Proof.Laws

/-! The statements about what the byte-stream ports and the PCIe command slots receive (02, 12), settled. -/
namespace Sys2Proof.Proofs

open Sys2Proof.Machine Sys2Proof.Safety Sys2Proof.Laws

/-- Settles O49: every byte of the packet but its last leaves it unfinished, and the last dispatches what the bytes spell. -/
theorem packetBytesRunTheirCommand : Obligations.PacketBytesRunTheirCommand := by
  refine ⟨fun op p s hport hlen hauth hcrc hup hfree hasm => ?spi, fun port obs n s h => hunt_nothing h n,
    fun op p s hport hlen hauth hcrc hpcie hup _ hhead htail => ?slot⟩
  case spi =>
    have hreceive := receive_packet (s := s) (hport.symm ▸ hasm) ⟨op.isLt, hlen, hauth, hcrc⟩ (hport.symm ▸ hfree)
    rw [hport] at hreceive
    exact congrArg Host.Outcome.next ((if_pos hup).trans hreceive)
  case slot =>
    intro bs hslot hopen
    have hone : (((s.pcie.head + 1) % 16) + 16 - s.pcie.head) % 16 = 1 := by omega
    have hwait : slotsWaiting { s with pcie.tail := (s.pcie.head + 1) % 16 } ≠ 0 := by
      show ¬ (((s.pcie.head + 1) % 16) + 16 - s.pcie.head) % 16 = 0
      omega
    have htake := takeSlot_packet (s := { s with pcie.tail := (s.pcie.head + 1) % 16 }) hport ⟨op.isLt, hlen, hauth, hcrc⟩ hslot
    refine congrArg Host.Outcome.next ((if_pos hpcie).trans ?_)
    rw [tailWrite, hup, hone, Nat.mod_mod]
    exact (takeAll_open hwait hopen hup).trans (congrArg (takeSlots p.obs 7) htake)

/-- Settles O29: bytes of an unfinished packet wait, idle gaps discard, and a UART's rate decides whether it receives. -/
theorem byteStreamInputComplete : Obligations.ByteStreamInputComplete := by
  refine ⟨fun bs old obs s hup hasm hne hbs => ?spi, fun addr bs old obs s hup haddr hasm hne hbs hroom => ?muslin,
    fun u b ps old obs s hup hrate hasm hbs => ?uart, fun u b ps idle obs s hup hrate => ?stopBit,
    fun u ps obs s r hup hrate hformer hr hlow hhigh hasm => ?first, fun u obs s r hup hrate hasm => ?breakIdle,
    fun u bs obs s hup hrate hasm hbs hsync => ?breakCut, fun code s hmain hcode => ?unknown,
    fun port obs s => ⟨fun hasm => ?idle, fun hasm hup => ?gap, fun bs hport hup hasm hbs hsync => ?cut⟩⟩
  case spi =>
    have hreceive := receiveBytes_unfinished (obs := obs) hup (by decide) hasm hne hbs
    exact ⟨congrArg Host.Outcome.next hreceive, congrArg Host.Outcome.next hreceive⟩
  case muslin =>
    have hhears : muslinHears addr s = true := by simp [muslinHears, hup, haddr]
    refine congrArg Host.Outcome.next ((if_pos hhears).trans ?_)
    simp only [Bool.false_eq_true, if_false, muslinTake_unfinished hasm hne hroom hbs]
    rfl
  case uart =>
    refine congrArg Host.Outcome.next ((uartReceive_detected hup (uartDetect_detected hrate) hrate).trans ?_)
    exact receiveBytes_unfinished hup (uartPort_ne u).1 hasm (List.cons_ne_nil _ _) hbs
  case stopBit => exact congrArg Host.Outcome.next (uartReceive_detected hup (uartDetect_detected hrate) hrate)
  case first =>
    refine congrArg Host.Outcome.next
      ((uartReceive_detected hup (uartDetect_first hrate hformer hr ⟨hlow, hhigh⟩) (by rw [tget_tset_self]; simp)).trans ?_)
    exact receiveBytes_unfinished (old := []) hup (uartPort_ne u).1 hasm (List.cons_ne_nil _ _) ⟨rfl, .inl (by decide)⟩
  case breakIdle => exact congrArg Host.Outcome.next ((uartBreak_detected hup hrate).trans (takeInput_gap_nothing hasm))
  case breakCut =>
    exact congrArg Host.Outcome.next ((uartBreak_undetected hup hrate).trans (takeInput_gap_cut (uartPort_ne u).2 hasm hbs hsync))
  case unknown => exact congrArg Host.Outcome.next (if_pos (by simp [hmain]; simpa using hcode))
  case idle => exact congrArg Host.Outcome.next (if_pos (by simp [hasm]))
  case gap => exact congrArg Host.Outcome.next ((if_neg (by simpa using hasm)).trans (byteTimeout_up hup))
  case cut =>
    refine congrArg Host.Outcome.next ((if_neg (by simp [hasm])).trans ((byteTimeout_up hup).trans ?_))
    exact takeInput_gap_cut hport hasm hbs hsync

end Sys2Proof.Proofs

/-! SUPPORT. What the port queues keep and shed (02 R74; 12 R461 to R464). -/
namespace Sys2Proof.Laws

open Sys2Proof.Machine Sys2Proof.Safety

/-- An item that is never discarded: a reply, a class 1 message, or one whose first byte has left. -/
def keeps (i : QItem) : Bool := i.cls != 2 || i.sent != 0

/-- `x` is what shedding makes of the queue `q`: some of it in its order, with the discarded items counted, and none of them one to be
kept. -/
def Sheds (q : List QItem) (x : List QItem × Nat) : Prop :=
  x.1.Sublist q ∧ x.1.length + x.2 = q.length ∧ x.1.filter keeps = q.filter keeps

theorem Sheds.refl (q : List QItem) : Sheds q (q, 0) := ⟨.refl _, rfl, rfl⟩

/-- An item behind which the rest is shed stays. -/
theorem Sheds.cons {q : List QItem} {x : List QItem × Nat} (h : Sheds q x) (it : QItem) : Sheds (it :: q) (it :: x.1, x.2) := by
  obtain ⟨hsub, hcount, hkept⟩ := h
  refine ⟨hsub.cons_cons it, ?_, ?_⟩
  · simp only [List.length_cons]; omega
  · rw [List.filter_cons, List.filter_cons, hkept]

/-- A class 2 message that has not begun may go. -/
theorem Sheds.drop {q : List QItem} {x : List QItem × Nat} (h : Sheds q x) {it : QItem} (hit : keeps it = false) :
    Sheds (it :: q) (x.1, x.2 + 1) := by
  obtain ⟨hsub, hcount, hkept⟩ := h
  refine ⟨hsub.cons it, ?_, ?_⟩
  · simp only [List.length_cons]; omega
  · rw [List.filter_cons, hit, hkept]; rfl

theorem sheds_shedNewest (excess : Nat) (q : List QItem) : Sheds q (shedNewest excess q) := by
  induction q generalizing excess with
  | nil => exact .refl []
  | cons it q ih =>
    rw [shedNewest]
    split
    · exact .refl _
    · split
      next hgo => exact (ih _).drop (by simp [keeps, hgo])
      next => exact (ih _).cons it

theorem Sheds.reverse {q : List QItem} {x : List QItem × Nat} (h : Sheds q.reverse x) : Sheds q (x.1.reverse, x.2) := by
  obtain ⟨hsub, hcount, hkept⟩ := h
  refine ⟨?_, ?_, ?_⟩
  · simpa using hsub.reverse
  · simpa using hcount
  · rw [List.filter_reverse, hkept, List.filter_reverse, List.reverse_reverse]

/-- Making room in a queue sheds. -/
theorem sheds_shed (cap need : Nat) (q : List QItem) : Sheds q (shed cap need q) := (sheds_shedNewest _ q.reverse).reverse

/-- An item to be kept survives shedding. -/
theorem mem_shed {it : QItem} {q : List QItem} (cap need : Nat) (h : it ∈ q) (hit : keeps it = true) : it ∈ (shed cap need q).1 := by
  obtain ⟨-, -, hkept⟩ := sheds_shed cap need q
  exact List.mem_of_mem_filter (hkept ▸ List.mem_filter.2 ⟨h, hit⟩)

/-- A reply enters ahead of the first message not begun. -/
theorem insertReply_splits (it : QItem) (q : List QItem) : ∃ a b, q = a ++ b ∧ insertReply it q = a ++ it :: b
    ∧ (∀ i ∈ a, i.sent ≠ 0 ∨ i.cls = 0) ∧ (∀ i ∈ b.head?, i.sent = 0 ∧ i.cls ≠ 0) := by
  induction q with
  | nil => exact ⟨[], [], rfl, rfl, by simp, by simp⟩
  | cons h q ih =>
    rw [insertReply]
    split
    next hpass =>
      obtain ⟨a, b, hq, hins, ha, hb⟩ := ih
      exact ⟨h :: a, b, by rw [hq]; rfl, by rw [hins]; rfl, List.forall_mem_cons.2 ⟨hpass, ha⟩, hb⟩
    next hstop => exact ⟨[], h :: q, rfl, rfl, by simp, by simpa [not_or] using hstop⟩

theorem mem_insertReply (it : QItem) (q : List QItem) : it ∈ insertReply it q := by
  obtain ⟨a, b, -, hins, -⟩ := insertReply_splits it q
  rw [hins]; simp

theorem queueUsed_append (q : List QItem) (it : QItem) : queueUsed (q ++ [it]) = queueUsed q + (it.bytes.length - it.sent) := by
  simp [queueUsed, List.foldl_append]

/-! ### A message meets a queue (12 R463, R464) -/

section
variable {cap : Nat} {it : QItem} {q : List QItem}

theorem acceptMsg_fits (h : queueUsed q + it.bytes.length ≤ cap) : acceptMsg cap it q = (q ++ [it], true, 0) := if_pos h

/-- A class 1 message that does not fit makes room for itself, as far as class 2 messages give way. -/
theorem acceptMsg_class1 (h : ¬ queueUsed q + it.bytes.length ≤ cap) (h1 : it.cls = 1 ∧ it.bytes.length ≤ cap) :
    acceptMsg cap it q = let x := shed cap it.bytes.length q
      if queueUsed x.1 + it.bytes.length ≤ cap then (x.1 ++ [it], true, x.2) else (x.1, false, x.2) :=
  (if_neg h).trans (if_pos h1)

theorem acceptMsg_refused (h : ¬ queueUsed q + it.bytes.length ≤ cap) (h1 : ¬ (it.cls = 1 ∧ it.bytes.length ≤ cap)) :
    acceptMsg cap it q = (q, false, 0) := (if_neg h).trans (if_neg h1)

/-- An accepted message ends what is left of the queue, whose bytes then fit. -/
theorem acceptMsg_accepts (h : (acceptMsg cap it q).2.1 = true) : queueUsed (acceptMsg cap it q).1 ≤ cap
    ∧ ∃ q', (acceptMsg cap it q).1 = q' ++ [it] ∧ q'.Sublist q ∧ q'.length + (acceptMsg cap it q).2.2 = q.length := by
  have hused : ∀ q', queueUsed q' + it.bytes.length ≤ cap → queueUsed (q' ++ [it]) ≤ cap := by
    intro q' hfit; rw [queueUsed_append]; omega
  by_cases hfit : queueUsed q + it.bytes.length ≤ cap
  · rw [acceptMsg_fits hfit]
    exact ⟨hused q hfit, q, rfl, .refl _, rfl⟩
  · by_cases h1 : it.cls = 1 ∧ it.bytes.length ≤ cap
    · obtain ⟨hsub, hcount, -⟩ := sheds_shed cap it.bytes.length q
      rw [acceptMsg_class1 hfit h1] at h ⊢
      dsimp only at h ⊢
      split at h
      next hroom =>
        rw [if_pos hroom]
        exact ⟨hused _ hroom, _, rfl, hsub, hcount⟩
      next => cases h
    · rw [acceptMsg_refused hfit h1] at h; cases h

/-- A message that is not of class 1 discards nothing. -/
theorem acceptMsg_other (h : it.cls ≠ 1) :
    acceptMsg cap it q = if queueUsed q + it.bytes.length ≤ cap then (q ++ [it], true, 0) else (q, false, 0) := by
  split
  next hfit => exact acceptMsg_fits hfit
  next hfit => exact acceptMsg_refused hfit (fun h1 => h h1.1)

end

end Sys2Proof.Laws

/-! SUPPORT. What finishing a command records and sends (02 R53 to R58, R65 to R79), and its reply's cache entry. -/
namespace Sys2Proof.Laws

open Sys2Proof.Machine Sys2Proof.Safety

/-! ### What does not change where only sending and logging happened -/

section
variable {t u : State}

theorem same_power (h : Same t u) : t.power = u.power := (congrArg State.power h :)
theorem same_bankMem (h : Same t u) : t.bankMem = u.bankMem := (congrArg State.bankMem h :)
theorem same_banks (h : Same t u) : t.banks = u.banks := (congrArg State.banks h :)
theorem same_kernels (h : Same t u) : t.kernels = u.kernels := (congrArg State.kernels h :)
theorem same_chans (h : Same t u) : t.chans = u.chans := (congrArg State.chans h :)
theorem same_apertures (h : Same t u) : t.apertures = u.apertures := (congrArg State.apertures h :)

theorem same_slotOf (h : Same t u) (k : Nat) : slotOf t k = slotOf u k := by
  have hslots : t.security = u.security := (congrArg State.security h :)
  rw [slotOf, slotOf, hslots]

end

/-! ### The records of a command, and its reply -/

/-- The cache entry of a reply (02 R75). -/
def replyEntry (op : Nat) (p : Packet) (st : Status) (chain : Nat) (payload : List Byte) (key : Option (List Byte)) : CacheEntry :=
  { seq := p.seq.toNat, opcode := op, crc := p.crc.toNat, reply := replyBytes op p st chain payload key, ok := st == .ok }

/-- The error log and the cache of a command that ends, before its reply is queued (02 R66, R75 to R78). -/
def recorded (op : Nat) (p : Packet) (st : Status) (chain : Nat) (payload : List Byte) (key : Option (List Byte)) (s : State) : State :=
  if notCached st then logReject op p st s
  else cachePut p.port (replyEntry op p st chain payload key) (logReject op p st s)

/-- What a port's cache is with a new entry: one of the same SEQ is replaced, and of eight others the oldest goes (02 R75 to R78). -/
def cacheWith (e : CacheEntry) (old : List CacheEntry) : List CacheEntry :=
  let rest := old.filter (fun c => c.seq != e.seq)
  (if 8 ≤ rest.length then rest.drop (rest.length - 7) else rest) ++ [e]

section
variable {op : Nat} {p : Packet} {st : Status} {chain : Nat} {payload : List Byte} {key : Option (List Byte)} {s : State}

theorem finish_sent (h : st ≠ .ok ∨ cmdReply p = true) : finish op p st chain payload key s
    = queueReply p.port (replyBytes op p st chain payload key) (recorded op p st chain payload key s) := if_pos h

theorem finish_silent (h : ¬ (st ≠ .ok ∨ cmdReply p = true)) :
    finish op p st chain payload key s = recorded op p st chain payload key s := if_neg h

theorem notCached_iff : notCached st = true ↔ st = .busy ∨ st = .authLocked ∨ st = .crcFail := by
  simp [notCached, or_assoc]

theorem notCached_eq_false (h : ¬ (st = .busy ∨ st = .authLocked ∨ st = .crcFail)) : notCached st = false := by
  rw [← Bool.not_eq_true, notCached_iff]; exact h

theorem same_finish (op : Nat) (p : Packet) (st : Status) (chain : Nat) (payload : List Byte) (key : Option (List Byte)) (s : State) :
    Same (finish op p st chain payload key s) s := (finish_sends ..).1

/-- Queueing the reply leaves the caches alone. -/
theorem cache_finish (q : HostPort) : (portOf (finish op p st chain payload key s) q).cache
    = (portOf (recorded op p st chain payload key s) q).cache := by
  by_cases h : st ≠ .ok ∨ cmdReply p = true
  · rw [finish_sent h]; exact (sends_queueReply ..).cache q
  · rw [finish_silent h]

/-- A reply that is not cached leaves every cache as it was (02 R78). -/
theorem cache_finish_notCached (h : notCached st = true) (q : HostPort) :
    (portOf (finish op p st chain payload key s) q).cache = (portOf s q).cache := by
  rw [cache_finish, recorded, if_pos h]
  exact (sends_logReject ..).cache q

/-- The caches of the other ports stay as they were. -/
theorem cache_finish_ne {q : HostPort} (hq : q ≠ p.port) :
    (portOf (finish op p st chain payload key s) q).cache = (portOf s q).cache := by
  rw [cache_finish, recorded]
  split
  · exact (sends_logReject ..).cache q
  · rw [cachePut, portOf_modPort_ne _ _ hq]
    exact (sends_logReject ..).cache q

/-- The port's own cache takes the new entry. -/
theorem cache_finish_self (h : notCached st = false) : (portOf (finish op p st chain payload key s) p.port).cache
    = cacheWith (replyEntry op p st chain payload key) (portOf s p.port).cache := by
  rw [cache_finish, recorded, h, if_neg Bool.false_ne_true, cachePut, portOf_modPort_self, (sends_logReject op p st s).cache]
  rfl

/-- A command that ends in OK changes no queue before its reply. -/
theorem recorded_ok_queues : (∀ q, (portOf (recorded op p .ok chain payload key s) q).outq = (portOf s q).outq)
    ∧ ∀ n, ringOf (recorded op p .ok chain payload key s) n = ringOf s n := by
  refine ⟨fun q => ?_, fun n => rfl⟩
  rw [recorded, if_neg (by decide), cachePut, portOf_modPort]
  split <;> rfl

/-- A byte-stream port's queue takes the reply and sheds what then exceeds its size (02 R74). -/
theorem queueReply_port {port : HostPort} (bytes : List Byte) (s : State) (h : port ≠ .pcie) :
    queueReply port bytes s = modPort port (fun r =>
      let x := shed (queueCap port) 0 (insertReply { cls := 0, bytes := bytes, sent := 0 } r.outq)
      { r with outq := x.1, drops := r.drops + x.2 }) s := match port, h with
  | .spi, _ | .u0, _ | .u1, _ | .muslin, _ => rfl
  | .pcie, h => absurd rfl h

/-- A reply stands in the queue of its port, or in ring 0, as an item of which nothing has left. -/
theorem reply_queued (port : HostPort) (bytes : List Byte) (s : State) :
    let it : QItem := { cls := 0, bytes := bytes, sent := 0 }
    (port ≠ .pcie → it ∈ (portOf (queueReply port bytes s) port).outq)
      ∧ (port = .pcie → it ∈ (ringOf (queueReply port bytes s) 0).outq) := by
  intro it
  have hmem : ∀ cap q, it ∈ (shed cap 0 (insertReply it q)).1 := fun cap q => mem_shed cap 0 (mem_insertReply it q) rfl
  refine ⟨fun hport => ?_, fun hport => ?_⟩
  · rw [queueReply_port bytes s hport, portOf_modPort_self]
    exact hmem _ _
  · subst hport
    rw [queueReply, ringOf_modRing_self]
    exact hmem _ _

/-- A reply takes no MSG_SEQ, makes no log entry and raises no interrupt. -/
theorem queueReply_rest (port : HostPort) (bytes : List Byte) (s : State) (q : HostPort) :
    (portOf (queueReply port bytes s) q).msgSeq = (portOf s q).msgSeq ∧ (queueReply port bytes s).errlog = s.errlog
      ∧ (queueReply port bytes s).pcie.irqStatus = s.pcie.irqStatus := by
  by_cases hport : port = .pcie
  · subst hport; exact ⟨rfl, rfl, rfl⟩
  · rw [queueReply_port bytes s hport, portOf_modPort]
    refine ⟨?_, rfl, rfl⟩
    split <;> rfl

end

/-! ### The cache (02 R75 to R78) -/

section
variable {e : CacheEntry} {old : List CacheEntry}

/-- Entries of other SEQs than `e`'s. -/
theorem cacheWith_new (h : ∀ c ∈ old, c.seq ≠ e.seq) (hlen : old.length ≤ 8) :
    cacheWith e old = (if old.length = 8 then old.tail else old) ++ [e] := by
  have hall : old.filter (fun c => c.seq != e.seq) = old := List.filter_eq_self.2 (by simpa using h)
  rw [cacheWith, hall]
  by_cases hfull : old.length = 8
  · simp [hfull]
  · rw [if_neg (by omega), if_neg hfull]

theorem cacheWith_same (h : ∃ c ∈ old, c.seq = e.seq) (hlen : old.length ≤ 8) :
    cacheWith e old = old.filter (fun c => c.seq != e.seq) ++ [e] := by
  have hfewer : (old.filter (fun c => c.seq != e.seq)).length < old.length := by
    obtain ⟨c, hc, hseq⟩ := h
    exact List.length_filter_lt_length_iff_exists.2 ⟨c, hc, by simp [hseq]⟩
  rw [cacheWith, if_neg (by omega)]

theorem length_cacheWith (e : CacheEntry) (old : List CacheEntry) : (cacheWith e old).length ≤ 8 := by
  rw [cacheWith, List.length_append]
  simp only [List.length_singleton]
  split
  · rw [List.length_drop]; omega
  · omega

/-- The new entry is the only one of its SEQ, and is found. -/
theorem find_cacheWith : (cacheWith e old).find? (fun c => c.seq == e.seq && c.opcode == e.opcode && c.crc == e.crc) = some e := by
  have hrest : ∀ c ∈ old.filter (fun c => c.seq != e.seq), (c.seq == e.seq) = false := by simp
  rw [cacheWith, List.find?_append, List.find?_eq_none.2]
  · simp
  · intro c hc
    have hmem : c ∈ old.filter (fun c => c.seq != e.seq) := by
      split at hc
      · exact List.mem_of_mem_drop hc
      · exact hc
    simp [hrest c hmem]

end

end Sys2Proof.Laws

/-! SUPPORT. The bytes of a reply (02 R53, R54, R58), and the lengths of the hash and the tag that sign it. -/
namespace Sys2Proof.Laws

open Sys2Proof.Machine Sys2Proof.Safety

/-! ### The lengths of hashes and tags -/

/-- A round keeps the eight working variables. -/
theorem length_shaRound {v : List W32} (h : v.length = 8) (kw : W32 × W32) : (shaRound v kw).length = 8 := by
  unfold shaRound
  split
  · rfl
  · exact h

theorem length_shaBlock {h : List W32} (hlen : h.length = 8) (blk : List Byte) : (shaBlock h blk).length = 8 := by
  have hrounds : ∀ l : List (W32 × W32), (l.foldl shaRound h).length = 8 := fun l =>
    List.foldlRecOn (motive := fun v : List W32 => v.length = 8) l _ hlen (fun _ hv kw _ => length_shaRound hv kw)
  rw [shaBlock, List.length_zipWith, hlen, hrounds, Nat.min_self]

theorem length_shaBlocks {h : List W32} (hlen : h.length = 8) (l : List (List Byte)) : (l.foldl shaBlock h).length = 8 :=
  List.foldlRecOn (motive := fun h : List W32 => h.length = 8) l _ hlen (fun _ hh blk _ => length_shaBlock hh blk)

theorem length_shaInit : shaInit.length = 8 := by
  rw [shaInit, List.length_map]
  decide +kernel

/-- A hash has 32 bytes. -/
theorem length_sha256 (m : List Byte) : (sha256 m).length = 32 := by
  have hfour : ∀ w : W32, (bytesOfW32 w).length = 4 := fun _ => rfl
  simp [sha256, List.length_flatMap, hfour, length_shaBlocks length_shaInit]

/-- A tag has 16 bytes (02 R51, R87). -/
theorem length_tagOf (key m : List Byte) : (tagOf key m).length = 16 := by
  rw [tagOf, List.length_take, hmac, length_sha256]; rfl

/-! ### The pieces of a reply -/

/-- The payload that a reply carries: none unless the command ended in OK. -/
def replyPayload (st : Status) (payload : List Byte) : List Byte := if st = .ok then payload else []

/-- The first 12 bytes of a reply (02 R53). -/
def replyHead (op : Nat) (p : Packet) (st : Status) (chain : Nat) (payload : List Byte) (key : Option (List Byte)) : List Byte :=
  [0xA8, if key.isSome then BitVec.ofNat 8 (1 + 4 * cmdSlot p) else 0] ++ le 2 payload.length ++ le 2 op ++ le 2 p.seq.toNat
    ++ [BitVec.ofNat 8 (statusCode st), BitVec.ofNat 8 (if payload = [] then 0 else chain), 0, 0]

/-- COUNTER and TAG of a signed reply (02 R54, R94). -/
def replyAuth (p : Packet) (body : List Byte) : Option (List Byte) → List Byte
  | some k => le 8 p.counter.toNat ++ tagOf k (body ++ le 8 p.counter.toNat)
  | none => []

section
variable (op : Nat) (p : Packet) (st : Status) (chain : Nat) (payload : List Byte) (key : Option (List Byte))

/-- The head and the payload of a reply. -/
def replyBody : List Byte := replyHead op p st chain (replyPayload st payload) key ++ replyPayload st payload

theorem length_replyHead : (replyHead op p st chain payload key).length = 12 := by simp [replyHead]

theorem length_replyAuth (body : List Byte) : (replyAuth p body key).length = if key.isSome then 24 else 0 := by
  cases key <;> simp [replyAuth, length_tagOf]

theorem length_replyBody : (replyBody op p st chain payload key).length = 12 + (replyPayload st payload).length := by
  rw [replyBody, List.length_append, length_replyHead]

/-- A reply is its head, its payload, what signs it, and the CRC of all that. -/
theorem replyBytes_eq : replyBytes op p st chain payload key
    = withCrc (replyBody op p st chain payload key ++ replyAuth p (replyBody op p st chain payload key) key) := by
  cases key <;> simp [replyBytes, replyBody, replyHead, replyAuth, replyPayload, List.isEmpty_iff]

/-- A packet ends with the CRC of all its other bytes (02 R58). -/
theorem withCrc_ends (bs : List Byte) :
    (withCrc bs).drop ((withCrc bs).length - 4) = le 4 (crc32c ((withCrc bs).take ((withCrc bs).length - 4))) := by
  have hlen : (withCrc bs).length - 4 = bs.length := by simp [withCrc, crcBytes]
  rw [hlen, withCrc, List.drop_left, List.take_left, crcBytes]

theorem length_withCrc (bs : List Byte) : (withCrc bs).length = bs.length + 4 := by simp [withCrc, crcBytes]

theorem length_replyBytes : (replyBytes op p st chain payload key).length
    = 16 + (replyPayload st payload).length + (if key.isSome then 24 else 0) := by
  rw [replyBytes_eq, length_withCrc, List.length_append, length_replyBody, length_replyAuth]
  omega

/-- The payload stands behind the 12 bytes of the head. -/
theorem replyBytes_parts : ∃ rest, replyBytes op p st chain payload key
    = replyHead op p st chain (replyPayload st payload) key ++ (replyPayload st payload ++ rest) :=
  ⟨_, by rw [replyBytes_eq, withCrc, replyBody, List.append_assoc, List.append_assoc]⟩

/-- COUNTER and the tag of all before it stand behind the payload of a signed reply (02 R54, R94). -/
theorem replyBytes_signed (k : List Byte) : ∃ crc, let body := replyBody op p st chain payload (some k)
    replyBytes op p st chain payload (some k) = body ++ (le 8 p.counter.toNat ++ (tagOf k (body ++ le 8 p.counter.toNat) ++ crc)) :=
  ⟨_, by simp only [replyBytes_eq, withCrc, replyAuth, List.append_assoc]; rfl⟩

end

end Sys2Proof.Laws

/-! SUPPORT. The front of the command engine and step 7 (02 R63, R91 to R97). -/
namespace Sys2Proof.Laws

open Sys2Proof.Machine Sys2Proof.Safety

/-- A new packet with a right CRC that no earlier command holds up goes on to its later steps. -/
theorem frontCmd_of_new {op : Nat} {p : Packet} {rest : State → State} {s : State} (hup : hostUp s = true)
    (hport : portBlocked s p.port = false) (hcrc : p.crc.toNat = crc32c (cmdBytes op p)) (hnew : cacheFind s op p = none)
    (hroom : outstanding s p.port < 8) (hheld : s.ecsol.held = []) (hwindow : s.ecsol.window = .none) :
    frontCmd op p rest s = rest (wakeFirmware s) := by
  have hcache : cacheFind (wakeFirmware s) op p = none := hnew
  have hroom' : ¬ 8 ≤ outstanding (wakeFirmware s) p.port := Nat.not_le.2 hroom
  have hheld' : (wakeFirmware s).ecsol.held.isEmpty = true := by simpa [wakeFirmware] using hheld
  have hwindow' : (wakeFirmware s).ecsol.window = .none := hwindow
  simp [frontCmd, hup, hport, hcrc, fromCache, hcache, hroom', hheld', windowStep, hwindow']

/-- A packet with a wrong CRC is answered and nothing else (02 R63 step 1). -/
theorem frontCmd_badCrc {op : Nat} {p : Packet} {rest : State → State} {s : State} (hup : hostUp s = true)
    (hport : portBlocked s p.port = false) (hcrc : p.crc.toNat ≠ crc32c (cmdBytes op p)) :
    frontCmd op p rest s = finish op p .crcFail 0 [] none (wakeFirmware s) := by
  simp [frontCmd, hup, hport, hcrc]

/-- A packet whose reply is cached is answered with it (02 R76). -/
theorem frontCmd_cached {op : Nat} {p : Packet} {rest : State → State} {s : State} {c : CacheEntry} (hup : hostUp s = true)
    (hport : portBlocked s p.port = false) (hcrc : p.crc.toNat = crc32c (cmdBytes op p)) (hc : cacheFind s op p = some c) :
    frontCmd op p rest s = if c.ok = false ∨ cmdReply p = true then queueReply p.port c.reply (wakeFirmware s) else wakeFirmware s := by
  have hcache : cacheFind (wakeFirmware s) op p = some c := hc
  simp [frontCmd, hup, hport, hcrc, fromCache, hcache]

/-! ### Failures of a key slot (02 R96, R97) -/

section
variable {k : Nat} {s : State}

theorem slotOf_countFailure_self : slotOf (countFailure k s) k = if 7 ≤ (slotOf s k).failures
    then { slotOf s k with failures := 0, lockUntil := some (nowMs s + 1000) }
    else { slotOf s k with failures := (slotOf s k).failures + 1 } := by
  unfold countFailure
  by_cases h : 7 ≤ (slotOf s k).failures
  · rw [if_pos (by omega), if_pos h, same_slotOf (sends_postStatus ..).quiet, slotOf_modSlot_self]
  · rw [if_neg (by omega), if_neg h, slotOf_modSlot_self]

theorem slotOf_countFailure_ne {j : Nat} (hj : j ≠ k) : slotOf (countFailure k s) j = slotOf s j := by
  unfold countFailure
  split
  · exact (same_slotOf (sends_postStatus ..).quiet j).trans (slotOf_modSlot_ne _ _ hj)
  · exact slotOf_modSlot_ne _ _ hj

end

section
variable {sp : OpSpec} {p : Packet} {s : State}

/-- On an active unlocked slot a wrong tag or a stale counter is counted. -/
theorem authStep_counts (hauth : cmdAuth p = true) (hopen : (slotOf s (cmdSlot p)).lockUntil = none)
    (hactive : (slotOf s (cmdSlot p)).state = 1)
    (hwrong : le 16 p.tag.toNat ≠ tagOf (slotOf s (cmdSlot p)).key (cmdSigned sp.opcode p)
      ∨ p.counter.toNat ≤ (slotOf s (cmdSlot p)).highWater) :
    ∃ st, authStep sp p s = .inl (st, countFailure (cmdSlot p) s) := by
  by_cases htag : le 16 p.tag.toNat = tagOf (slotOf s (cmdSlot p)).key (cmdSigned sp.opcode p)
  · have hstale := hwrong.resolve_left (not_not_intro htag)
    exact ⟨.counterStale, by simp [authStep_eq, hauth, hopen, hactive, htag, hstale]⟩
  · exact ⟨.authFail, by simp [authStep_eq, hauth, hopen, hactive, htag]⟩

/-- On a locked, empty or retired slot nothing is counted. -/
theorem authStep_closed (hauth : cmdAuth p = true)
    (hclosed : (slotOf s (cmdSlot p)).lockUntil ≠ none ∨ (slotOf s (cmdSlot p)).state ≠ 1) :
    ∃ st, authStep sp p s = .inl (st, s) := by
  by_cases hlock : (slotOf s (cmdSlot p)).lockUntil = none
  · have hstate := hclosed.resolve_left (not_not_intro hlock)
    exact ⟨.authFail, by simp [authStep_eq, hauth, hlock, hstate]⟩
  · exact ⟨.authLocked, by simp [authStep_eq, hauth, hlock]⟩

end

/-- A signed packet of a permitted opcode whose FLAGS are right comes to step 7. -/
theorem checkCmd_signed {sp : OpSpec} {p : Packet} {s : State} (hflags : bitsOf p.flags.toNat 7 4 = 0)
    (hstage : permitted s.security.life sp.opcode = true) (hauth : cmdAuth p = true) :
    checkCmd sp p s = afterAuth sp p (authStep sp p s) := by
  rw [checkCmd_eq, if_neg (by simp [hflags, hauth]), if_neg (by simp [hstage])]

/-- What passing step 7 and reaching the command leaves of a slot: all but its count of failures. -/
theorem slotOf_withdrawn_authed (sp : OpSpec) (p : Packet) (s : State) (k : Nat) :
    (slotOf (withdrawn sp p (authed p s)) k).highWater = (slotOf s k).highWater
      ∧ (slotOf (withdrawn sp p (authed p s)) k).key = (slotOf s k).key := by
  have hwithdrawn : slotOf (withdrawn sp p (authed p s)) k = slotOf (authed p s) k := by unfold withdrawn; split <;> rfl
  rw [hwithdrawn, authed]
  split
  · by_cases hk : k = cmdSlot p
    · subst hk; rw [slotOf_modSlot_self]; exact ⟨rfl, rfl⟩
    · rw [slotOf_modSlot_ne _ _ hk]; exact ⟨rfl, rfl⟩
  · exact ⟨rfl, rfl⟩

/-- Passing step 7 and reaching the command wakes the firmware, and touches no bank, core, channel or aperture. -/
theorem withdrawn_authed_frame (sp : OpSpec) (p : Packet) (s : State) : let t := withdrawn sp p (authed p s)
    t.power = { s.power with retention := false } ∧ t.bankMem = s.bankMem ∧ t.banks = s.banks ∧ t.kernels = s.kernels
      ∧ t.chans = s.chans ∧ t.apertures = s.apertures := by
  unfold withdrawn authed
  split <;> split <;> exact ⟨rfl, rfl, rfl, rfl, rfl, rfl⟩

end Sys2Proof.Laws

/-! The statements about queues, replies, the reply cache and authentication (02, 12), settled. -/
namespace Sys2Proof.Proofs

open Sys2Proof.Machine Sys2Proof.Safety Sys2Proof.Laws

/-- Settles O50: shedding keeps what may not go, a reply is put at the first message not begun, and a message is accepted where it fits
or makes itself room. -/
theorem queuesShedOnlyClassTwo : Obligations.QueuesShedOnlyClassTwo := by
  refine ⟨fun cap need q => sheds_shed cap need q, fun it q _ => insertReply_splits it q,
    fun cap it q => ⟨acceptMsg_accepts, fun hcls hno => ?refused, fun hbig => ?tooBig, fun _ hcls => ?class2⟩⟩
  case refused =>
    rw [acceptMsg_other hcls] at hno ⊢
    split at hno
    · cases hno
    next hfit => rw [if_neg hfit]; exact ⟨rfl, rfl⟩
  case tooBig => exact acceptMsg_refused (by omega) (by omega)
  case class2 =>
    rw [acceptMsg_other (by omega)]
    split
    next hfit => simp [hfit]
    next hfit => simp [hfit]

/-- Settles O42: each of these operations only sends, or only sends and enters one cache. -/
theorem sendingAndLoggingFrame : Obligations.SendingAndLoggingFrame := by
  intro s
  have hinput : ∀ {t : State} {q : HostPort}, portInput (portOf t q) = portInput (portOf s q) →
      (portOf t q).asm = (portOf s q).asm ∧ (portOf t q).framing = (portOf s q).framing :=
    fun h => ⟨(congrArg PortState.asm h :), (congrArg PortState.framing h :)⟩
  refine ⟨fun m => (sends_post m s).quiet, fun code sev cls inst => (sends_logErr code sev cls inst s).quiet,
    fun op p st chain payload key => same_finish .., fun port bytes => (sends_queueReply port bytes s).quiet, fun m q => ?message,
    fun op p st chain payload key q => ?reply, fun port bytes q => ?queue⟩
  case message =>
    obtain ⟨hasm, hframing⟩ := hinput ((sends_post m s).input q)
    exact ⟨hasm, hframing, (sends_post m s).cache q⟩
  case reply =>
    obtain ⟨hasm, hframing⟩ := hinput ((finish_sends op p st chain payload key s).2 q)
    exact ⟨hasm, hframing, fun hq => cache_finish_ne hq⟩
  case queue => exact queueReply_rest port bytes s q

/-- Settles O43: a silent OK only enters a cache, and a reply that is sent survives the shedding that makes room for it. -/
theorem repliesFollowTheReplyFlag : Obligations.RepliesFollowTheReplyFlag := by
  intro op p chain payload key s
  refine ⟨fun hreply => ?silent, fun st hsent => ?sent⟩
  case silent =>
    dsimp only
    rw [finish_silent (by simp [hreply])]
    obtain ⟨hports, hrings⟩ := recorded_ok_queues (op := op) (p := p) (chain := chain) (payload := payload) (key := key) (s := s)
    exact ⟨hports, fun n => congrArg Ring.outq (hrings n)⟩
  case sent =>
    dsimp only
    rw [finish_sent hsent]
    exact reply_queued p.port _ _

/-- Settles O44: the port's cache takes the new entry by `cacheWith`, and no other step of finishing a command touches a cache. -/
theorem replyCacheTakesAndReplaces : Obligations.ReplyCacheTakesAndReplaces := by
  intro op p st chain payload key s
  refine ⟨fun hst q => cache_finish_notCached (notCached_iff.2 hst) q, fun hst hlen => ⟨fun q hq => cache_finish_ne hq, ?_⟩⟩
  dsimp only
  rw [cache_finish_self (notCached_eq_false hst)]
  exact ⟨length_cacheWith _ _, fun hnew => cacheWith_new hnew hlen, fun hsame => cacheWith_same hsame hlen⟩

/-- Settles O45: the entry that finishing left is the one of its SEQ, so the front of the engine answers with it. -/
theorem retransmissionsAreAnsweredFromTheCache : Obligations.RetransmissionsAreAnsweredFromTheCache := by
  intro op p st chain payload key s hst t hup hport hcrc
  have hcached : cacheFind t op p = some (replyEntry op p st chain payload key) := by
    rw [cacheFind, cache_finish_self (notCached_eq_false hst)]
    exact find_cacheWith (e := replyEntry op p st chain payload key)
  have hfront : ∀ rest, frontCmd op p rest t = if st = .ok ∧ cmdReply p = false then wakeFirmware t
      else queueReply p.port (replyBytes op p st chain payload key) (wakeFirmware t) := by
    intro rest
    rw [frontCmd_cached hup hport hcrc hcached]
    by_cases hok : st = .ok <;> cases hreply : cmdReply p <;> simp [replyEntry, hok]
  refine ⟨hfront, fun sp hop => ?_⟩
  subst hop
  have hsame : Same (runCmd sp p t) (wakeFirmware t) := by
    rw [runCmd, hfront]
    split
    · rfl
    · exact (sends_queueReply ..).quiet
  exact ⟨hsame, fun k => same_slotOf hsame k⟩

/-- Settles O46: the fields are the head, the payload, what signs the reply, and the CRC, one after another. -/
theorem repliesHaveTheLayoutOfTheSpec : Obligations.RepliesHaveTheLayoutOfTheSpec := by
  intro op p st chain payload key
  obtain ⟨rest, hparts⟩ := replyBytes_parts op p st chain payload key
  have hhead := length_replyHead op p st chain (replyPayload st payload) key
  refine ⟨?head, length_replyBytes op p st chain payload key, ?payload, ?signature, ?crc⟩
  case head => rw [hparts]; exact List.take_left' hhead
  case payload => rw [hparts, List.drop_left' hhead]; exact List.take_left' rfl
  case signature =>
    rintro k rfl
    obtain ⟨crc, hsigned⟩ := replyBytes_signed op p st chain payload k
    have hbody := length_replyBody op p st chain payload (some k)
    have hcovered : (replyBody op p st chain payload (some k) ++ le 8 p.counter.toNat).length
        = 20 + (replyPayload st payload).length := by
      rw [List.length_append, hbody, length_le]; omega
    refine ⟨?counter, ?tag⟩
    case counter =>
      rw [hsigned]
      exact (congrArg (List.take 8) (List.drop_left' hbody)).trans (List.take_left' (length_le 8 _))
    case tag =>
      rw [hsigned, ← List.append_assoc]
      exact (congrArg (List.take 16) (List.drop_left' hcovered)).trans
        ((List.take_left' (length_tagOf _ _)).trans (congrArg (tagOf k) (List.take_left' hcovered).symm))
  case crc => rw [replyBytes_eq]; exact withCrc_ends _

/-- Settles O47: step 7 counts the failure on the packet's own slot, and its reply touches no slot. -/
theorem wrongTagsCountAndTheEighthLocks : Obligations.WrongTagsCountAndTheEighthLocks := by
  intro sp p s hup hport hcrc hnew hroom hheld hwindow hflags hstage hauth
  have hrun : runCmd sp p s = afterAuth sp p (authStep sp p (wakeFirmware s)) :=
    (frontCmd_of_new hup hport hcrc hnew hroom hheld hwindow).trans (checkCmd_signed hflags hstage hauth)
  dsimp only
  rw [hrun]
  refine ⟨fun hopen hactive hwrong => ?counted, fun hclosed j => ?uncounted⟩
  case counted =>
    obtain ⟨st, hstep⟩ : ∃ st, authStep sp p (wakeFirmware s) = .inl (st, countFailure (cmdSlot p) (wakeFirmware s)) :=
      authStep_counts hauth hopen hactive hwrong
    rw [hstep]
    refine ⟨?_, fun j hj => ?_⟩
    · exact (same_slotOf (same_finish ..) _).trans slotOf_countFailure_self
    · exact (same_slotOf (same_finish ..) j).trans (slotOf_countFailure_ne hj)
  case uncounted =>
    obtain ⟨st, hstep⟩ : ∃ st, authStep sp p (wakeFirmware s) = .inl (st, wakeFirmware s) := authStep_closed hauth hclosed
    rw [hstep]
    exact same_slotOf (same_finish ..) j

end Sys2Proof.Proofs

/-! SUPPORT. Rejections before a command's own checks (02 R63 to R66), the master index (02 R81, R101), and the forms of the system
commands that pass their own checks (02 R103; 12 R487, R489; 17 R644 to R646). -/
namespace Sys2Proof.Laws

open Sys2Proof.Machine Sys2Proof.Safety

/-! ### Rejections that change nothing -/

section
variable {sp : OpSpec} {p : Packet} {s : State}

/-- What steps 4 to 6 ask of a packet, or a missing or locked signature, rejects it before anything is counted (02 R63). -/
def RejectedEarly (sp : OpSpec) (p : Packet) (s : State) : Prop :=
  bitsOf p.flags.toNat 7 4 ≠ 0 ∨ (cmdAuth p = false ∧ cmdSlot p ≠ 0) ∨ permitted s.security.life sp.opcode = false
    ∨ (cmdAuth p = false ∧ sp.critical = true ∧ authNeeded s.security.life = true)
    ∨ (cmdAuth p = true ∧ (slotOf s (cmdSlot p)).lockUntil ≠ none)

/-- An unsigned critical command where a signature is needed, or a signature of a locked slot, is rejected with nothing counted. -/
theorem authStep_refused (h : (cmdAuth p = false ∧ sp.critical = true ∧ authNeeded s.security.life = true)
    ∨ (cmdAuth p = true ∧ (slotOf s (cmdSlot p)).lockUntil ≠ none)) : ∃ st, authStep sp p s = .inl (st, s) := by
  rcases h with ⟨hunsigned, hcritical, hneeded⟩ | ⟨hsigned, hlocked⟩
  · exact ⟨.authRequired, by simp [authStep, hunsigned, hcritical, hneeded]⟩
  · exact authStep_closed hsigned (.inl hlocked)

theorem same_checkCmd_of_rejectedEarly (h : RejectedEarly sp p s) : Same (checkCmd sp p s) s := by
  rw [checkCmd_eq]
  split
  · exact same_finish ..
  next hflags =>
    split
    · exact same_finish ..
    next hstage =>
      rcases h with hbits | hslot | hlife | hauth
      · exact absurd (.inl hbits) hflags
      · exact absurd (.inr hslot) hflags
      · exact absurd hlife hstage
      · obtain ⟨st, hstep⟩ := authStep_refused hauth
        rw [hstep]
        exact same_finish ..

/-- A new packet that steps 3 to 6 reject, or that lacks its signature, wakes the firmware and is answered. -/
theorem same_runCmd_of_refused (hup : hostUp s = true) (hport : portBlocked s p.port = false)
    (hcrc : p.crc.toNat = crc32c (cmdBytes sp.opcode p)) (hnew : cacheFind s sp.opcode p = none)
    (h : 8 ≤ outstanding s p.port ∨ s.ecsol.window ≠ .none ∨ s.ecsol.held = [] ∧ RejectedEarly sp p s) :
    Same (runCmd sp p s) (wakeFirmware s) := by
  rw [runCmd_of_new hup hport hcrc hnew]
  split
  · exact same_finish ..
  next hroom =>
    split
    next hbehind =>
      obtain ⟨hheld, hwindow⟩ := hbehind
      rcases h with hfull | hopen | ⟨hfirst, -⟩
      · exact absurd hfull hroom
      · exact absurd hwindow hopen
      · exact absurd hfirst hheld
    next =>
      split
      · exact same_finish ..
      next hclosed =>
        have hearly := ((h.resolve_left hroom).resolve_left hclosed).2
        exact same_checkCmd_of_rejectedEarly (s := wakeFirmware s) hearly

end

/-! ### Every command goes on -/

/-- Every command on every state answers a next state: each arm of `exec` is one, whatever its meaning makes of the state. -/
theorem exec_goes_on (i : Instr) (s : State) : ∃ t, exec i s = .next t := by
  cases i <;> exact ⟨_, rfl⟩

theorem step_goes_on (s : State) : ∃ t, step s = .next t := by
  rw [step]
  split
  · exact ⟨s, rfl⟩
  · exact exec_goes_on _ _

/-! ### The master index (02 R81, R82, R101) -/

/-- What the master index says of an opcode: its number, whether it is critical, and its limits of parameter bytes. -/
def indexRow (x : OpSpec) : Nat × Bool × Nat × Nat := (x.opcode, x.critical, x.minLen, x.maxLen)

/-- An opcode of the index with no least length takes no parameters. -/
theorem maxLen_of_minLen_zero {sp : OpSpec} (hsp : sp ∈ opSpecs) (h : sp.minLen = 0) : sp.maxLen = 0 := by
  have hrows : ∀ x ∈ opSpecs.map indexRow, x.2.2.1 = 0 → x.2.2.2 = 0 := by decide
  exact hrows (indexRow sp) (List.mem_map_of_mem hsp) h

theorem lengthOk_bounds {sp : OpSpec} {p : Packet} (h : lengthOk sp p = true) :
    sp.minLen ≤ p.params.length ∧ p.params.length ≤ sp.maxLen := by
  simp only [lengthOk, Bool.and_eq_true, decide_eq_true_eq] at h
  exact h.1

/-! ### UNKNOWN_OPCODE (02 R63 step 5) -/

theorem checkUnknown_flags {op : Nat} {p : Packet} {s : State} (hflags : bitsOf p.flags.toNat 7 4 = 0)
    (hslot : cmdAuth p = true ∨ cmdSlot p = 0) : checkUnknown op p s = finish op p .unknownOpcode 0 [] none s := by
  rw [checkUnknown, if_neg]
  rintro (hbits | ⟨hunsigned, hne⟩)
  · exact hbits hflags
  · rcases hslot with hauth | hzero
    · simp [hauth] at hunsigned
    · exact hne hzero

/-! ### The system commands -/

/-- The first 16 bytes of SYS_STATUS (17 R646). -/
def statusHead (s : State) (flags : Nat) : List Byte :=
  le 1 (lifeCode s.security.life) ++ le 1 s.profile.sel ++ le 1 (nunarCode s) ++ le 1 (clockCode s) ++ le 1 flags
    ++ le 1 (logHeld s.errlog).length ++ le 1 (logMaxSev s.errlog) ++ le 1 (bitsMask (activeSlots s)) ++ le 8 (nowMs s - s.power.readyMs)

/-- What follows: the die's temperature, the self-tests of which `failed` and `untested` stand so, the islands and the counts. -/
def statusTail (p : Packet) (s : State) (failed untested : List Nat) : List Byte :=
  le 2 p.obs.dieTemp.toNat ++ (le 1 failed.length ++ (le 1 untested.length ++ (le 8 (bitsMask failed) ++ (islandMasks s
    ++ (le 4 s.bst.slices ++ (le 4 s.bst.aborted ++ (le 4 (sat 0xFFFFFFFF (portDrops s)) ++ (le 2 s.errlog.dropped
    ++ (le 2 s.errlog.displaced ++ zeros 4)))))))))

theorem length_statusTail (p : Packet) (s : State) (failed untested : List Nat) : (statusTail p s failed untested).length = 48 := by
  simp [statusTail, islandMasks, zeros]

/-- SYS_STATUS answers its head and what follows, and changes nothing. -/
theorem sysStatusAct_answer (p : Packet) (s : State) : ∃ flags failed untested,
    sysStatusAct p s = answer (statusHead s flags ++ statusTail p s failed untested) s :=
  ⟨_, _, _, by simp only [sysStatusAct, statusHead, statusTail, List.append_assoc]; rfl⟩

section
variable {p : Packet} {s : State}

variable (p s) in
theorem sysIdentifyAct_answer : sysIdentifyAct p s
    = answer ([0x59, 0x24, 0x0C] ++ le 1 (lifeCode s.security.life) ++ le 4 Config.fwVersion.toNat ++ le 8 Config.uniqueId.toNat
        ++ [0x00, 0x01, 0x00, 0x10, 0, 0, 0, 0]) s := by
  simp only [sysIdentifyAct, List.append_assoc]
  rfl

theorem sysErrlogReadAct_ok (hfirst : u8 p.params 0 ≤ 127) (hmany : u8 p.params 1 ≤ 128) (hzero : zeroAt p.params 2 2 = true) :
    let es := ((logOrdered s.errlog).drop (u8 p.params 0)).take (u8 p.params 1)
    sysErrlogReadAct p s = answer (le 1 es.length ++ le 1 (logHeld s.errlog).length ++ le 2 s.errlog.dropped ++ le 2 s.errlog.displaced
      ++ le 1 (logMaxSev s.errlog) ++ le 1 (b2n s.errlog.kept) ++ es.flatMap logBytes) s :=
  rejectIf_of_not (by simp [Nat.not_lt.2 hfirst, Nat.not_lt.2 hmany, hzero])

/-- The route that an OUT_ROUTE writes (12 R487). -/
def routeIn (p : Packet) : Route :=
  { ports := u8 p.params 1, ring := u8 p.params 2, decim := u8 p.params 3, instMask := u32 p.params 4 }

/-- The state with that route. -/
def rerouted (p : Packet) (s : State) : State :=
  { s with ecsol.routes := tset Route.off s.ecsol.routes (u8 p.params 0) (routeIn p) }

theorem outRouteAct_ok (hlow : 0x81 ≤ u8 p.params 0) (hhigh : u8 p.params 0 ≤ 0x8F) (hports : u8 p.params 1 ≤ 31)
    (hraw : u8 p.params 0 = 0x8D → u8 p.params 1 = 8) (hring : (u8 p.params 1).testBit 3 = true → u8 p.params 2 ≤ 3)
    (hnoRing : (u8 p.params 1).testBit 3 = false → u8 p.params 2 = 0)
    (hdecim : (u8 p.params 0 = 0x81 ∨ u8 p.params 0 = 0x82 ∨ u8 p.params 0 = 0x83) → u8 p.params 3 ≠ 0)
    (hwhole : ¬ (u8 p.params 0 = 0x81 ∨ u8 p.params 0 = 0x82 ∨ u8 p.params 0 = 0x83) → u8 p.params 3 = 1)
    (hmask : u8 p.params 1 = 0 ↔ u32 p.params 4 = 0) (hbudget : budgetBroken s (rerouted p s) = false) :
    outRouteAct p s = done (rerouted p s) := by
  have hraw' : (u8 p.params 0 == 0x8D && u8 p.params 1 != 8) = false := by
    rw [Bool.and_eq_false_imp]
    intro h
    simp [hraw (by simpa using h)]
  have hring' : (if (u8 p.params 1).testBit 3 = true then decide (3 < u8 p.params 2) else u8 p.params 2 != 0) = false := by
    split
    next h => exact decide_eq_false (Nat.not_lt.2 (hring h))
    next h => simp [hnoRing (by simpa using h)]
  have hdecim' : (if (u8 p.params 0 == 0x81 || u8 p.params 0 == 0x82 || u8 p.params 0 == 0x83) = true then u8 p.params 3 == 0
      else u8 p.params 3 != 1) = false := by
    split
    next h => simpa using hdecim (by simpa [or_assoc] using h)
    next h => simp [hwhole (by simpa [or_assoc] using h)]
  have hmask' : ((u8 p.params 1 == 0) != (u32 p.params 4 == 0)) = false := by
    rw [bne_eq_false_iff_eq, Bool.eq_iff_iff, beq_iff_eq, beq_iff_eq, hmask]
  refine (rejectIf_of_not ?_).trans (rejectIf_of_not hbudget)
  simp only [Nat.not_lt.2 hlow, Nat.not_lt.2 hhigh, Nat.not_lt.2 hports, hraw', hring', hdecim', hmask', decide_false, Bool.or_self]

theorem outFilterAct_ok (htarget : u8 p.params 0 ≤ 4 ∨ 16 ≤ u8 p.params 0 ∧ u8 p.params 0 ≤ 31) (hfilter : u8 p.params 1 ≤ 3)
    (hzero : zeroAt p.params 2 6 = true) :
    outFilterAct p s = done { s with ecsol.filtersNext := tset none s.ecsol.filtersNext (u8 p.params 0) (some (u8 p.params 1)) } :=
  rejectIf_of_not (by
    rcases htarget with hport | hcore
    · simp [hport, Nat.not_lt.2 hfilter, hzero]
    · simp [hcore, Nat.not_lt.2 hfilter, hzero])

end

end Sys2Proof.Laws

/-! The statements about steps, the master index, rejections and the system commands (02, 12, 17), settled. -/
namespace Sys2Proof.Proofs

open Sys2Proof.Machine Sys2Proof.Safety Sys2Proof.Laws

/-- Settles O36: the step of a queue is by definition its front command's, and every command has an arm that goes on. -/
theorem stepRunsTheFrontCommand : Obligations.StepRunsTheFrontCommand :=
  ⟨fun _ _ _ => rfl, exec_goes_on, step_goes_on, fun s hempty => by rw [step, hempty]⟩

/-- Settles O37: the rows are read off the index, and an opcode that no row has is not found. -/
theorem masterIndexIsThatOfTheSpec : Obligations.MasterIndexIsThatOfTheSpec := by
  refine ⟨by decide, fun op hnone => List.find?_eq_none.2 fun sp hsp => ?_⟩
  simpa using hnone sp hsp

/-- Settles O38: a minimum of 0 goes with a maximum of 0 in every row of the index. -/
theorem zeroLengthOnlyWithoutParameters : Obligations.ZeroLengthOnlyWithoutParameters := by
  refine fun sp hsp => ⟨fun p hempty hok => ?_, fun hmin => ⟨maxLen_of_minLen_zero hsp hmin, fun p hok => ?_⟩⟩
  · have hbounds := lengthOk_bounds hok
    rw [hempty, List.length_nil] at hbounds
    exact Nat.le_zero.1 hbounds.1
  · have hmax := (lengthOk_bounds hok).2
    rw [maxLen_of_minLen_zero hsp hmin] at hmax
    exact List.length_eq_zero_iff.1 (Nat.le_zero.1 hmax)

/-- Settles O31: the packet passes the front of the engine, and the index has no later steps for it; a lock is judged by its instant. -/
theorem unknownOpcodeAndLockExpiryComplete : Obligations.UnknownOpcodeAndLockExpiryComplete := by
  refine ⟨fun op p s hnone hup hport hcrc hnew hroom hheld hwindow hflags hslot => ?unknown,
    fun slot s t hlock => ⟨fun hdue => ?expired, fun hearly => ?running⟩, fun slot s hopen => ?unlocked⟩
  case unknown =>
    refine congrArg Host.Outcome.next ?_
    rw [unknownOpcode, hnone]
    exact (frontCmd_of_new hup hport hcrc hnew hroom hheld hwindow).trans (checkUnknown_flags hflags hslot)
  case expired => exact congrArg Host.Outcome.next (by simp only [authLockExpiry, hlock, hdue, if_true])
  case running => exact congrArg Host.Outcome.next (by simp only [authLockExpiry, hlock, hearly, Bool.false_eq_true, if_false])
  case unlocked => exact congrArg Host.Outcome.next (by simp only [authLockExpiry, hopen])

/-- Settles O41: the own checks of an accepted command reject on the state that step 7 left, and the earlier steps on the state
received. -/
theorem rejectedCommandsChangeOnlyRecords : Obligations.RejectedCommandsChangeOnlyRecords := by
  refine ⟨fun sp p s st h hrej => ?own, fun sp p s hup hport hwrong => ?earlier⟩
  case own =>
    have hrun := runCmd_reject h hrej
    have hsame : Same (runCmd sp p s) (withdrawn sp p (authed p s)) := hrun ▸ same_finish ..
    obtain ⟨hpower, hbankMem, hbanks, hkernels, hchans, hapertures⟩ := withdrawn_authed_frame sp p s
    refine ⟨hrun, hsame, (same_power hsame).trans hpower, (same_bankMem hsame).trans hbankMem, (same_banks hsame).trans hbanks,
      (same_kernels hsame).trans hkernels, (same_chans hsame).trans hchans, (same_apertures hsame).trans hapertures, fun k => ?_⟩
    rw [same_slotOf hsame]
    exact slotOf_withdrawn_authed sp p s k
  case earlier =>
    by_cases hcrc : p.crc.toNat = crc32c (cmdBytes sp.opcode p)
    · obtain ⟨hnew, hrefused⟩ := hwrong.resolve_left (not_not_intro hcrc)
      exact same_runCmd_of_refused hup hport hcrc hnew hrefused
    · rw [runCmd, frontCmd_badCrc hup hport hcrc]
      exact same_finish ..

/-- Settles O1: each accepted form passes its command's own checks, and the row commits what the command then answers. -/
theorem systemCommandsComplete : Obligations.SystemCommandsComplete := by
  refine ⟨fun p s h => ?identify, fun p s h => ?status, fun p s h hfirst hmany hzero => ?read, fun p s h => ?clear,
    fun p s h hlow hhigh hports hraw hring hnoRing hdecim hwhole hmask => ?route, fun p s h htarget hfilter hzero => ?filter⟩
  case identify => exact exec_of_act_ok rfl h (sysIdentifyAct_answer p _)
  case status =>
    obtain ⟨flags, failed, untested, hact⟩ := sysStatusAct_answer p (ready specSysStatus p s)
    refine ⟨_, exec_of_act_ok rfl h hact, ?_, rfl, rfl, rfl, rfl⟩
    rw [List.length_append, length_statusTail]
    rfl
  case read => exact exec_of_act_ok rfl h (sysErrlogReadAct_ok hfirst hmany hzero)
  case clear => exact exec_of_act_ok rfl h rfl
  case route =>
    exact fun hbudget => exec_of_act_ok rfl h (outRouteAct_ok hlow hhigh hports hraw hring hnoRing hdecim hwhole hmask hbudget)
  case filter => exact exec_of_act_ok rfl h (outFilterAct_ok htarget hfilter hzero)

end Sys2Proof.Proofs
